-- ==== Sys2Proof/Word.lean ====
section
/-! DEFINITION. The few word types of the model. The BX-4620 is a block that takes commands; its engineering
values are signed integers in class units (00_scope.md, "Value classes") and its counters are naturals, so the only
bit vectors are the characters of the link and of the instrument lines, the check register and the time base. -/

namespace Sys2Proof

/-- One character of the supervisory link, or one byte on an instrument line (R195, R34). -/
abbrev Byte := BitVec 8

/-- The free-running microsecond counter of the speed unit, 32 bits, wrapping (section 3.7). -/
abbrev TimeBase := BitVec 32

/-- The register of the frame check, 16 bits (R197). -/
abbrev CheckRegister := BitVec 16

/-- A set of condition members as a request carries it: 6 bytes, 48 bit positions (R209). -/
abbrev MemberMask := BitVec 48

/-- A set of discrete lines as a request carries it: 3 bytes, 24 bit positions (R209). -/
abbrev LineMask := BitVec 24

end Sys2Proof
end

