-- ==== Sys2Proof/Config.lean ====
section
/-! DEFINITION. What the spec leaves open and the model does not choose: constants without a body. No proof can see
what they are, so every claim holds for each of their values. Each is named in a row of notes/assumptions/. -/

namespace Sys2Proof

/-- FREE VALUE (log 10). R8 and R13 leave open whether, at an age timer expiry, the good read of a DISCRETE point is
taken before the ages advance (the point ends with age 1) or after it (age 0). -/
opaque Config.discreteReadFirst : Bool

/-- FREE VALUE (log 11). R134 and R158 report the time left on a timer in whole seconds or in 100 ms and do not say how
a part of a unit is rounded. True: rounded up; false: rounded down. -/
opaque Config.remainingRoundsUp : Bool

/-- FREE VALUE (log 12). R116, R122 and the wells' refusals carry a reason; the reason "not accepted in this
state" stands in no list that R209 could number, so its code is left open. -/
opaque Config.wrongStateReason : Byte

/-- FREE VALUE (log 13). A Body of more than 240 bytes has no Length the frame table admits (2 ... 242), yet R63 and R51
name contents that R209 encodes in more. The Length byte of such a frame is left open, for each Body length. -/
opaque Config.oversizeLength : Nat → Byte

/-- FREE VALUE (log 14). R122 gives RESET_TRIP and UNLOCK of a well two further grounds for a refusal STATE without listing
them as a choice of named values; the code of the n-th ground, in the order the rule states them, is left open. -/
opaque Config.groundCode : Nat → Byte

end Sys2Proof
end

