-- ==== Sys2Proof/Syntax.lean ====
section
/-! DEFINITION. The commands of the BX-4620: `Request`, the requests of the supervisory link with the fields the table of
section 10.7 gives them, as raw numbers (the owner checks their ranges), and `Instr`, one constructor per row of
spec/opcode_table.json. A request row carries the Tag of the frame and the request's fields; a field event carries what
the field decides. -/

namespace Sys2Proof

/-! ### Fields of the configuring requests (section 10.7; raw numbers in wire order) -/

/-- ConfigurePoint (R1). -/
structure PointFields where
  point : Nat
  source : Nat
  cls : Nat
  line : Nat
  rawLo : Int
  rawHi : Int
  engLo : Int
  engHi : Int
  faultBand : Nat
  staleLimit : Nat
  failLimit : Nat
  recoveryPeriod : Nat
  deriving DecidableEq, Repr

/-- ConfigureLine (R27). -/
structure LineFields where
  line : Nat
  enabled : Nat
  rate : Nat
  clockHold : Nat
  passInterval : Nat
  autoRecover : Nat
  deriving DecidableEq, Repr

/-- The entry of EditEntry and InsertEntry (section 2.3). -/
structure EntryFields where
  station : Nat
  kind : Nat
  item : Option Nat
  target : Option Nat
  errorPolicy : Nat
  every : Nat
  phase : Nat
  deriving DecidableEq, Repr

/-- ConfigureDiscrete (R53). -/
structure DiscreteFields where
  line : Nat
  select : Nat
  direction : Nat
  polarity : Nat
  sense : Nat
  edgeKind : Nat
  debounce : Nat
  mismatchTime : Nat
  deriving DecidableEq, Repr

/-- ConfigureWell (R109; fields in the order of the table of section 6.1). -/
structure WellFields where
  well : Nat
  enabled : Nat
  intakePoint : Option Nat
  windingPoint : Option Nat
  flowPoint : Option Nat
  minSpeed : Int
  maxSpeed : Int
  rampRate : Nat
  target : Int
  ownFloor : Int
  floorBand : Int
  floorGain : Nat
  floorHys : Int
  floorConfirm : Nat
  windTrip : Int
  windDelta : Int
  windHys : Int
  startTimeout : Nat
  stopTimeout : Nat
  minOff : Nat
  maxStarts : Nat
  tripLimit : Nat
  tripRecovery : Nat
  deliveryLimit : Nat
  autoRestart : Nat
  deriving DecidableEq, Repr

/-- ConfigureTurbine (R136; fields in the order of the table of section 7.1). -/
structure TurbineFields where
  headerPoint : Option Nat
  flowPoint : Option Nat
  powerPoint : Option Nat
  speedPoint : Option Nat
  teeth : Nat
  ovsLimit : Int
  lossTime : Nat
  syncSpeed : Int
  syncBand : Int
  syncHold : Nat
  accelRate : Nat
  rollTimeout : Nat
  minLoad : Int
  maxLoad : Int
  loadRate : Nat
  loadTarget : Int
  headerSetpoint : Int
  headerMin : Int
  headerConfirm : Nat
  extractionMax : Int
  extractionMinLoad : Int
  breakerTimeout : Nat
  verifyFlow : Int
  tripVerifyTime : Nat
  runbackSpeed : Int
  speedKp : Nat
  speedKi : Nat
  powerKp : Nat
  powerKi : Nat
  headerKp : Nat
  headerKi : Nat
  deliveryLimit : Nat
  deriving DecidableEq, Repr

/-- ConfigureHeating (R160; fields in the order of the table of section 8.1). -/
structure HeatingFields where
  outdoorPoint : Option Nat
  supplyPoint : Option Nat
  returnPoint : Option Nat
  netFlowPoint : Option Nat
  brineInPoint : Option Nat
  brineOutPoint : Option Nat
  brineFlowPoint : Option Nat
  brineFloorDefault : Int
  supplyMax : Int
  supplyHys : Int
  shortConfirm : Nat
  supplyKp : Nat
  supplyKi : Nat
  floorKp : Nat
  floorKi : Nat
  deriving DecidableEq, Repr

/-- ConfigureSite (R71; the fields marked configuration, in the order of the table of section 4.1). `concKind` and
`concPoint` are the two bytes of concSource, `actionKind` and `actionWell` the two bytes of action (R209). -/
structure SiteFields where
  site : Nat
  kind : Nat
  tempPoint : Option Nat
  concKind : Nat
  concPoint : Nat
  fixedConc : Int
  presPoint : Option Nat
  onset : Nat
  actionKind : Nat
  actionWell : Nat
  margin : Int
  alarmMargin : Int
  inhibitorLostMargin : Int
  fallbackFloor : Int
  station : Option Nat
  doseBase : Int
  doseGain : Nat
  alertDose : Nat
  clearDose : Nat
  confirmTime : Nat
  serviceDose : Nat
  flashBase : Int
  flashTemp : Int
  slope : Int
  deriving DecidableEq, Repr

/-- The view of ReadSite with the two fields RING alone carries (R95). -/
inductive SiteView where
  | status
  | ring (first count : Nat)
  deriving DecidableEq, Repr

/-- A request of the supervisory link as it reaches its owner (section 10.7). A byte that selects the request's own shape
(a command, or the view of ReadSite) is spent in choosing the constructor; every other field is the raw number. -/
inductive Request where
  | identify
  | setClock (clock : Nat)
  | configurePoint (q : PointFields)
  | readPoints (first count : Nat)
  | writePoint (point : Nat) (value : Int)
  | setSubstitute (point : Nat) (substitute : Option Int)
  | configureLine (q : LineFields)
  | editEntry (line position : Nat) (entry : EntryFields)
  | insertEntry (line position : Nat) (entry : EntryFields)
  | removeEntry (line position : Nat)
  | clearStaged (line : Nat)
  | swapSchedule (line : Nat)
  | resetLine (line : Nat)
  | readLine (line view : Nat)
  | configureDiscrete (q : DiscreteFields)
  | setDiscrete (line level : Nat)
  | readDiscrete
  | clearEdges (lines : LineMask)
  | configureWell (q : WellFields)
  | start (well : Nat)
  | stop (well : Nat)
  | setTarget (well : Nat) (value : Int)
  | wellResetTrip (well : Nat)
  | unlock (well : Nat)
  | readWell (well : Nat)
  | configureTurbine (q : TurbineFields)
  | roll
  | setMode (mode : Nat)
  | setLoad (value : Int)
  | unload
  | trip
  | turbineResetTrip
  | readTurbine
  | configureHeating (q : HeatingFields)
  | setCurve (breakpoints : List (Int × Int))
  | heatingOn
  | heatingOff
  | readHeating
  | configureSite (q : SiteFields)
  | siteEnable (site : Nat)
  | siteDisable (site : Nat)
  | markCleaned (site : Nat)
  | restoreDose (site value : Nat)
  | readSite (site : Nat) (view : SiteView)
  | postLimit (targetKind targetWell : Nat) (value : Int)
  | withdrawLimit (targetKind targetWell : Nat)
  | readConstraints (view : Nat)
  | readConditions
  | releaseSnapshot (number : Nat)
  | setMasks (watch horn : Option MemberMask)
  | silence
  | armSupervision (period fallbackHold : Nat) (fallbackSpeed : Int)
  | resume
  | commission
  | decommission
  | softReset
  deriving DecidableEq, Repr

/-! ### What the field decides in a field event -/

/-- What the addressed station puts on the wires during a transaction (R34, R35): the acknowledge bits it sends, in order and true
for ACK, and the bytes it sends. A wire that nobody drives is high, so that beyond these lists the part finds NAK and bytes of
ones. -/
structure StationAnswers where
  acknowledges : List Bool
  bytes : List Byte
  deriving DecidableEq, Repr

/-- Whether the stop that ends a pass, where the entry's end calls for one, is sent within the event or is still under way
after it (a held wire or ResetLine may then meet it: R36, R37, R50). -/
inductive ClosingStop where
  | sent
  | underWay
  deriving DecidableEq, Repr

/-- What the line finds at one moment of the recovery procedure at which it has released the clock wire (R43): whether the clock wire
rose within clockHold of the release, and whether the data wire then reads high. -/
structure WireReading where
  clockRises : Bool
  dataHigh : Bool
  deriving DecidableEq, Repr

/-- The commands: one constructor per row of spec/opcode_table.json, in the table's order. A request row is the arrival of
a good request of that kind at the link, with the frame's Tag first (log 3). -/
inductive Instr where
  | powerReset (baud1 baud0 : Bool)
  | pinReset (baud1 baud0 : Bool)
  | startUp
  | frameJudged
  | gap
  | framingError
  | lineBreak
  | unknownKind (tag kind : Byte) (body : List Byte)
  | transmissionEnd
  | identify (tag : Byte)
  | setClock (tag : Byte) (clock : Nat)
  | configurePoint (tag : Byte) (q : PointFields)
  | readPoints (tag : Byte) (first count : Nat)
  | writePoint (tag : Byte) (point : Nat) (value : Int)
  | setSubstitute (tag : Byte) (point : Nat) (substitute : Option Int)
  | configureLine (tag : Byte) (q : LineFields)
  | editEntry (tag : Byte) (line position : Nat) (entry : EntryFields)
  | insertEntry (tag : Byte) (line position : Nat) (entry : EntryFields)
  | removeEntry (tag : Byte) (line position : Nat)
  | clearStaged (tag : Byte) (line : Nat)
  | swapSchedule (tag : Byte) (line : Nat)
  | resetLine (tag : Byte) (line : Nat)
  | readLine (tag : Byte) (line view : Nat)
  | configureDiscrete (tag : Byte) (q : DiscreteFields)
  | setDiscrete (tag : Byte) (line level : Nat)
  | readDiscrete (tag : Byte)
  | clearEdges (tag : Byte) (lines : LineMask)
  | configureWell (tag : Byte) (q : WellFields)
  | start (tag : Byte) (well : Nat)
  | stop (tag : Byte) (well : Nat)
  | setTarget (tag : Byte) (well : Nat) (value : Int)
  | wellResetTrip (tag : Byte) (well : Nat)
  | unlock (tag : Byte) (well : Nat)
  | readWell (tag : Byte) (well : Nat)
  | configureTurbine (tag : Byte) (q : TurbineFields)
  | roll (tag : Byte)
  | setMode (tag : Byte) (mode : Nat)
  | setLoad (tag : Byte) (value : Int)
  | unload (tag : Byte)
  | trip (tag : Byte)
  | turbineResetTrip (tag : Byte)
  | readTurbine (tag : Byte)
  | configureHeating (tag : Byte) (q : HeatingFields)
  | setCurve (tag : Byte) (breakpoints : List (Int × Int))
  | heatingOn (tag : Byte)
  | heatingOff (tag : Byte)
  | readHeating (tag : Byte)
  | configureSite (tag : Byte) (q : SiteFields)
  | siteEnable (tag : Byte) (site : Nat)
  | siteDisable (tag : Byte) (site : Nat)
  | markCleaned (tag : Byte) (site : Nat)
  | restoreDose (tag : Byte) (site value : Nat)
  | readSite (tag : Byte) (site : Nat) (view : SiteView)
  | postLimit (tag : Byte) (targetKind targetWell : Nat) (value : Int)
  | withdrawLimit (tag : Byte) (targetKind targetWell : Nat)
  | readConstraints (tag : Byte) (view : Nat)
  | readConditions (tag : Byte)
  | releaseSnapshot (tag : Byte) (number : Nat)
  | setMasks (tag : Byte) (watch horn : Option MemberMask)
  | silence (tag : Byte)
  | armSupervision (tag : Byte) (period fallbackHold : Nat) (fallbackSpeed : Int)
  | resume (tag : Byte)
  | commission (tag : Byte)
  | decommission (tag : Byte)
  | softReset (tag : Byte)
  | ageTimerExpiry
  | secondTimerExpiry
  | recoveryTimerExpiry (point : Fin 96)
  | plantClockTick
  | passTimerExpiry (line : Fin 3)
  | readEntryEnd (line : Fin 3) (station : StationAnswers) (closing : ClosingStop)
  | writeDriveEntryEnd (line : Fin 3) (station : StationAnswers) (closing : ClosingStop)
  | probeEnd (line : Fin 3) (station : StationAnswers) (closing : ClosingStop)
  | heldClock (line : Fin 3)
  | heldDataWire (line : Fin 3)
  | recoveryProcedureEnd (line : Fin 3) (wires : List WireReading)
  | recoveryAttemptEnd (line : Fin 3) (wires : List WireReading)
  | padChange (line : Fin 24) (high : Bool)
  | debounceExpiry (line : Fin 24)
  | mismatchExpiry (line : Fin 24)
  | toothEdge (offset : TimeBase)
  | lossTimerExpiry
  | smPeriodExpiry
  | wpPeriodExpiry
  | startTimerExpiry (well : Fin 8)
  | stopTimerExpiry (well : Fin 8)
  | tripDecayExpiry (well : Fin 8)
  | tgPeriodExpiry
  | rollTimerExpiry
  | breakerTimerExpiry
  | hxPeriodExpiry
  | supervisionTimerExpiry
  | holdTimerExpiry
  | characterReceived (byte : Byte)
  | returnToMark
  deriving DecidableEq, Repr

end Sys2Proof
end

