-- ==== Sys2Proof/Decode.lean ====
section
/-! DEFINITION. The Body of a request, read and written (R201, R209, section 10.7), and `decodeTableWord`. The part has no
instruction words: spec/opcode_table.json gives no row any bits, so `decodeTableWord` answers none on every word. What the
part does decode is the Body of a frame, so the reader and the writer of Bodies stand here. -/

namespace Sys2Proof

/-- The command a word spells by the table's bits: the table gives no row any bits (98_reader.md counts 0 rows with
fixed bits), so no word spells a command. -/
def decodeTableWord (_nbits _w : Nat) : Option Instr := none

namespace Wire

/-! ### Writing -/

/-- The n low bytes of v, high byte first (R209: numbers are sent high byte first). -/
def putNat : Nat → Nat → List Byte
  | 0, _ => []
  | n + 1, v => BitVec.ofNat 8 (v / 256 ^ n) :: putNat n v

/-- An integer in n bytes of two's complement, high byte first (R209). -/
def putInt (n : Nat) (v : Int) : List Byte := putNat n (v % (256 ^ n : Nat)).toNat

/-- A class value: 3 bytes in two's complement (R209). -/
def putClass (v : Int) : List Byte := putInt 3 v

/-- The n bytes of a set, item k in byte k div 8 from the first, at bit k mod 8 (R209). -/
def putSet : Nat → Nat → List Byte
  | 0, _ => []
  | n + 1, v => BitVec.ofNat 8 v :: putSet n (v / 256)

/-- An optional field: a presence byte and, when present, the field (R209). -/
def putOption {α : Type} (put : α → List Byte) : Option α → List Byte
  | none => [0]
  | some a => 1 :: put a

/-- An identifier or another number of one byte (R209). -/
def putByte (v : Nat) : List Byte := putNat 1 v

/-- A yes-or-no field (R209). -/
def putBool (b : Bool) : List Byte := putByte b.toNat

/-! ### Reading -/

/-- Why a Body cannot be read to its end: bytes are lacking, or a byte that decides the length lies beyond its values. -/
inductive ReadError where
  | short
  | badChoice
  deriving DecidableEq, Repr

/-- A reader takes bytes from the front of a Body. -/
abbrev Reader (α : Type) : Type := StateT (List Byte) (Except ReadError) α

/-- The next byte. -/
def getByte : Reader Nat := fun bs =>
  match bs with
  | [] => .error .short
  | b :: rest => .ok (b.toNat, rest)

/-- A number of n bytes, high byte first, onto an accumulated front part. -/
def getNatFrom : Nat → Nat → Reader Nat
  | 0, acc => pure acc
  | n + 1, acc => do
    let b ← getByte
    getNatFrom n (acc * 256 + b)

/-- A number of n bytes, high byte first. -/
def getNat (n : Nat) : Reader Nat := getNatFrom n 0

/-- The two's complement reading of an unsigned number of n bytes. -/
def signed (n v : Nat) : Int := if 2 * v < 256 ^ n then (v : Int) else (v : Int) - (256 ^ n : Nat)

/-- An integer of n bytes in two's complement. -/
def getInt (n : Nat) : Reader Int := do
  let v ← getNat n
  pure (signed n v)

/-- A class value (R209). -/
def getClass : Reader Int := getInt 3

/-- A set of n bytes (R209). -/
def getSet : Nat → Reader Nat
  | 0 => pure 0
  | n + 1 => do
    let b ← getByte
    let v ← getSet n
    pure (b + 256 * v)

/-- An optional field; a presence byte other than 0 or 1 ends the reading (R201, R209). -/
def getOption {α : Type} (get : Reader α) : Reader (Option α) := do
  let p ← getByte
  match p with
  | 0 => pure none
  | 1 => do
    let a ← get
    pure (some a)
  | _ => throw .badChoice

/-- The Body must end here; otherwise its length is wrong. -/
def atEnd : Reader Unit := fun bs => if bs.isEmpty then .ok ((), bs) else .error .short

/-! ### The fields of the configuring requests (section 10.7, widths by R209) -/

/-- The configuration of a point as carried by ConfigurePoint after the point number. -/
def putPointConfig (q : PointFields) : List Byte :=
  putByte q.source ++ putByte q.cls ++ putByte q.line ++ putInt 4 q.rawLo ++ putInt 4 q.rawHi ++ putInt 4 q.engLo ++
    putInt 4 q.engHi ++ putNat 2 q.faultBand ++ putNat 2 q.staleLimit ++ putByte q.failLimit ++ putByte q.recoveryPeriod

def putPointFields (q : PointFields) : List Byte := putByte q.point ++ putPointConfig q

def getPointFields : Reader PointFields := do
  let point ← getNat 1
  let source ← getNat 1
  let cls ← getNat 1
  let line ← getNat 1
  let rawLo ← getInt 4
  let rawHi ← getInt 4
  let engLo ← getInt 4
  let engHi ← getInt 4
  let faultBand ← getNat 2
  let staleLimit ← getNat 2
  let failLimit ← getNat 1
  let recoveryPeriod ← getNat 1
  pure ⟨point, source, cls, line, rawLo, rawHi, engLo, engHi, faultBand, staleLimit, failLimit, recoveryPeriod⟩

def putLineConfig (q : LineFields) : List Byte :=
  putByte q.enabled ++ putByte q.rate ++ putByte q.clockHold ++ putNat 2 q.passInterval ++ putByte q.autoRecover

def putLineFields (q : LineFields) : List Byte := putByte q.line ++ putLineConfig q

def getLineFields : Reader LineFields := do
  let line ← getNat 1
  let enabled ← getNat 1
  let rate ← getNat 1
  let clockHold ← getNat 1
  let passInterval ← getNat 2
  let autoRecover ← getNat 1
  pure ⟨line, enabled, rate, clockHold, passInterval, autoRecover⟩

def putEntry (q : EntryFields) : List Byte :=
  putByte q.station ++ putByte q.kind ++ putOption putByte q.item ++ putOption putByte q.target ++
    putByte q.errorPolicy ++ putByte q.every ++ putByte q.phase

def getEntry : Reader EntryFields := do
  let station ← getNat 1
  let kind ← getNat 1
  let item ← getOption (getNat 1)
  let target ← getOption (getNat 1)
  let errorPolicy ← getNat 1
  let every ← getNat 1
  let phase ← getNat 1
  pure ⟨station, kind, item, target, errorPolicy, every, phase⟩

def putDiscreteConfig (q : DiscreteFields) : List Byte :=
  putByte q.select ++ putByte q.direction ++ putByte q.polarity ++ putByte q.sense ++ putByte q.edgeKind ++
    putByte q.debounce ++ putByte q.mismatchTime

def putDiscreteFields (q : DiscreteFields) : List Byte := putByte q.line ++ putDiscreteConfig q

def getDiscreteFields : Reader DiscreteFields := do
  let line ← getNat 1
  let select ← getNat 1
  let direction ← getNat 1
  let polarity ← getNat 1
  let sense ← getNat 1
  let edgeKind ← getNat 1
  let debounce ← getNat 1
  let mismatchTime ← getNat 1
  pure ⟨line, select, direction, polarity, sense, edgeKind, debounce, mismatchTime⟩

def putWellConfig (q : WellFields) : List Byte :=
  putByte q.enabled ++ putOption putByte q.intakePoint ++ putOption putByte q.windingPoint ++
    putOption putByte q.flowPoint ++ putClass q.minSpeed ++ putClass q.maxSpeed ++ putNat 2 q.rampRate ++
    putClass q.target ++ putClass q.ownFloor ++ putClass q.floorBand ++ putNat 2 q.floorGain ++ putClass q.floorHys ++
    putNat 2 q.floorConfirm ++ putClass q.windTrip ++ putClass q.windDelta ++ putClass q.windHys ++
    putByte q.startTimeout ++ putByte q.stopTimeout ++ putNat 2 q.minOff ++ putByte q.maxStarts ++ putByte q.tripLimit ++
    putByte q.tripRecovery ++ putByte q.deliveryLimit ++ putByte q.autoRestart

def putWellFields (q : WellFields) : List Byte := putByte q.well ++ putWellConfig q

def getWellFields : Reader WellFields := do
  let well ← getNat 1
  let enabled ← getNat 1
  let intakePoint ← getOption (getNat 1)
  let windingPoint ← getOption (getNat 1)
  let flowPoint ← getOption (getNat 1)
  let minSpeed ← getClass
  let maxSpeed ← getClass
  let rampRate ← getNat 2
  let target ← getClass
  let ownFloor ← getClass
  let floorBand ← getClass
  let floorGain ← getNat 2
  let floorHys ← getClass
  let floorConfirm ← getNat 2
  let windTrip ← getClass
  let windDelta ← getClass
  let windHys ← getClass
  let startTimeout ← getNat 1
  let stopTimeout ← getNat 1
  let minOff ← getNat 2
  let maxStarts ← getNat 1
  let tripLimit ← getNat 1
  let tripRecovery ← getNat 1
  let deliveryLimit ← getNat 1
  let autoRestart ← getNat 1
  pure ⟨well, enabled, intakePoint, windingPoint, flowPoint, minSpeed, maxSpeed, rampRate, target, ownFloor, floorBand,
    floorGain, floorHys, floorConfirm, windTrip, windDelta, windHys, startTimeout, stopTimeout, minOff, maxStarts,
    tripLimit, tripRecovery, deliveryLimit, autoRestart⟩

def putTurbineFields (q : TurbineFields) : List Byte :=
  putOption putByte q.headerPoint ++ putOption putByte q.flowPoint ++ putOption putByte q.powerPoint ++
    putOption putByte q.speedPoint ++ putByte q.teeth ++ putClass q.ovsLimit ++ putNat 2 q.lossTime ++
    putClass q.syncSpeed ++ putClass q.syncBand ++ putNat 2 q.syncHold ++ putNat 2 q.accelRate ++ putNat 2 q.rollTimeout ++
    putClass q.minLoad ++ putClass q.maxLoad ++ putNat 2 q.loadRate ++ putClass q.loadTarget ++ putClass q.headerSetpoint ++
    putClass q.headerMin ++ putNat 2 q.headerConfirm ++ putClass q.extractionMax ++ putClass q.extractionMinLoad ++
    putByte q.breakerTimeout ++ putClass q.verifyFlow ++ putNat 2 q.tripVerifyTime ++ putClass q.runbackSpeed ++
    putNat 2 q.speedKp ++ putNat 2 q.speedKi ++ putNat 2 q.powerKp ++ putNat 2 q.powerKi ++ putNat 2 q.headerKp ++
    putNat 2 q.headerKi ++ putByte q.deliveryLimit

def getTurbineFields : Reader TurbineFields := do
  let headerPoint ← getOption (getNat 1)
  let flowPoint ← getOption (getNat 1)
  let powerPoint ← getOption (getNat 1)
  let speedPoint ← getOption (getNat 1)
  let teeth ← getNat 1
  let ovsLimit ← getClass
  let lossTime ← getNat 2
  let syncSpeed ← getClass
  let syncBand ← getClass
  let syncHold ← getNat 2
  let accelRate ← getNat 2
  let rollTimeout ← getNat 2
  let minLoad ← getClass
  let maxLoad ← getClass
  let loadRate ← getNat 2
  let loadTarget ← getClass
  let headerSetpoint ← getClass
  let headerMin ← getClass
  let headerConfirm ← getNat 2
  let extractionMax ← getClass
  let extractionMinLoad ← getClass
  let breakerTimeout ← getNat 1
  let verifyFlow ← getClass
  let tripVerifyTime ← getNat 2
  let runbackSpeed ← getClass
  let speedKp ← getNat 2
  let speedKi ← getNat 2
  let powerKp ← getNat 2
  let powerKi ← getNat 2
  let headerKp ← getNat 2
  let headerKi ← getNat 2
  let deliveryLimit ← getNat 1
  pure ⟨headerPoint, flowPoint, powerPoint, speedPoint, teeth, ovsLimit, lossTime, syncSpeed, syncBand, syncHold, accelRate,
    rollTimeout, minLoad, maxLoad, loadRate, loadTarget, headerSetpoint, headerMin, headerConfirm, extractionMax,
    extractionMinLoad, breakerTimeout, verifyFlow, tripVerifyTime, runbackSpeed, speedKp, speedKi, powerKp, powerKi,
    headerKp, headerKi, deliveryLimit⟩

def putHeatingFields (q : HeatingFields) : List Byte :=
  putOption putByte q.outdoorPoint ++ putOption putByte q.supplyPoint ++ putOption putByte q.returnPoint ++
    putOption putByte q.netFlowPoint ++ putOption putByte q.brineInPoint ++ putOption putByte q.brineOutPoint ++
    putOption putByte q.brineFlowPoint ++ putClass q.brineFloorDefault ++ putClass q.supplyMax ++ putClass q.supplyHys ++
    putNat 2 q.shortConfirm ++ putNat 2 q.supplyKp ++ putNat 2 q.supplyKi ++ putNat 2 q.floorKp ++ putNat 2 q.floorKi

def getHeatingFields : Reader HeatingFields := do
  let outdoorPoint ← getOption (getNat 1)
  let supplyPoint ← getOption (getNat 1)
  let returnPoint ← getOption (getNat 1)
  let netFlowPoint ← getOption (getNat 1)
  let brineInPoint ← getOption (getNat 1)
  let brineOutPoint ← getOption (getNat 1)
  let brineFlowPoint ← getOption (getNat 1)
  let brineFloorDefault ← getClass
  let supplyMax ← getClass
  let supplyHys ← getClass
  let shortConfirm ← getNat 2
  let supplyKp ← getNat 2
  let supplyKi ← getNat 2
  let floorKp ← getNat 2
  let floorKi ← getNat 2
  pure ⟨outdoorPoint, supplyPoint, returnPoint, netFlowPoint, brineInPoint, brineOutPoint, brineFlowPoint,
    brineFloorDefault, supplyMax, supplyHys, shortConfirm, supplyKp, supplyKi, floorKp, floorKi⟩

/-- The configuration of a site. The three margins are sent as class values of 3 bytes for every kind: section 4.1 gives them in TEMP
units for SILICA and in per mille, no unit of a class, for CALCITE, and R209 states no layout that follows the kind (DESIGN CHOICE,
log 58). -/
def putSiteConfig (q : SiteFields) : List Byte :=
  putByte q.kind ++ putOption putByte q.tempPoint ++ putByte q.concKind ++ putByte q.concPoint ++ putClass q.fixedConc ++
    putOption putByte q.presPoint ++ putNat 2 q.onset ++ putByte q.actionKind ++ putByte q.actionWell ++
    putClass q.margin ++ putClass q.alarmMargin ++ putClass q.inhibitorLostMargin ++ putClass q.fallbackFloor ++
    putOption putByte q.station ++ putClass q.doseBase ++ putNat 2 q.doseGain ++ putNat 4 q.alertDose ++
    putNat 4 q.clearDose ++ putNat 2 q.confirmTime ++ putNat 4 q.serviceDose ++ putClass q.flashBase ++
    putClass q.flashTemp ++ putInt 2 q.slope

def putSiteFields (q : SiteFields) : List Byte := putByte q.site ++ putSiteConfig q

def getSiteFields : Reader SiteFields := do
  let site ← getNat 1
  let kind ← getNat 1
  let tempPoint ← getOption (getNat 1)
  let concKind ← getNat 1
  let concPoint ← getNat 1
  let fixedConc ← getClass
  let presPoint ← getOption (getNat 1)
  let onset ← getNat 2
  let actionKind ← getNat 1
  let actionWell ← getNat 1
  let margin ← getClass
  let alarmMargin ← getClass
  let inhibitorLostMargin ← getClass
  let fallbackFloor ← getClass
  let station ← getOption (getNat 1)
  let doseBase ← getClass
  let doseGain ← getNat 2
  let alertDose ← getNat 4
  let clearDose ← getNat 4
  let confirmTime ← getNat 2
  let serviceDose ← getNat 4
  let flashBase ← getClass
  let flashTemp ← getClass
  let slope ← getInt 2
  pure ⟨site, kind, tempPoint, concKind, concPoint, fixedConc, presPoint, onset, actionKind, actionWell, margin,
    alarmMargin, inhibitorLostMargin, fallbackFloor, station, doseBase, doseGain, alertDose, clearDose, confirmTime,
    serviceDose, flashBase, flashTemp, slope⟩

def putBreakpoints : List (Int × Int) → List Byte
  | [] => []
  | (o, t) :: rest => putClass o ++ putClass t ++ putBreakpoints rest

def getBreakpoints : Nat → Reader (List (Int × Int))
  | 0 => pure []
  | n + 1 => do
    let o ← getClass
    let t ← getClass
    let rest ← getBreakpoints n
    pure ((o, t) :: rest)

end Wire

open Wire

/-! ### Requests -/

/-- The Kind of a request (table of section 10.7). -/
def Request.kind : Request → Nat
  | .identify => 0x01
  | .setClock _ => 0x02
  | .configurePoint _ => 0x03
  | .readPoints _ _ => 0x04
  | .writePoint _ _ => 0x05
  | .setSubstitute _ _ => 0x06
  | .configureLine _ => 0x07
  | .editEntry _ _ _ => 0x08
  | .insertEntry _ _ _ => 0x09
  | .removeEntry _ _ => 0x0A
  | .clearStaged _ => 0x0B
  | .swapSchedule _ => 0x0C
  | .resetLine _ => 0x0D
  | .readLine _ _ => 0x0E
  | .configureDiscrete _ => 0x0F
  | .setDiscrete _ _ => 0x10
  | .readDiscrete => 0x11
  | .clearEdges _ => 0x12
  | .configureWell _ => 0x13
  | .start _ => 0x14
  | .stop _ => 0x14
  | .setTarget _ _ => 0x14
  | .wellResetTrip _ => 0x14
  | .unlock _ => 0x14
  | .readWell _ => 0x15
  | .configureTurbine _ => 0x16
  | .roll => 0x17
  | .setMode _ => 0x17
  | .setLoad _ => 0x17
  | .unload => 0x17
  | .trip => 0x17
  | .turbineResetTrip => 0x17
  | .readTurbine => 0x18
  | .configureHeating _ => 0x19
  | .setCurve _ => 0x1A
  | .heatingOn => 0x1B
  | .heatingOff => 0x1B
  | .readHeating => 0x1C
  | .configureSite _ => 0x1D
  | .siteEnable _ => 0x1E
  | .siteDisable _ => 0x1E
  | .markCleaned _ => 0x1E
  | .restoreDose _ _ => 0x1E
  | .readSite _ _ => 0x1F
  | .postLimit _ _ _ => 0x20
  | .withdrawLimit _ _ => 0x21
  | .readConstraints _ => 0x22
  | .readConditions => 0x23
  | .releaseSnapshot _ => 0x24
  | .setMasks _ _ => 0x25
  | .silence => 0x26
  | .armSupervision _ _ _ => 0x27
  | .resume => 0x28
  | .commission => 0x29
  | .decommission => 0x2A
  | .softReset => 0x2B

/-- The Body of a request (section 10.7, R209). The commands of WellCommand and SiteCommand are numbered as their rules
list them (section 6.4, R94), ON and OFF as R164 lists them, and those of TurbineCommand in the order in which chapter
07 defines them (DEDUCED, log 15). -/
def Request.body : Request → List Byte
  | .identify => []
  | .setClock clock => putNat 4 clock
  | .configurePoint q => putPointFields q
  | .readPoints first count => putByte first ++ putByte count
  | .writePoint point value => putByte point ++ putClass value
  | .setSubstitute point substitute => putByte point ++ putOption putClass substitute
  | .configureLine q => putLineFields q
  | .editEntry line position entry => putByte line ++ putByte position ++ putEntry entry
  | .insertEntry line position entry => putByte line ++ putByte position ++ putEntry entry
  | .removeEntry line position => putByte line ++ putByte position
  | .clearStaged line => putByte line
  | .swapSchedule line => putByte line
  | .resetLine line => putByte line
  | .readLine line view => putByte line ++ putByte view
  | .configureDiscrete q => putDiscreteFields q
  | .setDiscrete line level => putByte line ++ putByte level
  | .readDiscrete => []
  | .clearEdges lines => putSet 3 lines.toNat
  | .configureWell q => putWellFields q
  | .start well => putByte well ++ putByte 0
  | .stop well => putByte well ++ putByte 1
  | .setTarget well value => putByte well ++ putByte 2 ++ putClass value
  | .wellResetTrip well => putByte well ++ putByte 3
  | .unlock well => putByte well ++ putByte 4
  | .readWell well => putByte well
  | .configureTurbine q => putTurbineFields q
  | .roll => putByte 0
  | .setMode mode => putByte 1 ++ putByte mode
  | .setLoad value => putByte 2 ++ putClass value
  | .unload => putByte 3
  | .trip => putByte 4
  | .turbineResetTrip => putByte 5
  | .readTurbine => []
  | .configureHeating q => putHeatingFields q
  | .setCurve breakpoints => putByte breakpoints.length ++ putBreakpoints breakpoints
  | .heatingOn => putByte 0
  | .heatingOff => putByte 1
  | .readHeating => []
  | .configureSite q => putSiteFields q
  | .siteEnable site => putByte site ++ putByte 0
  | .siteDisable site => putByte site ++ putByte 1
  | .markCleaned site => putByte site ++ putByte 2
  | .restoreDose site value => putByte site ++ putByte 3 ++ putNat 4 value
  | .readSite site .status => putByte site ++ putByte 0
  | .readSite site (.ring first count) => putByte site ++ putByte 1 ++ putByte first ++ putByte count
  | .postLimit targetKind targetWell value => putByte targetKind ++ putByte targetWell ++ putClass value
  | .withdrawLimit targetKind targetWell => putByte targetKind ++ putByte targetWell
  | .readConstraints view => putByte view
  | .readConditions => []
  | .releaseSnapshot number => putNat 2 number
  | .setMasks watch horn =>
    putOption (fun m => putSet 6 (BitVec.toNat m)) watch ++ putOption (fun m => putSet 6 (BitVec.toNat m)) horn
  | .silence => []
  | .armSupervision period fallbackHold fallbackSpeed => putNat 2 period ++ putNat 2 fallbackHold ++ putClass fallbackSpeed
  | .resume => []
  | .commission => []
  | .decommission => []
  | .softReset => []

namespace Wire

/-! ### Reading a request by its Kind -/

def getWellCommand : Reader Request := do
  let well ← getNat 1
  let command ← getNat 1
  match command with
  | 0 => pure (.start well)
  | 1 => pure (.stop well)
  | 2 => do
    let value ← getClass
    pure (.setTarget well value)
  | 3 => pure (.wellResetTrip well)
  | 4 => pure (.unlock well)
  | _ => throw .badChoice

def getTurbineCommand : Reader Request := do
  let command ← getNat 1
  match command with
  | 0 => pure .roll
  | 1 => do
    let mode ← getNat 1
    pure (.setMode mode)
  | 2 => do
    let value ← getClass
    pure (.setLoad value)
  | 3 => pure .unload
  | 4 => pure .trip
  | 5 => pure .turbineResetTrip
  | _ => throw .badChoice

/-- HeatingCommand carries one byte whatever the command, so its length is compared before the command is looked at. -/
def getHeatingCommand : Reader Request := do
  let command ← getNat 1
  atEnd
  match command with
  | 0 => pure .heatingOn
  | 1 => pure .heatingOff
  | _ => throw .badChoice

def getSiteCommand : Reader Request := do
  let site ← getNat 1
  let command ← getNat 1
  match command with
  | 0 => pure (.siteEnable site)
  | 1 => pure (.siteDisable site)
  | 2 => pure (.markCleaned site)
  | 3 => do
    let value ← getNat 4
    pure (.restoreDose site value)
  | _ => throw .badChoice

def getReadSite : Reader Request := do
  let site ← getNat 1
  let view ← getNat 1
  match view with
  | 0 => pure (.readSite site .status)
  | 1 => do
    let first ← getNat 1
    let count ← getNat 1
    pure (.readSite site (.ring first count))
  | _ => throw .badChoice

/-- The reader of each assigned Kind; none for the Kinds 0x2C ... 0x3F to which no request is assigned (R201), and for
the Kinds that are no request at all. -/
def readerOf : Nat → Option (Reader Request)
  | 0x01 => some (pure .identify)
  | 0x02 => some (do let v ← getNat 4; pure (.setClock v))
  | 0x03 => some (do let q ← getPointFields; pure (.configurePoint q))
  | 0x04 => some (do let a ← getNat 1; let b ← getNat 1; pure (.readPoints a b))
  | 0x05 => some (do let a ← getNat 1; let v ← getClass; pure (.writePoint a v))
  | 0x06 => some (do let a ← getNat 1; let v ← getOption getClass; pure (.setSubstitute a v))
  | 0x07 => some (do let q ← getLineFields; pure (.configureLine q))
  | 0x08 => some (do let a ← getNat 1; let b ← getNat 1; let e ← getEntry; pure (.editEntry a b e))
  | 0x09 => some (do let a ← getNat 1; let b ← getNat 1; let e ← getEntry; pure (.insertEntry a b e))
  | 0x0A => some (do let a ← getNat 1; let b ← getNat 1; pure (.removeEntry a b))
  | 0x0B => some (do let a ← getNat 1; pure (.clearStaged a))
  | 0x0C => some (do let a ← getNat 1; pure (.swapSchedule a))
  | 0x0D => some (do let a ← getNat 1; pure (.resetLine a))
  | 0x0E => some (do let a ← getNat 1; let b ← getNat 1; pure (.readLine a b))
  | 0x0F => some (do let q ← getDiscreteFields; pure (.configureDiscrete q))
  | 0x10 => some (do let a ← getNat 1; let b ← getNat 1; pure (.setDiscrete a b))
  | 0x11 => some (pure .readDiscrete)
  | 0x12 => some (do let m ← getSet 3; pure (.clearEdges (BitVec.ofNat 24 m)))
  | 0x13 => some (do let q ← getWellFields; pure (.configureWell q))
  | 0x14 => some getWellCommand
  | 0x15 => some (do let a ← getNat 1; pure (.readWell a))
  | 0x16 => some (do let q ← getTurbineFields; pure (.configureTurbine q))
  | 0x17 => some getTurbineCommand
  | 0x18 => some (pure .readTurbine)
  | 0x19 => some (do let q ← getHeatingFields; pure (.configureHeating q))
  | 0x1A => some (do let n ← getNat 1; let ps ← getBreakpoints n; pure (.setCurve ps))
  | 0x1B => some getHeatingCommand
  | 0x1C => some (pure .readHeating)
  | 0x1D => some (do let q ← getSiteFields; pure (.configureSite q))
  | 0x1E => some getSiteCommand
  | 0x1F => some getReadSite
  | 0x20 => some (do let k ← getNat 1; let w ← getNat 1; let v ← getClass; pure (.postLimit k w v))
  | 0x21 => some (do let k ← getNat 1; let w ← getNat 1; pure (.withdrawLimit k w))
  | 0x22 => some (do let a ← getNat 1; pure (.readConstraints a))
  | 0x23 => some (pure .readConditions)
  | 0x24 => some (do let a ← getNat 2; pure (.releaseSnapshot a))
  | 0x25 => some (do
      let w ← getOption (getSet 6)
      let h ← getOption (getSet 6)
      pure (.setMasks (w.map (BitVec.ofNat 48)) (h.map (BitVec.ofNat 48))))
  | 0x26 => some (pure .silence)
  | 0x27 => some (do
      let p ← getNat 2
      let h ← getNat 2
      let v ← getClass
      pure (.armSupervision p h v))
  | 0x28 => some (pure .resume)
  | 0x29 => some (pure .commission)
  | 0x2A => some (pure .decommission)
  | 0x2B => some (pure .softReset)
  | _ => none

end Wire

/-- What the link makes of a request it takes, before any owner sees it (R201 steps (1) and (2)). `badField` is a Body
whose length cannot be compared because a byte that decides it lies beyond its values: its owner refuses it BAD_FIELD. -/
inductive Parsed where
  | unknownKind
  | badLength
  | badField
  | ok (r : Request)
  deriving DecidableEq, Repr

/-- Read the Body of a request of the given Kind (R201). -/
def decodeRequest (kind : Nat) (body : List Byte) : Parsed :=
  match Wire.readerOf kind with
  | none => .unknownKind
  | some reader =>
    match reader body with
    | .error .short => .badLength
    | .error .badChoice => .badField
    | .ok (r, rest) => if rest.isEmpty then .ok r else .badLength

end Sys2Proof
end

