-- ==== Sys2Proof/Machine/Arith.lean ====
section
/-! DEFINITION. The arithmetic conventions of 00_scope.md ("Arithmetic"): exact intermediate results, and one function for each
way a formula narrows them. Divisors are positive wherever the spec divides, except in `roundRatio`. -/

namespace Sys2Proof.Machine

/-- "Truncated": the quotient toward zero. -/
def truncDiv (a b : Int) : Int := Int.tdiv a b

/-- "Rounded": the ratio a / b to the nearest integer, halves away from zero. Either sign is allowed in both. -/
def roundRatio (a b : Int) : Int :=
  let n := a.natAbs
  let d := b.natAbs
  let q := (2 * n + d) / (2 * d)
  if a * b < 0 then -(q : Int) else (q : Int)

/-- "Round half up": the ratio of non-negative a and positive b to the nearest integer, halves upward. -/
def roundHalfUp (a b : Int) : Int := (2 * a + b) / (2 * b)

/-- "Ceiling division" of a non-negative a by a positive b. -/
def ceilDiv (a b : Int) : Int := (a + b - 1) / b

/-- "Clamped to a range": the nearer end where the value lies outside. -/
def clamp (lo hi v : Int) : Int := max lo (min hi v)

/-- Whether a value lies in a range. -/
def within (lo hi v : Int) : Bool := decide (lo ≤ v) && decide (v ≤ hi)

/-- Whether a count lies in a range. -/
def withinNat (lo hi v : Nat) : Bool := decide (lo ≤ v) && decide (v ≤ hi)

/-- One more, staying at the cap ("saturating"). -/
def satSucc (cap n : Nat) : Nat := if n < cap then n + 1 else cap

/-- One more, back to 0 past the greatest value ("wrapping"). -/
def wrapSucc (top n : Nat) : Nat := if n < top then n + 1 else 0

/-- Replace an element of a fixed bank by its image. -/
def modifyAt {α : Type} {n : Nat} (v : Vector α n) (i : Fin n) (f : α → α) : Vector α n := v.set i.val (f v[i])

/-- Replace every element of a fixed bank by its image. -/
def modifyAll {α : Type} {n : Nat} (v : Vector α n) (f : Fin n → α → α) : Vector α n := Vector.ofFn (fun i => f i v[i])

/-- The indexes of a bank in rising order. -/
def indexes (n : Nat) : List (Fin n) := List.ofFn (fun i => i)

/-- Apply an operation for each index of a bank in rising order. -/
def forEach {σ : Type} (n : Nat) (f : Fin n → σ → σ) (s : σ) : σ := (indexes n).foldl (fun acc i => f i acc) s

/-- The first index of a bank at which a test holds. -/
def firstIndex (n : Nat) (p : Fin n → Bool) : Option (Fin n) := (indexes n).find? p

end Sys2Proof.Machine
end

