-- ==== Sys2Proof/Machine/State.lean ====
section
/-! DEFINITION. The state of the BX-4620 as plain data: every record the chapters of spec/ name, each field citing the rule
that names it, and `State.reset`. Engineering values are `Int` in class units; counters and times are `Nat`. -/

namespace Sys2Proof.Machine

/-- A down-counting timer: `none` while stopped, else the milliseconds left before it expires. -/
abbrev Timer : Type := Option Nat

/-! ### Points (section 1.1) -/

/-- Value classes (00_scope.md, "Value classes"), numbered as the point record of section 10.8 numbers them. -/
inductive ValueClass where
  | temp | pres | flow | conc | speed | power | frac | level
  deriving DecidableEq, Repr

/-- Source of a point (section 1.1). -/
inductive Source where
  | none | field | discrete | speed | supervisory
  deriving DecidableEq, Repr

/-- Quality of a point (section 1.3). -/
inductive Quality where
  | unset | good | held | stale | failed | subst
  deriving DecidableEq, Repr

/-- Configuration fields of a point record (R1, R11). -/
structure PointConfig where
  source : Source
  cls : ValueClass
  line : Fin 24
  rawLo : Int
  rawHi : Int
  engLo : Int
  engHi : Int
  faultBand : Nat
  staleLimit : Nat
  failLimit : Nat
  recoveryPeriod : Nat
  substitute : Option Int
  deriving DecidableEq, Repr

/-- The most recent good reading (section 1.1). -/
structure LastRead where
  value : Int
  age : Nat
  clamped : Bool
  deriving DecidableEq, Repr

/-- A point record (section 1.1). -/
structure Point where
  cfg : PointConfig
  quality : Quality
  value : Option Int
  age : Nat
  failCount : Nat
  lastRead : Option LastRead
  lastAttemptOk : Bool
  clampedFlag : Bool
  recoveryTimer : Timer
  deriving DecidableEq, Repr

/-- A point's configuration after a POWER or PIN reset (R17). -/
def PointConfig.initial : PointConfig where
  source := .none
  cls := .temp
  line := 0
  rawLo := 0
  rawHi := 65535
  engLo := 0
  engHi := 65535
  faultBand := 0
  staleLimit := 10
  failLimit := 3
  recoveryPeriod := 10
  substitute := none

/-- A point after any reset, on the configuration it holds (R17). -/
def Point.fresh (cfg : PointConfig) : Point where
  cfg := cfg
  quality := .unset
  value := none
  age := 65535
  failCount := 0
  lastRead := none
  lastAttemptOk := false
  clampedFlag := false
  recoveryTimer := none

/-- What a job keeps of a point as it last read it (R15): the quality and the usable value, absent where not usable. -/
structure PointView where
  quality : Quality
  usable : Option Int
  deriving DecidableEq, Repr

/-! ### Drives (section 1.6) and loops (section 1.7) -/

/-- Delivery state of a drive (R20 to R22). -/
inductive Delivery where
  | unbound | pending | delivered | failing
  deriving DecidableEq, Repr

/-- A drive record (section 1.6); its owner and safe value are fixed by its number. -/
structure Drive where
  value : Int
  lastDelivered : Option Int
  delivery : Delivery
  failingSince : Option Nat
  failingFor : Option Nat
  deriving DecidableEq, Repr

/-- A drive whose value is its safe value and that no active schedule names (R23). -/
def Drive.fresh (safe : Int) : Drive where
  value := safe
  lastDelivered := none
  delivery := .unbound
  failingSince := none
  failingFor := none

/-- The safe value of each drive (table of section 1.6): DV10 is full bypass, every other drive 0. -/
def safeValue (d : Fin 15) : Int := if d.val = 10 then 10000 else 0

/-- A loop record (section 1.7). The direction is fixed by the owner's chapter. `gains` are Kp and Ki as the last run took them,
absent until the loop has run since a reset, while the gains are those of the owner's configuration (R24, R26, R180; log 46). -/
structure Loop where
  setpoint : Int
  measurement : Int
  gains : Option (Nat × Nat)
  integral : Int
  output : Int
  held : Bool
  deriving DecidableEq, Repr

/-- A loop record after any reset (R26); setpoint and measurement have no stated value and are 0 (log 20). -/
def Loop.fresh : Loop where
  setpoint := 0
  measurement := 0
  gains := none
  integral := 0
  output := 0
  held := false

/-! ### Instrument lines (chapter 02) -/

/-- Kind of a poll entry (section 2.3). -/
inductive EntryKind where
  | readU16 | readS16 | readU8 | readU16St | writeDrive | probe
  deriving DecidableEq, Repr

/-- The target of a poll entry (section 2.3). -/
inductive EntryTarget where
  | none
  | point (p : Fin 96)
  | drive (d : Fin 15)
  deriving DecidableEq, Repr

/-- Outcome of a poll entry (section 2.6). -/
inductive EntryOutcome where
  | ok | addrNak | dataNak | stationFault | badRaw | heldClock | heldData | aborted | skipped | notReached
  deriving DecidableEq, Repr

/-- A poll entry as the staged schedule holds it (section 2.3). -/
structure Entry where
  station : Nat
  kind : EntryKind
  item : Option Nat
  target : EntryTarget
  stopPolicy : Bool
  every : Nat
  phase : Nat
  deriving DecidableEq, Repr

/-- A poll entry of an active schedule with its lastOutcome (section 2.3). -/
structure ActiveEntry where
  entry : Entry
  lastOutcome : Option EntryOutcome
  deriving DecidableEq, Repr

/-- A record of the result log (R41). -/
structure ResultRecord where
  position : Option Nat
  outcome : EntryOutcome
  clock : Nat
  deriving DecidableEq, Repr

/-- Line states (section 2.2). -/
inductive LineState where
  | disabled | idle | passing | recovering | faulted
  deriving DecidableEq, Repr

/-- What the wires of a line are doing. `entry` is the transaction of the entry at a position, with the drive value
sampled at its start (R35) and whether a repeated start began it (R33). `closing` is the stop that ends a pass, with the
number of positions settled. `procedure` is the recovery procedure of a paused pass (R44): the positions settled, and
whether the data wire was held at the closing stop. `attempt` is a recovery attempt in FAULTED (R45). -/
inductive LineActivity where
  | resting
  | entry (position : Nat) (sample : Option Int) (repeatedStart : Bool)
  | closing (settled : Nat)
  | procedure (settled : Nat) (atStop : Bool)
  | attempt
  deriving DecidableEq, Repr

/-- One action of a line on its two wires (section 2.5, R33 to R35, R42, R43, R50). An address or data byte is sent and the station's
acknowledge bit taken after it; a byte is received and the line's own acknowledge bit, true for ACK, sent after it. `release` frees
both wires. `pulse` is a clock pulse of the recovery procedure, with a read of the data wire after it. `stop` is a stop condition,
with or without the read-back of R37. Two stops without read-back depend on the clock wire, which no command carries there:
`stopIfClockRises` is sent where the wire rises within clockHold of the release before it (R42), `stopIfClockHigh` where the wire is
high (R50); where it is low, nothing is sent. -/
inductive WireAct where
  | start
  | repeatedStart
  | address (b : Byte)
  | data (b : Byte)
  | receive (ack : Bool)
  | release
  | pulse
  | stop (readBack : Bool)
  | stopIfClockRises
  | stopIfClockHigh
  deriving DecidableEq, Repr

/-- Fault cause of a FAULTED line (R44). -/
inductive FaultCause where
  | heldData | heldClock
  deriving DecidableEq, Repr

/-- Configuration of a line but for enabled, which no reset keeps (R27, R52). -/
structure LineConfig where
  fast : Bool
  clockHold : Nat
  passInterval : Nat
  autoRecover : Bool
  deriving DecidableEq, Repr

/-- An instrument line (chapter 02). `wires` is what the line has put on its two wires in the latest event that completed something
there: a transaction with the stop after it, a run of the recovery procedure, or a release; it is the model's own field, which nothing
of the part reads (DESIGN CHOICE, log 52). -/
structure Line where
  cfg : LineConfig
  enabled : Bool
  state : LineState
  activity : LineActivity
  wireFast : Bool
  wires : List WireAct
  passTimer : Timer
  passCounter : Nat
  pending : Bool
  ready : Bool
  overrun : Nat
  active : List ActiveEntry
  staged : List Entry
  faultCause : Option FaultCause
  faultedSince : Option Nat
  attemptCount : Nat
  log : List ResultRecord
  logTotal : Nat
  deriving DecidableEq, Repr

/-- A line's configuration after a POWER or PIN reset (R52). -/
def LineConfig.initial : LineConfig where
  fast := false
  clockHold := 10
  passInterval := 100
  autoRecover := false

/-- A line after any reset, on the configuration and schedules it holds (R52). -/
def Line.fresh (cfg : LineConfig) (active : List ActiveEntry) (staged : List Entry) : Line where
  cfg := cfg
  enabled := false
  state := .disabled
  activity := .resting
  wireFast := cfg.fast
  wires := [.release]
  passTimer := none
  passCounter := 0
  pending := false
  ready := false
  overrun := 0
  active := active.map (fun e => { e with lastOutcome := none })
  staged := staged
  faultCause := none
  faultedSince := none
  attemptCount := 0
  log := []
  logTotal := 0

/-! ### Discrete lines and the speed unit (chapter 03) -/

/-- Which edges of the debounced level a GENERAL EDGE input catches (section 3.1). -/
inductive EdgeKind where
  | rising | falling | any
  deriving DecidableEq, Repr

/-- Configuration of a discrete line (section 3.1). `role` is select ROLE, `out` direction OUT, `edge` sense EDGE. -/
structure DiscreteConfig where
  role : Bool
  out : Bool
  inverted : Bool
  edge : Bool
  edgeKind : EdgeKind
  debounce : Nat
  mismatchTime : Nat
  deriving DecidableEq, Repr

/-- A discrete line record (section 3.1). `pin` is the electrical level present at the pad, true for high. -/
structure Discrete where
  cfg : DiscreteConfig
  roleCommand : Bool
  commanded : Bool
  pin : Bool
  padLevel : Bool
  level : Bool
  debounceTimer : Timer
  mismatchTimer : Timer
  mismatch : Bool
  edgeSeen : Bool
  edgeReported : Bool
  edgeCount : Nat
  deriving DecidableEq, Repr

/-- Whether the fixed role of a line is an output (table of section 3.1): the pump run lines D0 to D7, STOP_VALVE_HOLD D16,
BRK_OPEN_CMD D17 and ALARM D20. -/
def roleIsOutput (d : Fin 24) : Bool := d.val < 8 || d.val == 16 || d.val == 17 || d.val == 20

/-- Whether a line has a role at all: D21 to D23 are general lines only (section 3.1). -/
def hasRole (d : Fin 24) : Bool := d.val < 21

/-- A discrete line's configuration after a POWER or PIN reset (R65). -/
def DiscreteConfig.initial (d : Fin 24) : DiscreteConfig where
  role := hasRole d
  out := hasRole d && roleIsOutput d
  inverted := false
  edge := false
  edgeKind := .rising
  debounce := 10
  mismatchTime := 50

/-- A discrete line while a reset holds, with every pad released (R65). Level and padLevel are formed at the end of
internal initialisation. -/
def Discrete.fresh (cfg : DiscreteConfig) (pin : Bool) : Discrete where
  cfg := cfg
  roleCommand := false
  commanded := false
  pin := pin
  padLevel := pin != cfg.inverted
  level := pin != cfg.inverted
  debounceTimer := none
  mismatchTimer := none
  mismatch := false
  edgeSeen := false
  edgeReported := false
  edgeCount := 0

/-- Signal states of the speed unit (section 3.7). -/
inductive Signal where
  | silent | acquiring | measuring | lost
  deriving DecidableEq, Repr

/-- Configuration of the speed unit (section 3.7). -/
structure SpeedConfig where
  teeth : Nat
  ovsLimit : Int
  lossTime : Nat
  deriving DecidableEq, Repr

/-- The speed unit (section 3.7); `periods` holds the kept tooth periods, newest first. -/
structure SpeedUnit where
  cfg : SpeedConfig
  timeBase : TimeBase
  signal : Signal
  lastEdge : Option TimeBase
  periods : List Nat
  speed : Option Int
  lossTimer : Timer
  deriving DecidableEq, Repr

/-- The speed unit's configuration after a POWER or PIN reset (R70). -/
def SpeedConfig.initial : SpeedConfig where
  teeth := 60
  ovsLimit := 9999
  lossTime := 1000

/-- The speed unit after any reset (R70). -/
def SpeedUnit.fresh (cfg : SpeedConfig) : SpeedUnit where
  cfg := cfg
  timeBase := 0
  signal := .silent
  lastEdge := none
  periods := []
  speed := none
  lossTimer := none

/-! ### Scaling sites (chapter 04) -/

/-- Kind of a site (section 4.1). -/
inductive SiteKind where
  | none | silica | calcite
  deriving DecidableEq, Repr

/-- concSource of a silica site (section 4.1). -/
inductive ConcSource where
  | fixed
  | point (p : Fin 96)
  deriving DecidableEq, Repr

/-- Action of a site (section 4.1). -/
inductive SiteAction where
  | none
  | brineFloor
  | wellFloor (k : Fin 8)
  deriving DecidableEq, Repr

/-- Level of a site (section 4.7). -/
inductive SiteLevel where
  | normal | watch | alert | alarm
  deriving DecidableEq, Repr

/-- A minute record (section 4.1). -/
structure MinuteRecord where
  dose : Nat
  cover : Nat
  clock : Nat
  deriving DecidableEq, Repr

/-- Configuration of a site (section 4.1). `flashBase` and `flashTemp` are P_f0 and T0. -/
structure SiteConfig where
  kind : SiteKind
  tempPoint : Option (Fin 96)
  concSource : ConcSource
  fixedConc : Int
  presPoint : Option (Fin 96)
  onset : Nat
  action : SiteAction
  margin : Int
  alarmMargin : Int
  inhibitorLostMargin : Int
  fallbackFloor : Int
  station : Option (Fin 4)
  doseBase : Int
  doseGain : Nat
  alertDose : Nat
  clearDose : Nat
  confirmTime : Nat
  serviceDose : Nat
  flashBase : Int
  flashTemp : Int
  slope : Int
  deriving DecidableEq, Repr

/-- A site record (section 4.1). -/
structure Site where
  cfg : SiteConfig
  enabled : Bool
  ratio : Nat
  excess : Nat
  floorUnreachable : Bool
  inputsLost : Bool
  level : SiteLevel
  alertAge : Option Nat
  minuteDose : Nat
  minuteCover : Nat
  ring : List MinuteRecord
  hourlyDose : Nat
  cumulativeDose : Nat
  demand : Option Int
  siteFloor : Option Int
  deriving DecidableEq, Repr

/-- A site's configuration after a POWER or PIN reset (R96). -/
def SiteConfig.initial : SiteConfig where
  kind := .none
  tempPoint := none
  concSource := .fixed
  fixedConc := 0
  presPoint := none
  onset := 1000
  action := .none
  margin := 0
  alarmMargin := 0
  inhibitorLostMargin := 0
  fallbackFloor := 0
  station := none
  doseBase := 0
  doseGain := 0
  alertDose := 36000000
  clearDose := 0
  confirmTime := 600
  serviceDose := 4294967295
  flashBase := 0
  flashTemp := 0
  slope := 0

/-- A site after any reset, on the configuration it holds (R96). -/
def Site.fresh (cfg : SiteConfig) : Site where
  cfg := cfg
  enabled := false
  ratio := 0
  excess := 0
  floorUnreachable := false
  inputsLost := false
  level := .normal
  alertAge := none
  minuteDose := 0
  minuteCover := 0
  ring := []
  hourlyDose := 0
  cumulativeDose := 0
  demand := none
  siteFloor := none

/-! ### The constraint table (chapter 05) -/

/-- A constraint target (section 5.1). -/
inductive Target where
  | brineFloor
  | wellFloor (k : Fin 8)
  | pumpCeil (k : Fin 8)
  | pumpCeilAll
  deriving DecidableEq, Repr

/-- A post in a slot (section 5.2). -/
structure Post where
  target : Target
  value : Int
  postedAt : Nat
  deriving DecidableEq, Repr

/-- An effective bound with its binding origin, `none` being DEFAULT (R100, R101); also a consumer's bound view, whose
LIMITED indication is that the origin is a slot (R103). -/
structure Bound where
  value : Int
  origin : Option (Fin 22)
  deriving DecidableEq, Repr

/-- Whether a bound view is LIMITED (R103). -/
def Bound.limited (b : Bound) : Bool := b.origin.isSome

/-- The place of a target among the 18 (section 5.1, in the order of its table). -/
def Target.index : Target → Fin 18
  | .brineFloor => 0
  | .wellFloor k => ⟨1 + k.val, by omega⟩
  | .pumpCeil k => ⟨9 + k.val, by omega⟩
  | .pumpCeilAll => 17

/-! ### Well pumps (chapter 06) -/

/-- Well states (section 6.2). -/
inductive WellState where
  | off | waitStart | starting | running | throttle2 | throttle1 | stopping | suspended | tripped | lockedOut
  deriving DecidableEq, Repr

/-- Why a well is, or will be, SUSPENDED (section 6.2). -/
inductive SuspendCause where
  | lowIntake | windingHot
  deriving DecidableEq, Repr

/-- Where a stop under way will end (section 6.2). -/
inductive StopTo where
  | off | suspended
  deriving DecidableEq, Repr

/-- Why a waiting well did not start at the last test (R117, R126). -/
inductive WaitReason where
  | noPermission | minOff | logFull | feedbackPresent | causePresent
  deriving DecidableEq, Repr

/-- Causes of a well trip (section 6.9). -/
inductive WellTripCause where
  | feedbackFail | feedbackLost | feedbackStuck | driveLost | estop
  deriving DecidableEq, Repr

/-- A start entry (R113); its age counts WP periods. -/
structure StartEntry where
  clock : Nat
  age : Nat
  deriving DecidableEq, Repr

/-- A well's trip record (R131). -/
structure WellTripRecord where
  cause : WellTripCause
  clock : Nat
  fromState : WellState
  intake : Option Int
  winding : Option Int
  deriving DecidableEq, Repr

/-- Configuration of a well slot (section 6.1). -/
structure WellConfig where
  enabled : Bool
  intakePoint : Option (Fin 96)
  windingPoint : Option (Fin 96)
  flowPoint : Option (Fin 96)
  minSpeed : Int
  maxSpeed : Int
  rampRate : Nat
  target : Int
  ownFloor : Int
  floorBand : Int
  floorGain : Nat
  floorHys : Int
  floorConfirm : Nat
  windTrip : Int
  windDelta : Int
  windHys : Int
  startTimeout : Nat
  stopTimeout : Nat
  minOff : Nat
  maxStarts : Nat
  tripLimit : Nat
  tripRecovery : Nat
  deliveryLimit : Nat
  autoRestart : Bool
  deriving DecidableEq, Repr

/-- A well slot (section 6.2). The demand "equals the value of DVk" and is held there; the three point views are the
points as the well last read them (R134). -/
structure Well where
  cfg : WellConfig
  state : WellState
  stopTo : Option StopTo
  suspendCause : Option SuspendCause
  waitReason : Option WaitReason
  startLog : List StartEntry
  offFor : Option Nat
  floorTimer : Nat
  tripCount : Nat
  tripRecord : Option WellTripRecord
  startTimer : Timer
  stopTimer : Timer
  decayTimer : Timer
  intakeView : Bound
  ceilingView : Bound
  intakeRead : Option PointView
  windingRead : Option PointView
  flowRead : Option PointView
  deriving DecidableEq, Repr

/-- A well's configuration after a POWER or PIN reset (R135). -/
def WellConfig.initial : WellConfig where
  enabled := false
  intakePoint := none
  windingPoint := none
  flowPoint := none
  minSpeed := 0
  maxSpeed := 10000
  rampRate := 100
  target := 0
  ownFloor := 0
  floorBand := 0
  floorGain := 0
  floorHys := 0
  floorConfirm := 60
  windTrip := 40000
  windDelta := 0
  windHys := 0
  startTimeout := 10
  stopTimeout := 10
  minOff := 0
  maxStarts := 10
  tripLimit := 15
  tripRecovery := 24
  deliveryLimit := 10
  autoRestart := false

/-- A well after any reset, on the configuration it holds (R135, R108). -/
def Well.fresh (cfg : WellConfig) : Well where
  cfg := cfg
  state := .off
  stopTo := none
  suspendCause := none
  waitReason := none
  startLog := []
  offFor := none
  floorTimer := 0
  tripCount := 0
  tripRecord := none
  startTimer := none
  stopTimer := none
  decayTimer := none
  intakeView := ⟨cfg.ownFloor, none⟩
  ceilingView := ⟨10000, none⟩
  intakeRead := none
  windingRead := none
  flowRead := none

/-! ### Turbine governor (chapter 07) -/

/-- Turbine states (section 7.2). -/
inductive TurbineState where
  | tripped | stopped | rolling | syncWait | loaded | unloading
  deriving DecidableEq, Repr

/-- The loop that holds the admission valve in LOADED (section 7.2). -/
inductive TurbineMode where
  | load | header
  deriving DecidableEq, Repr

/-- A loop waiting to be started (section 7.2). -/
inductive TurbineLoop where
  | speed | power | header
  deriving DecidableEq, Repr

/-- Causes of a turbine trip (section 7.7). -/
inductive TurbineTripCause where
  | overspeed | speedLost | estop | lowHeader | rollTimeout | admissionLost | breakerFail | supervisoryTrip | powerUp
  deriving DecidableEq, Repr

/-- The turbine's trip record (R153). -/
structure TurbineTripRecord where
  cause : TurbineTripCause
  clock : Nat
  fromState : Option TurbineState
  value : Option Int
  laterCount : Nat
  laterCause : Option TurbineTripCause
  laterClock : Option Nat
  deriving DecidableEq, Repr

/-- The extraction grant record (section 7.9). -/
structure GrantRecord where
  request : Int
  grant : Int
  valveDemand : Int
  deriving DecidableEq, Repr

/-- Configuration of the turbine but for the speed unit's three fields (section 7.1). -/
structure TurbineConfig where
  headerPoint : Option (Fin 96)
  flowPoint : Option (Fin 96)
  powerPoint : Option (Fin 96)
  speedPoint : Option (Fin 96)
  syncSpeed : Int
  syncBand : Int
  syncHold : Nat
  accelRate : Nat
  rollTimeout : Nat
  minLoad : Int
  maxLoad : Int
  loadRate : Nat
  loadTarget : Int
  headerSetpoint : Int
  headerMin : Int
  headerConfirm : Nat
  extractionMax : Int
  extractionMinLoad : Int
  breakerTimeout : Nat
  verifyFlow : Int
  tripVerifyTime : Nat
  runbackSpeed : Int
  speedKp : Nat
  speedKi : Nat
  powerKp : Nat
  powerKi : Nat
  headerKp : Nat
  headerKi : Nat
  deliveryLimit : Nat
  deriving DecidableEq, Repr

/-- The turbine governor (section 7.2). `stopValveFail` and `loadReject` are the governor's findings behind the two
latched conditions of R157. -/
structure Turbine where
  cfg : TurbineConfig
  periodTimer : Timer
  state : TurbineState
  mode : TurbineMode
  speedSetpoint : Int
  powerSetpoint : Int
  speedView : Int
  powerView : Option Int
  headerView : Option Int
  flowView : Option Int
  speedAcquired : Bool
  pendingLoop : Option TurbineLoop
  syncCount : Nat
  headerCount : Nat
  rollTimer : Timer
  breakerTimer : Timer
  openCommanded : Bool
  verifyCount : Option Nat
  tripRecord : TurbineTripRecord
  grant : GrantRecord
  speedLoop : Loop
  powerLoop : Loop
  headerLoop : Loop
  stopValveFail : Bool
  loadReject : Bool
  deriving DecidableEq, Repr

/-- The turbine's configuration after a POWER or PIN reset (R159). -/
def TurbineConfig.initial : TurbineConfig where
  headerPoint := none
  flowPoint := none
  powerPoint := none
  speedPoint := none
  syncSpeed := 3000
  syncBand := 15
  syncHold := 20
  accelRate := 100
  rollTimeout := 600
  minLoad := 0
  maxLoad := 0
  loadRate := 100
  loadTarget := 0
  headerSetpoint := 0
  headerMin := 0
  headerConfirm := 10
  extractionMax := 1
  extractionMinLoad := 0
  breakerTimeout := 5
  verifyFlow := 100000
  tripVerifyTime := 10
  runbackSpeed := 10000
  speedKp := 0
  speedKi := 0
  powerKp := 0
  powerKi := 0
  headerKp := 0
  headerKi := 0
  deliveryLimit := 10

/-- The governor after any reset, on the configuration it holds (R159, R153). -/
def Turbine.fresh (cfg : TurbineConfig) : Turbine where
  cfg := cfg
  periodTimer := none
  state := .tripped
  mode := .load
  speedSetpoint := 0
  powerSetpoint := 0
  speedView := 0
  powerView := none
  headerView := none
  flowView := none
  speedAcquired := false
  pendingLoop := none
  syncCount := 0
  headerCount := 0
  rollTimer := none
  breakerTimer := none
  openCommanded := false
  verifyCount := none
  tripRecord := ⟨.powerUp, 0, none, none, 0, none, none⟩
  grant := ⟨0, 0, 0⟩
  speedLoop := Loop.fresh
  powerLoop := Loop.fresh
  headerLoop := Loop.fresh
  stopValveFail := false
  loadReject := false

/-! ### Heat exchange unit (chapter 08) -/

/-- Heating states (section 8.3). -/
inductive HeatState where
  | off | active | cut | hold
  deriving DecidableEq, Repr

/-- The essential points in the order of section 8.3, and NO_TARGET (R167). -/
inductive HoldReason where
  | supplyPoint | returnPoint | netFlowPoint | brineInPoint | brineOutPoint | brineFlowPoint | noTarget
  deriving DecidableEq, Repr

/-- The loop not held at the last run (section 8.3). -/
inductive Selected where
  | supply | floor
  deriving DecidableEq, Repr

/-- Configuration of the heating (section 8.1), the curve apart. -/
structure HeatingConfig where
  outdoorPoint : Option (Fin 96)
  supplyPoint : Option (Fin 96)
  returnPoint : Option (Fin 96)
  netFlowPoint : Option (Fin 96)
  brineInPoint : Option (Fin 96)
  brineOutPoint : Option (Fin 96)
  brineFlowPoint : Option (Fin 96)
  brineFloorDefault : Int
  supplyMax : Int
  supplyHys : Int
  shortConfirm : Nat
  supplyKp : Nat
  supplyKi : Nat
  floorKp : Nat
  floorKi : Nat
  deriving DecidableEq, Repr

/-- The views of the seven points, each as last read (section 8.3). -/
structure HeatViews where
  outdoor : Option PointView
  supply : Option PointView
  ret : Option PointView
  netFlow : Option PointView
  brineIn : Option PointView
  brineOut : Option PointView
  brineFlow : Option PointView
  deriving DecidableEq, Repr

/-- The heat exchange unit with its allocation record (section 8.3). The request is the extraction grant record's, and the
opening is 10000 less the value of DV10; neither is held twice. `supplyShort` is the unit's finding behind SUPPLY_SHORT. -/
structure Heating where
  cfg : HeatingConfig
  curve : Option (List (Int × Int))
  periodTimer : Timer
  state : HeatState
  holdFrom : Option HeatState
  holdReason : Option HoldReason
  loopsPending : Bool
  views : HeatViews
  floorView : Bound
  target : Option Int
  targetHeld : Bool
  requiredHeat : Option Int
  brineCapacity : Option Int
  brineShare : Option Int
  extractionShare : Option Int
  shortfall : Option Int
  shortCount : Nat
  supplyShort : Bool
  selected : Option Selected
  supplyLoop : Loop
  floorLoop : Loop
  deriving DecidableEq, Repr

/-- The heating configuration after a POWER or PIN reset (R181). -/
def HeatingConfig.initial : HeatingConfig where
  outdoorPoint := none
  supplyPoint := none
  returnPoint := none
  netFlowPoint := none
  brineInPoint := none
  brineOutPoint := none
  brineFlowPoint := none
  brineFloorDefault := 0
  supplyMax := 12000
  supplyHys := 500
  shortConfirm := 300
  supplyKp := 0
  supplyKi := 0
  floorKp := 0
  floorKi := 0

/-- The unit after any reset, on the configuration and curve it holds (R181, R108). -/
def Heating.fresh (cfg : HeatingConfig) (curve : Option (List (Int × Int))) : Heating where
  cfg := cfg
  curve := curve
  periodTimer := none
  state := .off
  holdFrom := none
  holdReason := none
  loopsPending := false
  views := ⟨none, none, none, none, none, none, none⟩
  floorView := ⟨cfg.brineFloorDefault, none⟩
  target := none
  targetHeld := false
  requiredHeat := none
  brineCapacity := none
  brineShare := none
  extractionShare := none
  shortfall := none
  shortCount := 0
  supplyShort := false
  selected := none
  supplyLoop := Loop.fresh
  floorLoop := Loop.fresh

/-! ### Condition unit (chapter 09) -/

/-- A set of members of the condition set, by member number (section 9.1). -/
abbrev MemberSet : Type := Vector Bool 42

/-- The empty set of members. -/
def MemberSet.empty : MemberSet := Vector.ofFn (fun _ => false)

/-- The content of a CONDITION notice (R187). -/
structure ConditionNotice where
  number : Nat
  frozen : MemberSet
  changed : MemberSet
  frozenAt : Nat
  deriving DecidableEq, Repr

/-- The condition unit: the live set, the snapshot record, the masks and the unsilenced set (sections 9.1 to 9.4). -/
structure Conditions where
  live : MemberSet
  held : Bool
  number : Nat
  frozen : MemberSet
  changed : MemberSet
  frozenAt : Nat
  watch : MemberSet
  horn : MemberSet
  unsilenced : MemberSet
  deriving DecidableEq, Repr

/-- The watch mask after a POWER or PIN reset: all 42 members (R194). -/
def MemberSet.all : MemberSet := Vector.ofFn (fun _ => true)

/-- The horn mask after a POWER or PIN reset: the 33 members marked in the table of section 9.1 (R194). -/
def MemberSet.hornInitial : MemberSet :=
  Vector.ofFn (fun i => i.val < 19 || (21 ≤ i.val && i.val < 33) || i.val == 40 || i.val == 41)

/-- The condition unit after any reset, on the masks it holds (R193, R194). The live set is formed at the end of internal
initialisation. -/
def Conditions.fresh (watch horn : MemberSet) : Conditions where
  live := MemberSet.empty
  held := false
  number := 0
  frozen := MemberSet.empty
  changed := MemberSet.empty
  frozenAt := 0
  watch := watch
  horn := horn
  unsilenced := MemberSet.empty

/-! ### Supervisory link (chapter 10) -/

/-- Receiver states (R196). -/
inductive ReceiverState where
  | hunting | length | body
  deriving DecidableEq, Repr

/-- The receiver: `bytes` are the bytes of the frame from Length on, `inBreak` is set from a break until the line returns to
mark (R196, R198). -/
structure Receiver where
  state : ReceiverState
  bytes : List Byte
  gapTimer : Timer
  inBreak : Bool
  deriving DecidableEq, Repr

/-- A request in the request queue (R199). -/
structure QueuedRequest where
  kind : Byte
  tag : Byte
  body : List Byte
  deriving DecidableEq, Repr

/-- A frame the link sends: a reply or a notice. -/
structure Frame where
  kind : Byte
  tag : Byte
  body : List Byte
  deriving DecidableEq, Repr

/-- A reply waiting, with the time it was placed, counted in placings (R200, R204). -/
structure WaitingReply where
  frame : Frame
  placed : Nat
  deriving DecidableEq, Repr

/-- The content of an EDGE notice (R61): each line's edgeCount where its edgeSeen is set, the level of all 24 lines, and the
plant clock. -/
structure EdgeNotice where
  counts : Vector (Option Nat) 24
  levels : Vector Bool 24
  clock : Nat
  deriving DecidableEq, Repr

/-- Cause of a reset (R216). -/
inductive ResetCause where
  | power | pin | soft
  deriving DecidableEq, Repr

/-- The supervisory link (chapter 10). `placings` counts the replies ever placed and dates each; `softResetPending` is set
from the taking of an accepted SoftReset until its effect (R206). -/
structure Link where
  baud1 : Bool
  baud0 : Bool
  receiver : Receiver
  requests : List QueuedRequest
  busyPlace : Option WaitingReply
  replies : List WaitingReply
  started : Option ResetCause
  condition : Option ConditionNotice
  edge : Option EdgeNotice
  sending : Option Frame
  placings : Nat
  softResetPending : Bool
  discardCount : Nat
  busyCount : Nat
  busyLostCount : Nat
  deriving DecidableEq, Repr

/-- The link after any reset, on its sampled straps (R205). -/
def Link.fresh (baud1 baud0 : Bool) : Link where
  baud1 := baud1
  baud0 := baud0
  receiver := ⟨.hunting, [], none, false⟩
  requests := []
  busyPlace := none
  replies := []
  started := none
  condition := none
  edge := none
  sending := none
  placings := 0
  softResetPending := false
  discardCount := 0
  busyCount := 0
  busyLostCount := 0

/-! ### Supervision and phase (chapter 11) -/

/-- The operating phase (chapter 11). -/
inductive Phase where
  | config | run
  deriving DecidableEq, Repr

/-- Supervision states (chapter 11). -/
inductive SupervisionState where
  | disarmed | armed | fallback | safeStop
  deriving DecidableEq, Repr

/-- The supervision record (chapter 11). -/
structure Supervision where
  state : SupervisionState
  period : Option Nat
  fallbackHold : Option Nat
  fallbackSpeed : Option Int
  supervisionTimer : Timer
  holdTimer : Timer
  deriving DecidableEq, Repr

/-- Supervision after any reset (R216). -/
def Supervision.fresh : Supervision where
  state := .disarmed
  period := none
  fallbackHold := none
  fallbackSpeed := none
  supervisionTimer := none
  holdTimer := none

/-! ### The whole part -/

/-- The state of the part. `pending` is the queue of commands that wait, first in, first out: the model's own field. -/
structure State where
  initialising : Bool
  powerApplied : Bool
  resetHeldLow : Bool
  resetCause : ResetCause
  phase : Phase
  supervision : Supervision
  clock : Nat
  clockTimer : Timer
  points : Vector Point 96
  drives : Vector Drive 15
  ageTimer : Timer
  secondTimer : Timer
  lines : Vector Line 3
  discretes : Vector Discrete 24
  speedUnit : SpeedUnit
  sites : Vector Site 12
  smTimer : Timer
  minuteCounter : Nat
  slots : Vector (Option Post) 22
  bounds : Vector Bound 18
  combined : Vector Bound 8
  wells : Vector Well 8
  wpTimer : Timer
  turbine : Turbine
  heating : Heating
  conditions : Conditions
  link : Link
  pending : List Instr
  deriving DecidableEq, Repr

/-- The reasons a step could stop the part with a fault. There is none: the spec gives every command an effect in every
state (a refused request is answered, an event that cannot arise changes nothing), so no meaning raises a fault. Safe: the
type has no constructor. -/
inductive Fault where
  deriving DecidableEq, Repr

/-- The reasons the model refuses a command. -/
inductive Refusal where
  /-- Raised only by an arm of `exec` whose command has no meaning yet, naming the row's mnemonic. Safe: the machine
  stops where the part goes on. No arm raises it now. -/
  | notModelled (mnemonic : String)
  deriving DecidableEq, Repr

/-- The default of each target by its place among the 18, from the configurations it follows (R97). -/
def defaultsFrom (brineFloorDefault : Int) (ownFloor : Fin 8 → Int) (t : Fin 18) : Int :=
  if t.val = 0 then brineFloorDefault
  else if h : t.val < 9 then ownFloor ⟨t.val - 1, by omega⟩
  else 10000

/-- The part while a reset holds, on the configuration it keeps or takes: every dynamic value as R216 and the chapters
state it "after every reset", with every timer stopped until internal initialisation ends. -/
def State.afterReset (points : Vector Point 96) (lines : Vector Line 3) (discretes : Vector Discrete 24)
    (drives : Vector Drive 15) (speed : SpeedConfig) (sites : Vector Site 12) (wells : Vector Well 8)
    (turbine : TurbineConfig) (heating : HeatingConfig) (curve : Option (List (Int × Int))) (watch horn : MemberSet)
    (baud1 baud0 : Bool) (powerApplied resetHeldLow : Bool) (cause : ResetCause) (pending : List Instr) : State where
  initialising := true
  powerApplied := powerApplied
  resetHeldLow := resetHeldLow
  resetCause := cause
  phase := .config
  supervision := Supervision.fresh
  clock := 0
  clockTimer := none
  points := points
  drives := drives
  ageTimer := none
  secondTimer := none
  lines := lines
  discretes := discretes
  speedUnit := SpeedUnit.fresh speed
  sites := sites
  smTimer := none
  minuteCounter := 0
  slots := Vector.ofFn (fun _ => none)
  bounds := Vector.ofFn (fun t => ⟨defaultsFrom heating.brineFloorDefault (fun k => wells[k].cfg.ownFloor) t, none⟩)
  combined := Vector.ofFn (fun _ => ⟨10000, none⟩)
  wells := wells
  wpTimer := none
  turbine := Turbine.fresh turbine
  heating := Heating.fresh heating curve
  conditions := Conditions.fresh watch horn
  link := Link.fresh baud1 baud0
  pending := pending

/-- The part after a POWER or PIN reset: every configuration at its default (R216). -/
def State.afterHardReset (pins : Fin 24 → Bool) (baud1 baud0 : Bool) (powerApplied resetHeldLow : Bool)
    (cause : ResetCause) (pending : List Instr) : State :=
  State.afterReset (Vector.ofFn (fun _ => Point.fresh PointConfig.initial))
    (Vector.ofFn (fun _ => Line.fresh LineConfig.initial [] []))
    (Vector.ofFn (fun d => Discrete.fresh (DiscreteConfig.initial d) (pins d)))
    (Vector.ofFn (fun d => Drive.fresh (safeValue d))) SpeedConfig.initial
    (Vector.ofFn (fun _ => Site.fresh SiteConfig.initial)) (Vector.ofFn (fun _ => Well.fresh WellConfig.initial))
    TurbineConfig.initial HeatingConfig.initial none MemberSet.all MemberSet.hornInitial baud1 baud0 powerApplied
    resetHeldLow cause pending

/-- The part right after a POWER reset, before its internal initialisation ends (START_UP ends it). The pads read low and
both strap pins are low (log 21: the outside of the part decides them). -/
def State.reset : State := State.afterHardReset (fun _ => false) false false true false .power []

end Sys2Proof.Machine
end

