-- ==== Sys2Proof/Machine/Operands.lean ====
section
/-! DEFINITION. The operands of the commands: the value classes with their ranges (00_scope.md), the choices a request
carries as bytes (R209), and the checks that turn a configuring request's raw fields into a configuration or refuse it
BAD_FIELD (step 1 of R1, R27, R30, R53, R71, R109, R136, R160). -/

namespace Sys2Proof.Machine

/-! ### Value classes -/

/-- Least value of a class. -/
def ValueClass.lo : ValueClass → Int
  | .temp => -5000
  | .pres => 0
  | .flow => 0
  | .conc => 0
  | .speed => 0
  | .power => 0
  | .frac => 0
  | .level => 0

/-- Greatest value of a class. -/
def ValueClass.hi : ValueClass → Int
  | .temp => 40000
  | .pres => 400000
  | .flow => 100000
  | .conc => 5000
  | .speed => 9999
  | .power => 100000
  | .frac => 10000
  | .level => 1

/-- "Clamped to a class". -/
def ValueClass.clamp (c : ValueClass) (v : Int) : Int := Machine.clamp c.lo c.hi v

/-- Whether a value lies in the class. -/
def ValueClass.has (c : ValueClass) (v : Int) : Bool := within c.lo c.hi v

/-- The class of a constraint target (section 5.1). -/
def Target.cls : Target → ValueClass
  | .brineFloor => .temp
  | .wellFloor _ => .pres
  | .pumpCeil _ => .frac
  | .pumpCeilAll => .frac

/-- Whether a target is a floor (section 5.1). -/
def Target.isFloor : Target → Bool
  | .brineFloor => true
  | .wellFloor _ => true
  | .pumpCeil _ => false
  | .pumpCeilAll => false

/-! ### Choices (numbered from 0 in the order of their defining table, R209) -/

/-- The value of a choice byte in the list of its values; none beyond the last (BAD_FIELD). -/
def choice {α : Type} (values : List α) (n : Nat) : Option α := values[n]?

/-- A yes-or-no byte. -/
def yesNo (n : Nat) : Option Bool := choice [false, true] n

/-- An identifier below n. -/
def ident (n v : Nat) : Option (Fin n) := if h : v < n then some ⟨v, h⟩ else none

/-- An optional identifier below n. -/
def optIdent (n : Nat) : Option Nat → Option (Option (Fin n))
  | none => some none
  | some v => (ident n v).map some

/-- Refuse unless a condition holds. -/
def require (c : Bool) : Option Unit := if c then some () else none

def Source.choices : List Source := [.none, .field, .discrete, .speed, .supervisory]

def ValueClass.choices : List ValueClass := [.temp, .pres, .flow, .conc, .speed, .power, .frac, .level]

def EntryKind.choices : List EntryKind := [.readU16, .readS16, .readU8, .readU16St, .writeDrive, .probe]

def EdgeKind.choices : List EdgeKind := [.rising, .falling, .any]

def SiteKind.choices : List SiteKind := [.none, .silica, .calcite]

/-- A constraint target from its two bytes; a well number must be 0 where the target has none (R104, R209). -/
def targetOf (kind well : Nat) : Option Target :=
  match kind with
  | 0 => if well = 0 then some .brineFloor else none
  | 1 => (ident 8 well).map Target.wellFloor
  | 2 => (ident 8 well).map Target.pumpCeil
  | 3 => if well = 0 then some .pumpCeilAll else none
  | _ => none

/-- A site's action from its two bytes (R209). A well number other than 0 beside NONE or BRINE_FLOOR is taken as out of the
field's range (DEDUCED, log 41). -/
def actionOf (kind well : Nat) : Option SiteAction :=
  match kind with
  | 0 => if well = 0 then some .none else none
  | 1 => if well = 0 then some .brineFloor else none
  | 2 => (ident 8 well).map SiteAction.wellFloor
  | _ => none

/-- A site's concSource from its two bytes (R209). A point number other than 0 beside FIXED is taken as out of the field's range
(DEDUCED, log 41). -/
def concSourceOf (kind point : Nat) : Option ConcSource :=
  match kind with
  | 0 => if point = 0 then some .fixed else none
  | 1 => (ident 96 point).map ConcSource.point
  | _ => none

/-! ### Step (1) of the configuring requests -/

/-- Step (1) of R1 over the stored configuration: the fields that belong to the source are taken and checked, the fields of
other sources are ignored and keep what is stored (R209), and source NONE keeps every other field (log 22). -/
def PointFields.check (q : PointFields) (old : PointConfig) : Option PointConfig := do
  let source ← choice Source.choices q.source
  let cls ← choice ValueClass.choices q.cls
  require (withinNat 1 65535 q.staleLimit && withinNat 1 15 q.failLimit && withinNat 1 255 q.recoveryPeriod)
  let shared : PointConfig :=
    { old with source := source, cls := cls, staleLimit := q.staleLimit, failLimit := q.failLimit,
               recoveryPeriod := q.recoveryPeriod }
  match source with
  | .none => some { old with source := .none }
  | .field => do
    require (within (-32768) 65535 q.rawLo && within (-32768) 65535 q.rawHi && decide (q.rawLo ≠ q.rawHi) &&
      within (-2147483648) 2147483647 q.engLo && within (-2147483648) 2147483647 q.engHi &&
      withinNat 0 65535 q.faultBand)
    some { shared with rawLo := q.rawLo, rawHi := q.rawHi, engLo := q.engLo, engHi := q.engHi, faultBand := q.faultBand }
  | .discrete => do
    require (decide (cls = .level))
    let line ← ident 24 q.line
    some { shared with line := line }
  | .speed => do
    require (decide (cls = .speed))
    some shared
  | .supervisory => some shared

/-- The field checks of R27; the pair is enabled and the rest of the configuration. -/
def LineFields.check (q : LineFields) : Option (Bool × LineConfig) := do
  let enabled ← yesNo q.enabled
  let fast ← yesNo q.rate
  let autoRecover ← yesNo q.autoRecover
  require (withinNat 1 100 q.clockHold && withinNat 1 1000 q.passInterval)
  some (enabled, { fast := fast, clockHold := q.clockHold, passInterval := q.passInterval, autoRecover := autoRecover })

/-- Whether an entry kind is one of the READ kinds (section 2.3). -/
def EntryKind.isRead : EntryKind → Bool
  | .readU16 => true
  | .readS16 => true
  | .readU8 => true
  | .readU16St => true
  | .writeDrive => false
  | .probe => false

/-- The entry checks of R30, given the sources of the points. An item given with a PROBE is discarded. -/
def EntryFields.check (q : EntryFields) (source : Fin 96 → Source) : Option Entry := do
  let kind ← choice EntryKind.choices q.kind
  let stopPolicy ← choice [true, false] q.errorPolicy
  require (withinNat 8 119 q.station && withinNat 1 16 q.every && decide (q.phase < q.every))
  match kind with
  | .probe => do
    require q.target.isNone
    some ⟨q.station, kind, none, .none, stopPolicy, q.every, q.phase⟩
  | .writeDrive => do
    let item ← q.item
    require (decide (item ≤ 255))
    let number ← q.target
    let drive ← ident 15 number
    some ⟨q.station, kind, some item, .drive drive, stopPolicy, q.every, q.phase⟩
  | _ => do
    let item ← q.item
    require (decide (item ≤ 255))
    match q.target with
    | none => some ⟨q.station, kind, some item, .none, stopPolicy, q.every, q.phase⟩
    | some number => do
      let point ← ident 96 number
      require (decide (source point = .none) || decide (source point = .field))
      some ⟨q.station, kind, some item, .point point, stopPolicy, q.every, q.phase⟩

/-- Step (1) of R53: the line and its configuration. In ROLE the direction given is not checked, and the stored direction is that
of the role. -/
def DiscreteFields.check (q : DiscreteFields) : Option (Fin 24 × DiscreteConfig) := do
  let line ← ident 24 q.line
  let general ← yesNo q.select
  let out ← if general then yesNo q.direction else some (roleIsOutput line)
  let inverted ← yesNo q.polarity
  let edge ← yesNo q.sense
  let edgeKind ← choice EdgeKind.choices q.edgeKind
  require (withinNat 0 255 q.debounce && withinNat 1 255 q.mismatchTime)
  require (general || hasRole line)
  require (!edge || (general && !out))
  some (line, { role := !general, out := out, inverted := inverted, edge := edge,
                edgeKind := edgeKind, debounce := q.debounce, mismatchTime := q.mismatchTime })

/-- Step (1) of R109: the well, its configuration with the target clamped, and whether the clamp changed the target. -/
def WellFields.check (q : WellFields) : Option (Fin 8 × WellConfig × Bool) := do
  let well ← ident 8 q.well
  let enabled ← yesNo q.enabled
  let intakePoint ← optIdent 96 q.intakePoint
  let windingPoint ← optIdent 96 q.windingPoint
  let flowPoint ← optIdent 96 q.flowPoint
  let autoRestart ← yesNo q.autoRestart
  require (ValueClass.frac.has q.minSpeed && within q.minSpeed 10000 q.maxSpeed && withinNat 1 10000 q.rampRate &&
    ValueClass.pres.has q.ownFloor && within 0 100000 q.floorBand && withinNat 0 10000 q.floorGain &&
    within 0 100000 q.floorHys && withinNat 1 600 q.floorConfirm && ValueClass.temp.has q.windTrip &&
    within 0 5000 q.windDelta && within 0 5000 q.windHys && withinNat 1 60 q.startTimeout &&
    withinNat 1 60 q.stopTimeout && withinNat 0 3600 q.minOff && withinNat 1 10 q.maxStarts &&
    withinNat 1 15 q.tripLimit && withinNat 1 24 q.tripRecovery && withinNat 1 60 q.deliveryLimit)
  let target := clamp q.minSpeed q.maxSpeed q.target
  some (well,
    { enabled := enabled, intakePoint := intakePoint, windingPoint := windingPoint, flowPoint := flowPoint,
      minSpeed := q.minSpeed, maxSpeed := q.maxSpeed, rampRate := q.rampRate, target := target, ownFloor := q.ownFloor,
      floorBand := q.floorBand, floorGain := q.floorGain, floorHys := q.floorHys, floorConfirm := q.floorConfirm,
      windTrip := q.windTrip, windDelta := q.windDelta, windHys := q.windHys, startTimeout := q.startTimeout,
      stopTimeout := q.stopTimeout, minOff := q.minOff, maxStarts := q.maxStarts, tripLimit := q.tripLimit,
      tripRecovery := q.tripRecovery, deliveryLimit := q.deliveryLimit, autoRestart := autoRestart },
    decide (target ≠ q.target))

/-- Step (1) of R136: the turbine's configuration with loadTarget clamped, the speed unit's, and whether the clamp changed
loadTarget. -/
def TurbineFields.check (q : TurbineFields) : Option (TurbineConfig × SpeedConfig × Bool) := do
  let headerPoint ← optIdent 96 q.headerPoint
  let flowPoint ← optIdent 96 q.flowPoint
  let powerPoint ← optIdent 96 q.powerPoint
  let speedPoint ← optIdent 96 q.speedPoint
  require (withinNat 8 240 q.teeth && within 1 9999 q.ovsLimit && withinNat 50 5000 q.lossTime &&
    within 100 9999 q.syncSpeed && within 1 500 q.syncBand && withinNat 1 600 q.syncHold &&
    withinNat 10 2000 q.accelRate && withinNat 10 3600 q.rollTimeout && within 0 100000 q.minLoad &&
    within q.minLoad 100000 q.maxLoad && withinNat 10 10000 q.loadRate && ValueClass.pres.has q.headerSetpoint &&
    ValueClass.pres.has q.headerMin && withinNat 1 600 q.headerConfirm && within 1 100000 q.extractionMax &&
    within 0 100000 q.extractionMinLoad && withinNat 1 60 q.breakerTimeout && within 1 100000 q.verifyFlow &&
    withinNat 1 600 q.tripVerifyTime && ValueClass.frac.has q.runbackSpeed && withinNat 0 10000 q.speedKp &&
    withinNat 0 10000 q.speedKi && withinNat 0 10000 q.powerKp && withinNat 0 10000 q.powerKi &&
    withinNat 0 10000 q.headerKp && withinNat 0 10000 q.headerKi && withinNat 1 60 q.deliveryLimit)
  require (decide (q.syncSpeed + q.syncBand < q.ovsLimit))
  let loadTarget := clamp q.minLoad q.maxLoad q.loadTarget
  some (
    { headerPoint := headerPoint, flowPoint := flowPoint, powerPoint := powerPoint, speedPoint := speedPoint,
      syncSpeed := q.syncSpeed, syncBand := q.syncBand, syncHold := q.syncHold, accelRate := q.accelRate,
      rollTimeout := q.rollTimeout, minLoad := q.minLoad, maxLoad := q.maxLoad, loadRate := q.loadRate,
      loadTarget := loadTarget, headerSetpoint := q.headerSetpoint, headerMin := q.headerMin,
      headerConfirm := q.headerConfirm, extractionMax := q.extractionMax, extractionMinLoad := q.extractionMinLoad,
      breakerTimeout := q.breakerTimeout, verifyFlow := q.verifyFlow, tripVerifyTime := q.tripVerifyTime,
      runbackSpeed := q.runbackSpeed, speedKp := q.speedKp, speedKi := q.speedKi, powerKp := q.powerKp,
      powerKi := q.powerKi, headerKp := q.headerKp, headerKi := q.headerKi, deliveryLimit := q.deliveryLimit },
    { teeth := q.teeth, ovsLimit := q.ovsLimit, lossTime := q.lossTime }, decide (loadTarget ≠ q.loadTarget))

/-- Step (1) of R160. -/
def HeatingFields.check (q : HeatingFields) : Option HeatingConfig := do
  let outdoorPoint ← optIdent 96 q.outdoorPoint
  let supplyPoint ← optIdent 96 q.supplyPoint
  let returnPoint ← optIdent 96 q.returnPoint
  let netFlowPoint ← optIdent 96 q.netFlowPoint
  let brineInPoint ← optIdent 96 q.brineInPoint
  let brineOutPoint ← optIdent 96 q.brineOutPoint
  let brineFlowPoint ← optIdent 96 q.brineFlowPoint
  require (ValueClass.temp.has q.brineFloorDefault && ValueClass.temp.has q.supplyMax && within 0 5000 q.supplyHys &&
    withinNat 1 3600 q.shortConfirm && withinNat 0 10000 q.supplyKp && withinNat 0 10000 q.supplyKi &&
    withinNat 0 10000 q.floorKp && withinNat 0 10000 q.floorKi)
  some { outdoorPoint := outdoorPoint, supplyPoint := supplyPoint, returnPoint := returnPoint, netFlowPoint := netFlowPoint,
         brineInPoint := brineInPoint, brineOutPoint := brineOutPoint, brineFlowPoint := brineFlowPoint,
         brineFloorDefault := q.brineFloorDefault, supplyMax := q.supplyMax, supplyHys := q.supplyHys,
         shortConfirm := q.shortConfirm, supplyKp := q.supplyKp, supplyKi := q.supplyKi, floorKp := q.floorKp,
         floorKi := q.floorKi }

/-- Whether a margin lies in the range its kind of site gives it (section 4.1). The table gives kind NONE no range,
and there the model checks none (DESIGN CHOICE, log 68). -/
def marginOk : SiteKind → Int → Bool
  | .none, _ => true
  | .silica, m => within 0 5000 m
  | .calcite, m => within 0 1000 m

/-- Whether a fallback floor is a value of the class its kind of site gives it (section 4.1). The table gives kind NONE no class, and there
the model checks none (DESIGN CHOICE, log 68). -/
def fallbackOk : SiteKind → Int → Bool
  | .none, _ => true
  | .silica, v => ValueClass.temp.has v
  | .calcite, v => ValueClass.pres.has v

/-- Whether a kind of site allows an action (R71 step 1). R71 refuses each action only with the kind that has the other, and the table
gives BRINE_FLOOR to SILICA only and WELL_FLOOR to CALCITE only: with kind NONE, of which R71 says nothing, the model takes and stores
either (DESIGN CHOICE, log 68). -/
def actionOk : SiteKind → SiteAction → Bool
  | .calcite, .brineFloor => false
  | .silica, .wellFloor _ => false
  | _, _ => true

/-- Step (1) of R71. Fields that do not belong to the kind given are stored; their own ranges are checked where the table
states one without regard to the kind. -/
def SiteFields.check (q : SiteFields) : Option (Fin 12 × SiteConfig) := do
  let site ← ident 12 q.site
  let kind ← choice SiteKind.choices q.kind
  let tempPoint ← optIdent 96 q.tempPoint
  let concSource ← concSourceOf q.concKind q.concPoint
  let presPoint ← optIdent 96 q.presPoint
  let action ← actionOf q.actionKind q.actionWell
  let station ← optIdent 4 q.station
  require (ValueClass.conc.has q.fixedConc && withinNat 800 3000 q.onset && actionOk kind action &&
    marginOk kind q.margin && marginOk kind q.alarmMargin && marginOk kind q.inhibitorLostMargin &&
    fallbackOk kind q.fallbackFloor && ValueClass.frac.has q.doseBase && withinNat 0 10000 q.doseGain &&
    withinNat 1 36000000 q.alertDose && decide (q.clearDose < q.alertDose) && withinNat 60 3600 q.confirmTime &&
    withinNat 1 4294967295 q.serviceDose && ValueClass.pres.has q.flashBase && ValueClass.temp.has q.flashTemp &&
    within (-10000) 10000 q.slope)
  some (site,
    { kind := kind, tempPoint := tempPoint, concSource := concSource, fixedConc := q.fixedConc, presPoint := presPoint,
      onset := q.onset, action := action, margin := q.margin, alarmMargin := q.alarmMargin,
      inhibitorLostMargin := q.inhibitorLostMargin, fallbackFloor := q.fallbackFloor, station := station,
      doseBase := q.doseBase, doseGain := q.doseGain, alertDose := q.alertDose, clearDose := q.clearDose,
      confirmTime := q.confirmTime, serviceDose := q.serviceDose, flashBase := q.flashBase, flashTemp := q.flashTemp,
      slope := q.slope })

/-- The checks of R162 on the breakpoints. -/
def curveOk (curve : List (Int × Int)) : Bool :=
  withinNat 2 8 curve.length && curve.all (fun b => ValueClass.temp.has b.1 && ValueClass.temp.has b.2) &&
    (curve.zip curve.tail).all (fun p => decide (p.1.1 < p.2.1))

end Sys2Proof.Machine
end

