-- ==== Sys2Proof/Machine/Ops.lean ====
section
/-! DEFINITION. The named operations every block shares: replacing one record of a bank, readings and attempts of points
(R6, R7), writes and deliveries of drives (R19 to R22), the loop law (R24 to R26), posts and withdrawals of the constraint
table (R98 to R102), and the role level of a discrete line (R54, R57). -/

namespace Sys2Proof.Machine

/-! ### Replacing one record -/

def State.modPoint (s : State) (i : Fin 96) (f : Point → Point) : State := { s with points := modifyAt s.points i f }

def State.modDrive (s : State) (i : Fin 15) (f : Drive → Drive) : State := { s with drives := modifyAt s.drives i f }

def State.modLine (s : State) (i : Fin 3) (f : Line → Line) : State := { s with lines := modifyAt s.lines i f }

def State.modDiscrete (s : State) (i : Fin 24) (f : Discrete → Discrete) : State :=
  { s with discretes := modifyAt s.discretes i f }

def State.modSite (s : State) (i : Fin 12) (f : Site → Site) : State := { s with sites := modifyAt s.sites i f }

def State.modWell (s : State) (i : Fin 8) (f : Well → Well) : State := { s with wells := modifyAt s.wells i f }

def State.modTurbine (s : State) (f : Turbine → Turbine) : State := { s with turbine := f s.turbine }

def State.modHeating (s : State) (f : Heating → Heating) : State := { s with heating := f s.heating }

def State.modLink (s : State) (f : Link → Link) : State := { s with link := f s.link }

def State.modConditions (s : State) (f : Conditions → Conditions) : State := { s with conditions := f s.conditions }

def State.modSpeed (s : State) (f : SpeedUnit → SpeedUnit) : State := { s with speedUnit := f s.speedUnit }

def State.modSupervision (s : State) (f : Supervision → Supervision) : State := { s with supervision := f s.supervision }

/-! ### Points -/

/-- Whether a point is configured (R1). -/
def Point.configured (p : Point) : Bool := decide (p.cfg.source ≠ .none)

/-- Whether a quality is usable (section 1.3). -/
def Quality.usable : Quality → Bool
  | .good => true
  | .held => true
  | .subst => true
  | .unset => false
  | .stale => false
  | .failed => false

/-- The usable value of a point: the substitute in SUBST, the value in GOOD and HELD, else absent (section 1.3). -/
def Point.usableValue (p : Point) : Option Int :=
  match p.quality with
  | .good => p.value
  | .held => p.value
  | .subst => p.cfg.substitute
  | .unset => none
  | .stale => none
  | .failed => none

/-- A failed point: FAILED or SUBST. -/
def Quality.isFailed : Quality → Bool
  | .failed => true
  | .subst => true
  | _ => false

/-- A good read of value v (R6). -/
def Point.goodRead (v : Int) (clamped : Bool) (p : Point) : Point :=
  let p := { p with lastRead := some ⟨v, 0, clamped⟩, lastAttemptOk := true, clampedFlag := clamped }
  if p.quality.isFailed then p else { p with quality := .good, value := some v, age := 0 }

/-- Where a point goes when failCount has reached failLimit: SUBST with a substitute, FAILED without (R7, R3). -/
def Point.failedQuality (p : Point) : Quality := if p.cfg.substitute.isSome then .subst else .failed

/-- A failed read (R7). -/
def Point.failedRead (p : Point) : Point :=
  let count := if p.failCount = p.cfg.failLimit then p.failCount else p.failCount + 1
  let timer := if p.failCount = 0 ∧ count = 1 then some (p.cfg.recoveryPeriod * 1000) else p.recoveryTimer
  let quality :=
    if p.quality.isFailed then p.quality
    else if count = p.cfg.failLimit then p.failedQuality
    else if p.quality = .good then .held
    else p.quality
  { p with lastAttemptOk := false, failCount := count, recoveryTimer := timer, quality := quality }

/-- A job reads the point it binds (R15). An unbound point gives no view. -/
def readView (s : State) (binding : Option (Fin 96)) : Option PointView :=
  binding.map (fun i => ⟨s.points[i].quality, s.points[i].usableValue⟩)

/-- The usable value of a bound point, absent where it is not usable or not bound (R15). -/
def boundValue (s : State) (binding : Option (Fin 96)) : Option Int := binding.bind (fun i => s.points[i].usableValue)

/-- The usable value of a view. -/
def viewValue (v : Option PointView) : Option Int := v.bind (fun p => p.usable)

/-! ### Drives -/

/-- Whether an entry writes the drive. -/
def Entry.writes (d : Fin 15) (e : Entry) : Bool := decide (e.kind = .writeDrive) && decide (e.target = .drive d)

/-- Whether an active schedule names the drive in a WRITE_DRIVE entry (R20). -/
def Line.names (l : Line) (d : Fin 15) : Bool := l.active.any (fun e => e.entry.writes d)

/-- Whether the active schedule of any line names the drive (R20). -/
def driveBound (s : State) (d : Fin 15) : Bool := s.lines.toList.any (fun l => l.names d)

/-- A write of a drive's value: the value held already is no change; a change makes DELIVERED PENDING (R19, R22). -/
def Drive.write (v : Int) (d : Drive) : Drive :=
  if v = d.value then d
  else { d with value := v, delivery := if d.delivery = .delivered then .pending else d.delivery }

/-- Write the value of drive i. -/
def writeDrive (i : Fin 15) (v : Int) (s : State) : State := s.modDrive i (Drive.write v)

/-- A success delivering a sample (R21). -/
def Drive.success (sample : Int) (d : Drive) : Drive :=
  { d with lastDelivered := some sample, failingSince := none, failingFor := none,
           delivery := if d.value = sample then .delivered else .pending }

/-- A failed delivery at the given plant clock (R21). -/
def Drive.failure (clock : Nat) (d : Drive) : Drive :=
  if d.delivery = .failing then d
  else { d with delivery := .failing, failingSince := some clock, failingFor := some 0 }

/-- The delivery state a drive takes from the active schedules after a swap (R20). -/
def Drive.rebind (bound : Bool) (d : Drive) : Drive :=
  if bound then (if d.delivery = .unbound then { d with delivery := .pending } else d)
  else { d with delivery := .unbound, failingSince := none, failingFor := none }

/-- "FAILING for longer than deliveryLimit" (R22). -/
def Drive.lost (deliveryLimit : Nat) (d : Drive) : Bool :=
  decide (d.delivery = .failing) && d.failingFor.any (fun n => decide (deliveryLimit < n))

/-- The drive of a well, a dosing station, and the three others (00_scope.md). -/
def wellDrive (k : Fin 8) : Fin 15 := ⟨k.val, by omega⟩

def admissionDrive : Fin 15 := 8

def extractionDrive : Fin 15 := 9

def bypassDrive : Fin 15 := 10

def dosingDrive (j : Fin 4) : Fin 15 := ⟨11 + j.val, by omega⟩

/-! ### Which owners are active (table of section 1.6) -/

/-- STARTING and the running states (section 6.2). -/
def WellState.energised : WellState → Bool
  | .starting => true
  | .running => true
  | .throttle2 => true
  | .throttle1 => true
  | _ => false

/-- RUNNING, THROTTLE_2 and THROTTLE_1 (section 6.2). -/
def WellState.isRunning : WellState → Bool
  | .running => true
  | .throttle2 => true
  | .throttle1 => true
  | _ => false

/-- A well at rest: OFF, TRIPPED or LOCKED_OUT (R54, R211). -/
def WellState.atRest : WellState → Bool
  | .off => true
  | .tripped => true
  | .lockedOut => true
  | _ => false

/-- ROLLING, SYNC_WAIT, LOADED and UNLOADING (section 7.2). -/
def TurbineState.energised : TurbineState → Bool
  | .rolling => true
  | .syncWait => true
  | .loaded => true
  | .unloading => true
  | .tripped => false
  | .stopped => false

/-- Whether the owner of a drive is active (table of section 1.6). -/
def ownerActive (s : State) (d : Fin 15) : Bool :=
  if h : d.val < 8 then s.wells[d.val].state.energised
  else if d.val < 10 then s.turbine.state.energised
  else if d.val = 10 then decide (s.heating.state ≠ .off)
  else decide (s.phase = .run)

/-! ### The loop law (section 1.7) -/

/-- P of a loop (R24 step 1). -/
def loopP (error : Int) (kp : Nat) : Int := truncDiv (error * kp) 1000

/-- One run of a loop with its integral free (R24); the error is the owner's, formed by its direction. -/
def Loop.run (setpoint measurement error : Int) (kp ki : Nat) (l : Loop) : Loop :=
  let p := loopP error kp
  let increment := truncDiv (error * ki) 1000
  let omitted := (l.output = 10000 ∧ 0 < increment) ∨ (l.output = 0 ∧ increment < 0)
  let i := clamp 0 10000 (if omitted then l.integral else l.integral + increment)
  { setpoint := setpoint, measurement := measurement, gains := some (kp, ki), integral := i, output := clamp 0 10000 (p + i),
    held := false }

/-- One run of a held loop (R25): step 2 is not performed. -/
def Loop.runHeld (setpoint measurement error : Int) (kp ki : Nat) (l : Loop) : Loop :=
  let i := clamp 0 10000 l.integral
  { setpoint := setpoint, measurement := measurement, gains := some (kp, ki), integral := i,
    output := clamp 0 10000 (loopP error kp + i), held := true }

/-- The starting run of a loop (R26). It leaves held at no, for both loops of the heat exchange unit too: neither R26 nor R173 states
held there, and section 8.3 calls selected "the loop not held at the last run" (DESIGN CHOICE, log 55). -/
def Loop.start (setpoint measurement error : Int) (kp ki : Nat) (outputBefore : Int) (_l : Loop) : Loop :=
  let p := loopP error kp
  let i := clamp 0 10000 (outputBefore - p)
  { setpoint := setpoint, measurement := measurement, gains := some (kp, ki), integral := i, output := clamp 0 10000 (p + i),
    held := false }

/-! ### The constraint table (chapter 05) -/

/-- The slot of a scaling site, of the turbine governor, of supervision, and of the pool (section 5.2). -/
def siteSlot (i : Fin 12) : Fin 22 := ⟨i.val, by omega⟩

def runbackSlot : Fin 22 := 12

def fallbackSlot : Fin 22 := 13

def poolSlot (j : Fin 8) : Fin 22 := ⟨14 + j.val, by omega⟩

/-- The default of a target (R97). -/
def targetDefault (s : State) (t : Target) : Int :=
  match t with
  | .brineFloor => s.heating.cfg.brineFloorDefault
  | .wellFloor k => s.wells[k].cfg.ownFloor
  | .pumpCeil _ => 10000
  | .pumpCeilAll => 10000

/-- The value a slot posts for a target, if any. -/
def postedFor (slots : Vector (Option Post) 22) (t : Target) (k : Fin 22) : Option Int :=
  slots[k].bind (fun p => if p.target = t then some p.value else none)

/-- The stricter of two values of a target: the greater floor, the lesser ceiling (R100). -/
def stricter (t : Target) (a b : Int) : Int := if t.isFloor then max a b else min a b

/-- The effective bound of a target: its default combined with every posted value (R100). -/
def effectiveBound (slots : Vector (Option Post) 22) (dflt : Int) (t : Target) : Int :=
  ((indexes 22).filterMap (postedFor slots t)).foldl (stricter t) dflt

/-- The lowest-numbered slot that posts the given value for a target (R101). -/
def bindingSlot (slots : Vector (Option Post) 22) (t : Target) (v : Int) : Option (Fin 22) :=
  firstIndex 22 (fun k => decide (postedFor slots t k = some v))

/-- Effective bound and binding origin of a target (R100, R101). -/
def boundOf (s : State) (t : Target) : Bound :=
  let v := effectiveBound s.slots (targetDefault s t) t
  ⟨v, bindingSlot s.slots t v⟩

/-- The combined ceiling of a well and its binding origin, from the effective bounds the table holds (R102). -/
def combinedOf (s : State) (k : Fin 8) : Bound :=
  let v := min s.bounds[(Target.pumpCeil k).index].value s.bounds[Target.pumpCeilAll.index].value
  ⟨v, firstIndex 22 (fun j => decide (postedFor s.slots (.pumpCeil k) j = some v) ||
        decide (postedFor s.slots .pumpCeilAll j = some v))⟩

/-- Recompute the combined ceilings that a recomputation of a target's bound touches (R102). -/
def recomputeCombined (t : Target) (s : State) : State :=
  match t with
  | .pumpCeil k => { s with combined := s.combined.set k.val (combinedOf s k) }
  | .pumpCeilAll => { s with combined := Vector.ofFn (fun k => combinedOf s k) }
  | .brineFloor => s
  | .wellFloor _ => s

/-- Recompute a target's effective bound and binding origin (R100, R101), and the combined ceilings with it (R102). -/
def recompute (t : Target) (s : State) : State :=
  recomputeCombined t { s with bounds := s.bounds.set t.index.val (boundOf s t) }

/-- A post of a value for a target into a slot (R98). -/
def post (k : Fin 22) (t : Target) (v : Int) (s : State) : State :=
  let old := s.slots[k]
  let s := { s with slots := s.slots.set k.val (some ⟨t, t.cls.clamp v, s.clock⟩) }
  let s := recompute t s
  match old with
  | some p => if p.target = t then s else recompute p.target s
  | none => s

/-- A withdrawal of a slot (R99). -/
def withdraw (k : Fin 22) (s : State) : State :=
  match s.slots[k] with
  | none => s
  | some p => recompute p.target { s with slots := s.slots.set k.val none }

/-! ### Role levels of the discrete lines (R54, R57) -/

/-- The level an owning block sees on a line: the debounced level of a ROLE input, 0 otherwise. -/
def Discrete.roleLevel (l : Discrete) : Bool := l.cfg.role && !l.cfg.out && l.level

/-- The lines by role (table of section 3.1). -/
def runLine (k : Fin 8) : Fin 24 := ⟨k.val, by omega⟩

def feedbackLine (k : Fin 8) : Fin 24 := ⟨8 + k.val, by omega⟩

def stopValveLine : Fin 24 := 16

def breakerOpenLine : Fin 24 := 17

def breakerClosedLine : Fin 24 := 18

def estopLine : Fin 24 := 19

def alarmLine : Fin 24 := 20

/-- Role level of FBK_Wk. -/
def feedback (s : State) (k : Fin 8) : Bool := s.discretes[feedbackLine k].roleLevel

/-- Role level of BRK_CLOSED. -/
def breakerClosed (s : State) : Bool := s.discretes[breakerClosedLine].roleLevel

/-- The ESTOP condition: the emergency stop is active while D19 is in ROLE with role level 1 (R64). -/
def estopActive (s : State) : Bool := s.discretes[estopLine].roleLevel

/-- Whether a line is in ROLE. -/
def inRole (s : State) (d : Fin 24) : Bool := s.discretes[d].cfg.role

end Sys2Proof.Machine
end

