-- ==== Sys2Proof/Machine/Flags.lean ====
section
/-! DEFINITION. The flags: the 42 members of the condition set (section 9.1), the role commands that follow from the blocks'
states (R58, R111, R138, R191), the mismatch flags (R59), and what the condition unit does with the changes of one event
taken together (R182 to R191). -/

namespace Sys2Proof.Machine

/-! ### Outputs and their readback (R58, R59) -/

/-- Judge the mismatch timer after a change of level, of commanded or of direction: an output whose level differs from
commanded runs it, every other line has it stopped and its flag clear (R59). -/
def Discrete.judgeMismatch (l : Discrete) : Discrete :=
  if l.cfg.out && l.level != l.commanded then
    if l.mismatch || l.mismatchTimer.isSome then l else { l with mismatchTimer := some (l.cfg.mismatchTime * 10) }
  else { l with mismatchTimer := none, mismatch := false }

/-- Set the level a line drives; the pad follows at once (R58). -/
def Discrete.setCommanded (c : Bool) (l : Discrete) : Discrete :=
  if l.commanded = c then l else { l with commanded := c }.judgeMismatch

/-- The owning block asks for a level; while the line is in ROLE, commanded equals roleCommand (R58). -/
def Discrete.setRoleCommand (c : Bool) (l : Discrete) : Discrete :=
  if l.cfg.role then { l with roleCommand := c }.setCommanded c else { l with roleCommand := c }

/-- The pad as the part drives it: none while released, else the pad level that gives commanded under the polarity
(R55, R65). -/
def padDriven (s : State) (d : Fin 24) : Option Bool :=
  let l := s.discretes[d]
  if s.initialising || !l.cfg.out then none else some (l.commanded != l.cfg.inverted)

/-- Command a role output. -/
def commandRole (d : Fin 24) (c : Bool) (s : State) : State := s.modDiscrete d (Discrete.setRoleCommand c)

/-- The level BRK_OPEN_CMD asks for (R138). -/
def breakerOpenDemand (s : State) : Bool :=
  match s.turbine.state with
  | .stopped => breakerClosed s
  | .tripped => breakerClosed s
  | .rolling => false
  | .syncWait => false
  | .loaded => false
  | .unloading => s.turbine.openCommanded

/-- Give the run lines, the stop-valve hold and the breaker command the level their owner's state asks for (R111, R138).
Each owner changes them in the event that changes its state, and the event is one step. -/
def settleOutputs (s : State) : State :=
  let s := forEach 8 (fun k s => commandRole (runLine k) s.wells[k].state.energised s) s
  let s := commandRole stopValveLine s.turbine.state.energised s
  commandRole breakerOpenLine (breakerOpenDemand s) s

/-! ### The condition set (section 9.1) -/

/-- The 42 members by name. -/
inductive Member where
  | wTrip (k : Fin 8)
  | wLockout (k : Fin 8)
  | tTrip
  | stopValveFail
  | loadReject
  | supplyShort
  | supplyCut
  | sAlarm (i : Fin 12)
  | serviceDue
  | scaleInputLost
  | flFault (i : Fin 3)
  | pointFailed
  | dioMismatch
  | estop
  | fallback
  deriving DecidableEq, Repr

/-- The member of each member number (table of section 9.1). -/
def Member.ofNumber (n : Fin 42) : Member :=
  if h : n.val < 8 then .wTrip ⟨n.val, h⟩
  else if h : n.val < 16 then .wLockout ⟨n.val - 8, by omega⟩
  else if n.val = 16 then .tTrip
  else if n.val = 17 then .stopValveFail
  else if n.val = 18 then .loadReject
  else if n.val = 19 then .supplyShort
  else if n.val = 20 then .supplyCut
  else if h : n.val < 33 then .sAlarm ⟨n.val - 21, by omega⟩
  else if n.val = 33 then .serviceDue
  else if n.val = 34 then .scaleInputLost
  else if h : n.val < 38 then .flFault ⟨n.val - 35, by omega⟩
  else if n.val = 38 then .pointFailed
  else if n.val = 39 then .dioMismatch
  else if n.val = 40 then .estop
  else .fallback

/-- Reporting class "either" (column Class of section 9.1); the other members are of class "set only". -/
def Member.either : Member → Bool
  | .wLockout _ => false
  | .stopValveFail => false
  | .loadReject => false
  | .serviceDue => false
  | _ => true

/-- What each owner finds of its member (column "Set while" of section 9.1). -/
def Member.found (s : State) : Member → Bool
  | .wTrip k => decide (s.wells[k].state = .tripped)
  | .wLockout k => decide (s.wells[k].state = .lockedOut)
  | .tTrip => decide (s.turbine.state = .tripped)
  | .stopValveFail => s.turbine.stopValveFail
  | .loadReject => s.turbine.loadReject
  | .supplyShort => s.heating.supplyShort
  | .supplyCut => decide (s.heating.state = .cut)
  | .sAlarm i => decide (s.sites[i].level = .alarm)
  | .serviceDue =>
    s.sites.toList.any (fun x => decide (x.cfg.kind ≠ .none) && decide (x.cfg.serviceDose ≤ x.cumulativeDose))
  | .scaleInputLost => s.sites.toList.any (fun x => x.enabled && x.inputsLost)
  | .flFault i => decide (s.lines[i].state = .faulted)
  | .pointFailed => s.points.toList.any (fun p => p.configured && p.quality.isFailed)
  | .dioMismatch => s.discretes.toList.any (fun l => l.mismatch)
  | .estop => estopActive s
  | .fallback => decide (s.supervision.state = .fallback) || decide (s.supervision.state = .safeStop)

/-- The condition set as the owners find it. -/
def liveNow (s : State) : MemberSet := Vector.ofFn (fun n => (Member.ofNumber n).found s)

/-- The members of either set. -/
def MemberSet.union (a b : MemberSet) : MemberSet := Vector.ofFn (fun n => a[n] || b[n])

/-- The members of both sets. -/
def MemberSet.inter (a b : MemberSet) : MemberSet := Vector.ofFn (fun n => a[n] && b[n])

/-- The members in which two sets differ. -/
def MemberSet.differ (a b : MemberSet) : MemberSet := Vector.ofFn (fun n => a[n] != b[n])

/-- Whether a set holds at least one member. -/
def MemberSet.nonempty (a : MemberSet) : Bool := (indexes 42).any (fun n => a[n])

/-- Whether the changes from one live set to the next hold a counted change of a watched member (R183). -/
def watchedChange (before after watch : MemberSet) : Bool :=
  (indexes 42).any (fun n => watch[n] && before[n] != after[n] && ((Member.ofNumber n).either || after[n]))

/-! ### Snapshot, horn and alarm line (R184 to R191) -/

/-- Freeze the snapshot and ask for a CONDITION notice, replacing the content of a pending one (R184, R187). -/
def freeze (s : State) : State :=
  let c := s.conditions
  let number := wrapSucc 65535 c.number
  let fresh := MemberSet.differ c.live c.frozen
  let changed :=
    match s.link.condition with
    | some n => MemberSet.union n.changed fresh
    | none => fresh
  let s := s.modConditions (fun c =>
    { c with held := true, number := number, frozen := c.live, changed := changed, frozenAt := s.clock })
  s.modLink (fun l => { l with condition := some ⟨number, c.live, changed, s.clock⟩ })

/-- The unsilenced set after the live set has gone from one value to the next (R189). -/
def unsilencedAfter (before after horn unsilenced : MemberSet) : MemberSet :=
  Vector.ofFn (fun n => after[n] && (unsilenced[n] || (horn[n] && !before[n])))

/-- Give ALARM the level the unsilenced set asks for (R191). -/
def settleAlarm (s : State) : State := commandRole alarmLine s.conditions.unsilenced.nonempty s

/-- Take up the live set and let the unsilenced set and the alarm line follow (R182, R189, R191). -/
def takeUpLive (s : State) : State :=
  let before := s.conditions.live
  let after := liveNow s
  settleAlarm (s.modConditions (fun c =>
    { c with live := after, unsilenced := unsilencedAfter before after c.horn c.unsilenced }))

/-- What the condition unit does at the end of an event with all its changes (R182). The alarm line's own readback may clear
DIO_MISMATCH in the event that commands it, so the live set is taken up a second time (log 30). -/
def settleConditions (s : State) : State :=
  let before := s.conditions.live
  let s := takeUpLive (takeUpLive s)
  if !s.conditions.held && watchedChange before s.conditions.live s.conditions.watch then freeze s else s

end Sys2Proof.Machine
end

