-- ==== Sys2Proof/Machine/Reply.lean ====
section
/-! DEFINITION. What a reply or a notice carries (R202, R209): statuses, and the bytes of every content an owning rule names,
in the order the rule names it. -/

namespace Sys2Proof.Machine

open Wire

/-- Reply statuses (R202), coded as R209 codes them. -/
inductive Status where
  | ok | clamped | unknownKind | badLength | badField | state | inUse | locked | busy | badConfig
  deriving DecidableEq, Repr

/-- The status byte (R209). -/
def Status.code : Status → Nat
  | .ok => 0
  | .clamped => 1
  | .unknownKind => 2
  | .badLength => 3
  | .badField => 4
  | .state => 5
  | .inUse => 6
  | .locked => 7
  | .busy => 8
  | .badConfig => 9

/-- What an owner returns for a request: the status and the content or detail after it (R202). -/
structure Answer where
  status : Status
  content : List Byte
  deriving DecidableEq, Repr

/-- The Body of a reply: the status byte, then the content (R202). -/
def Answer.body (a : Answer) : List Byte := putByte a.status.code ++ a.content

/-- OK, or CLAMPED where an operating value was brought to its range (R202). -/
def okOr (clamped : Bool) (content : List Byte) : Answer := ⟨if clamped then .clamped else .ok, content⟩

/-- A refusal that changes nothing (R202). -/
def refuse (s : State) (status : Status) (detail : List Byte) : State × Answer := (s, ⟨status, detail⟩)

/-- An applied request. -/
def accept (s : State) (content : List Byte) : State × Answer := (s, ⟨.ok, content⟩)

/-! ### Codes of the choices in replies (R209: numbered in the order of their defining table) -/

def ValueClass.code : ValueClass → Nat
  | .temp => 0 | .pres => 1 | .flow => 2 | .conc => 3 | .speed => 4 | .power => 5 | .frac => 6 | .level => 7

def Source.code : Source → Nat
  | .none => 0 | .field => 1 | .discrete => 2 | .speed => 3 | .supervisory => 4

def Quality.code : Quality → Nat
  | .unset => 0 | .good => 1 | .held => 2 | .stale => 3 | .failed => 4 | .subst => 5

def Delivery.code : Delivery → Nat
  | .unbound => 0 | .pending => 1 | .delivered => 2 | .failing => 3

def EntryKind.code : EntryKind → Nat
  | .readU16 => 0 | .readS16 => 1 | .readU8 => 2 | .readU16St => 3 | .writeDrive => 4 | .probe => 5

def EntryOutcome.code : EntryOutcome → Nat
  | .ok => 0 | .addrNak => 1 | .dataNak => 2 | .stationFault => 3 | .badRaw => 4 | .heldClock => 5 | .heldData => 6
  | .aborted => 7 | .skipped => 8 | .notReached => 9

def LineState.code : LineState → Nat
  | .disabled => 0 | .idle => 1 | .passing => 2 | .recovering => 3 | .faulted => 4

def FaultCause.code : FaultCause → Nat
  | .heldData => 0 | .heldClock => 1

def EdgeKind.code : EdgeKind → Nat
  | .rising => 0 | .falling => 1 | .any => 2

def Signal.code : Signal → Nat
  | .silent => 0 | .acquiring => 1 | .measuring => 2 | .lost => 3

def SiteKind.code : SiteKind → Nat
  | .none => 0 | .silica => 1 | .calcite => 2

def SiteLevel.code : SiteLevel → Nat
  | .normal => 0 | .watch => 1 | .alert => 2 | .alarm => 3

def WellState.code : WellState → Nat
  | .off => 0 | .waitStart => 1 | .starting => 2 | .running => 3 | .throttle2 => 4 | .throttle1 => 5 | .stopping => 6
  | .suspended => 7 | .tripped => 8 | .lockedOut => 9

def StopTo.code : StopTo → Nat
  | .off => 0 | .suspended => 1

def SuspendCause.code : SuspendCause → Nat
  | .lowIntake => 0 | .windingHot => 1

/-- The four reasons of R117 in its order; CAUSE_PRESENT, which R126 adds, after them (DEDUCED, log 18). -/
def WaitReason.code : WaitReason → Nat
  | .noPermission => 0 | .minOff => 1 | .logFull => 2 | .feedbackPresent => 3 | .causePresent => 4

def WellTripCause.code : WellTripCause → Nat
  | .feedbackFail => 0 | .feedbackLost => 1 | .feedbackStuck => 2 | .driveLost => 3 | .estop => 4

def TurbineState.code : TurbineState → Nat
  | .tripped => 0 | .stopped => 1 | .rolling => 2 | .syncWait => 3 | .loaded => 4 | .unloading => 5

def TurbineMode.code : TurbineMode → Nat
  | .load => 0 | .header => 1

def TurbineLoop.code : TurbineLoop → Nat
  | .speed => 0 | .power => 1 | .header => 2

def TurbineTripCause.code : TurbineTripCause → Nat
  | .overspeed => 0 | .speedLost => 1 | .estop => 2 | .lowHeader => 3 | .rollTimeout => 4 | .admissionLost => 5
  | .breakerFail => 6 | .supervisoryTrip => 7 | .powerUp => 8

def HeatState.code : HeatState → Nat
  | .off => 0 | .active => 1 | .cut => 2 | .hold => 3

/-- holdFrom is a choice of its own, ACTIVE or CUT (section 8.3, R209). -/
def holdFromCode : HeatState → Nat
  | .cut => 1
  | .off => 0 | .active => 0 | .hold => 0

def HoldReason.code : HoldReason → Nat
  | .supplyPoint => 0 | .returnPoint => 1 | .netFlowPoint => 2 | .brineInPoint => 3 | .brineOutPoint => 4
  | .brineFlowPoint => 5 | .noTarget => 6

def Selected.code : Selected → Nat
  | .supply => 0 | .floor => 1

def ResetCause.code : ResetCause → Nat
  | .power => 0 | .pin => 1 | .soft => 2

def Phase.code : Phase → Nat
  | .config => 0 | .run => 1

def SupervisionState.code : SupervisionState → Nat
  | .disarmed => 0 | .armed => 1 | .fallback => 2 | .safeStop => 3

/-! ### Numbers of several records -/

/-- A plant clock, a dose or another number past 65535 (R209: 4 bytes). -/
def putLong (v : Nat) : List Byte := putNat 4 v

/-- A number of two bytes. -/
def putWord (v : Nat) : List Byte := putNat 2 v

/-- An optional identifier. -/
def putIdent {n : Nat} (v : Option (Fin n)) : List Byte := putOption (fun i => putByte i.val) v

/-- The number of a set given by its members, item n at weight 2^n. -/
def setNumber (members : List Bool) : Nat := members.foldr (fun b acc => b.toNat + 2 * acc) 0

/-- A set of condition members: 6 bytes (R209). -/
def putMembers (m : MemberSet) : List Byte := putSet 6 (setNumber m.toList)

/-- A set of discrete lines: 3 bytes (R209). -/
def putLineSet (m : Vector Bool 24) : List Byte := putSet 3 (setNumber m.toList)

/-- Bytes of every element of a list, without a count. -/
def putAll {α : Type} (put : α → List Byte) (l : List α) : List Byte := (l.map put).flatten

/-- A list of varying length, preceded by its count (R209). -/
def putList {α : Type} (put : α → List Byte) (l : List α) : List Byte := putByte l.length ++ putAll put l

/-- A constraint target: kind and well number (R209). -/
def putTarget : Target → List Byte
  | .brineFloor => putByte 0 ++ putByte 0
  | .wellFloor k => putByte 1 ++ putByte k.val
  | .pumpCeil k => putByte 2 ++ putByte k.val
  | .pumpCeilAll => putByte 3 ++ putByte 0

/-- A binding origin. R106 gives it as a slot id or as DEFAULT, and no rule codes DEFAULT in the byte of a slot id: the model sends the
origin as an optional identifier, DEFAULT being its absence (DESIGN CHOICE, log 49). -/
def putOrigin (o : Option (Fin 22)) : List Byte := putIdent o

/-- A bound view with its binding origin (coded as log 49 says) and LIMITED indication (R103). -/
def putBoundView (b : Bound) : List Byte := putClass b.value ++ putOrigin b.origin ++ putBool b.limited

/-- A drive record as its owner's read request reports it (R23). -/
def putDrive (d : Drive) : List Byte :=
  putClass d.value ++ putOption putClass d.lastDelivered ++ putByte d.delivery.code ++ putOption putLong d.failingSince ++
    putOption putWord d.failingFor

/-- A loop record's I, output and held (R158). -/
def putLoopState (l : Loop) : List Byte := putClass l.integral ++ putClass l.output ++ putBool l.held

/-- Quality and usable value of a view; an unbound or never read point reads UNSET without a value (log 24). -/
def putView (v : Option PointView) : List Byte :=
  match v with
  | none => putByte Quality.unset.code ++ putOption putClass none
  | some p => putByte p.quality.code ++ putOption putClass p.usable

/-- A time left in ms, told in units of the given length; how a part of a unit is rounded is left open (log 11). -/
def unitsLeft (unit ms : Nat) : Nat := if Config.remainingRoundsUp then (ms + unit - 1) / unit else ms / unit

/-! ### The point record of ReadPoints (section 10.8) -/

/-- One bit of a packed byte. -/
def bit (weight : Nat) (b : Bool) : Nat := if b then weight else 0

/-- The 14 bytes of a point record (table of section 10.8). -/
def putPointRecord (p : Point) : List Byte :=
  putByte (16 * p.cfg.source.code + p.cfg.cls.code) ++
    putByte (bit 128 p.usableValue.isSome + bit 64 p.clampedFlag + bit 32 p.lastAttemptOk + bit 16 p.cfg.substitute.isSome +
      bit 8 p.value.isSome + p.quality.code) ++
    putByte (16 * p.failCount + p.cfg.failLimit) ++ putWord p.age ++ putClass (p.value.getD 0) ++
    putClass (p.usableValue.getD 0) ++ putClass (p.cfg.substitute.getD 0)

/-! ### Stored configurations, as the fields that set them -/

def PointConfig.fields (c : PointConfig) : PointFields :=
  ⟨0, c.source.code, c.cls.code, c.line.val, c.rawLo, c.rawHi, c.engLo, c.engHi, c.faultBand, c.staleLimit, c.failLimit,
    c.recoveryPeriod⟩

def LineConfig.fields (c : LineConfig) (enabled : Bool) : LineFields :=
  ⟨0, enabled.toNat, c.fast.toNat, c.clockHold, c.passInterval, c.autoRecover.toNat⟩

def EntryTarget.number : EntryTarget → Option Nat
  | .none => Option.none
  | .point p => some p.val
  | .drive d => some d.val

def Entry.fields (e : Entry) : EntryFields :=
  ⟨e.station, e.kind.code, e.item, e.target.number, (!e.stopPolicy).toNat, e.every, e.phase⟩

def DiscreteConfig.fields (c : DiscreteConfig) : DiscreteFields :=
  ⟨0, (!c.role).toNat, c.out.toNat, c.inverted.toNat, c.edge.toNat, c.edgeKind.code, c.debounce, c.mismatchTime⟩

/-- The number of an optional identifier. -/
def identNumber {n : Nat} (o : Option (Fin n)) : Option Nat := o.map (fun i => i.val)

def WellConfig.fields (c : WellConfig) : WellFields :=
  { well := 0, enabled := c.enabled.toNat, intakePoint := identNumber c.intakePoint,
    windingPoint := identNumber c.windingPoint, flowPoint := identNumber c.flowPoint, minSpeed := c.minSpeed,
    maxSpeed := c.maxSpeed, rampRate := c.rampRate, target := c.target, ownFloor := c.ownFloor, floorBand := c.floorBand,
    floorGain := c.floorGain, floorHys := c.floorHys, floorConfirm := c.floorConfirm, windTrip := c.windTrip,
    windDelta := c.windDelta, windHys := c.windHys, startTimeout := c.startTimeout, stopTimeout := c.stopTimeout,
    minOff := c.minOff, maxStarts := c.maxStarts, tripLimit := c.tripLimit, tripRecovery := c.tripRecovery,
    deliveryLimit := c.deliveryLimit, autoRestart := c.autoRestart.toNat }

def TurbineConfig.fields (c : TurbineConfig) (u : SpeedConfig) : TurbineFields :=
  { headerPoint := identNumber c.headerPoint, flowPoint := identNumber c.flowPoint, powerPoint := identNumber c.powerPoint,
    speedPoint := identNumber c.speedPoint, teeth := u.teeth, ovsLimit := u.ovsLimit, lossTime := u.lossTime,
    syncSpeed := c.syncSpeed, syncBand := c.syncBand, syncHold := c.syncHold, accelRate := c.accelRate,
    rollTimeout := c.rollTimeout, minLoad := c.minLoad, maxLoad := c.maxLoad, loadRate := c.loadRate,
    loadTarget := c.loadTarget, headerSetpoint := c.headerSetpoint, headerMin := c.headerMin,
    headerConfirm := c.headerConfirm, extractionMax := c.extractionMax, extractionMinLoad := c.extractionMinLoad,
    breakerTimeout := c.breakerTimeout, verifyFlow := c.verifyFlow, tripVerifyTime := c.tripVerifyTime,
    runbackSpeed := c.runbackSpeed, speedKp := c.speedKp, speedKi := c.speedKi, powerKp := c.powerKp, powerKi := c.powerKi,
    headerKp := c.headerKp, headerKi := c.headerKi, deliveryLimit := c.deliveryLimit }

def HeatingConfig.fields (c : HeatingConfig) : HeatingFields :=
  { outdoorPoint := identNumber c.outdoorPoint, supplyPoint := identNumber c.supplyPoint,
    returnPoint := identNumber c.returnPoint, netFlowPoint := identNumber c.netFlowPoint,
    brineInPoint := identNumber c.brineInPoint, brineOutPoint := identNumber c.brineOutPoint,
    brineFlowPoint := identNumber c.brineFlowPoint, brineFloorDefault := c.brineFloorDefault, supplyMax := c.supplyMax,
    supplyHys := c.supplyHys, shortConfirm := c.shortConfirm, supplyKp := c.supplyKp, supplyKi := c.supplyKi,
    floorKp := c.floorKp, floorKi := c.floorKi }

def ConcSource.bytes : ConcSource → Nat × Nat
  | .fixed => (0, 0)
  | .point p => (1, p.val)

def SiteAction.bytes : SiteAction → Nat × Nat
  | .none => (0, 0)
  | .brineFloor => (1, 0)
  | .wellFloor k => (2, k.val)

def SiteConfig.fields (c : SiteConfig) : SiteFields :=
  { site := 0, kind := c.kind.code, tempPoint := identNumber c.tempPoint, concKind := c.concSource.bytes.1,
    concPoint := c.concSource.bytes.2, fixedConc := c.fixedConc, presPoint := identNumber c.presPoint, onset := c.onset,
    actionKind := c.action.bytes.1, actionWell := c.action.bytes.2, margin := c.margin, alarmMargin := c.alarmMargin,
    inhibitorLostMargin := c.inhibitorLostMargin, fallbackFloor := c.fallbackFloor, station := identNumber c.station,
    doseBase := c.doseBase, doseGain := c.doseGain, alertDose := c.alertDose, clearDose := c.clearDose,
    confirmTime := c.confirmTime, serviceDose := c.serviceDose, flashBase := c.flashBase, flashTemp := c.flashTemp,
    slope := c.slope }

/-! ### Notices (table of section 10.4) -/

/-- STARTED: the reset cause. -/
def startedFrame (cause : ResetCause) : Frame := ⟨0x70, 0, putByte cause.code⟩

/-- CONDITION: snapshot number, frozen set, changed set, frozenAt (R187). -/
def conditionFrame (n : ConditionNotice) : Frame :=
  ⟨0x71, 0, putWord n.number ++ putMembers n.frozen ++ putMembers n.changed ++ putLong n.frozenAt⟩

/-- EDGE: the lines whose edgeSeen is set with their edgeCounts, the level of all 24 lines, the plant clock (R61). That the lines come
as one set of 3 bytes and their edgeCounts after it as a list in order of line, not as records of line and count, is the model's
choice (DESIGN CHOICE, log 51). -/
def edgeFrame (n : EdgeNotice) : Frame :=
  ⟨0x72, 0, putLineSet (Vector.ofFn (fun i => n.counts[i].isSome)) ++ putList putByte (n.counts.toList.filterMap id) ++
    putLineSet n.levels ++ putLong n.clock⟩

end Sys2Proof.Machine
end

