-- ==== Sys2Proof/Machine/Conditions.lean ====
section
/-! DEFINITION. The requests of the condition unit (sections 9.2 to 9.5). What the unit does with a change of the live set
stands in Flags. -/

namespace Sys2Proof.Machine

open Wire

/-- Whether a release finds a difference to report (R186). -/
def differenceToReport (live frozen watch : MemberSet) : Bool :=
  (indexes 42).any (fun n => watch[n] && live[n] != frozen[n] && ((Member.ofNumber n).either || live[n]))

/-- The reply of ReleaseSnapshot: the state (FREE 0, HELD 1) and the present number (R186). -/
def snapshotAnswer (s : State) : State × Answer := accept s (putBool s.conditions.held ++ putWord s.conditions.number)

/-- Release a HELD snapshot, and freeze it again where a difference is to be reported (R186). -/
def releaseHeld (s : State) : State :=
  let s := s.modConditions (fun c => { c with held := false })
  if differenceToReport s.conditions.live s.conditions.frozen s.conditions.watch then freeze s else s

/-- ReleaseSnapshot (R186). -/
def ownReleaseSnapshot (number : Nat) (s : State) : State × Answer :=
  if !s.conditions.held then snapshotAnswer s
  else if number ≠ s.conditions.number then refuse s .state (putWord s.conditions.number)
  else snapshotAnswer (releaseHeld s)

/-- A mask of a request as a set of members; none where it holds a member number above 41 (R188). -/
def membersOf (m : MemberMask) : Option MemberSet :=
  if m.toNat < 2 ^ 42 then some (Vector.ofFn (fun n => m.getLsbD n.val)) else none

/-- A mask given or kept (R188). -/
def maskOr (given : Option MemberMask) (kept : MemberSet) : Option MemberSet :=
  match given with
  | none => some kept
  | some m => membersOf m

/-- Store a horn mask: the unsilenced set loses what the mask does not contain, and ALARM follows it (R188, R189, R191). -/
def storeHorn (horn : Option MemberMask) (h : MemberSet) (s : State) : State :=
  settleAlarm (s.modConditions (fun c =>
    { c with horn := h, unsilenced := if horn.isSome then MemberSet.inter c.unsilenced h else c.unsilenced }))

/-- SetMasks (R188, R189). A change of the live set that the request itself brings about, at ALARM's readback, is judged by the
watch mask the request found; the new one is used from the next event on. -/
def ownSetMasks (watch horn : Option MemberMask) (s : State) : State × Answer :=
  match maskOr watch s.conditions.watch, maskOr horn s.conditions.horn with
  | some w, some h =>
    let s := (settleConditions (storeHorn horn h s)).modConditions (fun c => { c with watch := w })
    accept s (putMembers s.conditions.watch ++ putMembers s.conditions.horn)
  | _, _ => refuse s .badField []

/-- Silence (R190). -/
def ownSilence (s : State) : State × Answer :=
  let removed := s.conditions.unsilenced
  accept (settleAlarm (s.modConditions (fun c => { c with unsilenced := MemberSet.empty }))) (putMembers removed)

/-- ReadConditions (R192). -/
def ownReadConditions (s : State) : State × Answer :=
  let c := s.conditions
  accept s (putMembers c.live ++ putBool c.held ++ putWord c.number ++ putMembers c.frozen ++ putMembers c.changed ++
    putLong c.frozenAt ++ putBool s.link.condition.isSome ++ putMembers c.watch ++ putMembers c.horn ++
    putMembers c.unsilenced ++ putBool s.discretes[alarmLine].roleCommand)

end Sys2Proof.Machine
end

