-- ==== Sys2Proof/Machine/Constraints.lean ====
section
/-! DEFINITION. The requests of the constraint table (sections 5.5 and 5.6). Posts, withdrawals and bounds stand in Ops. -/

namespace Sys2Proof.Machine

open Wire

/-- The pool slot POSTED for a target, if any (R104). At most one is (section 5.5). -/
def poolSlotFor (s : State) (t : Target) : Option (Fin 8) :=
  firstIndex 8 (fun j => s.slots[poolSlot j].any (fun p => decide (p.target = t)))

/-- The lowest-numbered EMPTY pool slot (R104). -/
def poolSlotFree (s : State) : Option (Fin 8) := firstIndex 8 (fun j => s.slots[poolSlot j].isNone)

/-- A target's effective bound and binding origin, as a reply carries them (R104, R105). -/
def putBound (s : State) (t : Target) : List Byte := putClass s.bounds[t.index].value ++ putOrigin s.bounds[t.index].origin

/-- PostLimit (R104). -/
def ownPostLimit (kind well : Nat) (value : Int) (s : State) : State × Answer :=
  match targetOf kind well with
  | none => refuse s .badField []
  | some t =>
    match (poolSlotFor s t).or (poolSlotFree s) with
    | none => refuse s .inUse []
    | some j =>
      let stored := t.cls.clamp value
      let s := post (poolSlot j) t stored s
      (s, okOr (decide (stored ≠ value)) (putByte (poolSlot j).val ++ putClass stored ++ putBound s t))

/-- WithdrawLimit (R105). The reply reports the slot withdrawn, or that none was, as an optional identifier: the presence byte 1 and the
slot id, or 0 (DESIGN CHOICE, log 60). -/
def ownWithdrawLimit (kind well : Nat) (s : State) : State × Answer :=
  match targetOf kind well with
  | none => refuse s .badField []
  | some t =>
    match poolSlotFor s t with
    | none => accept s (putIdent (none : Option (Fin 22)) ++ putBound s t)
    | some j =>
      let s := withdraw (poolSlot j) s
      accept s (putIdent (some (poolSlot j)) ++ putBound s t)

/-- The slot record of ReadConstraints: the state (EMPTY 0, POSTED 1), then, when POSTED, target, value and postedAt (R106). That these
three carry no presence bytes beside the state is the model's choice (DESIGN CHOICE, log 57). -/
def putSlot : Option Post → List Byte
  | none => putByte 0
  | some p => putByte 1 ++ putTarget p.target ++ putClass p.value ++ putLong p.postedAt

/-- The 18 targets in the order of the table of section 5.1. -/
def allTargets : List Target :=
  [.brineFloor] ++ (indexes 8).map Target.wellFloor ++ (indexes 8).map Target.pumpCeil ++ [.pumpCeilAll]

/-- ReadConstraints (R106). -/
def ownReadConstraints (view : Nat) (s : State) : State × Answer :=
  match view with
  | 0 => accept s (putAll putSlot s.slots.toList)
  | 1 =>
    accept s
      (putAll (fun t => putClass (targetDefault s t) ++ putBound s t) allTargets ++
        putAll (fun b => putClass (Bound.value b) ++ putOrigin b.origin) s.combined.toList)
  | _ => refuse s .badField []

end Sys2Proof.Machine
end

