-- ==== Sys2Proof/Machine/Speed.lean ====
section
/-! DEFINITION. The speed unit by itself (section 3.7): tooth periods, the computed speed, loss of signal, and a change of
teeth. The events it raises are handed on in Turbine.lean. -/

namespace Sys2Proof.Machine

/-- The sum of the kept periods, S4 once four are kept (R68). -/
def periodSum (periods : List Nat) : Nat := periods.foldr (fun p acc => p + acc) 0

/-- The computed speed (R68). -/
def speedOf (teeth : Nat) (periods : List Nat) : Int :=
  if periodSum periods = 0 then 9999
  else clamp 0 9999 (roundHalfUp 240000000 ((teeth : Int) * (periodSum periods : Int)))

/-- Start the loss timer for a full lossTime. -/
def SpeedUnit.armLoss (u : SpeedUnit) : SpeedUnit := { u with lossTimer := some u.cfg.lossTime }

/-- An edge that becomes the last edge time and forms no period (R67). -/
def SpeedUnit.firstEdge (stamp : TimeBase) (u : SpeedUnit) : SpeedUnit :=
  { u with signal := .acquiring, lastEdge := some stamp, periods := [] }.armLoss

/-- An edge that ends a tooth period: modulo 2^32, saturated at 65535, at most four kept, newest first (R67). -/
def SpeedUnit.laterEdge (last stamp : TimeBase) (u : SpeedUnit) : SpeedUnit :=
  let periods := (min 65535 (stamp - last).toNat :: u.periods).take 4
  let u := { u with lastEdge := some stamp, periods := periods }.armLoss
  if periods.length = 4 then { u with signal := .measuring, speed := some (speedOf u.cfg.teeth periods) } else u

/-- A rising edge at TOOTH with its stamp (R67). -/
def SpeedUnit.edge (stamp : TimeBase) (u : SpeedUnit) : SpeedUnit :=
  match u.signal, u.lastEdge with
  | .acquiring, some last => u.laterEdge last stamp
  | .measuring, some last => u.laterEdge last stamp
  | _, _ => u.firstEdge stamp

/-- An expiry of the loss timer (R69). -/
def SpeedUnit.lose (u : SpeedUnit) : SpeedUnit :=
  { u with signal := .lost, lastEdge := none, periods := [], speed := some 0 }.armLoss

/-- What a change of teeth discards (R66). -/
def SpeedUnit.forget (u : SpeedUnit) : SpeedUnit :=
  match u.signal with
  | .lost => { u with lastEdge := none, periods := [] }
  | .silent => { u with signal := .silent, lastEdge := none, periods := [], speed := none, lossTimer := none }
  | .acquiring => { u with signal := .silent, lastEdge := none, periods := [], speed := none, lossTimer := none }
  | .measuring => { u with signal := .silent, lastEdge := none, periods := [], speed := none, lossTimer := none }

/-- Store the unit's three fields (R66). -/
def SpeedUnit.configure (cfg : SpeedConfig) (u : SpeedUnit) : SpeedUnit :=
  if u.cfg.teeth = cfg.teeth then { u with cfg := cfg } else { u with cfg := cfg }.forget

/-- The point whose source is SPEED, if one is configured (R2, R14). -/
def speedPoint (s : State) : Option (Fin 96) := firstIndex 96 (fun p => decide (s.points[p].cfg.source = .speed))

/-- Deliver a reading to the SPEED point (R14). -/
def atSpeedPoint (f : Point → Point) (s : State) : State :=
  match speedPoint s with
  | some p => s.modPoint p f
  | none => s

end Sys2Proof.Machine
end

