-- ==== Sys2Proof/Machine/Turbine.lean ====
section
/-! DEFINITION. The turbine governor (chapter 07) and the events the speed unit raises to it. The stop-valve hold and the
breaker command follow the governor's state at the end of the event (`settleOutputs`, R138). -/

namespace Sys2Proof.Machine

open Wire

/-! ### The extraction grant (R156) -/

/-- The grant the record's request is given (R156). -/
def grantOf (t : Turbine) : Int :=
  if t.state = .loaded ∧ t.powerView.any (fun p => decide (t.cfg.extractionMinLoad ≤ p)) = true then
    min t.grant.request t.cfg.extractionMax
  else 0

/-- The valve demand of a grant (R156). -/
def valveOf (t : Turbine) (grant : Int) : Int := roundHalfUp (grant * 10000) t.cfg.extractionMax

/-- Settle grant and valve demand in the record (R156). -/
def Turbine.settleGrant (t : Turbine) : Turbine :=
  { t with grant := { t.grant with grant := grantOf t, valveDemand := valveOf t (grantOf t) } }

/-- Recompute the grant; in an energised state the valve demand is written to DV9 (R156). -/
def recomputeGrant (s : State) : State :=
  let s := s.modTurbine Turbine.settleGrant
  if s.turbine.state.energised then writeDrive extractionDrive s.turbine.grant.valveDemand s else s

/-- A write of the request, answered in the event of the write (R156, R172). -/
def writeRequest (v : Int) (s : State) : State :=
  recomputeGrant (s.modTurbine (fun t => { t with grant := { t.grant with request := v } }))

/-! ### Passages between states -/

/-- The drives of an owner that leaves its active states (R19, R138). -/
def restDrives (s : State) : State := writeDrive extractionDrive 0 (writeDrive admissionDrive 0 s)

/-- Post the runback ceiling (R152, R137). -/
def postRunback (s : State) : State := post runbackSlot .pumpCeilAll s.turbine.cfg.runbackSpeed s

/-- The governor's own part of a trip from a state other than TRIPPED (R152, R153). -/
def Turbine.trip (clock : Nat) (cause : TurbineTripCause) (value : Option Int) (t : Turbine) : Turbine :=
  { t with
    state := .tripped
    grant := { t.grant with grant := 0, valveDemand := 0 }
    rollTimer := none
    breakerTimer := none
    syncCount := 0
    headerCount := 0
    pendingLoop := none
    openCommanded := false
    tripRecord := ⟨cause, clock, some t.state, value, 0, none, none⟩
    verifyCount := some 0 }

/-- A trip of the turbine (R152). -/
def tripTurbine (cause : TurbineTripCause) (value : Option Int) (s : State) : State :=
  postRunback (restDrives (s.modTurbine (Turbine.trip s.clock cause value)))

/-- A later trip (R153). -/
def Turbine.laterTrip (clock : Nat) (cause : TurbineTripCause) (t : Turbine) : Turbine :=
  { t with
    tripRecord := { t.tripRecord with laterCount := satSucc 65535 t.tripRecord.laterCount, laterCause := some cause,
                                      laterClock := some clock }
    verifyCount := if t.verifyCount.isNone && !t.stopValveFail then some 0 else t.verifyCount }

/-- An overspeed event or a TRIP: a trip, or a later trip in TRIPPED (R151, R153). -/
def tripOrLater (cause : TurbineTripCause) (value : Option Int) (s : State) : State :=
  if s.turbine.state = .tripped then postRunback (s.modTurbine (Turbine.laterTrip s.clock cause))
  else tripTurbine cause value s

/-- Change the state by a passage that is no trip, and recompute the grant with it (R156). -/
def passTurbine (f : Turbine → Turbine) (s : State) : State := recomputeGrant (s.modTurbine f)

/-- The pending loop of a mode (R144, R145). -/
def TurbineMode.loop : TurbineMode → TurbineLoop
  | .load => .power
  | .header => .header

/-- Entry to LOADED (R144). -/
def Turbine.enterLoaded (t : Turbine) : Turbine :=
  { t with state := .loaded, rollTimer := none, headerCount := 0, powerSetpoint := t.powerView.getD t.cfg.minLoad,
           pendingLoop := some t.mode.loop, loadReject := false }

/-- The load rejection, but for the drives (R148). It uses syncSpeed and the gains as configured at the event, also where they changed
since the last TG period expiry (DESIGN CHOICE, log 59). -/
def Turbine.reject (t : Turbine) : Turbine :=
  let error := t.cfg.syncSpeed - t.speedView
  { t with
    state := .rolling
    speedSetpoint := t.cfg.syncSpeed
    speedAcquired := true
    syncCount := 0
    rollTimer := some (t.cfg.rollTimeout * 1000)
    speedLoop := t.speedLoop.start t.cfg.syncSpeed t.speedView error t.cfg.speedKp t.cfg.speedKi 0
    loadReject := true }

/-- A load rejection (R148). -/
def rejectLoad (s : State) : State :=
  let s := s.modTurbine Turbine.reject
  recomputeGrant (writeDrive admissionDrive s.turbine.speedLoop.output s)

/-- Entry to STOPPED from an energised state (R149, R150). -/
def stopTurbine (s : State) : State :=
  passTurbine (fun t => { t with state := .stopped, rollTimer := none, breakerTimer := none, openCommanded := false })
    (restDrives s)

/-! ### Field events -/

/-- A change of the role level of BRK_CLOSED (R144, R148, R150); BRK_OPEN_CMD follows it in STOPPED and TRIPPED (R138). -/
def breakerChanged (level : Bool) (s : State) : State :=
  match s.turbine.state, level with
  | .rolling, true => passTurbine Turbine.enterLoaded s
  | .syncWait, true => passTurbine Turbine.enterLoaded s
  | .loaded, false => rejectLoad s
  | .unloading, false => stopTurbine s
  | _, _ => s

/-- The ESTOP event at the governor (R151). -/
def estopTurbine (s : State) : State := if s.turbine.state.energised then tripTurbine .estop none s else s

/-- The speed-loss event (R151). -/
def speedLost (s : State) : State :=
  let t := s.turbine
  match t.state with
  | .syncWait => tripTurbine .speedLost (some t.speedView) s
  | .loaded => tripTurbine .speedLost (some t.speedView) s
  | .unloading => tripTurbine .speedLost (some t.speedView) s
  | .rolling => if t.speedAcquired then tripTurbine .speedLost (some t.speedView) s else s
  | .stopped => s
  | .tripped => s

/-- A computed speed reaches the SPEED point and the governor (R14, R68, R140, R151). The reading's clamped indication (R6) is clear,
also where R68 clamped the computed speed to 9999: no rule gives one for the SPEED source (DESIGN CHOICE, log 47). -/
def speedComputed (v : Int) (s : State) : State :=
  let s := atSpeedPoint (Point.goodRead v false) s
  let s := if s.turbine.state.energised then s.modTurbine (fun t => { t with speedAcquired := true }) else s
  if s.speedUnit.cfg.ovsLimit ≤ v then tripOrLater .overspeed (some v) s else s

/-- TOOTH_EDGE: an edge at the time base as it stands plus the part of a millisecond given (R67, R68). -/
def toothEdge (offset : TimeBase) (s : State) : State :=
  let s := s.modSpeed (SpeedUnit.edge (s.speedUnit.timeBase + offset))
  if s.speedUnit.periods.length = 4 then
    match s.speedUnit.speed with
    | some v => speedComputed v s
    | none => s
  else s

/-- LOSS_TIMER_EXPIRY of a running loss timer (R69). -/
def lossTimerExpiry (s : State) : State :=
  match s.speedUnit.lossTimer with
  | none => s
  | some _ => speedLost (atSpeedPoint Point.failedRead (s.modSpeed SpeedUnit.lose))

/-- ROLL_TIMER_EXPIRY of a running rollTimer (R143). -/
def rollTimerExpiry (s : State) : State :=
  match s.turbine.rollTimer with
  | none => s
  | some _ =>
    let s := s.modTurbine (fun t => { t with rollTimer := none })
    if s.turbine.state = .rolling ∨ s.turbine.state = .syncWait then tripTurbine .rollTimeout none s else s

/-- BREAKER_TIMER_EXPIRY of a running breakerTimer (R150). -/
def breakerTimerExpiry (s : State) : State :=
  match s.turbine.breakerTimer with
  | none => s
  | some _ =>
    let s := s.modTurbine (fun t => { t with breakerTimer := none })
    if s.turbine.state = .unloading then tripTurbine .breakerFail none s else s

/-! ### The TG period (R139) -/

/-- Step 1: the measurements (R139). -/
def readTurbineInputs (s : State) : State :=
  let c := s.turbine.cfg
  s.modTurbine (fun t =>
    { t with
      headerView := boundValue s c.headerPoint
      flowView := boundValue s c.flowPoint
      powerView := boundValue s c.powerPoint
      speedView := s.speedUnit.speed.getD 0 })

/-- Move a value toward a goal by at most a step. -/
def approach (goal step v : Int) : Int := if v < goal then min goal (v + step) else max goal (v - step)

/-- The setpoint ramp of ROLLING (R142). -/
def Turbine.rampSpeed (t : Turbine) : Turbine :=
  { t with speedSetpoint := min t.cfg.syncSpeed (t.speedSetpoint + (t.cfg.accelRate : Int) / 10) }

/-- One run of the speed loop, started where it is pending (R142, R26). -/
def Turbine.runSpeedLoop (admission : Int) (t : Turbine) : Turbine :=
  let error := t.speedSetpoint - t.speedView
  if t.pendingLoop = some .speed then
    { t with pendingLoop := none, speedLoop := t.speedLoop.start t.speedSetpoint t.speedView error t.cfg.speedKp t.cfg.speedKi admission }
  else { t with speedLoop := t.speedLoop.run t.speedSetpoint t.speedView error t.cfg.speedKp t.cfg.speedKi }

/-- Whether the speed unit is MEASURING a speed within the band (R142). -/
def inBand (s : State) : Bool :=
  let c := s.turbine.cfg
  decide (s.speedUnit.signal = .measuring) && within (c.syncSpeed - c.syncBand) (c.syncSpeed + c.syncBand) s.turbine.speedView

/-- The admission demand of a loop run goes to DV8 (R142, R145). -/
def writeAdmission (v : Int) (s : State) : State := writeDrive admissionDrive v s

/-- The work of ROLLING (R142). -/
def rollingWork (s : State) : State :=
  let s := s.modTurbine (fun t => t.rampSpeed.runSpeedLoop s.drives[admissionDrive].value)
  let s := writeAdmission s.turbine.speedLoop.output s
  if inBand s then
    let n := satSucc 600 s.turbine.syncCount
    if s.turbine.cfg.syncHold ≤ n then passTurbine (fun t => { t with state := .syncWait, syncCount := n }) s
    else s.modTurbine (fun t => { t with syncCount := n })
  else s.modTurbine (fun t => { t with syncCount := 0 })

/-- The work of SYNC_WAIT (R142). -/
def syncWaitWork (s : State) : State :=
  let s := s.modTurbine (fun t =>
    ({ t with speedSetpoint := t.cfg.syncSpeed } : Turbine).runSpeedLoop s.drives[admissionDrive].value)
  let s := writeAdmission s.turbine.speedLoop.output s
  if inBand s then s else passTurbine (fun t => { t with state := .rolling, syncCount := 0 }) s

/-- The load step (R146). -/
def TurbineConfig.loadStep (c : TurbineConfig) : Int := (c.loadRate : Int) / 10

/-- A run of the power loop, its pending start included; absent measurement, no run (R145). The pair says whether it ran. -/
def Turbine.runPowerLoop (admission : Int) (t : Turbine) : Turbine × Bool :=
  match t.powerView with
  | none => (t, false)
  | some m =>
    let error := t.powerSetpoint - m
    if t.pendingLoop = some .power then
      ({ t with pendingLoop := none, powerLoop := t.powerLoop.start t.powerSetpoint m error t.cfg.powerKp t.cfg.powerKi admission }, true)
    else ({ t with powerLoop := t.powerLoop.run t.powerSetpoint m error t.cfg.powerKp t.cfg.powerKi }, true)

/-- A run of the header loop, direction REVERSE (R145). -/
def Turbine.runHeaderLoop (admission : Int) (t : Turbine) : Turbine × Bool :=
  match t.headerView with
  | none => (t, false)
  | some m =>
    let error := m - t.cfg.headerSetpoint
    if t.pendingLoop = some .header then
      ({ t with pendingLoop := none, headerLoop := t.headerLoop.start t.cfg.headerSetpoint m error t.cfg.headerKp t.cfg.headerKi admission },
        true)
    else ({ t with headerLoop := t.headerLoop.run t.cfg.headerSetpoint m error t.cfg.headerKp t.cfg.headerKi }, true)

/-- Run the power loop and write its output to DV8 where it ran (R145). -/
def powerWork (s : State) : State :=
  let r := s.turbine.runPowerLoop s.drives[admissionDrive].value
  let s := s.modTurbine (fun _ => r.1)
  if r.2 then writeAdmission s.turbine.powerLoop.output s else s

/-- Run the header loop and write its output to DV8 where it ran (R145). -/
def headerWork (s : State) : State :=
  let r := s.turbine.runHeaderLoop s.drives[admissionDrive].value
  let s := s.modTurbine (fun _ => r.1)
  if r.2 then writeAdmission s.turbine.headerLoop.output s else s

/-- Settle headerCount (R147); headerConfirm is compared when the count advances (R137). -/
def settleHeader (s : State) : State :=
  let t := s.turbine
  match t.headerView with
  | none => s
  | some h =>
    if h < t.cfg.headerMin then
      let n := satSucc 6000 t.headerCount
      if 10 * t.cfg.headerConfirm ≤ n then tripTurbine .lowHeader (some h) s
      else s.modTurbine (fun t => { t with headerCount := n })
    else s.modTurbine (fun t => { t with headerCount := 0 })

/-- Move the power setpoint toward a goal by the load step (R146, R149). -/
def rampPower (goal : Int) (s : State) : State :=
  s.modTurbine (fun t => { t with powerSetpoint := approach goal t.cfg.loadStep t.powerSetpoint })

/-- The work of LOADED (R145 to R147). -/
def loadedWork (s : State) : State :=
  match s.turbine.mode with
  | .load => settleHeader (powerWork (rampPower s.turbine.cfg.loadTarget s))
  | .header => settleHeader (headerWork s)

/-- The work of UNLOADING (R149). -/
def unloadingWork (s : State) : State :=
  let s := powerWork (rampPower s.turbine.cfg.minLoad s)
  let t := s.turbine
  if t.powerSetpoint = t.cfg.minLoad ∧ t.openCommanded = false then
    s.modTurbine (fun t => { t with openCommanded := true, breakerTimer := some (t.cfg.breakerTimeout * 1000) })
  else s

/-- The verification of TRIPPED (R155). -/
def Turbine.verify (t : Turbine) : Turbine :=
  match t.verifyCount, t.flowView with
  | some n, some f =>
    if t.cfg.verifyFlow ≤ f then
      let n := satSucc 6000 n
      if 10 * t.cfg.tripVerifyTime ≤ n then { t with stopValveFail := true, verifyCount := none }
      else { t with verifyCount := some n }
    else { t with verifyCount := some 0 }
  | _, _ => t

/-- Step 3: the work of the governor's state (R139). -/
def turbineWork (s : State) : State :=
  match s.turbine.state with
  | .rolling => rollingWork s
  | .syncWait => syncWaitWork s
  | .loaded => loadedWork s
  | .unloading => unloadingWork s
  | .tripped => s.modTurbine Turbine.verify
  | .stopped => s

/-- Whether DV8 is lost (R151, R22). -/
def admissionLost (s : State) : Bool := s.drives[admissionDrive].lost s.turbine.cfg.deliveryLimit

/-- The four steps of the governor's period (R139). -/
def turbinePeriod (s : State) : State :=
  let before := s.turbine.powerView
  let s := readTurbineInputs s
  if s.turbine.state.energised && admissionLost s then tripTurbine .admissionLost none s
  else
    let s := turbineWork s
    if s.turbine.powerView = before then s else recomputeGrant s

/-- TG_PERIOD_EXPIRY (R139). -/
def tgPeriodExpiry (s : State) : State :=
  match s.turbine.periodTimer with
  | none => s
  | some _ => turbinePeriod (s.modTurbine (fun t => { t with periodTimer := some 100 }))

/-! ### Commands of the host -/

/-- The six conditions of a ROLL, in the order of R141. The sixth takes headerMin as configured at the command, also where it changed since
the last TG period expiry (DESIGN CHOICE, log 59). -/
def rollConditions (s : State) : List Bool :=
  [decide (s.phase = .run), decide (s.supervision.state = .disarmed) || decide (s.supervision.state = .armed),
    !estopActive s, inRole s stopValveLine && inRole s breakerOpenLine && inRole s breakerClosedLine, !breakerClosed s,
    (boundValue s s.turbine.cfg.headerPoint).any (fun h => decide (s.turbine.cfg.headerMin ≤ h))]

/-- Entry to ROLLING from STOPPED (R141). -/
def Turbine.startRoll (signal : Signal) (t : Turbine) : Turbine :=
  { t with state := .rolling, speedAcquired := false, syncCount := 0,
           speedSetpoint := if signal = .lost then 0 else t.speedView, pendingLoop := some .speed,
           rollTimer := some (t.cfg.rollTimeout * 1000) }

/-- ROLL (R141). The failed condition is named by its place, from 0 (DEDUCED, log 18). -/
def ownRoll (s : State) : State × Answer :=
  if s.turbine.state = .stopped then
    match (rollConditions s).findIdx? (fun b => !b) with
    | some n => refuse s .state (putByte n)
    | none =>
      let s := passTurbine (Turbine.startRoll s.speedUnit.signal) s
      accept s (putByte s.turbine.state.code)
  else refuse s .state []

def TurbineMode.choices : List TurbineMode := [.load, .header]

/-- Store a mode; in LOADED a change marks its loop pending (R145). -/
def Turbine.setMode (m : TurbineMode) (t : Turbine) : Turbine :=
  if t.state = .loaded ∧ t.mode ≠ m then
    { t with mode := m, pendingLoop := some m.loop,
             powerSetpoint := if m = .load then t.powerView.getD t.powerSetpoint else t.powerSetpoint }
  else { t with mode := m }

/-- SET_MODE (R145). -/
def ownSetMode (mode : Nat) (s : State) : State × Answer :=
  match choice TurbineMode.choices mode with
  | none => refuse s .badField []
  | some m => accept (s.modTurbine (Turbine.setMode m)) (putByte m.code)

/-- SET_LOAD (R146). -/
def ownSetLoad (value : Int) (s : State) : State × Answer :=
  let c := s.turbine.cfg
  let stored := clamp c.minLoad c.maxLoad value
  (s.modTurbine (fun t => { t with cfg := { t.cfg with loadTarget := stored } }),
    okOr (decide (stored ≠ value)) (putClass stored))

/-- UNLOAD of a LOADED turbine (R149). -/
def Turbine.startUnload (t : Turbine) : Turbine :=
  match t.mode with
  | .load => { t with state := .unloading, openCommanded := false }
  | .header => { t with state := .unloading, openCommanded := false,
                        powerSetpoint := t.powerView.getD t.cfg.minLoad, pendingLoop := some .power }

/-- What UNLOAD does, from the host or from supervision (R149). -/
def unloadTurbine (s : State) : State :=
  match s.turbine.state with
  | .loaded => passTurbine Turbine.startUnload s
  | .rolling => stopTurbine s
  | .syncWait => stopTurbine s
  | .unloading => s
  | .stopped => s
  | .tripped => s

/-- UNLOAD (R149). -/
def ownUnload (s : State) : State × Answer := accept (unloadTurbine s) []

/-- TRIP (R151). -/
def ownTrip (s : State) : State × Answer :=
  let s := tripOrLater .supervisoryTrip none s
  accept s (putByte s.turbine.state.code)

/-- RESET_TRIP of the turbine (R154). -/
def ownTurbineResetTrip (s : State) : State × Answer :=
  if s.turbine.state ≠ .tripped ∨ estopActive s = true ∨
      (inRole s stopValveLine && inRole s breakerOpenLine && inRole s breakerClosedLine) = false then refuse s .state []
  else
    accept (withdraw runbackSlot
      (passTurbine (fun t => { t with state := .stopped, verifyCount := none, stopValveFail := false }) s)) []

/-! ### ConfigureTurbine (R136, R137) -/

/-- Whether a request changes a structural field (section 7.1). -/
def structuralTurbineChange (old new : TurbineConfig) (oldSpeed newSpeed : SpeedConfig) : Bool :=
  decide (old.headerPoint ≠ new.headerPoint) || decide (old.flowPoint ≠ new.flowPoint) ||
    decide (old.powerPoint ≠ new.powerPoint) || decide (old.speedPoint ≠ new.speedPoint) ||
    decide (oldSpeed.teeth ≠ newSpeed.teeth)

/-- A new load range clamps the power setpoint (R137). -/
def Turbine.takeLoadRange (old : TurbineConfig) (t : Turbine) : Turbine :=
  if old.minLoad = t.cfg.minLoad ∧ old.maxLoad = t.cfg.maxLoad then t
  else if t.state = .loaded then { t with powerSetpoint := clamp t.cfg.minLoad t.cfg.maxLoad t.powerSetpoint }
  else if t.state = .unloading then { t with powerSetpoint := max t.cfg.minLoad t.powerSetpoint }
  else t

/-- Store a checked configuration (R136 step 3, R137). R137 has a new syncSpeed, headerMin and gains used from the next TG period expiry;
a ROLL (R141) and a load rejection (R148) that come before it use the new values at once (DESIGN CHOICE, log 59). -/
def storeTurbine (new : TurbineConfig) (speed : SpeedConfig) (s : State) : State :=
  let old := s.turbine.cfg
  let s := s.modSpeed (SpeedUnit.configure speed)
  let s := s.modTurbine (fun t => ({ t with cfg := new } : Turbine).takeLoadRange old)
  let s :=
    if old.extractionMax = new.extractionMax ∧ old.extractionMinLoad = new.extractionMinLoad then s else recomputeGrant s
  if old.runbackSpeed ≠ new.runbackSpeed ∧ s.slots[runbackSlot].isSome = true then postRunback s else s

/-- ConfigureTurbine (R136). -/
def ownConfigureTurbine (q : TurbineFields) (s : State) : State × Answer :=
  match TurbineFields.check q with
  | none => refuse s .badField []
  | some (new, speed, clamped) =>
    if decide (s.phase = .run) && structuralTurbineChange s.turbine.cfg new s.speedUnit.cfg speed then refuse s .state []
    else
      let s := storeTurbine new speed s
      (s, okOr clamped (putTurbineFields (s.turbine.cfg.fields s.speedUnit.cfg)))

/-! ### ReadTurbine (R158) -/

def putGrant (g : GrantRecord) : List Byte := putClass g.request ++ putClass g.grant ++ putClass g.valveDemand

/-- The speed unit's report (R70). -/
def putSpeedUnit (u : SpeedUnit) : List Byte :=
  putByte u.signal.code ++ putOption putClass u.speed ++ putList putWord u.periods ++ putByte u.cfg.teeth ++
    putClass u.cfg.ovsLimit ++ putWord u.cfg.lossTime

def putTurbineTrip (r : TurbineTripRecord) : List Byte :=
  putByte r.cause.code ++ putLong r.clock ++ putOption (fun x => putByte (TurbineState.code x)) r.fromState ++
    putOption putClass r.value ++ putWord r.laterCount ++ putOption (fun x => putByte (TurbineTripCause.code x)) r.laterCause ++
    putOption putLong r.laterClock

/-- The record of ReadTurbine (R158). speedView, which is never absent, is sent without a presence byte (DESIGN CHOICE, log 61).
rollTimer and breakerTimer are each sent behind a presence byte, which is 0 and stands alone where the timer is stopped (DESIGN CHOICE,
log 62). speedPoint, which the governor never reads (R139), is reported as it stands at the request (DEDUCED, log 63). -/
def putTurbine (s : State) : List Byte :=
  let t := s.turbine
  putTurbineFields (t.cfg.fields s.speedUnit.cfg) ++ putByte t.state.code ++ putByte t.mode.code ++
    putClass t.cfg.loadTarget ++ putClass t.speedSetpoint ++ putClass t.powerSetpoint ++ putClass t.speedView ++
    putOption putClass t.headerView ++ putOption putClass t.flowView ++ putOption putClass t.powerView ++
    putView (readView s t.cfg.speedPoint) ++ putSpeedUnit s.speedUnit ++ putLoopState t.speedLoop ++
    putLoopState t.powerLoop ++ putLoopState t.headerLoop ++ putOption (fun x => putByte (TurbineLoop.code x)) t.pendingLoop ++
    putBool t.speedAcquired ++ putWord t.syncCount ++ putWord t.headerCount ++ putBool t.openCommanded ++
    putOption (fun ms => putWord (unitsLeft 100 ms)) t.rollTimer ++
    putOption (fun ms => putWord (unitsLeft 100 ms)) t.breakerTimer ++ putOption putWord t.verifyCount ++
    putBool s.discretes[stopValveLine].roleCommand ++ putBool s.discretes[breakerOpenLine].roleCommand ++
    putBool (breakerClosed s) ++ putGrant t.grant ++ putDrive s.drives[admissionDrive] ++ putDrive s.drives[extractionDrive] ++
    putTurbineTrip t.tripRecord

/-- ReadTurbine (R158). -/
def ownReadTurbine (s : State) : State × Answer := accept s (putTurbine s)

end Sys2Proof.Machine
end

