-- ==== Sys2Proof/Machine/Points.lean ====
section
/-! DEFINITION. The point table (chapter 01): requests of the points, field scaling, ages, recovery and the drives' second
timer. The four loops' law and the drive operations are shared and stand in Ops. -/

namespace Sys2Proof.Machine

open Wire

/-! ### ConfigurePoint (R1 to R3) -/

/-- Whether a READ entry names the point as its target (R2). -/
def Entry.reads (i : Fin 96) (e : Entry) : Bool := e.kind.isRead && decide (e.target = .point i)

/-- Whether a READ entry of any active or staged schedule names the point (R2). -/
def pointRead (s : State) (i : Fin 96) : Bool :=
  s.lines.toList.any (fun l => l.active.any (fun e => e.entry.reads i) || l.staged.any (fun e => e.reads i))

/-- Whether R2 forbids a binding: a second point on a discrete line, a second SPEED point, or a change of source that a
READ entry stands against. -/
def bindingForbidden (s : State) (i : Fin 96) (old new : PointConfig) : Bool :=
  (decide (new.source = .discrete) &&
      (indexes 96).any (fun j => decide (j ≠ i) && decide (s.points[j].cfg.source = .discrete) &&
        decide (s.points[j].cfg.line = new.line))) ||
    (decide (new.source = .speed) &&
      (indexes 96).any (fun j => decide (j ≠ i) && decide (s.points[j].cfg.source = .speed))) ||
    (((decide (old.source = .field) && decide (new.source ≠ .field)) ||
        (decide (old.source = .none) && (decide (new.source = .discrete) || decide (new.source = .speed) ||
          decide (new.source = .supervisory)))) && pointRead s i)

/-- Whether a request changes source, class, line or a scaling end (R1 step 2). -/
def structuralPointChange (old new : PointConfig) : Bool :=
  decide (old.source ≠ new.source) || decide (old.cls ≠ new.cls) || decide (old.line ≠ new.line) ||
    decide (old.rawLo ≠ new.rawLo) || decide (old.rawHi ≠ new.rawHi) || decide (old.engLo ≠ new.engLo) ||
    decide (old.engHi ≠ new.engHi)

/-- A new failLimit keeps failCount within 0 ... failLimit (R3). -/
def Point.takeFailLimit (old : Nat) (p : Point) : Point :=
  if old = p.cfg.failLimit then p
  else if p.quality.isFailed then { p with failCount := p.cfg.failLimit }
  else if p.cfg.failLimit ≤ p.failCount then { p with failCount := p.cfg.failLimit, quality := p.failedQuality }
  else p

/-- Store a checked configuration (R1, R3). -/
def Point.configure (new : PointConfig) (p : Point) : Point :=
  let stored := if p.cfg.cls = new.cls then new else { new with substitute := none }
  if structuralPointChange p.cfg new then Point.fresh stored
  else ({ p with cfg := stored } : Point).takeFailLimit p.cfg.failLimit

/-- ConfigurePoint (R1). The reply's stored configuration is the fields this request sets; whether it carries the substitute too
is left open, and the model leaves the substitute out (DESIGN CHOICE, log 37). -/
def ownConfigurePoint (q : PointFields) (s : State) : State × Answer :=
  match ident 96 q.point with
  | none => refuse s .badField []
  | some i =>
    match PointFields.check q s.points[i].cfg with
    | none => refuse s .badField []
    | some new =>
      if decide (s.phase = .run) && structuralPointChange s.points[i].cfg new then refuse s .state []
      else if bindingForbidden s i s.points[i].cfg new then refuse s .inUse []
      else
        let s := s.modPoint i (Point.configure new)
        accept s (putPointConfig s.points[i].cfg.fields)

/-! ### Field scaling (R4, R5) -/

/-- The point's verdict on a raw value: the value and its clamped indication, or none for BAD_RAW (R4, R5). -/
def scaleRaw (c : PointConfig) (r : Int) : Option (Int × Bool) :=
  let lo := min c.rawLo c.rawHi
  let hi := max c.rawLo c.rawHi
  if lo ≤ r ∧ r ≤ hi then
    let span := c.rawHi - c.rawLo
    let eng := roundRatio (c.engLo * span + (r - c.rawLo) * (c.engHi - c.engLo)) span
    some (c.cls.clamp eng, decide (c.cls.clamp eng ≠ eng))
  else
    let distance := if r < lo then lo - r else r - hi
    let nearer := if r < lo then lo else hi
    let eng := if nearer = c.rawLo then c.engLo else c.engHi
    if distance ≤ c.faultBand then some (c.cls.clamp eng, true) else none

/-! ### Other requests of the points -/

/-- ReadPoints (R18). -/
def ownReadPoints (first count : Nat) (s : State) : State × Answer :=
  if withinNat 1 16 count && decide (first + count ≤ 96) then
    accept s (putByte first ++ putByte count ++ putAll putPointRecord ((s.points.toList.drop first).take count))
  else refuse s .badField []

/-- WritePoint (R12). -/
def ownWritePoint (point : Nat) (value : Int) (s : State) : State × Answer :=
  match ident 96 point with
  | none => refuse s .badField []
  | some i =>
    if s.points[i].cfg.source = .supervisory then
      let stored := s.points[i].cfg.cls.clamp value
      let clamped := decide (stored ≠ value)
      (s.modPoint i (Point.goodRead stored clamped), okOr clamped (putClass stored))
    else refuse s .state []

/-- Store or remove a substitute (R11). -/
def Point.setSubstitute (v : Option Int) (p : Point) : Point :=
  let quality :=
    match p.quality, v with
    | .failed, some _ => Quality.subst
    | .subst, none => Quality.failed
    | q, _ => q
  { p with cfg := { p.cfg with substitute := v }, quality := quality }

/-- SetSubstitute (R11). -/
def ownSetSubstitute (point : Nat) (substitute : Option Int) (s : State) : State × Answer :=
  match ident 96 point with
  | none => refuse s .badField []
  | some i =>
    if s.points[i].configured then
      let stored := substitute.map s.points[i].cfg.cls.clamp
      (s.modPoint i (Point.setSubstitute stored), okOr (decide (stored ≠ substitute)) (putOption putClass stored))
    else refuse s .state []

/-! ### Timers of the point table -/

/-- The ageing of an age timer expiry (R8). -/
def Point.growOld (p : Point) : Point :=
  let p := { p with lastRead := p.lastRead.map (fun r => { r with age := satSucc 65535 r.age }) }
  if p.configured && decide (p.quality ≠ .unset) then
    let p := { p with age := satSucc 65535 p.age }
    if (p.quality = .good ∨ p.quality = .held) ∧ p.cfg.staleLimit < p.age then { p with quality := .stale } else p
  else p

/-- What one age timer expiry does to a point: it grows old, and a DISCRETE point takes its line's level, the two in the
order the part takes them (R8, R13). -/
def agePoint (level : Bool) (p : Point) : Point :=
  let read (p : Point) : Point := if p.cfg.source = .discrete then p.goodRead level.toInt false else p
  if Config.discreteReadFirst then (read p).growOld else read p.growOld

/-- AGE_TIMER_EXPIRY (R8, R13). -/
def ageTimerExpiry (s : State) : State :=
  match s.ageTimer with
  | none => s
  | some _ =>
    { s with ageTimer := some 100, points := modifyAll s.points (fun _ p => agePoint s.discretes[p.cfg.line].level p) }

/-- SECOND_TIMER_EXPIRY: every FAILING drive adds 1 to failingFor (R22). -/
def secondTimerExpiry (s : State) : State :=
  match s.secondTimer with
  | none => s
  | some _ =>
    { s with
      secondTimer := some 1000
      drives := modifyAll s.drives (fun _ d =>
        if d.delivery = .failing then { d with failingFor := d.failingFor.map (satSucc 65535) } else d) }

/-- Recovery at failCount 0 (R10). -/
def Point.recover (p : Point) : Point :=
  if p.quality.isFailed then
    match p.lastRead with
    | none => p
    | some r =>
      { p with value := some r.value, age := r.age, clampedFlag := r.clamped,
               quality := if p.cfg.staleLimit < r.age then .stale else .good }
  else p

/-- An expiry of a point's recovery timer (R9). -/
def Point.recoveryExpiry (p : Point) : Point :=
  let again := some (p.cfg.recoveryPeriod * 1000)
  if p.lastAttemptOk then
    let count := p.failCount - 1
    if count = 0 then ({ p with failCount := count, recoveryTimer := none } : Point).recover
    else { p with failCount := count, recoveryTimer := again }
  else { p with recoveryTimer := again }

/-- RECOVERY_TIMER_EXPIRY of a point whose timer runs (R9). -/
def recoveryTimerExpiry (i : Fin 96) (s : State) : State :=
  match s.points[i].recoveryTimer with
  | none => s
  | some _ => s.modPoint i Point.recoveryExpiry

end Sys2Proof.Machine
end

