-- ==== Sys2Proof/Machine/Wires.lean ====
section
/-! DEFINITION. What an instrument line does on its two wires (section 2.5, R42, R43, R50): the conditions and bytes of each kind of entry with
the acknowledge bits between them, run against what the station answers, the recovery procedure, run against what the wires do, and the
releases after a held clock and by ResetLine. -/

namespace Sys2Proof.Machine

/-! ### Transactions (R33 to R35) -/

/-- The address byte: the station address in the seven high bits, then the direction bit, 1 where the station is to send (section
2.5). -/
def Entry.addressByte (reading : Bool) (e : Entry) : Byte := BitVec.ofNat 8 (2 * e.station + reading.toNat)

/-- The item byte. An entry that is no PROBE always carries an item (R30). -/
def Entry.itemByte (e : Entry) : Byte := BitVec.ofNat 8 (e.item.getD 0)

/-- How many bytes an entry of a kind receives (R34). -/
def EntryKind.receives : EntryKind → Nat
  | .readU16 => 2
  | .readS16 => 2
  | .readU8 => 1
  | .readU16St => 3
  | .writeDrive => 0
  | .probe => 0

/-- Bytes received: ACK after each but the last, NAK after the last (R34). -/
def receiveActs : Nat → List WireAct
  | 0 => []
  | 1 => [.receive false]
  | n + 2 => .receive true :: receiveActs (n + 1)

/-- A sample as the two bytes sent, high byte first (R35). -/
def sampleActs (v : Int) : List WireAct :=
  let word := BitVec.ofInt 16 v
  [.data (word.extractLsb' 8 8), .data (word.extractLsb' 0 8)]

/-- What the line does on the wires for an entry whose every byte is acknowledged (R33 to R35). A WRITE_DRIVE entry always has its
sample, since it always names a drive (R30). -/
def Entry.acts (repeatedStart : Bool) (sample : Option Int) (e : Entry) : List WireAct :=
  let opening := [if repeatedStart then .repeatedStart else .start, .address (e.addressByte false)]
  let read := opening ++ [.data e.itemByte, .repeatedStart, .address (e.addressByte true)] ++ receiveActs e.kind.receives
  match e.kind with
  | .readU16 => read
  | .readS16 => read
  | .readU8 => read
  | .readU16St => read
  | .writeDrive => opening ++ .data e.itemByte :: sampleActs (sample.getD 0)
  | .probe => opening

/-- How a transaction that met no held wire ended: at the NAK to an address byte, at the NAK to another byte, or complete. -/
inductive TransactionEnd where
  | addressRefused
  | dataRefused
  | complete
  deriving DecidableEq, Repr

/-- A transaction as it took place: what the line did, the bytes it received, and how it ended. -/
structure Transaction where
  done : List WireAct
  received : List Byte
  ended : TransactionEnd
  deriving DecidableEq, Repr

/-- An action before the rest of a transaction. -/
def Transaction.after (a : WireAct) (t : Transaction) : Transaction := { t with done := a :: t.done }

/-- Run a line's actions against a station's answers. A NAK to a byte sent ends the transaction at that bit (R34, R35). -/
def transact : List WireAct → StationAnswers → Transaction
  | [], _ => ⟨[], [], .complete⟩
  | .start :: acts, x => (transact acts x).after .start
  | .repeatedStart :: acts, x => (transact acts x).after .repeatedStart
  | .address b :: acts, x =>
    if x.acknowledges.headD false then (transact acts { x with acknowledges := x.acknowledges.tail }).after (.address b)
    else ⟨[.address b], [], .addressRefused⟩
  | .data b :: acts, x =>
    if x.acknowledges.headD false then (transact acts { x with acknowledges := x.acknowledges.tail }).after (.data b)
    else ⟨[.data b], [], .dataRefused⟩
  | .release :: acts, x => (transact acts x).after .release
  | .pulse :: acts, x => (transact acts x).after .pulse
  | .stop readBack :: acts, x => (transact acts x).after (.stop readBack)
  | .stopIfClockRises :: acts, x => (transact acts x).after .stopIfClockRises
  | .stopIfClockHigh :: acts, x => (transact acts x).after .stopIfClockHigh
  | .receive ack :: acts, x =>
    let t := transact acts { x with bytes := x.bytes.tail }
    { t with done := .receive ack :: t.done, received := x.bytes.headD 0xFF :: t.received }

/-- Whether the entry being performed began with a repeated start (R33). -/
def Line.beganRepeated (l : Line) : Bool :=
  match l.activity with
  | .entry _ _ repeatedStart => repeatedStart
  | .resting => false
  | .closing _ => false
  | .procedure _ _ => false
  | .attempt => false

/-- The transaction of the entry the line performs, with its sample, against a station's answers. -/
def Line.transaction (e : Entry) (sample : Option Int) (station : StationAnswers) (l : Line) : Transaction :=
  transact (e.acts l.beganRepeated sample) station

/-! ### The recovery procedure (R43) -/

/-- How a run of the recovery procedure ends (R43). -/
inductive RecoveryResult where
  | freed
  | heldData
  | heldClock
  deriving DecidableEq, Repr

/-- A run of the recovery procedure: what the line did, and how it ended. -/
structure Recovery where
  done : List WireAct
  result : RecoveryResult
  deriving DecidableEq, Repr

/-- The present reading of the wires. Wires that nobody holds read high. -/
def presentReading (wires : List WireReading) : WireReading := wires.headD ⟨true, true⟩

/-- The stop of the procedure, judged as R37 judges every stop: the data wire must rise in it. That a clock wire held beyond
clockHold in this stop makes the procedure fail with cause HELD_CLOCK is read from R36, which judges every release of the clock
(DEDUCED, log 53). -/
def recoveryStop (wires : List WireReading) : Recovery :=
  let w := presentReading wires
  ⟨[.stop true], if w.clockRises then (if w.dataHigh then .freed else .heldData) else .heldClock⟩

/-- The clock pulses, at most n, with a read of the data wire after each, and the stop as soon as it reads high (R43). -/
def recoveryPulses : Nat → List WireReading → Recovery
  | 0, _ => ⟨[], .heldData⟩
  | n + 1, wires =>
    let w := presentReading wires
    let rest :=
      if w.clockRises then (if w.dataHigh then recoveryStop wires.tail else recoveryPulses n wires.tail) else ⟨[], .heldClock⟩
    { rest with done := .pulse :: rest.done }

/-- The recovery procedure: release both wires; the stop where the data wire is high, at most nine pulses where it is low (R43). -/
def recoveryProcedure (wires : List WireReading) : Recovery :=
  let w := presentReading wires
  let rest :=
    if w.clockRises then (if w.dataHigh then recoveryStop wires.tail else recoveryPulses 9 wires.tail) else ⟨[], .heldClock⟩
  { rest with done := .release :: rest.done }

/-! ### Releases (R42, R50) -/

/-- What the line does after a held clock: it releases both wires, and where the clock wire then rises within clockHold it sends a stop
without reading back the data wire (R42). -/
def heldClockActs : List WireAct := [.release, .stopIfClockRises]

/-- What the line does on its wires where ResetLine or the clearing of enabled meets a pass, a recovery procedure or a recovery attempt:
it releases both and sends a stop if the clock wire is high, without reading back the data wire (R50, R28). -/
def abandonActs : List WireAct := [.release, .stopIfClockHigh]

/-- What an action puts on the wires, given how the clock wire reads where the action depends on it: whether it rises, or is high. -/
def WireAct.under (clock : Bool) (a : WireAct) : List WireAct :=
  match a with
  | .stopIfClockRises => if clock then [.stop false] else []
  | .stopIfClockHigh => if clock then [.stop false] else []
  | .start => [a]
  | .repeatedStart => [a]
  | .address _ => [a]
  | .data _ => [a]
  | .receive _ => [a]
  | .release => [a]
  | .pulse => [a]
  | .stop _ => [a]

/-- What the line has last put on its wires, given how the clock wire reads where that depends on it (R42, R50). -/
def Line.wiresUnder (clock : Bool) (l : Line) : List WireAct := l.wires.flatMap (WireAct.under clock)

/-- The line has done these actions on its wires. -/
def Line.does (acts : List WireAct) (l : Line) : Line := { l with wires := acts }

/-- The stop that ends a pass, after what the event has done already (R33). -/
def Line.addStop (l : Line) : Line := { l with wires := l.wires ++ [.stop true] }

end Sys2Proof.Machine
end

