-- ==== Sys2Proof/Machine/Lines.lean ====
section
/-! DEFINITION. The instrument lines (chapter 02): passes, transactions as they end, held wires and recovery, changes of the
schedules, and the requests of the lines. What a line does on its wires within a transaction or a recovery is in Wires.lean; how
far it has come in one is not state (log 6). -/

namespace Sys2Proof.Machine

open Wire

/-! ### The result log (R41) -/

/-- Whether an outcome is appended to the result log (table of section 2.6). -/
def EntryOutcome.logged : EntryOutcome → Bool
  | .ok => false
  | .skipped => false
  | .notReached => false
  | .addrNak => true
  | .dataNak => true
  | .stationFault => true
  | .badRaw => true
  | .heldClock => true
  | .heldData => true
  | .aborted => true

/-- Append a result record; the 16 most recent are kept (R41). -/
def Line.record (r : ResultRecord) (l : Line) : Line :=
  let log := l.log ++ [r]
  { l with log := log.drop (log.length - 16), logTotal := wrapSucc 65535 l.logTotal }

/-- Set the lastOutcome of the positions in a range (R41). -/
def Line.mark (first last : Nat) (o : EntryOutcome) (l : Line) : Line :=
  { l with active := l.active.mapIdx (fun j e => if first ≤ j ∧ j < last then { e with lastOutcome := some o } else e) }

/-- Settle the entry at a position, with its record where the outcome is logged (R41). -/
def Line.settle (clock position : Nat) (o : EntryOutcome) (l : Line) : Line :=
  let l := l.mark position (position + 1) o
  if o.logged then l.record ⟨some position, o, clock⟩ else l

/-! ### What an outcome does to the target (R38, R39) -/

/-- Whether a point takes the reads of an instrument line: its source is FIELD (R2, R38). -/
def takesReads (s : State) (p : Fin 96) : Bool := decide (s.points[p].cfg.source = .field)

/-- One failed read of an entry's target (R38). -/
def failRead (e : Entry) (s : State) : State :=
  match e.target with
  | .point p => if e.kind.isRead && takesReads s p then s.modPoint p Point.failedRead else s
  | .drive _ => s
  | .none => s

/-- One failure of an entry's drive (R39, R21). -/
def failDrive (e : Entry) (s : State) : State :=
  match e.target with
  | .drive d => if e.kind = .writeDrive then s.modDrive d (Drive.failure s.clock) else s
  | .point _ => s
  | .none => s

/-- A failed read or a failed delivery, as the entry's kind has it. -/
def failEntry (e : Entry) (s : State) : State := failDrive e (failRead e s)

/-! ### Swap, start and end of a pass (R31, R32) -/

/-- Give every drive the delivery state the active schedules ask for (R20). -/
def rebindDrives (s : State) : State := { s with drives := modifyAll s.drives (fun d x => x.rebind (driveBound s d)) }

/-- The swap: the staged schedule becomes the active one and stays as its copy; lastOutcome absent, ready clear (R31). -/
def Line.swap (l : Line) : Line := { l with active := l.staged.map (fun e => ⟨e, none⟩), ready := false }

/-- The swap of a line, with the drives' delivery states (R31, R20). -/
def swapLine (i : Fin 3) (s : State) : State := rebindDrives (s.modLine i Line.swap)

/-- Whether an entry is selected at a value of the pass counter (R31). -/
def Entry.selected (counter : Nat) (e : Entry) : Bool := decide (counter % e.every = e.phase)

/-- The first position from a given one whose entry is selected. -/
def Line.nextSelected (from_ : Nat) (l : Line) : Option Nat :=
  ((l.active.drop from_).findIdx? (fun e => e.entry.selected l.passCounter)).map (fun k => from_ + k)

/-- The drive value a WRITE_DRIVE entry samples at its start (R35). -/
def sampleFor (s : State) (e : Entry) : Option Int :=
  match e.target with
  | .drive d => if e.kind = .writeDrive then some s.drives[d].value else none
  | .point _ => none
  | .none => none

/-- Begin the entry at a position: its start condition is a repeated start or a start, and a start takes up the rate (R27,
R33). -/
def Line.begin (position : Nat) (sample : Option Int) (repeatedStart : Bool) (l : Line) : Line :=
  { l with state := .passing, activity := .entry position sample repeatedStart,
           wireFast := if repeatedStart then l.wireFast else l.cfg.fast }

/-- Go on from a position: entries not selected are SKIPPED, the next selected one is begun; none when the schedule has no
further selected entry, all remaining entries being SKIPPED (R31, R33). -/
def goOn (i : Fin 3) (from_ : Nat) (repeatedStart : Bool) (s : State) : State × Bool :=
  let l := s.lines[i]
  match l.nextSelected from_ with
  | some position =>
    let sample := (l.active[position]?).bind (fun e => sampleFor s e.entry)
    (s.modLine i (fun l => (l.mark from_ position .skipped).begin position sample repeatedStart), true)
  | none => (s.modLine i (fun l => l.mark from_ l.active.length .skipped), false)

/-- The end of a pass with the positions before `settled` settled: the rest NOT_REACHED, the counter advanced, the line in the
given state (R32). -/
def Line.closeOut (settled : Nat) (state : LineState) (l : Line) : Line :=
  let l := l.mark settled l.active.length .notReached
  { l with passCounter := wrapSucc 65535 l.passCounter, state := state, activity := .resting }

/-- Open a pass: swap if ready, enter PASSING, begin the first selected entry; false where no entry is selected (R31). -/
def openPass (i : Fin 3) (s : State) : State × Bool :=
  let s := if s.lines[i].ready then swapLine i s else s
  goOn i 0 false (s.modLine i (fun l => { l with state := .passing }))

/-- Start a pass. A pass without a selected entry ends at once (R31); the fuel bounds the passes one event can start, since a
pending mark is spent by the first. -/
def startPass (i : Fin 3) : Nat → State → State
  | 0, s => s
  | fuel + 1, s =>
    match openPass i s with
    | (s, true) => s
    | (s, false) =>
      let s := s.modLine i (fun l => l.closeOut l.active.length .idle)
      if s.lines[i].pending then startPass i fuel (s.modLine i (fun l => { l with pending := false })) else s

/-- The end of a pass into IDLE or a pending pass (R32). -/
def endPass (i : Fin 3) (settled : Nat) (s : State) : State :=
  let s := s.modLine i (fun l => l.closeOut settled .idle)
  if s.lines[i].pending then startPass i 2 (s.modLine i (fun l => { l with pending := false })) else s

/-- The end of a pass into FAULTED (R32, R44, R45). -/
def faultPass (i : Fin 3) (settled : Nat) (cause : FaultCause) (s : State) : State :=
  s.modLine i (fun l =>
    { l.closeOut settled .faulted with
      pending := false
      faultCause := some cause
      faultedSince := some s.clock
      attemptCount := 0 })

/-- The stop that ends a pass: sent within the event, or under way after it (R33). -/
def sendStop (i : Fin 3) (settled : Nat) (closing : ClosingStop) (s : State) : State :=
  match closing with
  | .sent => endPass i settled (s.modLine i Line.addStop)
  | .underWay => s.modLine i (fun l => { l with activity := .closing settled })

/-- Go on after the entry at a position has ended (R33, R40). -/
def afterEntry (i : Fin 3) (position : Nat) (stop : Bool) (closing : ClosingStop) (s : State) : State :=
  if stop then sendStop i (position + 1) closing s
  else
    match goOn i (position + 1) true s with
    | (s, true) => s
    | (s, false) => sendStop i s.lines[i].active.length closing s

/-- Whether an outcome ends the pass under errorPolicy STOP without recovery (R40). -/
def EntryOutcome.policed : EntryOutcome → Bool
  | .addrNak => true
  | .dataNak => true
  | .stationFault => true
  | .ok => false
  | .badRaw => false
  | .heldClock => false
  | .heldData => false
  | .aborted => false
  | .skipped => false
  | .notReached => false

/-- Settle an entry whose transaction ended on its own, and go on (R38 to R41). -/
def settleEntry (i : Fin 3) (position : Nat) (e : Entry) (o : EntryOutcome) (acts : List WireAct) (closing : ClosingStop)
    (s : State) : State :=
  afterEntry i position (o.policed && e.stopPolicy) closing
    (s.modLine i (fun l => (l.settle s.clock position o).does acts))

/-- The entry being performed, with its position and sample. -/
def Line.performing (l : Line) : Option (Nat × Entry × Option Int) :=
  match l.state, l.activity with
  | .passing, .entry position sample _ => (l.active[position]?).map (fun e => (position, e.entry, sample))
  | _, _ => none

/-! ### The entries' ends -/

/-- The raw value of the bytes a READ entry received (table of section 1.2). -/
def rawValue (kind : EntryKind) (bytes : List Byte) : Int :=
  let b0 := bytes.getD 0 0
  let word := b0 ++ bytes.getD 1 0
  match kind with
  | .readS16 => word.toInt
  | .readU8 => (b0.toNat : Int)
  | .readU16 => (word.toNat : Int)
  | .readU16St => (word.toNat : Int)
  | .writeDrive => 0
  | .probe => 0

/-- The point's verdict on the raw value of a finished READ entry, with what it does to the point (R38). -/
def readVerdict (e : Entry) (raw : Int) (s : State) : State × EntryOutcome :=
  match e.target with
  | .point p =>
    if takesReads s p then
      match scaleRaw s.points[p].cfg raw with
      | some (v, clamped) => (s.modPoint p (Point.goodRead v clamped), .ok)
      | none => (s.modPoint p Point.failedRead, .badRaw)
    else (s, .ok)
  | .drive _ => (s, .ok)
  | .none => (s, .ok)

/-- The outcome of a READ transaction and its effect on the target (R34, R38). -/
def readOutcome (e : Entry) (x : Transaction) (s : State) : State × EntryOutcome :=
  match x.ended with
  | .addressRefused => (failRead e s, .addrNak)
  | .dataRefused => (failRead e s, .dataNak)
  | .complete =>
    if decide (e.kind = .readU16St) && x.received.getD 2 0 != 0 then (failRead e s, .stationFault)
    else readVerdict e (rawValue e.kind x.received) s

/-- READ_ENTRY_END (R34, R38). -/
def readEntryEnd (i : Fin 3) (station : StationAnswers) (closing : ClosingStop) (s : State) : State :=
  match s.lines[i].performing with
  | some (position, e, sample) =>
    if e.kind.isRead then
      let x := s.lines[i].transaction e sample station
      match readOutcome e x s with
      | (s, o) => settleEntry i position e o x.done closing s
    else s
  | none => s

/-- The outcome of a WRITE_DRIVE transaction and its effect on the drive (R35, R39, R21). -/
def writeOutcome (e : Entry) (sample : Option Int) (x : Transaction) (s : State) : State × EntryOutcome :=
  match x.ended with
  | .addressRefused => (failDrive e s, .addrNak)
  | .dataRefused => (failDrive e s, .dataNak)
  | .complete =>
    match e.target, sample with
    | .drive d, some v => (s.modDrive d (Drive.success v), .ok)
    | _, _ => (s, .ok)

/-- WRITE_DRIVE_ENTRY_END (R35, R39). -/
def writeDriveEntryEnd (i : Fin 3) (station : StationAnswers) (closing : ClosingStop) (s : State) : State :=
  match s.lines[i].performing with
  | some (position, e, sample) =>
    if e.kind = .writeDrive then
      let x := s.lines[i].transaction e sample station
      match writeOutcome e sample x s with
      | (s, o) => settleEntry i position e o x.done closing s
    else s
  | none => s

/-- The outcome of a PROBE (R35): its one byte is an address byte. -/
def probeOutcome (x : Transaction) : EntryOutcome :=
  match x.ended with
  | .addressRefused => .addrNak
  | .dataRefused => .dataNak
  | .complete => .ok

/-- PROBE_END (R35). -/
def probeEnd (i : Fin 3) (station : StationAnswers) (closing : ClosingStop) (s : State) : State :=
  match s.lines[i].performing with
  | some (position, e, sample) =>
    if e.kind = .probe then
      let x := s.lines[i].transaction e sample station
      settleEntry i position e (probeOutcome x) x.done closing s
    else s
  | none => s

/-! ### Held wires and recovery (section 2.7) -/

/-- HELD_CLOCK: the held entry, or the closing stop, meets a clock wire held beyond clockHold; the line releases its wires, sends a stop
if the clock wire then rises within clockHold, and the pass ends either way (R36, R42). -/
def heldClock (i : Fin 3) (s : State) : State :=
  match s.lines[i].performing with
  | some (position, e, _) =>
    endPass i (position + 1)
      ((failEntry e s).modLine i (fun l => (l.settle s.clock position .heldClock).does heldClockActs))
  | none =>
    match s.lines[i].state, s.lines[i].activity with
    | .passing, .closing settled =>
      endPass i settled
        (s.modLine i (fun l => (l.record ⟨none, .heldClock, s.clock⟩).does heldClockActs))
    | _, _ => s

/-- Enter the recovery procedure, or FAULTED, with the wires released (R45), where autoRecover is clear (R44). -/
def recoverOrFault (i : Fin 3) (settled : Nat) (atStop : Bool) (s : State) : State :=
  if s.lines[i].cfg.autoRecover then
    s.modLine i (fun l => { l with state := .recovering, activity := .procedure settled atStop, wireFast := l.cfg.fast })
  else faultPass i settled .heldData (s.modLine i (Line.does [.release]))

/-- HELD_DATA_WIRE: the held entry, or the closing stop, finds the data wire low (R37, R44). -/
def heldDataWire (i : Fin 3) (s : State) : State :=
  match s.lines[i].performing with
  | some (position, e, _) =>
    recoverOrFault i (position + 1) false ((failEntry e s).modLine i (Line.settle s.clock position .heldData))
  | none =>
    match s.lines[i].state, s.lines[i].activity with
    | .passing, .closing settled =>
      recoverOrFault i settled true (s.modLine i (Line.record ⟨none, .heldData, s.clock⟩))
    | _, _ => s

/-- A successful recovery: the pass ends, or goes on after an entry held under CONTINUE (R44). The procedure's own stop is then the
pass's last: where the pass ends here, after a recovery under CONTINUE too when no further entry is selected, no second closing
stop is sent (R33 and R44 leave it open; DESIGN CHOICE, log 48). -/
def afterRecovery (i : Fin 3) (settled : Nat) (atStop : Bool) (s : State) : State :=
  let policy := (s.lines[i].active[settled - 1]?).any (fun e => e.entry.stopPolicy)
  if atStop || policy then endPass i settled s
  else
    match goOn i settled false (s.modLine i (fun l => { l with state := .passing })) with
    | (s, true) => s
    | (s, false) => endPass i s.lines[i].active.length s

/-- RECOVERY_PROCEDURE_END (R43, R44). -/
def recoveryProcedureEnd (i : Fin 3) (wires : List WireReading) (s : State) : State :=
  match s.lines[i].state, s.lines[i].activity with
  | .recovering, .procedure settled atStop =>
    let r := recoveryProcedure wires
    let s := s.modLine i (Line.does r.done)
    match r.result with
    | .freed => afterRecovery i settled atStop s
    | .heldData => faultPass i settled .heldData s
    | .heldClock => faultPass i settled .heldClock s
  | _, _ => s

/-- A failed recovery attempt: every READ target one failed read, every WRITE_DRIVE drive a failure (R45). -/
def attemptFailed (i : Fin 3) (cause : FaultCause) (s : State) : State :=
  let s := s.lines[i].active.foldl (fun s e => failEntry e.entry s) s
  s.modLine i (fun l =>
    { l with activity := .resting, faultCause := some cause, attemptCount := satSucc 65535 l.attemptCount })

/-- RECOVERY_ATTEMPT_END: one run of the recovery procedure (R43, R45). -/
def recoveryAttemptEnd (i : Fin 3) (wires : List WireReading) (s : State) : State :=
  match s.lines[i].state, s.lines[i].activity with
  | .faulted, .attempt =>
    let r := recoveryProcedure wires
    let s := s.modLine i (Line.does r.done)
    match r.result with
    | .freed =>
      startPass i 2 (s.modLine i (fun l =>
        { l with state := .idle, activity := .resting, faultCause := none, faultedSince := none }))
    | .heldData => attemptFailed i .heldData s
    | .heldClock => attemptFailed i .heldClock s
  | _, _ => s

/-- An expiry absorbed by the overrun count (R29). -/
def Line.overrunOne (l : Line) : Line := { l with overrun := satSucc 65535 l.overrun }

/-- PASS_TIMER_EXPIRY (R29, R45). -/
def passTimerExpiry (i : Fin 3) (s : State) : State :=
  match s.lines[i].passTimer with
  | none => s
  | some _ =>
    let s := s.modLine i (fun l => { l with passTimer := some (l.cfg.passInterval * 10) })
    match s.lines[i].state with
    | .disabled => s
    | .idle => startPass i 2 s
    | .passing => s.modLine i (fun l => if l.pending then l.overrunOne else { l with pending := true })
    | .recovering => s.modLine i (fun l => if l.pending then l.overrunOne else { l with pending := true })
    | .faulted =>
      s.modLine i (fun l =>
        if l.activity = .attempt then l.overrunOne else { l with activity := .attempt, wireFast := l.cfg.fast })

/-! ### ResetLine and ConfigureLine (R50, R27, R28) -/

/-- What ResetLine does to the pass, the recovery, the wires and the marks, leaving the line in the given state (R50). -/
def Line.abort (clock : Nat) (state : LineState) (l : Line) : Line :=
  let l :=
    match l.state, l.activity with
    | .passing, .entry position _ _ =>
      ((l.settle clock position .aborted).does abandonActs).closeOut (position + 1) state
    | .passing, .closing settled => (l.does abandonActs).closeOut settled state
    | .recovering, .procedure settled _ => (l.does abandonActs).closeOut settled state
    | .faulted, .attempt => { l.does abandonActs with state := state, activity := .resting }
    | _, _ => { l with state := state, activity := .resting }
  { l with pending := false, ready := false, faultCause := none, faultedSince := none }

/-- ResetLine (R50). -/
def ownResetLine (line : Nat) (s : State) : State × Answer :=
  match ident 3 line with
  | none => refuse s .badField []
  | some i =>
    accept (s.modLine i (fun l => l.abort s.clock (if l.state = .disabled then .disabled else .idle))) []

/-- Whether a WRITE_DRIVE entry of a schedule names a drive whose owner is active (R28, R48). -/
def namesActiveDrive (s : State) (l : Line) : Bool := (indexes 15).any (fun d => l.names d && ownerActive s d)

/-- Store a configuration and enable or disable the line (R27, R28). -/
def Line.configure (clock : Nat) (enabled : Bool) (cfg : LineConfig) (l : Line) : Line :=
  let l := { l with cfg := cfg }
  if enabled then
    if l.state = .disabled then
      { l with enabled := true, state := .idle, activity := .resting, passTimer := some (cfg.passInterval * 10) }
    else l
  else if l.state = .disabled then l
  else { l.abort clock .disabled with enabled := false, passTimer := none }

/-- ConfigureLine (R27, R28). -/
def ownConfigureLine (q : LineFields) (s : State) : State × Answer :=
  match ident 3 q.line, LineFields.check q with
  | some i, some (enabled, cfg) =>
    if !enabled && decide (s.lines[i].state ≠ .disabled) && namesActiveDrive s s.lines[i] then refuse s .inUse []
    else
      let s := s.modLine i (Line.configure s.clock enabled cfg)
      accept s (putLineConfig (s.lines[i].cfg.fields s.lines[i].enabled))
  | _, _ => refuse s .badField []

/-! ### The schedule check (R48) -/

/-- A point or a drive that fails the schedule check, with the other line under requirement (3). -/
inductive Offender where
  | point (p : Fin 96) (other : Option (Fin 3))
  | drive (d : Fin 15) (other : Option (Fin 3))
  deriving DecidableEq, Repr

/-- How often a schedule names a point in READ entries, and a drive in WRITE_DRIVE entries. -/
def readCount (p : Fin 96) (c : List Entry) : Nat := c.countP (fun e => e.reads p)

def writeCount (d : Fin 15) (c : List Entry) : Nat := c.countP (fun e => e.writes d)

/-- Whether another line holds an entry that passes the test: in its active schedule, or in its staged one while ready. -/
def Line.holds (test : Entry → Bool) (l : Line) : Bool := l.active.any (fun e => test e.entry) || (l.ready && l.staged.any test)

/-- The first other line that holds such an entry. -/
def otherLine (s : State) (i : Fin 3) (test : Entry → Bool) : Option (Fin 3) :=
  firstIndex 3 (fun j => decide (j ≠ i) && s.lines[j].holds test)

/-- Requirement (1): no point is the target of two READ entries. -/
def checkPointsOnce (c : List Entry) : Option Offender :=
  (firstIndex 96 (fun p => decide (2 ≤ readCount p c))).map (fun p => .point p none)

/-- Requirement (2): no drive is the target of two WRITE_DRIVE entries. -/
def checkDrivesOnce (c : List Entry) : Option Offender :=
  (firstIndex 15 (fun d => decide (2 ≤ writeCount d c))).map (fun d => .drive d none)

/-- Requirement (3) for points: none is read by another line. "The same kind" is READ or WRITE_DRIVE (DEDUCED, log 17). -/
def checkPointsElsewhere (s : State) (i : Fin 3) (c : List Entry) : Option Offender :=
  (firstIndex 96 (fun p => decide (1 ≤ readCount p c) && (otherLine s i (fun e => e.reads p)).isSome)).map
    (fun p => .point p (otherLine s i (fun e => e.reads p)))

/-- Requirement (3) for drives: none is written by another line. -/
def checkDrivesElsewhere (s : State) (i : Fin 3) (c : List Entry) : Option Offender :=
  (firstIndex 15 (fun d => decide (1 ≤ writeCount d c) && (otherLine s i (fun e => e.writes d)).isSome)).map
    (fun d => .drive d (otherLine s i (fun e => e.writes d)))

/-- Requirement (4): a drive of the present active schedule whose owner is active stays named. -/
def checkActiveKept (s : State) (i : Fin 3) (c : List Entry) : Option Offender :=
  (firstIndex 15 (fun d => s.lines[i].names d && ownerActive s d && decide (writeCount d c = 0))).map (fun d => .drive d none)

/-- The schedule check of a candidate for a line: the first failure, or none (R48). -/
def scheduleCheck (s : State) (i : Fin 3) (c : List Entry) : Option Offender :=
  ((((checkPointsOnce c).or (checkDrivesOnce c)).or (checkPointsElsewhere s i c)).or (checkDrivesElsewhere s i c)).or
    (checkActiveKept s i c)

/-- The detail of a failed schedule check: point or drive, its number, and the other line (R48). -/
def putOffender : Offender → List Byte
  | .point p other => putByte 0 ++ putByte p.val ++ putIdent other
  | .drive d other => putByte 1 ++ putByte d.val ++ putIdent other

/-! ### Editing and swapping (R47, R49) -/

/-- Apply an edit to the staged schedule, put to the schedule check while ready is set (R47). -/
def applyEdit (i : Fin 3) (edited : List Entry) (content : List Byte) (s : State) : State × Answer :=
  let stored := s.modLine i (fun l => { l with staged := edited })
  if s.lines[i].ready then
    match scheduleCheck s i edited with
    | some o => refuse s .inUse (putOffender o)
    | none => accept stored content
  else accept stored content

/-- EditEntry (R47). -/
def ownEditEntry (line position : Nat) (q : EntryFields) (s : State) : State × Answer :=
  match ident 3 line, EntryFields.check q (fun p => s.points[p].cfg.source) with
  | some i, some e =>
    let staged := s.lines[i].staged
    if position < staged.length then applyEdit i (staged.set position e) (putByte staged.length ++ putEntry e.fields) s
    else refuse s .badField []
  | _, _ => refuse s .badField []

/-- InsertEntry (R47). -/
def ownInsertEntry (line position : Nat) (q : EntryFields) (s : State) : State × Answer :=
  match ident 3 line, EntryFields.check q (fun p => s.points[p].cfg.source) with
  | some i, some e =>
    let staged := s.lines[i].staged
    if position ≤ staged.length then
      if 24 ≤ staged.length then refuse s .inUse []
      else
        applyEdit i (staged.take position ++ e :: staged.drop position)
          (putByte (staged.length + 1) ++ putEntry e.fields) s
    else refuse s .badField []
  | _, _ => refuse s .badField []

/-- RemoveEntry (R47). -/
def ownRemoveEntry (line position : Nat) (s : State) : State × Answer :=
  match ident 3 line with
  | none => refuse s .badField []
  | some i =>
    let staged := s.lines[i].staged
    if position < staged.length then applyEdit i (staged.eraseIdx position) (putByte (staged.length - 1)) s
    else refuse s .badField []

/-- ClearStaged (R47). -/
def ownClearStaged (line : Nat) (s : State) : State × Answer :=
  match ident 3 line with
  | none => refuse s .badField []
  | some i => applyEdit i [] (putByte 0) s

/-- SwapSchedule (R49). The reply says which took place in one byte: 0, swapped at once; 1, marked ready for the next pass start. That
coding is the model's, and where the line was ready already, neither took place and R49 names no content, it says 1 (DESIGN CHOICE,
log 38). -/
def ownSwapSchedule (line : Nat) (s : State) : State × Answer :=
  match ident 3 line with
  | none => refuse s .badField []
  | some i =>
    if s.lines[i].ready then accept s (putByte 1)
    else
      match scheduleCheck s i s.lines[i].staged with
      | some o => refuse s .inUse (putOffender o)
      | none =>
        if s.lines[i].state = .disabled then accept (swapLine i s) (putByte 0)
        else accept (s.modLine i (fun l => { l with ready := true })) (putByte 1)

/-! ### ReadLine (R51) -/

/-- The views of ReadLine. -/
inductive LineView where
  | status | active | staged | log
  deriving DecidableEq, Repr

def LineView.choices : List LineView := [.status, .active, .staged, .log]

/-- The position of the entry being performed, absent outside PASSING (R51). -/
def Line.position (l : Line) : Option Nat := l.performing.map (fun p => p.1)

def putLineStatus (l : Line) : List Byte :=
  let faulted := decide (l.state = .faulted)
  putLineConfig (l.cfg.fields l.enabled) ++ putByte l.state.code ++ putWord l.passCounter ++ putBool l.pending ++
    putBool l.ready ++ putWord l.overrun ++ putByte l.active.length ++ putByte l.staged.length ++
    putOption putByte l.position ++ putOption (fun c => putByte (FaultCause.code c)) l.faultCause ++
    putOption putLong l.faultedSince ++ putOption putWord (if faulted then some l.attemptCount else none) ++
    putWord l.logTotal

def putActiveEntry (e : ActiveEntry) : List Byte :=
  putEntry e.entry.fields ++ putOption (fun o => putByte (EntryOutcome.code o)) e.lastOutcome

def putResultRecord (r : ResultRecord) : List Byte :=
  putOption putByte r.position ++ putByte r.outcome.code ++ putLong r.clock

def putLineView (l : Line) : LineView → List Byte
  | .status => putLineStatus l
  | .active => putList putActiveEntry l.active
  | .staged => putList (fun e => putEntry (Entry.fields e)) l.staged
  | .log => putList putResultRecord l.log ++ putWord l.logTotal

/-- ReadLine (R51). -/
def ownReadLine (line view : Nat) (s : State) : State × Answer :=
  match ident 3 line, choice LineView.choices view with
  | some i, some v => accept s (putLineView s.lines[i] v)
  | _, _ => refuse s .badField []

end Sys2Proof.Machine
end

