-- ==== Sys2Proof/Machine/Wells.lean ====
section
/-! DEFINITION. The well pump controller (chapter 06). The run line follows the well's state at the end of the event
(`settleOutputs`, R111); the drive and the off time are written in the passage itself. -/

namespace Sys2Proof.Machine

open Wire

/-! ### Passages between states -/

/-- Write the demand of a well, which is the value of its drive (R111). -/
def writeDemand (k : Fin 8) (v : Int) (s : State) : State := writeDrive (wellDrive k) v s

/-- The demand of a well (section 6.2). -/
def demandOf (s : State) (k : Fin 8) : Int := s.drives[wellDrive k].value

/-- Entry to STARTING (R111, R113, R114, R118). -/
def Well.enterStarting (clock : Nat) (w : Well) : Well :=
  { w with state := .starting, stopTo := none, suspendCause := none, waitReason := none,
           startLog := w.startLog ++ [⟨clock, 0⟩], offFor := none, floorTimer := 0,
           startTimer := some (w.cfg.startTimeout * 1000) }

def enterStarting (k : Fin 8) (s : State) : State :=
  writeDemand k s.wells[k].cfg.minSpeed (s.modWell k (Well.enterStarting s.clock))

/-- A completed stop (R120). -/
def Well.completeStop (w : Well) : Well :=
  match w.stopTo with
  | some .suspended => { w with state := .suspended, stopTo := none, stopTimer := none }
  | _ => { w with state := .off, stopTo := none, suspendCause := none, stopTimer := none }

/-- Entry to STOPPING, completed at once where the feedback is already released (R120). -/
def Well.enterStopping (stopTo : StopTo) (cause : Option SuspendCause) (closed : Bool) (w : Well) : Well :=
  let w := { w with state := .stopping, stopTo := some stopTo, suspendCause := cause, waitReason := none,
                    offFor := some 0, floorTimer := 0, startTimer := none }
  if closed then { w with stopTimer := some (w.cfg.stopTimeout * 1000) } else w.completeStop

def enterStopping (k : Fin 8) (stopTo : StopTo) (cause : Option SuspendCause) (s : State) : State :=
  writeDemand k 0 (s.modWell k (Well.enterStopping stopTo cause (feedback s k)))

/-- The full trip-decay interval in ms (R132). -/
def Well.decayInterval (w : Well) : Nat := w.cfg.tripRecovery * 3600000

/-- A trip of a well (R131). -/
def Well.trip (clock : Nat) (cause : WellTripCause) (w : Well) : Well :=
  let count := w.tripCount + 1
  let lock := decide (count = w.cfg.tripLimit)
  { w with
    state := if lock then .lockedOut else .tripped
    stopTo := none
    suspendCause := none
    waitReason := none
    offFor := if w.state.energised then some 0 else w.offFor
    floorTimer := 0
    startTimer := none
    stopTimer := none
    tripRecord := some ⟨cause, clock, w.state, viewValue w.intakeRead, viewValue w.windingRead⟩
    tripCount := count
    decayTimer := if lock then none else if w.tripCount = 0 then some w.decayInterval else w.decayTimer }

def tripWell (k : Fin 8) (cause : WellTripCause) (s : State) : State :=
  writeDemand k 0 (s.modWell k (Well.trip s.clock cause))

/-! ### Field events -/

/-- The ESTOP event at the wells (R131). -/
def estopWells (s : State) : State :=
  forEach 8 (fun k s => if s.wells[k].state.atRest then s else tripWell k .estop s) s

/-- A change of the role level of FBK_Wk (R118, R120, R129). -/
def feedbackChanged (k : Fin 8) (level : Bool) (s : State) : State :=
  let w := s.wells[k]
  if level then
    if w.state = .starting then s.modWell k (fun w => { w with state := .running, startTimer := none }) else s
  else if w.state.isRunning then tripWell k .feedbackLost s
  else if w.state = .stopping then s.modWell k Well.completeStop
  else s

/-- START_TIMER_EXPIRY of a running start timer (R118). -/
def startTimerExpiry (k : Fin 8) (s : State) : State :=
  match s.wells[k].startTimer with
  | none => s
  | some _ =>
    let s := s.modWell k (fun w => { w with startTimer := none })
    if s.wells[k].state = .starting then tripWell k .feedbackFail s else s

/-- STOP_TIMER_EXPIRY of a running stop timer (R120). -/
def stopTimerExpiry (k : Fin 8) (s : State) : State :=
  match s.wells[k].stopTimer with
  | none => s
  | some _ =>
    let s := s.modWell k (fun w => { w with stopTimer := none })
    if s.wells[k].state = .stopping then tripWell k .feedbackStuck s else s

/-- One expiry of the trip-decay timer (R132). -/
def Well.decay (w : Well) : Well :=
  let count := w.tripCount - 1
  { w with tripCount := count, decayTimer := if count = 0 then none else some w.decayInterval }

/-- TRIP_DECAY_EXPIRY of a running trip-decay timer (R132). -/
def tripDecayExpiry (k : Fin 8) (s : State) : State :=
  match s.wells[k].decayTimer with
  | none => s
  | some _ => s.modWell k Well.decay

/-! ### Starting (R113 to R117) -/

/-- The five parts of start permission, in the order of R115. -/
def permissionParts (s : State) (k : Fin 8) : List Bool :=
  [decide (s.phase = .run), decide (s.supervision.state = .disarmed) || decide (s.supervision.state = .armed),
    !estopActive s, inRole s (runLine k) && inRole s (feedbackLine k), s.wells[k].cfg.enabled]

/-- Start permission (R115). -/
def startPermission (s : State) (k : Fin 8) : Bool := (permissionParts s k).all (fun b => b)

/-- Whether minOff has elapsed (R114). -/
def Well.minOffElapsed (w : Well) : Bool := w.offFor.all (fun n => decide (w.cfg.minOff * 1000 ≤ n * 250))

/-- Whether the start log has room (R113). -/
def Well.logHasRoom (w : Well) : Bool := decide (w.startLog.length < w.cfg.maxStarts)

/-- The first start condition not met (R117). -/
def startConditionUnmet (s : State) (k : Fin 8) : Option WaitReason :=
  if !startPermission s k then some .noPermission
  else if !s.wells[k].minOffElapsed then some .minOff
  else if !s.wells[k].logHasRoom then some .logFull
  else if feedback s k then some .feedbackPresent
  else none

/-- Start, or wait for the first condition not met (R117, R126). -/
def startOrWait (k : Fin 8) (s : State) : State :=
  match startConditionUnmet s k with
  | none => enterStarting k s
  | some r => s.modWell k (fun w => { w with waitReason := some r })

/-! ### The WP period (R112) -/

/-- Step (1): the bound views and the three points (R103, R15). -/
def readWellInputs (k : Fin 8) (s : State) : State :=
  let c := s.wells[k].cfg
  s.modWell k (fun w =>
    { w with
      intakeView := s.bounds[(Target.wellFloor k).index]
      ceilingView := s.combined[k]
      intakeRead := readView s c.intakePoint
      windingRead := readView s c.windingPoint
      flowRead := readView s c.flowPoint })

/-- Step (2): the start log and the off time (R113, R114). -/
def Well.growOld (w : Well) : Well :=
  { w with
    startLog := (w.startLog.map (fun e => { e with age := e.age + 1 })).filter (fun e => decide (e.age < 14400))
    offFor := w.offFor.map (satSucc 65535) }

/-- The stage cap of a state (R123). -/
def WellConfig.stageCap (c : WellConfig) : WellState → Option Int
  | .running => some c.maxSpeed
  | .throttle2 => some (c.minSpeed + (c.maxSpeed - c.minSpeed) / 2)
  | .throttle1 => some c.minSpeed
  | .starting => some c.minSpeed
  | .off => none
  | .waitStart => none
  | .stopping => none
  | .suspended => none
  | .tripped => none
  | .lockedOut => none

/-- The effective ceiling C of R123 step (1), also the upper end of the clamp of R110. -/
def Well.effectiveCeiling (w : Well) : Int :=
  max w.cfg.minSpeed (min (min w.cfg.maxSpeed ((w.cfg.stageCap w.state).getD w.cfg.maxSpeed)) w.ceilingView.value)

/-- The winding stage of a running well by its usable winding temperature, below windTrip (R127). -/
def WellConfig.stage (c : WellConfig) (tw : Int) (state : WellState) : WellState :=
  if 0 < c.windDelta ∧ c.windTrip - c.windDelta ≤ tw then .throttle1
  else if tw < c.windTrip - 2 * c.windDelta then .running
  else if state = .running then .throttle2
  else state

/-- The base demand (R123, R128). -/
def Well.base (w : Well) : Int :=
  match viewValue w.intakeRead with
  | none => w.cfg.minSpeed
  | some p =>
    let base := clamp w.cfg.minSpeed w.effectiveCeiling w.cfg.target
    let top := w.intakeView.value + w.cfg.floorBand
    if p < top then max w.cfg.minSpeed (base - truncDiv ((top - p) * w.cfg.floorGain) 100) else base

/-- The ramp step (R124). -/
def WellConfig.rampStep (c : WellConfig) : Int := max 1 ((c.rampRate : Int) / 4)

/-- The demand moved toward its base (R124). -/
def Well.nextDemand (demand : Int) (w : Well) : Int :=
  if demand < w.base then demand + min (w.base - demand) w.cfg.rampStep else w.base

/-- What the floor timer does at a demand just written (R125): cleared, advanced, or kept. -/
inductive FloorStep where
  | clear | advance | keep
  deriving DecidableEq, Repr

def Well.floorStep (demand : Int) (w : Well) : FloorStep :=
  match viewValue w.intakeRead with
  | none => .keep
  | some p => if w.intakeView.value ≤ p then .clear else if demand = w.cfg.minSpeed then .advance else .keep

/-- Settle the floor timer (R125). floorConfirm is compared when the timer advances (R110). -/
def settleFloor (k : Fin 8) (s : State) : State :=
  let w := s.wells[k]
  match w.floorStep (demandOf s k) with
  | .clear => s.modWell k (fun w => { w with floorTimer := 0 })
  | .keep => s
  | .advance =>
    let n := satSucc 2400 w.floorTimer
    if 4 * w.cfg.floorConfirm ≤ n then enterStopping k .suspended (some .lowIntake) s
    else s.modWell k (fun w => { w with floorTimer := n })

/-- Demand and floor timer of a running well whose stage is settled (R123 to R125). -/
def runDemand (k : Fin 8) (s : State) : State :=
  settleFloor k (writeDemand k (s.wells[k].nextDemand (demandOf s k)) s)

/-- The work of a running state after the drive test (R127, R128). -/
def runWell (k : Fin 8) (s : State) : State :=
  let w := s.wells[k]
  match viewValue w.windingRead with
  | none => runDemand k (s.modWell k (fun w => { w with state := .throttle1 }))
  | some tw =>
    if w.cfg.windTrip ≤ tw then enterStopping k .suspended (some .windingHot) s
    else runDemand k (s.modWell k (fun w => { w with state := w.cfg.stage tw w.state }))

/-- Whether the drive of a well is lost (R130, R22). -/
def wellDriveLost (s : State) (k : Fin 8) : Bool := s.drives[wellDrive k].lost s.wells[k].cfg.deliveryLimit

/-- The clearance of a suspended well's cause (R126). -/
def Well.cleared (w : Well) : Bool :=
  match w.suspendCause with
  | some .lowIntake => (viewValue w.intakeRead).any (fun p => decide (w.intakeView.value + w.cfg.floorHys ≤ p))
  | some .windingHot => (viewValue w.windingRead).any (fun t => decide (t < w.cfg.windTrip - w.cfg.windHys))
  | none => false

/-- The restart test of a suspended well (R126). -/
def testRestart (k : Fin 8) (s : State) : State :=
  let w := s.wells[k]
  if !w.cfg.autoRestart then s.modWell k (fun w => { w with waitReason := none })
  else if !w.cleared then s.modWell k (fun w => { w with waitReason := some .causePresent })
  else startOrWait k s

/-- Step (3): the work of the well's state (R112). -/
def wellWork (k : Fin 8) (s : State) : State :=
  match s.wells[k].state with
  | .waitStart => startOrWait k s
  | .suspended => testRestart k s
  | .starting => if wellDriveLost s k then tripWell k .driveLost s else s
  | .running => if wellDriveLost s k then tripWell k .driveLost s else runWell k s
  | .throttle2 => if wellDriveLost s k then tripWell k .driveLost s else runWell k s
  | .throttle1 => if wellDriveLost s k then tripWell k .driveLost s else runWell k s
  | .off => s
  | .stopping => s
  | .tripped => s
  | .lockedOut => s

/-- What one well does at a WP period expiry (R112). -/
def wellPeriod (k : Fin 8) (s : State) : State := wellWork k ((readWellInputs k s).modWell k Well.growOld)

/-- WP_PERIOD_EXPIRY (R112). -/
def wpPeriodExpiry (s : State) : State :=
  match s.wpTimer with
  | none => s
  | some _ => forEach 8 wellPeriod { s with wpTimer := some 250 }

/-! ### Commands of the host (section 6.4) -/

/-- An answer of WellCommand: the well's state after the command (section 6.4). -/
def wellAnswer (k : Fin 8) (s : State) : State × Answer := accept s (putByte s.wells[k].state.code)

/-- A refusal STATE of WellCommand: the state and the reason. -/
def wellRefusal (k : Fin 8) (s : State) (reason : Byte) : State × Answer :=
  refuse s .state (putByte s.wells[k].state.code ++ [reason])

/-- START (R116). Reasons 0 to 4 are the parts of start permission, 5 the intake point (DEDUCED, log 18). The intake point is
tested by the reading of the well's last WP period expiry, since a change of the point is not seen before the next (R15, R112): before
the first expiry since a reset, and with no point bound at the last one, it is not usable (DEDUCED, log 43). waitReason is absent until
the next test (DESIGN CHOICE, log 44). -/
def ownStart (well : Nat) (s : State) : State × Answer :=
  match ident 8 well with
  | none => refuse s .badField []
  | some k =>
    let w := s.wells[k]
    if w.state = .off ∨ w.state = .suspended then
      match (permissionParts s k ++ [(viewValue w.intakeRead).isSome]).findIdx? (fun b => !b) with
      | some n => wellRefusal k s (BitVec.ofNat 8 n)
      | none => wellAnswer k (s.modWell k (fun w => { w with state := .waitStart, suspendCause := none, waitReason := none }))
    else wellRefusal k s Config.wrongStateReason

/-- What STOP does to a well, from the host or from supervision (R119, R115). -/
def stopWell (k : Fin 8) (s : State) : State :=
  match s.wells[k].state with
  | .off => s
  | .tripped => s
  | .lockedOut => s
  | .waitStart => s.modWell k (fun w => { w with state := .off, waitReason := none })
  | .starting => enterStopping k .off none s
  | .running => enterStopping k .off none s
  | .throttle2 => enterStopping k .off none s
  | .throttle1 => enterStopping k .off none s
  | .stopping => s.modWell k (fun w => { w with stopTo := some .off, suspendCause := none })
  | .suspended => s.modWell k (fun w => { w with state := .off, suspendCause := none, waitReason := none })

/-- STOP (R119). -/
def ownStop (well : Nat) (s : State) : State × Answer :=
  match ident 8 well with
  | none => refuse s .badField []
  | some k => wellAnswer k (stopWell k s)

/-- SET_TARGET (R121). The reply carries the well's state (section 6.4) and the stored target (R121); no rule orders the two, and the
state goes first (DESIGN CHOICE, log 65). -/
def ownSetTarget (well : Nat) (value : Int) (s : State) : State × Answer :=
  match ident 8 well with
  | none => refuse s .badField []
  | some k =>
    let c := s.wells[k].cfg
    let stored := clamp c.minSpeed c.maxSpeed value
    (s.modWell k (fun w => { w with cfg := { w.cfg with target := stored } }),
      okOr (decide (stored ≠ value)) (putByte s.wells[k].state.code ++ putClass stored))

/-- The grounds of R122 on which RESET_TRIP and UNLOCK are refused in the state that takes them; none where it passes. -/
def resetGround (s : State) (k : Fin 8) : Option Byte :=
  if estopActive s then some (Config.groundCode 0)
  else if inRole s (runLine k) && inRole s (feedbackLine k) then none
  else some (Config.groundCode 1)

/-- RESET_TRIP of a well (R122). -/
def ownWellResetTrip (well : Nat) (s : State) : State × Answer :=
  match ident 8 well with
  | none => refuse s .badField []
  | some k =>
    if s.wells[k].state = .tripped then
      match resetGround s k with
      | some g => wellRefusal k s g
      | none => wellAnswer k (s.modWell k (fun w => { w with state := .off }))
    else wellRefusal k s Config.wrongStateReason

/-- UNLOCK (R122). -/
def ownUnlock (well : Nat) (s : State) : State × Answer :=
  match ident 8 well with
  | none => refuse s .badField []
  | some k =>
    if s.wells[k].state = .lockedOut then
      match resetGround s k with
      | some g => wellRefusal k s g
      | none => wellAnswer k (s.modWell k (fun w => { w with state := .off, tripCount := 0, decayTimer := none }))
    else wellRefusal k s Config.wrongStateReason

/-! ### ConfigureWell (R109, R110) -/

/-- Whether a request changes a structural field of a well slot (section 6.1). -/
def structuralWellChange (old new : WellConfig) : Bool :=
  decide (old.enabled ≠ new.enabled) || decide (old.intakePoint ≠ new.intakePoint) ||
    decide (old.windingPoint ≠ new.windingPoint) || decide (old.flowPoint ≠ new.flowPoint)

/-- A new tripLimit keeps the trip count within 0 ... tripLimit (R110). -/
def Well.takeTripLimit (w : Well) : Well :=
  if w.state = .lockedOut then { w with tripCount := w.cfg.tripLimit }
  else if w.cfg.tripLimit ≤ w.tripCount then
    let count := w.cfg.tripLimit - 1
    { w with tripCount := count, decayTimer := if count = 0 then none else w.decayTimer }
  else w

/-- A new speed range applies at once to an energised well (R110). -/
def takeSpeedRange (k : Fin 8) (old : WellConfig) (s : State) : State :=
  let w := s.wells[k]
  if (old.minSpeed ≠ w.cfg.minSpeed ∨ old.maxSpeed ≠ w.cfg.maxSpeed) ∧ w.state.energised = true then
    writeDemand k (clamp w.cfg.minSpeed w.effectiveCeiling (demandOf s k)) s
  else s

/-- Store a checked configuration (R109 step 3, R110, R97). A new ownFloor reaches the well's intakeView with the next WP period
expiry, also before the first one after a reset (DESIGN CHOICE, log 42). -/
def storeWell (k : Fin 8) (new : WellConfig) (s : State) : State :=
  let old := s.wells[k].cfg
  let s := s.modWell k (fun w => ({ w with cfg := new } : Well).takeTripLimit)
  let s := takeSpeedRange k old s
  if old.ownFloor = new.ownFloor then s else recompute (.wellFloor k) s

/-- ConfigureWell (R109). -/
def ownConfigureWell (q : WellFields) (s : State) : State × Answer :=
  match WellFields.check q with
  | none => refuse s .badField []
  | some (k, new, clamped) =>
    let w := s.wells[k]
    if decide (s.phase = .run) && structuralWellChange w.cfg new then refuse s .state []
    else if new.maxStarts < w.startLog.length then refuse s .inUse []
    else if s.phase = .config ∧ w.cfg.enabled = true ∧ new.enabled = false ∧ (w.state = .tripped ∨ w.state = .lockedOut) then
      refuse s .inUse []
    else
      let s := storeWell k new s
      (s, okOr clamped (putWellConfig s.wells[k].cfg.fields))

/-! ### ReadWell (R134) -/

def putStartEntry (e : StartEntry) : List Byte := putLong e.clock ++ putWord e.age

def putWellTrip (r : WellTripRecord) : List Byte :=
  putByte r.cause.code ++ putLong r.clock ++ putByte r.fromState.code ++ putOption putClass r.intake ++
    putOption putClass r.winding

def putWell (k : Fin 8) (s : State) : List Byte :=
  let w := s.wells[k]
  putWellConfig w.cfg.fields ++ putByte w.state.code ++ putOption (fun x => putByte (StopTo.code x)) w.stopTo ++
    putOption (fun x => putByte (SuspendCause.code x)) w.suspendCause ++
    putOption (fun x => putByte (WaitReason.code x)) w.waitReason ++ putClass (demandOf s k) ++
    putDrive s.drives[wellDrive k] ++ putBool s.discretes[runLine k].roleCommand ++ putBool (feedback s k) ++
    putView w.intakeRead ++ putView w.windingRead ++ putView w.flowRead ++ putBoundView w.intakeView ++
    putBoundView w.ceilingView ++ putOption putClass (w.cfg.stageCap w.state) ++ putWord w.floorTimer ++
    putOption putWord w.offFor ++ putList putStartEntry w.startLog ++ putByte w.tripCount ++
    putOption (fun ms => putLong (unitsLeft 1000 ms)) w.decayTimer ++ putOption putWellTrip w.tripRecord

/-- ReadWell (R134). -/
def ownReadWell (well : Nat) (s : State) : State × Answer :=
  match ident 8 well with
  | none => refuse s .badField []
  | some k => accept s (putWell k s)

end Sys2Proof.Machine
end

