-- ==== Sys2Proof/Machine/Discrete.lean ====
section
/-! DEFINITION. The discrete unit (chapter 03, sections 3.1 to 3.6): from pad to level, the three consumers of a change of
level, edges and their notice, and the requests of the lines. Driving a pad does not of itself change the pin the unit
samples: the pad's answer comes as PAD_CHANGE (log 7). -/

namespace Sys2Proof.Machine

open Wire

/-! ### Edges (R60, R61) -/

/-- Whether edgeKind admits a change to the given level (R60). -/
def EdgeKind.admits (level : Bool) : EdgeKind → Bool
  | .rising => level
  | .falling => !level
  | .any => true

/-- Queue an EDGE notice and mark every line it carries as reported (R61). -/
def queueEdgeNotice (s : State) : State :=
  let notice : EdgeNotice :=
    ⟨Vector.ofFn (fun i => if s.discretes[i].edgeSeen then some s.discretes[i].edgeCount else none),
      Vector.ofFn (fun i => s.discretes[i].level), s.clock⟩
  { s with
    discretes := modifyAll s.discretes (fun _ l => if l.edgeSeen then { l with edgeReported := true } else l)
    link := { s.link with edge := some notice } }

/-- What an edge's asking for a notice does (R61). -/
def askEdgeNotice (s : State) : State := if s.link.edge.isSome then s else queueEdgeNotice s

/-- A qualifying edge of a line (R60). -/
def Discrete.catchEdge (l : Discrete) : Discrete :=
  { l with edgeSeen := true, edgeReported := false, edgeCount := satSucc 255 l.edgeCount }

/-- Examine a change of level as an edge (R60). -/
def examineEdge (i : Fin 24) (level : Bool) (s : State) : State :=
  let c := s.discretes[i].cfg
  if !c.role && !c.out && c.edge && c.edgeKind.admits level then askEdgeNotice (s.modDiscrete i Discrete.catchEdge) else s

/-! ### Consumers of a change of level (R57, R64) -/

/-- The DISCRETE point bound to a line, if any (R2). -/
def linePoint (s : State) (i : Fin 24) : Option (Fin 96) :=
  firstIndex 96 (fun p => decide (s.points[p].cfg.source = .discrete) && decide (s.points[p].cfg.line = i))

/-- (1) The point bound to the line receives a good read of the level (R57, R13). -/
def readLinePoint (i : Fin 24) (s : State) : State :=
  match linePoint s i with
  | some p => s.modPoint p (Point.goodRead s.discretes[i].level.toInt false)
  | none => s

/-- The emergency stop becomes active: the ESTOP event at the wells and the governor (R64, R131, R151). -/
def estopEvent (s : State) : State := estopTurbine (estopWells s)

/-- (2) The owning block receives a change of its role level (R57). -/
def roleChanged (i : Fin 24) (level : Bool) (s : State) : State :=
  if h : 8 ≤ i.val ∧ i.val < 16 then feedbackChanged ⟨i.val - 8, by omega⟩ level s
  else if i = breakerClosedLine then breakerChanged level s
  else if i = estopLine then (if level then estopEvent s else s)
  else s

/-- Deliver a change of role level, if there is one (R54, R57). -/
def deliverRole (i : Fin 24) (before : Bool) (s : State) : State :=
  let after := s.discretes[i].roleLevel
  if before = after then s else roleChanged i after s

/-- A line takes a level (R56, R57): a change is handed to the point, the owner and the edge logic. -/
def takeLevel (i : Fin 24) (level : Bool) (s : State) : State :=
  let l := s.discretes[i]
  let stopped := s.modDiscrete i (fun l => { l with debounceTimer := none })
  if l.level = level then stopped
  else
    let s := stopped.modDiscrete i (fun l => { l with level := level }.judgeMismatch)
    examineEdge i level (deliverRole i l.roleLevel (readLinePoint i s))

/-- PAD_CHANGE: the pad's electrical level (R55, R56). During initialisation the pads are not sampled (R65). -/
def padChange (i : Fin 24) (high : Bool) (s : State) : State :=
  let s := s.modDiscrete i (fun l => { l with pin := high })
  if s.initialising then s
  else
    let l := s.discretes[i]
    let padLevel := high != l.cfg.inverted
    if padLevel = l.padLevel then s
    else
      let s := s.modDiscrete i (fun l => { l with padLevel := padLevel })
      if padLevel = l.level ∨ l.cfg.debounce = 0 then takeLevel i padLevel s
      else s.modDiscrete i (fun l => { l with debounceTimer := some l.cfg.debounce })

/-- DEBOUNCE_EXPIRY of a running debounce timer (R56). -/
def debounceExpiry (i : Fin 24) (s : State) : State :=
  match s.discretes[i].debounceTimer with
  | none => s
  | some _ => takeLevel i s.discretes[i].padLevel s

/-- MISMATCH_EXPIRY of a running mismatch timer (R59). -/
def mismatchExpiry (i : Fin 24) (s : State) : State :=
  match s.discretes[i].mismatchTimer with
  | none => s
  | some _ => s.modDiscrete i (fun l => { l with mismatchTimer := none, mismatch := true })

/-! ### ConfigureDiscrete (R53 to R55) -/

/-- Whether the turbine is in a state that needs its role lines (R54). -/
def turbineNeedsLines (s : State) : Bool := s.turbine.state.energised

/-- Whether a well is in a state that needs its role lines (R54). -/
def wellNeedsLines (s : State) (k : Fin 8) : Bool := !s.wells[k].state.atRest

/-- Whether the owning block needs a line (R54). -/
def ownerNeeds (s : State) (i : Fin 24) : Bool :=
  if h : i.val < 8 then wellNeedsLines s ⟨i.val, h⟩
  else if h : i.val < 16 then wellNeedsLines s ⟨i.val - 8, by omega⟩
  else if i.val < 19 then turbineNeedsLines s
  else if i = estopLine then
    estopActive s || (indexes 8).any (fun k => wellNeedsLines s k) || turbineNeedsLines s
  else false

/-- Whether a line's role is in use (R54). -/
def roleInUse (s : State) (i : Fin 24) : Bool := (roleIsOutput i && s.discretes[i].roleCommand) || ownerNeeds s i

/-- The commanded level under a new configuration (R54, R55). -/
def Discrete.recommanded (new : DiscreteConfig) (l : Discrete) : Bool :=
  if new.role && new.out then l.roleCommand else if l.cfg.out = new.out then l.commanded else false

/-- Store a configuration: commanded, the edge fields and, on a change of polarity, padLevel and level (R53 to R55). The mismatch
is judged afresh as after any change: a timer that runs or a flag that is set stands where level and commanded differ both
before and after (DESIGN CHOICE, log 39), and a line left differing by START_UP has its timer started here even where neither
changes (DEDUCED, log 32). -/
def Discrete.configure (new : DiscreteConfig) (l : Discrete) : Discrete :=
  let old := l.cfg
  let clear := old.role != new.role || old.out != new.out || old.edge != new.edge || decide (old.edgeKind ≠ new.edgeKind)
  let l := { l with cfg := new, commanded := l.recommanded new }
  let l := if clear then { l with edgeSeen := false, edgeReported := false, edgeCount := 0 } else l
  let l :=
    if old.inverted = new.inverted then l
    else { l with padLevel := l.pin != new.inverted, level := l.pin != new.inverted, debounceTimer := none }
  l.judgeMismatch

/-- Store a configuration and deliver what follows from it (R53 to R57). No edge is caught from it. -/
def storeDiscrete (i : Fin 24) (new : DiscreteConfig) (s : State) : State :=
  let before := s.discretes[i]
  let s := s.modDiscrete i (Discrete.configure new)
  let s := if s.discretes[i].level = before.level then s else readLinePoint i s
  deliverRole i before.roleLevel s

/-- ConfigureDiscrete (R53). -/
def ownConfigureDiscrete (q : DiscreteFields) (s : State) : State × Answer :=
  match DiscreteFields.check q with
  | none => refuse s .badField []
  | some (i, new) =>
    if s.discretes[i].cfg.role && !new.role && roleInUse s i then refuse s .inUse []
    else
      let s := storeDiscrete i new s
      accept s (putDiscreteConfig s.discretes[i].cfg.fields)

/-! ### SetDiscrete, ReadDiscrete, ClearEdges (R58, R62, R63) -/

/-- SetDiscrete (R58). -/
def ownSetDiscrete (line level : Nat) (s : State) : State × Answer :=
  match ident 24 line, yesNo level with
  | some i, some v =>
    let c := s.discretes[i].cfg
    if c.role || !c.out then refuse s .state []
    else if v && (decide (i.val < 8) || decide (i.val = 16)) then refuse s .state []
    else accept (s.modDiscrete i (Discrete.setCommanded v)) (putBool v)
  | _, _ => refuse s .badField []

/-- The line record of ReadDiscrete; roleCommand stands only for lines whose role is an output (log 19). -/
def putDiscrete (s : State) (i : Fin 24) : List Byte :=
  let l := s.discretes[i]
  putDiscreteConfig l.cfg.fields ++ putOption putBool (if roleIsOutput i then some l.roleCommand else none) ++
    putBool l.commanded ++ putBool l.padLevel ++ putBool l.level ++ putBool l.mismatch ++ putBool l.edgeSeen ++
    putBool l.edgeReported ++ putByte l.edgeCount

/-- ReadDiscrete (R63). -/
def ownReadDiscrete (s : State) : State × Answer :=
  accept
    { s with discretes := modifyAll s.discretes (fun _ l => if l.edgeSeen then { l with edgeReported := true } else l) }
    (putAll (putDiscrete s) (indexes 24))

/-- Whether ClearEdges clears a line (R62). -/
def clearsEdge (lines : LineMask) (i : Fin 24) (l : Discrete) : Bool := lines.getLsbD i.val && l.edgeSeen && l.edgeReported

/-- ClearEdges (R62). -/
def ownClearEdges (lines : LineMask) (s : State) : State × Answer :=
  let after := { s with discretes := modifyAll s.discretes (fun i l =>
    if clearsEdge lines i l then { l with edgeSeen := false, edgeReported := false, edgeCount := 0 } else l) }
  accept after (putLineSet (Vector.ofFn (fun i => clearsEdge lines i s.discretes[i])) ++
    putLineSet (Vector.ofFn (fun i => after.discretes[i].edgeSeen)))

/-! ### End of internal initialisation (R65) -/

/-- Sample a pad: padLevel and level without debounce (R65). -/
def Discrete.sample (l : Discrete) : Discrete :=
  { l with padLevel := l.pin != l.cfg.inverted, level := l.pin != l.cfg.inverted }

def sampleDiscretes (s : State) : State := { s with discretes := modifyAll s.discretes (fun _ l => l.sample) }

end Sys2Proof.Machine
end

