-- ==== Sys2Proof/Machine/Heating.lean ====
section
/-! DEFINITION. The heat exchange unit (chapter 08): the heating curve, the settling of the state, the allocation, and the
bypass with its two loops. -/

namespace Sys2Proof.Machine

open Wire

/-! ### The heating curve (R163) -/

/-- The target on the segments that begin at a breakpoint (R163). -/
def targetOn (o t : Int) : List (Int × Int) → Int → Int
  | [], _ => t
  | (o2, t2) :: rest, x =>
    if x < o2 then roundRatio (t * (o2 - o) + (t2 - t) * (x - o)) (o2 - o) else targetOn o2 t2 rest x

/-- The supply target a curve gives at an outdoor temperature (R163). -/
def curveTarget : List (Int × Int) → Int → Option Int
  | [], _ => none
  | (o, t) :: rest, x => some (if x ≤ o then t else targetOn o t rest x)

/-- Form the target, or hold it (R163). -/
def Heating.formTarget (h : Heating) : Heating :=
  match viewValue h.views.outdoor with
  | none => { h with targetHeld := true }
  | some x => { h with target := (h.curve.bind (fun c => curveTarget c x)).or h.target, targetHeld := false }

/-! ### Step (1): inputs (R166) -/

def readHeatingInputs (s : State) : State :=
  let c := s.heating.cfg
  s.modHeating (fun h =>
    { h with
      floorView := s.bounds[Target.brineFloor.index]
      views := ⟨readView s c.outdoorPoint, readView s c.supplyPoint, readView s c.returnPoint, readView s c.netFlowPoint,
        readView s c.brineInPoint, readView s c.brineOutPoint, readView s c.brineFlowPoint⟩ })

/-! ### Settling the state (R167 to R169) -/

/-- The first unusable essential point (R167). -/
def firstUnusable (v : HeatViews) : Option HoldReason :=
  if (viewValue v.supply).isNone then some .supplyPoint
  else if (viewValue v.ret).isNone then some .returnPoint
  else if (viewValue v.netFlow).isNone then some .netFlowPoint
  else if (viewValue v.brineIn).isNone then some .brineInPoint
  else if (viewValue v.brineOut).isNone then some .brineOutPoint
  else if (viewValue v.brineFlow).isNone then some .brineFlowPoint
  else none

/-- The cause of HOLD found at an expiry, or none (R167). -/
def Heating.holdCause (h : Heating) : Option HoldReason :=
  (firstUnusable h.views).or (if (viewValue h.views.outdoor).isNone && h.target.isNone then some .noTarget else none)

/-- The usable supply temperature; the settling asks for it only where it is usable. -/
def Heating.supplyNow (h : Heating) : Int := (viewValue h.views.supply).getD 0

/-- Write DV10 for an opening (R175). -/
def writeOpening (opening : Int) (s : State) : State := writeDrive bypassDrive (10000 - opening) s

/-- The opening, 10000 less the value of DV10 (section 8.3). -/
def openingOf (s : State) : Int := 10000 - s.drives[bypassDrive].value

/-- Entry to CUT (R169). -/
def enterCut (s : State) : State :=
  let s := writeRequest 0 (writeOpening 0 s)
  s.modHeating (fun h =>
    { h with state := .cut, holdFrom := none, holdReason := none, extractionShare := some s.turbine.grant.grant,
             shortfall := some 0, shortCount := 0, supplyShort := false })

/-- Entry to ACTIVE at an expiry: both loops are to be started (R168, R169). -/
def enterActive (s : State) : State :=
  s.modHeating (fun h => { h with state := .active, holdFrom := none, holdReason := none, loopsPending := true })

/-- Entry to HOLD, or staying in it, with the cause now found (R167). -/
def enterHold (r : HoldReason) (s : State) : State :=
  s.modHeating (fun h =>
    { h with state := .hold, holdFrom := if h.state = .hold then h.holdFrom else some h.state, holdReason := some r })

/-- Step (2): settle the state (R167 to R169). -/
def settleHeating (s : State) : State :=
  let h := s.heating
  let supply := h.supplyNow
  match h.state with
  | .off => s
  | .active =>
    match h.holdCause with
    | some r => enterHold r s
    | none => if h.cfg.supplyMax ≤ supply then enterCut s else s
  | .cut =>
    match h.holdCause with
    | some r => enterHold r s
    | none => if supply < h.cfg.supplyMax - h.cfg.supplyHys then enterActive s else s
  | .hold =>
    match h.holdCause with
    | some r => enterHold r s
    | none =>
      if h.cfg.supplyMax ≤ supply ∨ (h.holdFrom = some .cut ∧ h.cfg.supplyMax - h.cfg.supplyHys ≤ supply) then enterCut s
      else enterActive s

/-! ### The allocation (R170 to R172, R178) -/

/-- The heat in kW that a flow carries over a temperature difference, at least 0 (R170, R171). -/
def heatOf (flow difference : Int) : Int := max 0 (truncDiv (419 * flow * difference) 1000000)

/-- The value of a view where it is needed and usable. -/
def needed (v : Option PointView) : Int := (viewValue v).getD 0

/-- Required heat (R170). -/
def Heating.required (h : Heating) : Int := heatOf (needed h.views.netFlow) (h.target.getD 0 - needed h.views.ret)

/-- Brine capacity (R171). -/
def Heating.capacity (h : Heating) : Int := heatOf (needed h.views.brineFlow) (needed h.views.brineIn - h.floorView.value)

/-- Brine share (R171). -/
def Heating.share (h : Heating) : Int := min h.required h.capacity

/-- The request (R172). -/
def Heating.requestNow (h : Heating) : Int := clamp 0 100000 (h.required - h.share)

/-- What the unit records once the grant is read back, with the count of R178 (R172, R178). -/
def Heating.account (grant : Int) (h : Heating) : Heating :=
  let shortfall := h.required - h.share - grant
  let count := if 0 < shortfall then satSucc 3600 h.shortCount else 0
  { h with
    requiredHeat := some h.required
    brineCapacity := some h.capacity
    brineShare := some h.share
    extractionShare := some grant
    shortfall := some shortfall
    shortCount := count
    supplyShort := if 0 < shortfall then h.supplyShort || decide (h.cfg.shortConfirm ≤ count) else false }

/-- The allocation of an expiry of ACTIVE work, the target formed (R170 to R172, R178). -/
def allocate (s : State) : State :=
  let s := writeRequest s.heating.requestNow s
  s.modHeating (Heating.account s.turbine.grant.grant)

/-! ### The bypass (R173 to R175) -/

/-- The two errors: supply DIRECT, floor REVERSE (section 8.5). -/
def Heating.supplyError (h : Heating) : Int := h.target.getD 0 - needed h.views.supply

def Heating.floorError (h : Heating) : Int := needed h.views.brineOut - h.floorView.value

/-- Start both loops (R173). -/
def Heating.startLoops (opening : Int) (h : Heating) : Heating :=
  let c := h.cfg
  let supply := h.supplyLoop.start (h.target.getD 0) (needed h.views.supply) h.supplyError c.supplyKp c.supplyKi opening
  let floor := h.floorLoop.start h.floorView.value (needed h.views.brineOut) h.floorError c.floorKp c.floorKi opening
  { h with loopsPending := false, supplyLoop := supply, floorLoop := floor,
           selected := some (if supply.output < floor.output then .supply else .floor) }

/-- A loop's provisional output (R174 step 2). -/
def provisional (error : Int) (kp : Nat) (l : Loop) : Int := clamp 0 10000 (loopP error kp + l.integral)

/-- The loop selected for the period, by provisional outputs (R174 step 3). -/
def Heating.select (h : Heating) : Selected :=
  if provisional h.supplyError h.cfg.supplyKp h.supplyLoop < provisional h.floorError h.cfg.floorKp h.floorLoop then .supply
  else .floor

/-- One run of the low-select, the selected loop free and the other held (R174). -/
def Heating.runLoops (h : Heating) : Heating :=
  let c := h.cfg
  let target := h.target.getD 0
  let ts := needed h.views.supply
  let tb := needed h.views.brineOut
  match h.select with
  | .supply =>
    { h with selected := some .supply,
             supplyLoop := h.supplyLoop.run target ts h.supplyError c.supplyKp c.supplyKi,
             floorLoop := h.floorLoop.runHeld h.floorView.value tb h.floorError c.floorKp c.floorKi }
  | .floor =>
    { h with selected := some .floor,
             supplyLoop := h.supplyLoop.runHeld target ts h.supplyError c.supplyKp c.supplyKi,
             floorLoop := h.floorLoop.run h.floorView.value tb h.floorError c.floorKp c.floorKi }

/-- Both loops held while DV10 is FAILING; neither is then "the loop not held" (R175, section 8.3). -/
def Heating.runHeldLoops (h : Heating) : Heating :=
  { h with selected := none,
           supplyLoop := h.supplyLoop.runHeld (h.target.getD 0) (needed h.views.supply) h.supplyError h.cfg.supplyKp h.cfg.supplyKi,
           floorLoop := h.floorLoop.runHeld h.floorView.value (needed h.views.brineOut) h.floorError h.cfg.floorKp h.cfg.floorKi }

/-- The opening of the two outputs (R174 step 5). -/
def Heating.opening (h : Heating) : Int := min h.supplyLoop.output h.floorLoop.output

/-- The loops' part of ACTIVE work (R173 to R175). -/
def Heating.control (opening : Int) (failing : Bool) (h : Heating) : Heating :=
  if h.loopsPending then h.startLoops opening else if failing then h.runHeldLoops else h.runLoops

def runBypass (s : State) : State :=
  let failing := decide (s.drives[bypassDrive].delivery = .failing)
  let s := s.modHeating (Heating.control (openingOf s) failing)
  writeOpening s.heating.opening s

/-! ### The HX period (R166) -/

/-- Step (3): the work of the state (R166). -/
def heatingWork (s : State) : State :=
  match s.heating.state with
  | .active => runBypass (allocate (s.modHeating Heating.formTarget))
  | .cut => s.modHeating Heating.formTarget
  | .hold => s
  | .off => s

/-- HX_PERIOD_EXPIRY (R166). -/
def hxPeriodExpiry (s : State) : State :=
  match s.heating.periodTimer with
  | none => s
  | some _ => heatingWork (settleHeating (readHeatingInputs (s.modHeating (fun h => { h with periodTimer := some 1000 }))))

/-! ### Commands and requests (R160, R162, R164, R165, R180) -/

/-- Whether heating is configured (section 8.1). -/
def HeatingConfig.complete (c : HeatingConfig) : Bool :=
  c.outdoorPoint.isSome && c.supplyPoint.isSome && c.returnPoint.isSome && c.netFlowPoint.isSome && c.brineInPoint.isSome &&
    c.brineOutPoint.isSome && c.brineFlowPoint.isSome

/-- The reply of HeatingCommand: the state after it (R164). -/
def heatingAnswer (s : State) : State × Answer := accept s (putByte s.heating.state.code)

/-- HeatingCommand ON (R164). The reason of a refusal is named by its place, from 0 (DEDUCED, log 18), and a refused ON carries
that reason alone, without the state (DEDUCED, log 45). -/
def ownHeatingOn (s : State) : State × Answer :=
  if s.heating.state ≠ .off then heatingAnswer s
  else if s.phase ≠ .run then refuse s .state (putByte 0)
  else if s.heating.cfg.complete = false then refuse s .state (putByte 1)
  else if s.heating.curve.isNone then refuse s .state (putByte 2)
  else heatingAnswer (s.modHeating (fun h => { h with state := .active, targetHeld := false, loopsPending := true }))

/-- HeatingCommand OFF (R165). -/
def turnHeatingOff (s : State) : State :=
  let s := writeRequest 0 (writeOpening 0 s)
  s.modHeating (fun h =>
    { h with state := .off, extractionShare := some 0, target := none, targetHeld := false, holdFrom := none,
             holdReason := none, selected := none, loopsPending := false, shortCount := 0, supplyShort := false })

/-- HeatingCommand OFF (R165). -/
def ownHeatingOff (s : State) : State × Answer :=
  if s.heating.state = .off then heatingAnswer s else heatingAnswer (turnHeatingOff s)

/-- Whether a request changes a binding (R160 step 2). -/
def structuralHeatingChange (old new : HeatingConfig) : Bool :=
  decide (old.outdoorPoint ≠ new.outdoorPoint) || decide (old.supplyPoint ≠ new.supplyPoint) ||
    decide (old.returnPoint ≠ new.returnPoint) || decide (old.netFlowPoint ≠ new.netFlowPoint) ||
    decide (old.brineInPoint ≠ new.brineInPoint) || decide (old.brineOutPoint ≠ new.brineOutPoint) ||
    decide (old.brineFlowPoint ≠ new.brineFlowPoint)

/-- Store a checked configuration (R160, R97). -/
def storeHeating (new : HeatingConfig) (s : State) : State :=
  let old := s.heating.cfg
  let s := s.modHeating (fun h => { h with cfg := new })
  if old.brineFloorDefault = new.brineFloorDefault then s else recompute .brineFloor s

/-- ConfigureHeating (R160). -/
def ownConfigureHeating (q : HeatingFields) (s : State) : State × Answer :=
  match HeatingFields.check q with
  | none => refuse s .badField []
  | some new =>
    if decide (s.phase = .run) && structuralHeatingChange s.heating.cfg new then refuse s .state []
    else
      let s := storeHeating new s
      accept s (putHeatingFields s.heating.cfg.fields ++ putBool s.heating.cfg.complete)

/-- A curve as a reply carries it: its count and its breakpoints. -/
def putCurve (c : List (Int × Int)) : List Byte := putByte c.length ++ putBreakpoints c

/-- SetCurve (R162). -/
def ownSetCurve (curve : List (Int × Int)) (s : State) : State × Answer :=
  if curveOk curve then accept (s.modHeating (fun h => { h with curve := some curve })) (putCurve curve)
  else refuse s .badField []

/-- A loop record in full, direction DIRECT 0 or REVERSE 1, the gains as its last run took them (R180); before the first run since a
reset they are those configured, as R26 says of Kp and Ki after a reset (DEDUCED, log 46). -/
def putLoop (reverse : Bool) (kp ki : Nat) (l : Loop) : List Byte :=
  let g := l.gains.getD (kp, ki)
  putClass l.setpoint ++ putClass l.measurement ++ putBool reverse ++ putWord g.1 ++ putWord g.2 ++ putLoopState l

/-- A heat in kW or its absence. -/
def putHeat (v : Option Int) : List Byte := putOption putClass v

/-- The reply of ReadHeating (R180). A loop record is sent as at its last run, its gains too. R180 lists request among the fields sent
"each or its absence" and the table of section 8.3 gives request no absence: it is sent without a presence byte (DESIGN CHOICE, log
50). -/
def putHeating (s : State) : List Byte :=
  let h := s.heating
  let c := h.cfg
  let v := h.views
  putHeatingFields c.fields ++ putBool c.complete ++ putOption putCurve h.curve ++ putByte h.state.code ++
    putOption (fun x => putByte (holdFromCode x)) h.holdFrom ++
    putOption (fun x => putByte (HoldReason.code x)) h.holdReason ++ putBool h.loopsPending ++ putView v.outdoor ++
    putView v.supply ++ putView v.ret ++ putView v.netFlow ++ putView v.brineIn ++ putView v.brineOut ++ putView v.brineFlow ++
    putBoundView h.floorView ++ putOption putClass h.target ++ putBool h.targetHeld ++ putHeat h.requiredHeat ++
    putHeat h.brineCapacity ++ putHeat h.brineShare ++ putClass s.turbine.grant.request ++ putHeat h.extractionShare ++
    putHeat h.shortfall ++ putWord h.shortCount ++ putLoop false c.supplyKp c.supplyKi h.supplyLoop ++
    putLoop true c.floorKp c.floorKi h.floorLoop ++ putOption (fun x => putByte (Selected.code x)) h.selected ++
    putClass (openingOf s) ++ putDrive s.drives[bypassDrive] ++ putGrant s.turbine.grant

/-- ReadHeating (R180). -/
def ownReadHeating (s : State) : State × Answer := accept s (putHeating s)

end Sys2Proof.Machine
end

