-- ==== Sys2Proof/Machine/Scaling.lean ====
section
/-! DEFINITION. The scaling monitor (chapter 04): silica and calcite arithmetic, doses, levels, dosing demands, posting, and the
requests of the sites. -/

namespace Sys2Proof.Machine

open Wire

/-! ### Silica (R75 to R77) -/

/-- The solubility table S_0 ... S_13, one value every 20 degrees (section 4.3). -/
def silicaTable : List Int := [70, 106, 153, 212, 282, 364, 458, 563, 680, 807, 944, 1091, 1246, 1409]

/-- S_i of the table. -/
def silicaAt (i : Nat) : Int := silicaTable.getD i 1409

/-- Solubility S(T) at a temperature in TEMP units (R75). -/
def solubility (t : Int) : Int :=
  if t < 0 then 70
  else if 26000 ≤ t then 1409
  else
    let i := (t / 2000).toNat
    silicaAt i + roundHalfUp ((silicaAt (i + 1) - silicaAt i) * (t - 2000 * i)) 2000

/-- SR of a silica site (R76). -/
def silicaRatio (c t : Int) : Int := clamp 0 9999 (roundHalfUp (1000 * c) (solubility t))

/-- The floor temperature and whether the floor is unreachable (R77). -/
def silicaFloor (c : Int) (onset : Nat) : Int × Bool :=
  let need := ceilDiv (1000 * c) onset
  if need ≤ 70 then (0, false)
  else if 1409 < need then (26000, true)
  else
    let j := ((silicaTable.drop 1).findIdx? (fun v => decide (need ≤ v))).getD 12
    (2000 * j + ceilDiv ((need - silicaAt j) * 2000) (silicaAt (j + 1) - silicaAt j), false)

/-! ### Calcite (R79, R80) -/

/-- The flash pressure at a temperature (R79). -/
def flashPressure (c : SiteConfig) (t : Int) : Int := max 0 (c.flashBase + truncDiv (c.slope * (t - c.flashTemp)) 100)

/-- SR of a calcite site (R80). -/
def calciteRatio (flash p : Int) : Int := if p = 0 then 9999 else clamp 0 9999 (roundHalfUp (1000 * flash) p)

/-! ### Step (1): inputs, SR, excess and base floor (R74, R82, R83) -/

/-- What a computation gives: SR, the base floor, and floorUnreachable. -/
structure Reckoning where
  ratio : Nat
  base : Int
  unreachable : Bool
  deriving DecidableEq, Repr

/-- The concentration a silica site takes (R76). -/
def concentration (s : State) (c : SiteConfig) : Option Int :=
  match c.concSource with
  | .fixed => some c.fixedConc
  | .point p => s.points[p].usableValue

/-- The computation of a site with usable inputs; none where they are not usable (R74 step 1, R76 to R81). -/
def reckon (s : State) (c : SiteConfig) : Option Reckoning :=
  match c.kind, boundValue s c.tempPoint with
  | .none, _ => none
  | _, none => none
  | .silica, some t =>
    (concentration s c).map (fun conc =>
      ⟨(silicaRatio conc t).toNat, (silicaFloor conc c.onset).1, (silicaFloor conc c.onset).2⟩)
  | .calcite, some t =>
    (boundValue s c.presPoint).map (fun p => ⟨(calciteRatio (flashPressure c t) p).toNat, flashPressure c t, false⟩)

/-- The excess of SR over onset (R76, R80). -/
def excessOver (onset ratio : Nat) : Nat := ratio - onset

/-- Steps (1) and (2) but for the minute close: compute and gather dose, or lose the inputs (R74, R82 to R84). -/
def Site.compute (r : Option Reckoning) (x : Site) : Site :=
  match r with
  | none => { x with inputsLost := true }
  | some r =>
    let excess := excessOver x.cfg.onset r.ratio
    { x with ratio := r.ratio, excess := excess, floorUnreachable := r.unreachable, inputsLost := false,
             minuteDose := x.minuteDose + excess, minuteCover := x.minuteCover + 1 }

/-! ### Minutes and levels (R85 to R90) -/

/-- The sum of the doses of a ring (R85). -/
def ringDose (ring : List MinuteRecord) : Nat := ring.foldr (fun r acc => r.dose + acc) 0

/-- Close the minute (R85, R86). -/
def Site.closeMinute (clock : Nat) (x : Site) : Site :=
  let ring := x.ring ++ [⟨x.minuteDose, x.minuteCover, clock⟩]
  let ring := ring.drop (ring.length - 60)
  { x with ring := ring, minuteDose := 0, minuteCover := 0, hourlyDose := ringDose ring,
           cumulativeDose := min 4294967295 (x.cumulativeDose + x.minuteDose) }

/-- Part (a) of R88. -/
def Site.ageAlert (x : Site) : Site :=
  if x.level = .alert then
    let age := satSucc 3600 (x.alertAge.getD 0)
    if x.cfg.confirmTime ≤ age then { x with level := .alarm, alertAge := none } else { x with alertAge := some age }
  else x

/-- Part (b) of R88, at a minute close (R89, R90). -/
def Site.testDose (x : Site) : Site :=
  match x.level with
  | .normal => if x.cfg.alertDose ≤ x.hourlyDose then { x with level := .alert, alertAge := some 0 } else x
  | .watch => if x.cfg.alertDose ≤ x.hourlyDose then { x with level := .alert, alertAge := some 0 } else x
  | .alert => if x.hourlyDose < x.cfg.clearDose then { x with level := .normal, alertAge := none } else x
  | .alarm => if x.hourlyDose < x.cfg.clearDose then { x with level := .normal, alertAge := none } else x

/-- Part (c) of R88. -/
def Site.watchLevel (x : Site) : Site :=
  match x.level with
  | .normal => { x with level := if x.cfg.onset ≤ x.ratio then .watch else .normal }
  | .watch => { x with level := if x.cfg.onset ≤ x.ratio then .watch else .normal }
  | .alert => x
  | .alarm => x

/-- Step (3): settle the level (R88). -/
def Site.settleLevel (closing : Bool) (x : Site) : Site :=
  let x := x.ageAlert
  (if closing then x.testDose else x).watchLevel

/-! ### Floor, demand and post (R78, R81, R82, R91, R93) -/

/-- The margin sum of a site (R78, R81). -/
def Site.marginSum (inhibitorLost : Bool) (x : Site) : Int :=
  x.cfg.margin + (if x.level = .alarm then x.cfg.alarmMargin else 0) +
    (if inhibitorLost then x.cfg.inhibitorLostMargin else 0)

/-- The site floor from a base floor (R78, R81). -/
def Site.floorFrom (base : Int) (inhibitorLost : Bool) (x : Site) : Int :=
  match x.cfg.kind with
  | .calcite => ValueClass.pres.clamp (ceilDiv (base * (1000 + x.marginSum inhibitorLost)) 1000)
  | .silica => ValueClass.temp.clamp (base + x.marginSum inhibitorLost)
  | .none => ValueClass.temp.clamp (base + x.marginSum inhibitorLost)

/-- The floor posted while inputs are lost (R82). -/
def SiteConfig.fallback (c : SiteConfig) : Int :=
  match c.kind with
  | .calcite => ValueClass.pres.clamp c.fallbackFloor
  | .silica => ValueClass.temp.clamp c.fallbackFloor
  | .none => ValueClass.temp.clamp c.fallbackFloor

/-- The demand formed from an excess (R91). -/
def SiteConfig.demand (c : SiteConfig) (excess : Nat) : Int :=
  clamp 0 10000 (c.doseBase + roundHalfUp ((excess : Int) * c.doseGain) 100)

/-- Steps (4) and (5) (R78, R81, R82, R91). -/
def Site.formFloor (r : Option Reckoning) (inhibitorLost : Bool) (x : Site) : Site :=
  match r with
  | none => { x with siteFloor := some x.cfg.fallback }
  | some r => { x with siteFloor := some (x.floorFrom r.base inhibitorLost), demand := some (x.cfg.demand x.excess) }

/-- Whether a site's inhibitor is lost: its station's drive is FAILING (R92). -/
def inhibitorLost (s : State) (c : SiteConfig) : Bool :=
  c.station.any (fun j => decide (s.drives[dosingDrive j].delivery = .failing))

/-- The target of a site's action (R93). -/
def SiteAction.target : SiteAction → Option Target
  | .none => Option.none
  | .brineFloor => some .brineFloor
  | .wellFloor k => some (.wellFloor k)

/-- Step (6): post the floor (R93). -/
def postSite (i : Fin 12) (s : State) : State :=
  match s.sites[i].cfg.action.target, s.sites[i].siteFloor with
  | some t, some v => post (siteSlot i) t v s
  | _, _ => s

/-- The six steps of an enabled site (R74). -/
def siteWork (closing : Bool) (i : Fin 12) (s : State) : State :=
  let c := s.sites[i].cfg
  let r := reckon s c
  let lost := inhibitorLost s c
  postSite i (s.modSite i (fun x =>
    let x := x.compute r
    let x := if closing then x.closeMinute s.clock else x
    (x.settleLevel closing).formFloor r lost))

/-- What one site does at an SM period expiry (R74, R85). -/
def sitePeriod (closing : Bool) (i : Fin 12) (s : State) : State :=
  if s.sites[i].cfg.kind = .none then s
  else if s.sites[i].enabled then siteWork closing i s
  else if closing then s.modSite i (fun x => ({ x with minuteDose := 0, minuteCover := 0 } : Site).closeMinute s.clock)
  else s

/-- The greatest demand of the enabled sites of a station, 0 without any (R92). -/
def stationDemand (s : State) (j : Fin 4) : Int :=
  s.sites.toList.foldl (fun acc x => if x.enabled ∧ x.cfg.station = some j then max acc (x.demand.getD 0) else acc) 0

/-- Set the four dosing drives (R92). -/
def setDosing (s : State) : State := forEach 4 (fun j s => writeDrive (dosingDrive j) (stationDemand s j) s) s

/-- SM_PERIOD_EXPIRY (R73, R74). -/
def smPeriodExpiry (s : State) : State :=
  match s.smTimer with
  | none => s
  | some _ =>
    let n := s.minuteCounter + 1
    let closing := decide (60 ≤ n)
    setDosing (forEach 12 (sitePeriod closing) { s with smTimer := some 1000, minuteCounter := if closing then 0 else n })

/-! ### ConfigureSite (R71, R72) -/

/-- Whether a request changes a structural field of a site (section 4.1). -/
def structuralSiteChange (old new : SiteConfig) : Bool :=
  decide (old.kind ≠ new.kind) || decide (old.tempPoint ≠ new.tempPoint) || decide (old.concSource ≠ new.concSource) ||
    decide (old.presPoint ≠ new.presPoint) || decide (old.action ≠ new.action) || decide (old.station ≠ new.station)

/-- The dynamic fields that ENABLE and a structural change bring back (R71, R94). -/
def Site.restart (x : Site) : Site :=
  { x with ratio := 0, excess := 0, level := .normal, alertAge := none, inputsLost := false, floorUnreachable := false,
           minuteDose := 0, minuteCover := 0, siteFloor := none }

/-- Store a checked configuration (R71 step 3). R72 has a new doseBase used from the next SM period expiry; an ENABLE that comes before it
uses the new value at once (DESIGN CHOICE, log 67). -/
def Site.configure (new : SiteConfig) (x : Site) : Site :=
  if x.cfg.kind ≠ new.kind then Site.fresh new
  else if structuralSiteChange x.cfg new then ({ x with cfg := new } : Site).restart
  else { x with cfg := new }

/-- ConfigureSite (R71). -/
def ownConfigureSite (q : SiteFields) (s : State) : State × Answer :=
  match SiteFields.check q with
  | none => refuse s .badField []
  | some (i, new) =>
    if decide (s.phase = .run) && structuralSiteChange s.sites[i].cfg new then refuse s .state []
    else
      let s := s.modSite i (Site.configure new)
      accept s (putSiteConfig s.sites[i].cfg.fields)

/-! ### SiteCommand (R86, R94) -/

/-- The reply of ENABLE and DISABLE: enabled and level (R94). -/
def siteAnswer (i : Fin 12) (s : State) : State × Answer :=
  accept s (putBool s.sites[i].enabled ++ putByte s.sites[i].level.code)

/-- ENABLE (R94). demand takes doseBase as configured at the command, also where it changed since the last SM period expiry (R72; DESIGN
CHOICE, log 67). -/
def ownSiteEnable (site : Nat) (s : State) : State × Answer :=
  match ident 12 site with
  | none => refuse s .badField []
  | some i =>
    if s.sites[i].cfg.kind = .none then refuse s .state []
    else if s.sites[i].enabled then siteAnswer i s
    else siteAnswer i (s.modSite i (fun x => { x.restart with enabled := true, demand := some x.cfg.doseBase }))

/-- What DISABLE does to an enabled site (R94). -/
def disableSite (i : Fin 12) (s : State) : State :=
  withdraw (siteSlot i) (s.modSite i (fun x =>
    { x with enabled := false, level := .normal, alertAge := none, inputsLost := false, minuteDose := 0, minuteCover := 0,
             demand := none }))

/-- DISABLE (R94). -/
def ownSiteDisable (site : Nat) (s : State) : State × Answer :=
  match ident 12 site with
  | none => refuse s .badField []
  | some i => if s.sites[i].enabled then siteAnswer i (disableSite i s) else siteAnswer i s

/-- Set a site's cumulativeDose and answer it (R86). -/
def setCumulative (i : Fin 12) (v : Nat) (s : State) : State × Answer :=
  accept (s.modSite i (fun x => { x with cumulativeDose := v })) (putLong v)

/-- MARK_CLEANED (R86). -/
def ownMarkCleaned (site : Nat) (s : State) : State × Answer :=
  match ident 12 site with
  | none => refuse s .badField []
  | some i => if s.sites[i].cfg.kind = .none then refuse s .state [] else setCumulative i 0 s

/-- RESTORE_DOSE (R86). -/
def ownRestoreDose (site value : Nat) (s : State) : State × Answer :=
  match ident 12 site with
  | none => refuse s .badField []
  | some i =>
    if 4294967295 < value then refuse s .badField []
    else if s.sites[i].cfg.kind = .none ∨ s.phase = .run then refuse s .state [] else setCumulative i value s

/-! ### ReadSite (R95) -/

def putMinute (r : MinuteRecord) : List Byte := putLong r.dose ++ putByte r.cover ++ putLong r.clock

/-- The STATUS view (R95). demand, absent in a disabled site by R91 and R96, is an optional field (DEDUCED, log 40). The
station's drive record is sent as one too: R95 returns it "where the site has a station" and no rule says whether a presence byte
goes before it (DESIGN CHOICE, log 54). -/
def putSiteStatus (s : State) (x : Site) : List Byte :=
  putSiteConfig x.cfg.fields ++ putBool x.enabled ++ putWord x.ratio ++ putWord x.excess ++ putBool x.floorUnreachable ++
    putBool x.inputsLost ++ putByte x.level.code ++ putOption putWord x.alertAge ++ putLong x.minuteDose ++
    putByte x.minuteCover ++ putByte x.ring.length ++ putLong x.hourlyDose ++ putLong x.cumulativeDose ++
    putOption putClass x.demand ++ putOption putClass x.siteFloor ++ putByte s.minuteCounter ++
    putOption (fun j => putDrive s.drives[dosingDrive j]) x.cfg.station

/-- ReadSite (R95). -/
def ownReadSite (site : Nat) (view : SiteView) (s : State) : State × Answer :=
  match ident 12 site with
  | none => refuse s .badField []
  | some i =>
    match view with
    | .status => accept s (putSiteStatus s s.sites[i])
    | .ring first count =>
      if decide (first ≤ 59) && withinNat 1 30 count then
        accept s (putByte s.sites[i].ring.length ++ putList putMinute ((s.sites[i].ring.drop first).take count))
      else refuse s .badField []

/-! ### What the phases do to the monitor (R73) -/

/-- The monitor's part of Commission (R73). -/
def startMonitor (s : State) : State := { s with smTimer := some 1000, minuteCounter := 0 }

/-- The monitor's part of Decommission: timer and partial minute, the slots K0 ... K11, the dosing drives (R73, R19). -/
def stopMonitor (s : State) : State :=
  let s := { s with smTimer := none, minuteCounter := 0,
                    sites := modifyAll s.sites (fun _ x => { x with minuteDose := 0, minuteCover := 0 }) }
  let s := forEach 12 (fun i s => withdraw (siteSlot i) s) s
  forEach 4 (fun j s => writeDrive (dosingDrive j) 0 s) s

end Sys2Proof.Machine
end

