-- ==== Sys2Proof/Machine/Supervision.lean ====
section
/-! DEFINITION. Phase, supervision and the plant clock (chapter 11, R207 and R208): Commission and Decommission with their
checks, arming, fallback and safe stop. -/

namespace Sys2Proof.Machine

open Wire

/-! ### The plant clock (R208) -/

/-- SetClock (R208). -/
def ownSetClock (clock : Nat) (s : State) : State × Answer :=
  if 4294967295 < clock then refuse s .badField []
  else accept { s with clock := clock, clockTimer := some 1000 } (putLong clock)

/-- PLANT_CLOCK_TICK of the running one-second interval (R208). -/
def plantClockTick (s : State) : State :=
  match s.clockTimer with
  | none => s
  | some _ => { s with clock := wrapSucc 4294967295 s.clock, clockTimer := some 1000 }

/-! ### The checks of Commission (R210) -/

/-- The kinds of item that Commission, Decommission and SoftReset name (R210). -/
inductive ItemKind where
  | well | turbine | heating | site | drive | curve
  deriving DecidableEq, Repr

def ItemKind.code : ItemKind → Nat
  | .well => 0 | .turbine => 1 | .heating => 2 | .site => 3 | .drive => 4 | .curve => 5

/-- A failing item: its kind and index and, for a binding, the field's place in its configuration table and the point. -/
structure Item where
  kind : ItemKind
  index : Nat
  binding : Option (Nat × Option (Fin 96))
  deriving DecidableEq, Repr

/-- How a reply names a failing item (R210, R211; log 18). -/
def putItem (x : Item) : List Byte :=
  putByte x.kind.code ++ putByte x.index ++
    (match x.binding with
     | none => []
     | some (field, point) => putByte field ++ putIdent point)

/-- One binding to be checked: its field's place in the table, the point bound, whether a point is required, the class its
field requires, and whether its source must be SPEED (R210). -/
structure Binding where
  field : Nat
  point : Option (Fin 96)
  required : Bool
  cls : ValueClass
  speed : Bool
  deriving DecidableEq, Repr

/-- Whether a binding passes (R210 stage 1). -/
def Binding.ok (s : State) (b : Binding) : Bool :=
  match b.point with
  | none => !b.required
  | some p =>
    s.points[p].configured && decide (s.points[p].cfg.cls = b.cls) && (!b.speed || decide (s.points[p].cfg.source = .speed))

/-- The first failing binding of an item. -/
def failingBinding (s : State) (kind : ItemKind) (index : Nat) (l : List Binding) : Option Item :=
  (l.find? (fun b => !b.ok s)).map (fun b => ⟨kind, index, some (b.field, b.point)⟩)

def wellBindings (c : WellConfig) : List Binding :=
  [⟨1, c.intakePoint, c.enabled, .pres, false⟩, ⟨2, c.windingPoint, c.enabled, .temp, false⟩,
    ⟨3, c.flowPoint, false, .flow, false⟩]

def turbineBindings (c : TurbineConfig) : List Binding :=
  [⟨0, c.headerPoint, false, .pres, false⟩, ⟨1, c.flowPoint, false, .flow, false⟩, ⟨2, c.powerPoint, false, .power, false⟩,
    ⟨3, c.speedPoint, false, .speed, true⟩]

def heatingBindings (c : HeatingConfig) : List Binding :=
  [⟨0, c.outdoorPoint, false, .temp, false⟩, ⟨1, c.supplyPoint, false, .temp, false⟩,
    ⟨2, c.returnPoint, false, .temp, false⟩, ⟨3, c.netFlowPoint, false, .flow, false⟩,
    ⟨4, c.brineInPoint, false, .temp, false⟩, ⟨5, c.brineOutPoint, false, .temp, false⟩,
    ⟨6, c.brineFlowPoint, false, .flow, false⟩]

/-- The point of a concSource. -/
def ConcSource.bound : ConcSource → Option (Fin 96)
  | .fixed => none
  | .point p => some p

/-- The bindings of a site that have effect with its kind (R71, R210; log 16). -/
def siteBindings (c : SiteConfig) : List Binding :=
  match c.kind with
  | .none => []
  | .silica => [⟨1, c.tempPoint, true, .temp, false⟩, ⟨2, c.concSource.bound, false, .conc, false⟩]
  | .calcite => [⟨1, c.tempPoint, true, .temp, false⟩, ⟨4, c.presPoint, true, .pres, false⟩]

/-- Stage (1): bindings (R210). -/
def failedBindings (s : State) : Option Item :=
  (((indexes 8).findSome? (fun k => failingBinding s .well k.val (wellBindings s.wells[k].cfg))).or
    (failingBinding s .turbine 0 (turbineBindings s.turbine.cfg))).or
    ((failingBinding s .heating 0 (heatingBindings s.heating.cfg)).or
      ((indexes 12).findSome? (fun i => failingBinding s .site i.val (siteBindings s.sites[i].cfg))))

/-- Whether a drive is required (R210 stage 2). -/
def driveRequired (s : State) (d : Fin 15) : Bool :=
  if h : d.val < 8 then s.wells[d.val].cfg.enabled
  else if d.val < 10 then
    s.turbine.cfg.headerPoint.isSome || s.turbine.cfg.flowPoint.isSome || s.turbine.cfg.powerPoint.isSome ||
      s.turbine.cfg.speedPoint.isSome
  else if d.val = 10 then s.heating.cfg.complete
  else s.sites.toList.any (fun x => decide (x.cfg.kind ≠ .none) && x.cfg.station.any (fun j => decide (j.val + 11 = d.val)))

/-- Stage (2): drives (R210). -/
def failedDrives (s : State) : Option Item :=
  (firstIndex 15 (fun d => driveRequired s d && !driveBound s d)).map (fun d => ⟨.drive, d.val, none⟩)

/-- Whether a site posts the floor of a well that is not enabled (R210 stage 3). -/
def floorOfDisabled (s : State) (c : SiteConfig) : Bool :=
  match c.kind, c.action with
  | .none, _ => false
  | _, .wellFloor k => !s.wells[k].cfg.enabled
  | _, _ => false

/-- Stage (3): well floors (R210). -/
def failedFloors (s : State) : Option Item :=
  (firstIndex 12 (fun i => floorOfDisabled s s.sites[i].cfg)).map (fun i => ⟨.site, i.val, none⟩)

/-- Stage (4): the curve (R210). -/
def failedCurve (s : State) : Option Item :=
  if s.heating.cfg.complete && s.heating.curve.isNone then some ⟨.curve, 0, none⟩ else none

/-- The first item that fails Commission (R210). -/
def commissionFailure (s : State) : Option Item :=
  ((failedBindings s).or (failedDrives s)).or ((failedFloors s).or (failedCurve s))

/-- Commission (R210). -/
def ownCommission (s : State) : State × Answer :=
  if s.phase = .run then refuse s .state []
  else
    match commissionFailure s with
    | some x => refuse s .badConfig (putItem x)
    | none => accept { startMonitor s with phase := .run } []

/-! ### Decommission and SoftReset (R211, R216) -/

/-- The first item not at rest (R211). -/
def firstAtWork (s : State) : Option Item :=
  ((firstIndex 8 (fun k => !s.wells[k].state.atRest)).map (fun k => ⟨.well, k.val, none⟩)).or
    (if s.turbine.state.energised then some ⟨.turbine, 0, none⟩
     else if s.heating.state ≠ .off then some ⟨.heating, 0, none⟩
     else none)

/-- Decommission (R211). -/
def ownDecommission (s : State) : State × Answer :=
  if s.phase = .config then refuse s .state []
  else
    match firstAtWork s with
    | some x => refuse s .state (putItem x)
    | none => accept (stopMonitor { s with phase := .config }) []

/-- SoftReset: the reset takes effect when its reply has been sent (R216, R206). -/
def ownSoftReset (s : State) : State × Answer :=
  match firstAtWork s with
  | some x => refuse s .state (putItem x)
  | none => accept (s.modLink (fun l => { l with softResetPending := true })) []

/-! ### Arming, fallback, safe stop (R212 to R215) -/

/-- The ranges of ArmSupervision (R212). -/
def armInRange (period hold : Nat) : Bool := withinNat 5 600 period && decide (hold ≤ 3600)

/-- The range of fallbackSpeed, that of its class FRAC. -/
def speedInRange (speed : Int) : Bool := decide (0 ≤ speed) && decide (speed ≤ 10000)

/-- Start the supervision timer for a full period. -/
def Supervision.restart (v : Supervision) : Supervision := { v with supervisionTimer := v.period.map (fun p => p * 100) }

/-- Store the three fields (R212). -/
def Supervision.store (period hold : Nat) (speed : Int) (v : Supervision) : Supervision :=
  { v with period := some period, fallbackHold := some hold, fallbackSpeed := some speed }

/-- The reply of ArmSupervision: the state and the stored fields (R212). Each of the three fields, absent while DISARMED but present in
this reply, is sent without a presence byte (DESIGN CHOICE, log 66). -/
def armAnswer (clamped : Bool) (period hold : Nat) (speed : Int) (s : State) : State × Answer :=
  (s, okOr clamped (putByte s.supervision.state.code ++ putWord period ++ putWord hold ++ putClass speed))

/-- ArmSupervision (R212). In DISARMED a fallbackSpeed outside 0 ... 10000 is clamped; in the armed states it is, like any field
outside its range, refused BAD_FIELD. -/
def ownArmSupervision (period hold : Nat) (speed : Int) (s : State) : State × Answer :=
  let v := s.supervision
  match v.state with
  | .disarmed =>
    let stored := clamp 0 10000 speed
    if armInRange period hold then
      armAnswer (decide (stored ≠ speed)) period hold stored (s.modSupervision (fun v =>
        ({ v.store period hold stored with state := .armed } : Supervision).restart))
    else refuse s .badField []
  | .armed =>
    if period = 0 then refuse s .locked []
    else if armInRange period hold && speedInRange speed then
      armAnswer false period hold speed (s.modSupervision (fun v => (v.store period hold speed).restart))
    else refuse s .badField []
  | _ =>
    if period = 0 then refuse s .locked []
    else if armInRange period hold && speedInRange speed then
      let changed := decide (v.fallbackSpeed ≠ some speed)
      let s := s.modSupervision (Supervision.store period hold speed)
      armAnswer false period hold speed (if changed then post fallbackSlot .pumpCeilAll speed s else s)
    else refuse s .badField []

/-- A good request restarts the supervision timer in ARMED (R213). -/
def refreshSupervision (s : State) : State :=
  if s.supervision.state = .armed then s.modSupervision Supervision.restart else s

/-- Entry to FALLBACK (R213). -/
def Supervision.fallBack (v : Supervision) : Supervision :=
  { v with state := .fallback, supervisionTimer := none,
           holdTimer := v.fallbackHold.bind (fun h => if h = 0 then none else some (h * 1000)) }

/-- SUPERVISION_TIMER_EXPIRY of a running supervision timer (R213). -/
def supervisionTimerExpiry (s : State) : State :=
  match s.supervision.supervisionTimer with
  | none => s
  | some _ =>
    if s.supervision.state = .armed then
      post fallbackSlot .pumpCeilAll (s.supervision.fallbackSpeed.getD 0) (s.modSupervision Supervision.fallBack)
    else s

/-- The STOPs of SAFE_STOP: every well in WAIT_START, STARTING, a running state or SUSPENDED (R115, R214). -/
def stopAllWells (s : State) : State :=
  forEach 8 (fun k s => if s.wells[k].state.atRest || decide (s.wells[k].state = .stopping) then s else stopWell k s) s

/-- The UNLOAD of SAFE_STOP (R214, R149). -/
def unloadIfLoaded (s : State) : State := if s.turbine.state = .loaded then unloadTurbine s else s

/-- HOLD_TIMER_EXPIRY of a running hold timer (R214). -/
def holdTimerExpiry (s : State) : State :=
  match s.supervision.holdTimer with
  | none => s
  | some _ =>
    if s.supervision.state = .fallback then
      unloadIfLoaded (stopAllWells (s.modSupervision (fun v => { v with state := .safeStop, holdTimer := none })))
    else s

/-- Return to ARMED (R215). -/
def resumeSupervision (s : State) : State :=
  withdraw fallbackSlot (s.modSupervision (fun v => ({ v with state := .armed, holdTimer := none } : Supervision).restart))

/-- Resume (R215). -/
def ownResume (s : State) : State × Answer :=
  let s := if s.supervision.state = .fallback ∨ s.supervision.state = .safeStop then resumeSupervision s else s
  accept s (putByte s.supervision.state.code)

end Sys2Proof.Machine
end

