-- ==== Sys2Proof/Machine/Requests.lean ====
section
/-! DEFINITION. The dispatch of a request to its owner (section 10.7, R201 step 3), with Identify, whose owner is the link
itself (R207). -/

namespace Sys2Proof.Machine

open Wire

/-- The link rate in bit/s of the straps (R195). -/
def linkRate (baud1 baud0 : Bool) : Nat :=
  match baud1, baud0 with
  | false, false => 115200
  | false, true => 230400
  | true, false => 460800
  | true, true => 921600

/-- Identify (R207): device code, silicon revision, link rate and straps, reset cause, phase, supervision state, clock, the
fill of the two queues, the BUSY place, the pending notices, the three counters (widths where R209 leaves them: log 19). Which notices
are pending is sent as three yes-or-no bytes, STARTED, CONDITION and EDGE: R209 codes no set of notices (DESIGN CHOICE, log 56). The
strap value is sent as one byte, 2 for BAUD1 high plus 1 for BAUD0 high: no rule codes the pair of pins (DESIGN CHOICE, log 64). -/
def ownIdentify (s : State) : State × Answer :=
  let l := s.link
  accept s (putWord 4620 ++ putByte 1 ++ putLong (linkRate l.baud1 l.baud0) ++ putByte (2 * l.baud1.toNat + l.baud0.toNat) ++
    putByte s.resetCause.code ++ putByte s.phase.code ++ putByte s.supervision.state.code ++ putLong s.clock ++
    putByte l.requests.length ++ putByte l.replies.length ++ putBool l.busyPlace.isSome ++ putBool l.started.isSome ++
    putBool l.condition.isSome ++ putBool l.edge.isSome ++ putWord l.discardCount ++ putWord l.busyCount ++
    putWord l.busyLostCount)

/-- The owner of a request applies it and returns its status and content (R201 step 3). -/
def applyRequest : Request → State → State × Answer
  | .identify => ownIdentify
  | .setClock clock => ownSetClock clock
  | .configurePoint q => ownConfigurePoint q
  | .readPoints first count => ownReadPoints first count
  | .writePoint point value => ownWritePoint point value
  | .setSubstitute point substitute => ownSetSubstitute point substitute
  | .configureLine q => ownConfigureLine q
  | .editEntry line position entry => ownEditEntry line position entry
  | .insertEntry line position entry => ownInsertEntry line position entry
  | .removeEntry line position => ownRemoveEntry line position
  | .clearStaged line => ownClearStaged line
  | .swapSchedule line => ownSwapSchedule line
  | .resetLine line => ownResetLine line
  | .readLine line view => ownReadLine line view
  | .configureDiscrete q => ownConfigureDiscrete q
  | .setDiscrete line level => ownSetDiscrete line level
  | .readDiscrete => ownReadDiscrete
  | .clearEdges lines => ownClearEdges lines
  | .configureWell q => ownConfigureWell q
  | .start well => ownStart well
  | .stop well => ownStop well
  | .setTarget well value => ownSetTarget well value
  | .wellResetTrip well => ownWellResetTrip well
  | .unlock well => ownUnlock well
  | .readWell well => ownReadWell well
  | .configureTurbine q => ownConfigureTurbine q
  | .roll => ownRoll
  | .setMode mode => ownSetMode mode
  | .setLoad value => ownSetLoad value
  | .unload => ownUnload
  | .trip => ownTrip
  | .turbineResetTrip => ownTurbineResetTrip
  | .readTurbine => ownReadTurbine
  | .configureHeating q => ownConfigureHeating q
  | .setCurve breakpoints => ownSetCurve breakpoints
  | .heatingOn => ownHeatingOn
  | .heatingOff => ownHeatingOff
  | .readHeating => ownReadHeating
  | .configureSite q => ownConfigureSite q
  | .siteEnable site => ownSiteEnable site
  | .siteDisable site => ownSiteDisable site
  | .markCleaned site => ownMarkCleaned site
  | .restoreDose site value => ownRestoreDose site value
  | .readSite site view => ownReadSite site view
  | .postLimit kind well value => ownPostLimit kind well value
  | .withdrawLimit kind well => ownWithdrawLimit kind well
  | .readConstraints view => ownReadConstraints view
  | .readConditions => ownReadConditions
  | .releaseSnapshot number => ownReleaseSnapshot number
  | .setMasks watch horn => ownSetMasks watch horn
  | .silence => ownSilence
  | .armSupervision period hold speed => ownArmSupervision period hold speed
  | .resume => ownResume
  | .commission => ownCommission
  | .decommission => ownDecommission
  | .softReset => ownSoftReset

end Sys2Proof.Machine
end

