-- ==== Sys2Proof/Machine/Link.lean ====
section
/-! DEFINITION. The supervisory link (chapter 10): receiver, frame check, request queue, taking, replies, transmitter, and how
every event ends (`finish`). -/

namespace Sys2Proof.Machine

open Wire

/-! ### The frame check (R197) -/

/-- One bit of the check register with the polynomial x^16 + x^12 + x^5 + 1 (R197). -/
def crcBit (r : CheckRegister) : CheckRegister := if r.msb then (r <<< 1) ^^^ 0x1021#16 else r <<< 1

/-- One byte, most significant bit first (R197). -/
def crcByte (r : CheckRegister) (b : Byte) : CheckRegister :=
  crcBit (crcBit (crcBit (crcBit (crcBit (crcBit (crcBit (crcBit (r ^^^ (b.setWidth 16 <<< 8)))))))))

/-- The check of a list of bytes, the register starting at 0xFFFF (R197). -/
def crcOf (bytes : List Byte) : CheckRegister := bytes.foldl crcByte 0xFFFF#16

/-- The Length byte of a frame with the given Body: its length plus 2 while the Body has at most 240 bytes (frame table);
left open beyond (log 13). -/
def lengthByte (body : List Byte) : Byte :=
  if body.length ≤ 240 then BitVec.ofNat 8 (body.length + 2) else Config.oversizeLength body.length

/-- The bytes of a frame on the line, Sync to Check (frame table of section 10.8). -/
def Frame.bytes (f : Frame) : List Byte :=
  let checked := lengthByte f.body :: f.kind :: f.tag :: f.body
  0xE7 :: checked ++ putWord (crcOf checked).toNat

/-! ### Characters on the line (R195) -/

/-- The level of the idle line and of a stop bit. -/
def mark : Bool := true

/-- The level of a start bit. -/
def space : Bool := false

/-- The bits of a character in the order of their sending: start bit, data least significant bit first, stop bit, no parity. -/
def characterBits (b : Byte) : List Bool := space :: (indexes 8).map (fun i => b.getLsbD i.val) ++ [mark]

/-- The bits of a frame: its characters back to back (R195). -/
def Frame.bits (f : Frame) : List Bool := (f.bytes.map characterBits).flatten

/-- What LINK_TX carries: the bits of the frame being sent, with the line at mark around them (R195, R205). -/
def Link.wire (l : Link) : List Bool :=
  match l.sending with
  | some f => f.bits ++ [mark]
  | none => [mark]

/-- The event that ten bits from a start bit on bring to the receiver: a character, or a framing error where the stop bit is
received at space (R195, R198). -/
def receivedEvent (bits : List Bool) : Option Instr :=
  match bits with
  | [start, d0, d1, d2, d3, d4, d5, d6, d7, stop] =>
    if start = mark then none
    else if stop = space then some .framingError
    else some (.characterReceived (BitVec.ofBoolListLE [d0, d1, d2, d3, d4, d5, d6, d7]))
  | _ => none

/-! ### Replies and the taking of requests (R199 to R202) -/

/-- The Kind of the reply to a request Kind (R201). -/
def replyKind (kind : Byte) : Byte := kind + 0x80

/-- Append a reply to the reply queue (R201). -/
def placeReply (kind tag : Byte) (a : Answer) (s : State) : State :=
  s.modLink (fun l =>
    { l with replies := l.replies ++ [⟨⟨replyKind kind, tag, a.body⟩, l.placings⟩], placings := l.placings + 1 })

/-- Settle a request that is taken: the three steps of R201. A command byte beyond its values reaches no part of its owner, so the
BAD_FIELD reply to it carries no detail, not even the state of a well it names (DEDUCED, log 45). -/
def settleRequest (p : Parsed) (s : State) : State × Answer :=
  match p with
  | .unknownKind => refuse s .unknownKind []
  | .badLength => refuse s .badLength []
  | .badField => refuse s .badField []
  | .ok r => applyRequest r s

/-- Settle a request and place its reply (R201). -/
def answerRequest (kind tag : Byte) (p : Parsed) (s : State) : State :=
  match settleRequest p s with
  | (s, a) => placeReply kind tag a s

/-- Take the oldest request while the reply queue has room and no SoftReset is pending (R201, R206). -/
def takeRequests : Nat → State → State
  | 0, s => s
  | fuel + 1, s =>
    match s.link.requests with
    | [] => s
    | q :: rest =>
      if decide (s.link.replies.length < 4) && !s.link.softResetPending then
        takeRequests fuel
          (answerRequest q.kind q.tag (decodeRequest q.kind.toNat q.body) (s.modLink (fun l => { l with requests := rest })))
      else s

/-- A good request that finds the request queue full (R200). -/
def answerBusy (kind tag : Byte) (s : State) : State :=
  s.modLink (fun l =>
    match l.busyPlace with
    | some _ => { l with busyLostCount := satSucc 65535 l.busyLostCount }
    | none =>
      { l with busyPlace := some ⟨⟨replyKind kind, tag, putByte Status.busy.code⟩, l.placings⟩,
               placings := l.placings + 1, busyCount := satSucc 65535 l.busyCount })

/-- Offer a good request to the request queue (R199, R200) and take what can be taken (R201). -/
def offerRequest (kind tag : Byte) (body : List Byte) (s : State) : State :=
  if s.link.requests.length < 4 then
    takeRequests 4 (s.modLink (fun l => { l with requests := l.requests ++ [⟨kind, tag, body⟩] }))
  else answerBusy kind tag s

/-- Discard a frame without a reply (R197 to R199). -/
def discardFrame (s : State) : State := s.modLink (fun l => { l with discardCount := satSucc 65535 l.discardCount })

/-- A good frame (R199). -/
def goodFrame (kind tag : Byte) (body : List Byte) (s : State) : State :=
  if 1 ≤ kind.toNat ∧ kind.toNat ≤ 63 then offerRequest kind tag body (refreshSupervision s) else discardFrame s

/-- Whether a request that arrives now is taken in the event of its arrival (R201). -/
def takenAtOnce (s : State) : Bool :=
  s.link.requests.isEmpty && decide (s.link.replies.length < 4) && !s.link.softResetPending

/-- The arrival of a good request given by its fields (log 3): taken at once where nothing is in its way, else offered to the
request queue as the bytes of its frame. -/
def arriveRequest (tag : Byte) (r : Request) (s : State) : State :=
  let s := refreshSupervision s
  let kind : Byte := BitVec.ofNat 8 r.kind
  if takenAtOnce s then answerRequest kind tag (.ok r) s else offerRequest kind tag r.body s

/-! ### The receiver (R196 to R198) -/

/-- The gap timer in ms: a gap is more than 5 ms without a character (R198; log 8). -/
def gapTime : Nat := 6

/-- The receiver back in HUNTING. -/
def Receiver.hunt (r : Receiver) : Receiver := { r with state := .hunting, bytes := [], gapTimer := none }

/-- How many bytes a frame takes from Length on: itself, as many as it counts, and the two Check bytes. -/
def frameSize (length : Byte) : Nat := length.toNat + 3

/-- Whether the receiver holds a whole frame that is not yet judged. -/
def Receiver.complete (r : Receiver) : Bool :=
  match r.state, r.bytes with
  | .body, length :: rest => decide (frameSize length ≤ rest.length + 1)
  | _, _ => false

/-- Judge a whole frame, given by its bytes from Length on (R197, R199). -/
def judge (bytes : List Byte) (s : State) : State :=
  if crcOf bytes = 0 then
    match bytes.drop 1 with
    | kind :: tag :: rest => goodFrame kind tag (rest.take (rest.length - 2)) s
    | _ => discardFrame s
  else discardFrame s

/-- FRAME_JUDGED: the frame the receiver holds whole is judged, and the receiver hunts again (R196, R197, R199). -/
def judgeHeld (s : State) : State :=
  if s.link.receiver.complete then
    judge s.link.receiver.bytes (s.modLink (fun l => { l with receiver := l.receiver.hunt }))
  else s

/-- What a character does to the receiver (R196). -/
def Receiver.take (b : Byte) (r : Receiver) : Receiver :=
  match r.state with
  | .hunting => if b = 0xE7 then { r with state := .length, bytes := [], gapTimer := some gapTime } else r
  | .length =>
    if 2 ≤ b.toNat ∧ b.toNat ≤ 242 then { r with state := .body, bytes := [b], gapTimer := some gapTime } else r.hunt
  | .body =>
    let r := { r with bytes := r.bytes ++ [b] }
    { r with gapTimer := if r.complete then none else some gapTime }

/-- CHARACTER_RECEIVED (R196, R198). A frame held whole is judged first. -/
def characterReceived (b : Byte) (s : State) : State :=
  let s := judgeHeld s
  if s.link.receiver.inBreak then s else s.modLink (fun l => { l with receiver := l.receiver.take b })

/-- End a partial frame: nothing in HUNTING (R198). -/
def abandonFrame (s : State) : State :=
  if s.link.receiver.state = .hunting then s
  else discardFrame (s.modLink (fun l => { l with receiver := l.receiver.hunt }))

/-- GAP of a running gap timer (R198). -/
def gap (s : State) : State :=
  let s := judgeHeld s
  if s.link.receiver.gapTimer.isSome then abandonFrame s else s

/-- FRAMING_ERROR (R198). A character within a break is not received. -/
def framingError (s : State) : State :=
  let s := judgeHeld s
  if s.link.receiver.inBreak then s else abandonFrame s

/-- BREAK (R198). -/
def lineBreak (s : State) : State :=
  (abandonFrame (judgeHeld s)).modLink (fun l => { l with receiver := { l.receiver with inBreak := true } })

/-- RETURN_TO_MARK (R198). -/
def returnToMark (s : State) : State := s.modLink (fun l => { l with receiver := { l.receiver with inBreak := false } })

/-! ### The transmitter (R203, R204) -/

/-- Where the arbiter's next frame stands. -/
inductive Choice where
  | reply (f : Frame)
  | busy (f : Frame)
  | started (f : Frame)
  | condition (f : Frame)
  | edge (f : Frame)
  deriving DecidableEq, Repr

/-- The pending notice to be sent next (R204). -/
def noticeChoice (l : Link) : Option Choice :=
  match l.started, l.condition, l.edge with
  | some c, _, _ => some (.started (startedFrame c))
  | none, some n, _ => some (.condition (conditionFrame n))
  | none, none, some n => some (.edge (edgeFrame n))
  | none, none, none => none

/-- The transmitter arbiter: the oldest reply by its placing, else a notice (R204). -/
def arbiter (l : Link) : Option Choice :=
  match l.replies, l.busyPlace with
  | r :: _, some b => some (if b.placed < r.placed then .busy b.frame else .reply r.frame)
  | r :: _, none => some (.reply r.frame)
  | [], some b => some (.busy b.frame)
  | [], none => noticeChoice l

/-- Look for edges not yet reported once a pending EDGE notice has left (R61). -/
def followEdges (s : State) : State :=
  if (indexes 24).any (fun i => s.discretes[i].edgeSeen && !s.discretes[i].edgeReported) then queueEdgeNotice s else s

/-- Begin the chosen frame: it leaves its place, and what its leaving frees is used in the event (R201, R203, R204, R61). -/
def beginChoice (c : Choice) (s : State) : State :=
  match c with
  | .reply f => takeRequests 4 (s.modLink (fun l => { l with sending := some f, replies := l.replies.drop 1 }))
  | .busy f => s.modLink (fun l => { l with sending := some f, busyPlace := none })
  | .started f => s.modLink (fun l => { l with sending := some f, started := none })
  | .condition f => s.modLink (fun l => { l with sending := some f, condition := none })
  | .edge f => followEdges (s.modLink (fun l => { l with sending := some f, edge := none }))

/-! ### The end of an event -/

/-- Outputs and conditions follow the owners' states (R58, R111, R138, R182). -/
def settle (s : State) : State := settleConditions (settleOutputs s)

/-- Begin a frame where the transmitter is IDLE and one waits; what a taking in that beginning changed is settled with it
(R204, R201). -/
def transmit (s : State) : State :=
  match s.link.sending, arbiter s.link with
  | none, some c => settle (beginChoice c s)
  | _, _ => s

/-- Every event ends so: outputs and conditions are settled with all its changes, and an idle transmitter begins what waits. -/
def finish (s : State) : State := transmit (settle s)

/-- The outcome of an event: during internal initialisation only resets, START_UP and the pads act (R205, R216; log 9). -/
def event (f : State → State) (s : State) : Host.Outcome State Fault Refusal :=
  .next (if s.initialising then s else finish (f s))

/-- The outcome of the arrival of a request. -/
def onRequest (tag : Byte) (r : Request) (s : State) : Host.Outcome State Fault Refusal := event (arriveRequest tag r) s

end Sys2Proof.Machine
end

