-- ==== Sys2Proof/Machine/Resets.lean ====
section
/-! DEFINITION. The three resets and the end of internal initialisation (section 11.4, R205, R206, R216). -/

namespace Sys2Proof.Machine

/-- POWER_RESET: power is applied, with the straps as sampled (R216, R195). -/
def powerReset (baud1 baud0 : Bool) (s : State) : State :=
  State.afterHardReset (fun d => s.discretes[d].pin) baud1 baud0 true s.resetHeldLow s.resetCause s.pending

/-- PIN_RESET: RESET_N is held low (R216, R195). -/
def pinReset (baud1 baud0 : Bool) (s : State) : State :=
  State.afterHardReset (fun d => s.discretes[d].pin) baud1 baud0 s.powerApplied true s.resetCause s.pending

/-- A drive after a SOFT reset: PENDING where a kept active schedule names it (R23). -/
def keptDrive (s : State) (d : Fin 15) : Drive :=
  { Drive.fresh (safeValue d) with delivery := if driveBound s d then .pending else .unbound }

/-- The SOFT reset: every configuration kept, every dynamic value as after any reset (R216). -/
def softResetEffect (s : State) : State :=
  State.afterReset (modifyAll s.points (fun _ p => Point.fresh p.cfg))
    (modifyAll s.lines (fun _ l => Line.fresh l.cfg l.active l.staged))
    (modifyAll s.discretes (fun _ l => Discrete.fresh l.cfg l.pin)) (Vector.ofFn (fun d => keptDrive s d)) s.speedUnit.cfg
    (modifyAll s.sites (fun _ x => Site.fresh x.cfg)) (modifyAll s.wells (fun _ w => Well.fresh w.cfg)) s.turbine.cfg
    s.heating.cfg s.heating.curve s.conditions.watch s.conditions.horn s.link.baud1 s.link.baud0 s.powerApplied
    s.resetHeldLow s.resetCause s.pending

/-- Whether a frame is the reply of an accepted SoftReset (R206). -/
def Frame.acceptsSoftReset (f : Frame) : Bool := decide (f.kind = 0xAB) && decide (f.body = [0])

/-- TRANSMISSION_END: the SoftReset reply sent, the SOFT reset takes effect; any other frame sent, the transmitter chooses
again (R204, R206). -/
def transmissionEnd (s : State) : State :=
  match s.link.sending with
  | none => s
  | some f =>
    if s.link.softResetPending && f.acceptsSoftReset then softResetEffect s
    else finish (s.modLink (fun l => { l with sending := none }))

/-- The reset cause fixed at the end of internal initialisation (R216). -/
def causeOf (s : State) : ResetCause := if s.powerApplied then .power else if s.resetHeldLow then .pin else .soft

/-- Start the timers of the part (R216). -/
def startTimers (s : State) : State :=
  { s with
    clockTimer := some 1000
    ageTimer := some 100
    secondTimer := some 1000
    wpTimer := some 250
    turbine := { s.turbine with periodTimer := some 100 }
    heating := { s.heating with periodTimer := some 1000 } }

/-- The initial live set, formed without a notice (R193). -/
def formLive (s : State) : State :=
  s.modConditions (fun c => { c with live := liveNow s, frozen := liveNow s })

/-- Queue the STARTED notice (R205, R216). -/
def queueStarted (s : State) : State := s.modLink (fun l => { l with started := some s.resetCause })

/-- START_UP: the end of internal initialisation (R216). -/
def startUp (s : State) : State :=
  if s.initialising then
    let s := { s with resetCause := causeOf s, initialising := false, powerApplied := false, resetHeldLow := false }
    transmit (queueStarted (formLive (settleOutputs (sampleDiscretes (startTimers s)))))
  else s

end Sys2Proof.Machine
end

