-- ==== Sys2Proof/Machine/LinkCommands.lean ====
section
/-! DEFINITION. The meanings of the resets, of start-up and of the link's own events and requests. -/

namespace Sys2Proof.Machine

/-- What a command answers. -/
abbrev Outcome : Type := Host.Outcome State Fault Refusal

/-- POWER_RESET (R216): in every state, at once. -/
def execPowerReset (baud1 baud0 : Bool) (s : State) : Outcome := .next (powerReset baud1 baud0 s)

/-- PIN_RESET (R216): in every state, at once. -/
def execPinReset (baud1 baud0 : Bool) (s : State) : Outcome := .next (pinReset baud1 baud0 s)

/-- START_UP (R216): the end of internal initialisation. -/
def execStartUp (s : State) : Outcome := .next (startUp s)

/-- FRAME_JUDGED (R196, R197, R199). -/
def execFrameJudged (s : State) : Outcome := event judgeHeld s

/-- GAP (R198). -/
def execGap (s : State) : Outcome := event gap s

/-- FRAMING_ERROR (R198). -/
def execFramingError (s : State) : Outcome := event framingError s

/-- BREAK (R198). -/
def execLineBreak (s : State) : Outcome := event lineBreak s

/-- UNKNOWN_KIND: a good frame of a Kind to which no request is assigned arrives (R199, R201 step 1). -/
def execUnknownKind (tag kind : Byte) (body : List Byte) (s : State) : Outcome := event (goodFrame kind tag body) s

/-- TRANSMISSION_END (R204, R206). -/
def execTransmissionEnd (s : State) : Outcome := .next (if s.initialising then s else transmissionEnd s)

/-- CHARACTER_RECEIVED (R196, R198). -/
def execCharacterReceived (byte : Byte) (s : State) : Outcome := event (characterReceived byte) s

/-- RETURN_TO_MARK (R198). -/
def execReturnToMark (s : State) : Outcome := event returnToMark s

/-- Identify arrives (R207). -/
def execIdentify (tag : Byte) (s : State) : Outcome :=
  onRequest tag .identify s

end Sys2Proof.Machine
end

