-- ==== Sys2Proof/Machine/DiscreteCommands.lean ====
section
/-! DEFINITION. The meanings of the discrete unit's requests and events and of the speed unit's events. -/

namespace Sys2Proof.Machine

/-- ConfigureDiscrete arrives (R53 to R55). -/
def execConfigureDiscrete (tag : Byte) (q : DiscreteFields) (s : State) : Outcome :=
  onRequest tag (.configureDiscrete q) s

/-- SetDiscrete arrives (R58). -/
def execSetDiscrete (tag : Byte) (line : Nat) (level : Nat) (s : State) : Outcome :=
  onRequest tag (.setDiscrete line level) s

/-- ReadDiscrete arrives (R63). -/
def execReadDiscrete (tag : Byte) (s : State) : Outcome :=
  onRequest tag .readDiscrete s

/-- ClearEdges arrives (R62). -/
def execClearEdges (tag : Byte) (lines : LineMask) (s : State) : Outcome :=
  onRequest tag (.clearEdges lines) s

/-- PAD_CHANGE (R55 to R57); during internal initialisation the pad changes and nothing samples it (R65). -/
def execPadChange (line : Fin 24) (high : Bool) (s : State) : Outcome :=
  .next (if s.initialising then padChange line high s else finish (padChange line high s))

/-- DEBOUNCE_EXPIRY (R56, R57). -/
def execDebounceExpiry (line : Fin 24) (s : State) : Outcome := event (debounceExpiry line) s

/-- MISMATCH_EXPIRY (R59). -/
def execMismatchExpiry (line : Fin 24) (s : State) : Outcome := event (mismatchExpiry line) s

/-- TOOTH_EDGE (R67, R68). -/
def execToothEdge (offset : TimeBase) (s : State) : Outcome := event (toothEdge offset) s

/-- LOSS_TIMER_EXPIRY (R69). -/
def execLossTimerExpiry (s : State) : Outcome := event lossTimerExpiry s

end Sys2Proof.Machine
end

