-- ==== Sys2Proof/Machine/HeatingCommands.lean ====
section
/-! DEFINITION. The meanings of the heat exchange unit's requests, commands and period. -/

namespace Sys2Proof.Machine

/-- ConfigureHeating arrives (R160, R161). -/
def execConfigureHeating (tag : Byte) (q : HeatingFields) (s : State) : Outcome :=
  onRequest tag (.configureHeating q) s

/-- SetCurve arrives (R162). -/
def execSetCurve (tag : Byte) (breakpoints : List (Int × Int)) (s : State) : Outcome :=
  onRequest tag (.setCurve breakpoints) s

/-- HeatingCommand ON arrives (R164). -/
def execHeatingOn (tag : Byte) (s : State) : Outcome :=
  onRequest tag .heatingOn s

/-- HeatingCommand OFF arrives (R165). -/
def execHeatingOff (tag : Byte) (s : State) : Outcome :=
  onRequest tag .heatingOff s

/-- ReadHeating arrives (R180). -/
def execReadHeating (tag : Byte) (s : State) : Outcome :=
  onRequest tag .readHeating s

/-- HX_PERIOD_EXPIRY (R166). -/
def execHxPeriodExpiry (s : State) : Outcome := event hxPeriodExpiry s

end Sys2Proof.Machine
end

