-- ==== Sys2Proof/Machine/LineCommands.lean ====
section
/-! DEFINITION. The meanings of the instrument lines' requests and events. -/

namespace Sys2Proof.Machine

/-- ConfigureLine arrives (R27, R28). -/
def execConfigureLine (tag : Byte) (q : LineFields) (s : State) : Outcome :=
  onRequest tag (.configureLine q) s

/-- EditEntry arrives (R47). -/
def execEditEntry (tag : Byte) (line : Nat) (position : Nat) (entry : EntryFields) (s : State) : Outcome :=
  onRequest tag (.editEntry line position entry) s

/-- InsertEntry arrives (R47). -/
def execInsertEntry (tag : Byte) (line : Nat) (position : Nat) (entry : EntryFields) (s : State) : Outcome :=
  onRequest tag (.insertEntry line position entry) s

/-- RemoveEntry arrives (R47). -/
def execRemoveEntry (tag : Byte) (line : Nat) (position : Nat) (s : State) : Outcome :=
  onRequest tag (.removeEntry line position) s

/-- ClearStaged arrives (R47). -/
def execClearStaged (tag : Byte) (line : Nat) (s : State) : Outcome :=
  onRequest tag (.clearStaged line) s

/-- SwapSchedule arrives (R49). -/
def execSwapSchedule (tag : Byte) (line : Nat) (s : State) : Outcome :=
  onRequest tag (.swapSchedule line) s

/-- ResetLine arrives (R50). -/
def execResetLine (tag : Byte) (line : Nat) (s : State) : Outcome :=
  onRequest tag (.resetLine line) s

/-- ReadLine arrives (R51). -/
def execReadLine (tag : Byte) (line : Nat) (view : Nat) (s : State) : Outcome :=
  onRequest tag (.readLine line view) s

/-- PASS_TIMER_EXPIRY (R29, R45). -/
def execPassTimerExpiry (line : Fin 3) (s : State) : Outcome := event (passTimerExpiry line) s

/-- READ_ENTRY_END (R34, R38). -/
def execReadEntryEnd (line : Fin 3) (station : StationAnswers) (closing : ClosingStop) (s : State) : Outcome :=
  event (readEntryEnd line station closing) s

/-- WRITE_DRIVE_ENTRY_END (R35, R39). -/
def execWriteDriveEntryEnd (line : Fin 3) (station : StationAnswers) (closing : ClosingStop) (s : State) : Outcome :=
  event (writeDriveEntryEnd line station closing) s

/-- PROBE_END (R35). -/
def execProbeEnd (line : Fin 3) (station : StationAnswers) (closing : ClosingStop) (s : State) : Outcome :=
  event (probeEnd line station closing) s

/-- HELD_CLOCK (R36, R42). -/
def execHeldClock (line : Fin 3) (s : State) : Outcome := event (heldClock line) s

/-- HELD_DATA_WIRE (R37, R44). -/
def execHeldDataWire (line : Fin 3) (s : State) : Outcome := event (heldDataWire line) s

/-- RECOVERY_PROCEDURE_END (R43, R44). -/
def execRecoveryProcedureEnd (line : Fin 3) (wires : List WireReading) (s : State) : Outcome :=
  event (recoveryProcedureEnd line wires) s

/-- RECOVERY_ATTEMPT_END (R45). -/
def execRecoveryAttemptEnd (line : Fin 3) (wires : List WireReading) (s : State) : Outcome :=
  event (recoveryAttemptEnd line wires) s

end Sys2Proof.Machine
end

