-- ==== Sys2Proof/Machine/PointCommands.lean ====
section
/-! DEFINITION. The meanings of the point table's requests and timers. -/

namespace Sys2Proof.Machine

/-- ConfigurePoint arrives (R1 to R3). -/
def execConfigurePoint (tag : Byte) (q : PointFields) (s : State) : Outcome :=
  onRequest tag (.configurePoint q) s

/-- ReadPoints arrives (R18). -/
def execReadPoints (tag : Byte) (first : Nat) (count : Nat) (s : State) : Outcome :=
  onRequest tag (.readPoints first count) s

/-- WritePoint arrives (R12). -/
def execWritePoint (tag : Byte) (point : Nat) (value : Int) (s : State) : Outcome :=
  onRequest tag (.writePoint point value) s

/-- SetSubstitute arrives (R11). -/
def execSetSubstitute (tag : Byte) (point : Nat) (substitute : Option Int) (s : State) : Outcome :=
  onRequest tag (.setSubstitute point substitute) s

/-- AGE_TIMER_EXPIRY (R8, R13). -/
def execAgeTimerExpiry (s : State) : Outcome := event ageTimerExpiry s

/-- SECOND_TIMER_EXPIRY (R22). -/
def execSecondTimerExpiry (s : State) : Outcome := event secondTimerExpiry s

/-- RECOVERY_TIMER_EXPIRY (R9, R10). -/
def execRecoveryTimerExpiry (point : Fin 96) (s : State) : Outcome := event (recoveryTimerExpiry point) s

end Sys2Proof.Machine
end

