-- ==== Sys2Proof/Machine/SiteCommands.lean ====
section
/-! DEFINITION. The meanings of the scaling monitor's requests, commands and period. -/

namespace Sys2Proof.Machine

/-- ConfigureSite arrives (R71, R72). -/
def execConfigureSite (tag : Byte) (q : SiteFields) (s : State) : Outcome :=
  onRequest tag (.configureSite q) s

/-- SiteCommand ENABLE arrives (R94). -/
def execSiteEnable (tag : Byte) (site : Nat) (s : State) : Outcome :=
  onRequest tag (.siteEnable site) s

/-- SiteCommand DISABLE arrives (R94). -/
def execSiteDisable (tag : Byte) (site : Nat) (s : State) : Outcome :=
  onRequest tag (.siteDisable site) s

/-- SiteCommand MARK_CLEANED arrives (R86). -/
def execMarkCleaned (tag : Byte) (site : Nat) (s : State) : Outcome :=
  onRequest tag (.markCleaned site) s

/-- SiteCommand RESTORE_DOSE arrives (R86). -/
def execRestoreDose (tag : Byte) (site : Nat) (value : Nat) (s : State) : Outcome :=
  onRequest tag (.restoreDose site value) s

/-- ReadSite arrives (R95). -/
def execReadSite (tag : Byte) (site : Nat) (view : SiteView) (s : State) : Outcome :=
  onRequest tag (.readSite site view) s

/-- SM_PERIOD_EXPIRY (R73, R74). -/
def execSmPeriodExpiry (s : State) : Outcome := event smPeriodExpiry s

end Sys2Proof.Machine
end

