-- ==== Sys2Proof/Machine/SupervisionCommands.lean ====
section
/-! DEFINITION. The meanings of the requests and timers of supervision, phase and plant clock. -/

namespace Sys2Proof.Machine

/-- SetClock arrives (R208). -/
def execSetClock (tag : Byte) (clock : Nat) (s : State) : Outcome :=
  onRequest tag (.setClock clock) s

/-- ArmSupervision arrives (R212). -/
def execArmSupervision (tag : Byte) (period : Nat) (fallbackHold : Nat) (fallbackSpeed : Int) (s : State) : Outcome :=
  onRequest tag (.armSupervision period fallbackHold fallbackSpeed) s

/-- Resume arrives (R215). -/
def execResume (tag : Byte) (s : State) : Outcome :=
  onRequest tag .resume s

/-- Commission arrives (R210). -/
def execCommission (tag : Byte) (s : State) : Outcome :=
  onRequest tag .commission s

/-- Decommission arrives (R211). -/
def execDecommission (tag : Byte) (s : State) : Outcome :=
  onRequest tag .decommission s

/-- SoftReset arrives (R206, R216). -/
def execSoftReset (tag : Byte) (s : State) : Outcome :=
  onRequest tag .softReset s

/-- PLANT_CLOCK_TICK (R208). -/
def execPlantClockTick (s : State) : Outcome := event plantClockTick s

/-- SUPERVISION_TIMER_EXPIRY (R213). -/
def execSupervisionTimerExpiry (s : State) : Outcome := event supervisionTimerExpiry s

/-- HOLD_TIMER_EXPIRY (R214). -/
def execHoldTimerExpiry (s : State) : Outcome := event holdTimerExpiry s

end Sys2Proof.Machine
end

