-- ==== Sys2Proof/Machine/TableCommands.lean ====
section
/-! DEFINITION. The meanings of the requests of the constraint table and of the condition unit. -/

namespace Sys2Proof.Machine

/-- PostLimit arrives (R104). -/
def execPostLimit (tag : Byte) (targetKind : Nat) (targetWell : Nat) (value : Int) (s : State) : Outcome :=
  onRequest tag (.postLimit targetKind targetWell value) s

/-- WithdrawLimit arrives (R105). -/
def execWithdrawLimit (tag : Byte) (targetKind : Nat) (targetWell : Nat) (s : State) : Outcome :=
  onRequest tag (.withdrawLimit targetKind targetWell) s

/-- ReadConstraints arrives (R106). -/
def execReadConstraints (tag : Byte) (view : Nat) (s : State) : Outcome :=
  onRequest tag (.readConstraints view) s

/-- ReadConditions arrives (R192). -/
def execReadConditions (tag : Byte) (s : State) : Outcome :=
  onRequest tag .readConditions s

/-- ReleaseSnapshot arrives (R186). -/
def execReleaseSnapshot (tag : Byte) (number : Nat) (s : State) : Outcome :=
  onRequest tag (.releaseSnapshot number) s

/-- SetMasks arrives (R188, R189). -/
def execSetMasks (tag : Byte) (watch : Option MemberMask) (horn : Option MemberMask) (s : State) : Outcome :=
  onRequest tag (.setMasks watch horn) s

/-- Silence arrives (R190). -/
def execSilence (tag : Byte) (s : State) : Outcome :=
  onRequest tag .silence s

end Sys2Proof.Machine
end

