-- ==== Sys2Proof/Machine/TurbineCommands.lean ====
section
/-! DEFINITION. The meanings of the turbine governor's requests, commands and timers. -/

namespace Sys2Proof.Machine

/-- ConfigureTurbine arrives (R136, R137). -/
def execConfigureTurbine (tag : Byte) (q : TurbineFields) (s : State) : Outcome :=
  onRequest tag (.configureTurbine q) s

/-- TurbineCommand ROLL arrives (R141). -/
def execRoll (tag : Byte) (s : State) : Outcome :=
  onRequest tag .roll s

/-- TurbineCommand SET_MODE arrives (R145). -/
def execSetMode (tag : Byte) (mode : Nat) (s : State) : Outcome :=
  onRequest tag (.setMode mode) s

/-- TurbineCommand SET_LOAD arrives (R146). -/
def execSetLoad (tag : Byte) (value : Int) (s : State) : Outcome :=
  onRequest tag (.setLoad value) s

/-- TurbineCommand UNLOAD arrives (R149). -/
def execUnload (tag : Byte) (s : State) : Outcome :=
  onRequest tag .unload s

/-- TurbineCommand TRIP arrives (R151). -/
def execTrip (tag : Byte) (s : State) : Outcome :=
  onRequest tag .trip s

/-- TurbineCommand RESET_TRIP arrives (R154). -/
def execTurbineResetTrip (tag : Byte) (s : State) : Outcome :=
  onRequest tag .turbineResetTrip s

/-- ReadTurbine arrives (R158). -/
def execReadTurbine (tag : Byte) (s : State) : Outcome :=
  onRequest tag .readTurbine s

/-- TG_PERIOD_EXPIRY (R139). -/
def execTgPeriodExpiry (s : State) : Outcome := event tgPeriodExpiry s

/-- ROLL_TIMER_EXPIRY (R143). -/
def execRollTimerExpiry (s : State) : Outcome := event rollTimerExpiry s

/-- BREAKER_TIMER_EXPIRY (R150). -/
def execBreakerTimerExpiry (s : State) : Outcome := event breakerTimerExpiry s

end Sys2Proof.Machine
end

