-- ==== Sys2Proof/Machine/WellCommands.lean ====
section
/-! DEFINITION. The meanings of the well pump controller's requests, commands and timers. -/

namespace Sys2Proof.Machine

/-- ConfigureWell arrives (R109, R110). -/
def execConfigureWell (tag : Byte) (q : WellFields) (s : State) : Outcome :=
  onRequest tag (.configureWell q) s

/-- WellCommand START arrives (R116). -/
def execStart (tag : Byte) (well : Nat) (s : State) : Outcome :=
  onRequest tag (.start well) s

/-- WellCommand STOP arrives (R119). -/
def execStop (tag : Byte) (well : Nat) (s : State) : Outcome :=
  onRequest tag (.stop well) s

/-- WellCommand SET_TARGET arrives (R121). -/
def execSetTarget (tag : Byte) (well : Nat) (value : Int) (s : State) : Outcome :=
  onRequest tag (.setTarget well value) s

/-- WellCommand RESET_TRIP arrives (R122). -/
def execWellResetTrip (tag : Byte) (well : Nat) (s : State) : Outcome :=
  onRequest tag (.wellResetTrip well) s

/-- WellCommand UNLOCK arrives (R122). -/
def execUnlock (tag : Byte) (well : Nat) (s : State) : Outcome :=
  onRequest tag (.unlock well) s

/-- ReadWell arrives (R134). -/
def execReadWell (tag : Byte) (well : Nat) (s : State) : Outcome :=
  onRequest tag (.readWell well) s

/-- WP_PERIOD_EXPIRY (R112). -/
def execWpPeriodExpiry (s : State) : Outcome := event wpPeriodExpiry s

/-- START_TIMER_EXPIRY (R118). -/
def execStartTimerExpiry (well : Fin 8) (s : State) : Outcome := event (startTimerExpiry well) s

/-- STOP_TIMER_EXPIRY (R120). -/
def execStopTimerExpiry (well : Fin 8) (s : State) : Outcome := event (stopTimerExpiry well) s

/-- TRIP_DECAY_EXPIRY (R132). -/
def execTripDecayExpiry (well : Fin 8) (s : State) : Outcome := event (tripDecayExpiry well) s

end Sys2Proof.Machine
end

