-- ==== Sys2Proof/Machine/Dispatch.lean ====
section
/-! DEFINITION. The dispatch of a command to its meaning, one arm per row of spec/opcode_table.json. -/

namespace Sys2Proof.Machine

/-- The effect of a command on everything but the queue of commands that wait. -/
def exec (i : Instr) (s : State) : Host.Outcome State Fault Refusal :=
  match i with
  | .powerReset baud1 baud0 => Sys2Proof.Machine.execPowerReset baud1 baud0 s
  | .pinReset baud1 baud0 => Sys2Proof.Machine.execPinReset baud1 baud0 s
  | .startUp => Sys2Proof.Machine.execStartUp s
  | .frameJudged => Sys2Proof.Machine.execFrameJudged s
  | .gap => Sys2Proof.Machine.execGap s
  | .framingError => Sys2Proof.Machine.execFramingError s
  | .lineBreak => Sys2Proof.Machine.execLineBreak s
  | .unknownKind tag kind body => Sys2Proof.Machine.execUnknownKind tag kind body s
  | .transmissionEnd => Sys2Proof.Machine.execTransmissionEnd s
  | .identify tag => Sys2Proof.Machine.execIdentify tag s
  | .setClock tag clock => Sys2Proof.Machine.execSetClock tag clock s
  | .configurePoint tag q => Sys2Proof.Machine.execConfigurePoint tag q s
  | .readPoints tag first count => Sys2Proof.Machine.execReadPoints tag first count s
  | .writePoint tag point value => Sys2Proof.Machine.execWritePoint tag point value s
  | .setSubstitute tag point substitute => Sys2Proof.Machine.execSetSubstitute tag point substitute s
  | .configureLine tag q => Sys2Proof.Machine.execConfigureLine tag q s
  | .editEntry tag line position entry => Sys2Proof.Machine.execEditEntry tag line position entry s
  | .insertEntry tag line position entry => Sys2Proof.Machine.execInsertEntry tag line position entry s
  | .removeEntry tag line position => Sys2Proof.Machine.execRemoveEntry tag line position s
  | .clearStaged tag line => Sys2Proof.Machine.execClearStaged tag line s
  | .swapSchedule tag line => Sys2Proof.Machine.execSwapSchedule tag line s
  | .resetLine tag line => Sys2Proof.Machine.execResetLine tag line s
  | .readLine tag line view => Sys2Proof.Machine.execReadLine tag line view s
  | .configureDiscrete tag q => Sys2Proof.Machine.execConfigureDiscrete tag q s
  | .setDiscrete tag line level => Sys2Proof.Machine.execSetDiscrete tag line level s
  | .readDiscrete tag => Sys2Proof.Machine.execReadDiscrete tag s
  | .clearEdges tag lines => Sys2Proof.Machine.execClearEdges tag lines s
  | .configureWell tag q => Sys2Proof.Machine.execConfigureWell tag q s
  | .start tag well => Sys2Proof.Machine.execStart tag well s
  | .stop tag well => Sys2Proof.Machine.execStop tag well s
  | .setTarget tag well value => Sys2Proof.Machine.execSetTarget tag well value s
  | .wellResetTrip tag well => Sys2Proof.Machine.execWellResetTrip tag well s
  | .unlock tag well => Sys2Proof.Machine.execUnlock tag well s
  | .readWell tag well => Sys2Proof.Machine.execReadWell tag well s
  | .configureTurbine tag q => Sys2Proof.Machine.execConfigureTurbine tag q s
  | .roll tag => Sys2Proof.Machine.execRoll tag s
  | .setMode tag mode => Sys2Proof.Machine.execSetMode tag mode s
  | .setLoad tag value => Sys2Proof.Machine.execSetLoad tag value s
  | .unload tag => Sys2Proof.Machine.execUnload tag s
  | .trip tag => Sys2Proof.Machine.execTrip tag s
  | .turbineResetTrip tag => Sys2Proof.Machine.execTurbineResetTrip tag s
  | .readTurbine tag => Sys2Proof.Machine.execReadTurbine tag s
  | .configureHeating tag q => Sys2Proof.Machine.execConfigureHeating tag q s
  | .setCurve tag breakpoints => Sys2Proof.Machine.execSetCurve tag breakpoints s
  | .heatingOn tag => Sys2Proof.Machine.execHeatingOn tag s
  | .heatingOff tag => Sys2Proof.Machine.execHeatingOff tag s
  | .readHeating tag => Sys2Proof.Machine.execReadHeating tag s
  | .configureSite tag q => Sys2Proof.Machine.execConfigureSite tag q s
  | .siteEnable tag site => Sys2Proof.Machine.execSiteEnable tag site s
  | .siteDisable tag site => Sys2Proof.Machine.execSiteDisable tag site s
  | .markCleaned tag site => Sys2Proof.Machine.execMarkCleaned tag site s
  | .restoreDose tag site value => Sys2Proof.Machine.execRestoreDose tag site value s
  | .readSite tag site view => Sys2Proof.Machine.execReadSite tag site view s
  | .postLimit tag targetKind targetWell value => Sys2Proof.Machine.execPostLimit tag targetKind targetWell value s
  | .withdrawLimit tag targetKind targetWell => Sys2Proof.Machine.execWithdrawLimit tag targetKind targetWell s
  | .readConstraints tag view => Sys2Proof.Machine.execReadConstraints tag view s
  | .readConditions tag => Sys2Proof.Machine.execReadConditions tag s
  | .releaseSnapshot tag number => Sys2Proof.Machine.execReleaseSnapshot tag number s
  | .setMasks tag watch horn => Sys2Proof.Machine.execSetMasks tag watch horn s
  | .silence tag => Sys2Proof.Machine.execSilence tag s
  | .armSupervision tag period fallbackHold fallbackSpeed => Sys2Proof.Machine.execArmSupervision tag period fallbackHold fallbackSpeed s
  | .resume tag => Sys2Proof.Machine.execResume tag s
  | .commission tag => Sys2Proof.Machine.execCommission tag s
  | .decommission tag => Sys2Proof.Machine.execDecommission tag s
  | .softReset tag => Sys2Proof.Machine.execSoftReset tag s
  | .ageTimerExpiry => Sys2Proof.Machine.execAgeTimerExpiry s
  | .secondTimerExpiry => Sys2Proof.Machine.execSecondTimerExpiry s
  | .recoveryTimerExpiry point => Sys2Proof.Machine.execRecoveryTimerExpiry point s
  | .plantClockTick => Sys2Proof.Machine.execPlantClockTick s
  | .passTimerExpiry line => Sys2Proof.Machine.execPassTimerExpiry line s
  | .readEntryEnd line station closing => Sys2Proof.Machine.execReadEntryEnd line station closing s
  | .writeDriveEntryEnd line station closing => Sys2Proof.Machine.execWriteDriveEntryEnd line station closing s
  | .probeEnd line station closing => Sys2Proof.Machine.execProbeEnd line station closing s
  | .heldClock line => Sys2Proof.Machine.execHeldClock line s
  | .heldDataWire line => Sys2Proof.Machine.execHeldDataWire line s
  | .recoveryProcedureEnd line wires => Sys2Proof.Machine.execRecoveryProcedureEnd line wires s
  | .recoveryAttemptEnd line wires => Sys2Proof.Machine.execRecoveryAttemptEnd line wires s
  | .padChange line high => Sys2Proof.Machine.execPadChange line high s
  | .debounceExpiry line => Sys2Proof.Machine.execDebounceExpiry line s
  | .mismatchExpiry line => Sys2Proof.Machine.execMismatchExpiry line s
  | .toothEdge offset => Sys2Proof.Machine.execToothEdge offset s
  | .lossTimerExpiry => Sys2Proof.Machine.execLossTimerExpiry s
  | .smPeriodExpiry => Sys2Proof.Machine.execSmPeriodExpiry s
  | .wpPeriodExpiry => Sys2Proof.Machine.execWpPeriodExpiry s
  | .startTimerExpiry well => Sys2Proof.Machine.execStartTimerExpiry well s
  | .stopTimerExpiry well => Sys2Proof.Machine.execStopTimerExpiry well s
  | .tripDecayExpiry well => Sys2Proof.Machine.execTripDecayExpiry well s
  | .tgPeriodExpiry => Sys2Proof.Machine.execTgPeriodExpiry s
  | .rollTimerExpiry => Sys2Proof.Machine.execRollTimerExpiry s
  | .breakerTimerExpiry => Sys2Proof.Machine.execBreakerTimerExpiry s
  | .hxPeriodExpiry => Sys2Proof.Machine.execHxPeriodExpiry s
  | .supervisionTimerExpiry => Sys2Proof.Machine.execSupervisionTimerExpiry s
  | .holdTimerExpiry => Sys2Proof.Machine.execHoldTimerExpiry s
  | .characterReceived byte => Sys2Proof.Machine.execCharacterReceived byte s
  | .returnToMark => Sys2Proof.Machine.execReturnToMark s

end Sys2Proof.Machine
end

