-- ==== Sys2Proof/Machine/Time.lean ====
section
/-! DEFINITION. What a step does while no command waits (DESIGN CHOICE, log 2): where an expiry is due, the first that is
due joins the queue as the command it is; where none is, one millisecond passes and every running timer counts down. The table
of commands has no row for the passing of time. -/

namespace Sys2Proof.Machine

/-- One millisecond of a timer. -/
def Timer.tick (t : Timer) : Timer := t.map (fun n => n - 1)

/-- Whether a running timer has run out, so that its expiry is due. -/
def Timer.due (t : Timer) : Bool := decide (t = some 0)

/-- The command of a timer whose expiry is due. -/
def expiry (t : Timer) (c : Instr) : List Instr := if t.due then [c] else []

/-- The judgement of a frame the receiver holds whole, which is due at once (R197; log 2). -/
def dueJudgement (s : State) : List Instr := if s.link.receiver.complete then [.frameJudged] else []

/-- The expiries that are due, in a fixed order (log 2): link, clock, point table, discrete lines, speed unit, lines, wells,
turbine, the four periods, supervision. -/
def dueExpiries (s : State) : List Instr :=
  dueJudgement s ++ expiry s.link.receiver.gapTimer .gap ++ expiry s.clockTimer .plantClockTick ++ expiry s.ageTimer .ageTimerExpiry ++
    expiry s.secondTimer .secondTimerExpiry ++
    ((indexes 96).map (fun p => expiry s.points[p].recoveryTimer (.recoveryTimerExpiry p))).flatten ++
    ((indexes 24).map (fun d => expiry s.discretes[d].debounceTimer (.debounceExpiry d))).flatten ++
    ((indexes 24).map (fun d => expiry s.discretes[d].mismatchTimer (.mismatchExpiry d))).flatten ++
    expiry s.speedUnit.lossTimer .lossTimerExpiry ++
    ((indexes 3).map (fun i => expiry s.lines[i].passTimer (.passTimerExpiry i))).flatten ++
    ((indexes 8).map (fun k => expiry s.wells[k].startTimer (.startTimerExpiry k))).flatten ++
    ((indexes 8).map (fun k => expiry s.wells[k].stopTimer (.stopTimerExpiry k))).flatten ++
    ((indexes 8).map (fun k => expiry s.wells[k].decayTimer (.tripDecayExpiry k))).flatten ++
    expiry s.turbine.rollTimer .rollTimerExpiry ++ expiry s.turbine.breakerTimer .breakerTimerExpiry ++
    expiry s.smTimer .smPeriodExpiry ++ expiry s.wpTimer .wpPeriodExpiry ++ expiry s.turbine.periodTimer .tgPeriodExpiry ++
    expiry s.heating.periodTimer .hxPeriodExpiry ++ expiry s.supervision.supervisionTimer .supervisionTimerExpiry ++
    expiry s.supervision.holdTimer .holdTimerExpiry

/-- Every timer of the part one millisecond on. -/
def countDown (s : State) : State :=
  { s with
    clockTimer := s.clockTimer.tick
    ageTimer := s.ageTimer.tick
    secondTimer := s.secondTimer.tick
    smTimer := s.smTimer.tick
    wpTimer := s.wpTimer.tick
    points := modifyAll s.points (fun _ p => { p with recoveryTimer := p.recoveryTimer.tick })
    lines := modifyAll s.lines (fun _ l => { l with passTimer := l.passTimer.tick })
    discretes := modifyAll s.discretes (fun _ l =>
      { l with debounceTimer := l.debounceTimer.tick, mismatchTimer := l.mismatchTimer.tick })
    speedUnit := { s.speedUnit with lossTimer := s.speedUnit.lossTimer.tick, timeBase := s.speedUnit.timeBase + 1000#32 }
    wells := modifyAll s.wells (fun _ w =>
      { w with startTimer := w.startTimer.tick, stopTimer := w.stopTimer.tick, decayTimer := w.decayTimer.tick })
    turbine := { s.turbine with periodTimer := s.turbine.periodTimer.tick, rollTimer := s.turbine.rollTimer.tick,
                                breakerTimer := s.turbine.breakerTimer.tick }
    heating := { s.heating with periodTimer := s.heating.periodTimer.tick }
    supervision := { s.supervision with supervisionTimer := s.supervision.supervisionTimer.tick,
                                        holdTimer := s.supervision.holdTimer.tick }
    link := { s.link with receiver := { s.link.receiver with gapTimer := s.link.receiver.gapTimer.tick } } }

/-- A closing stop still under way is sent (log 5). -/
def finishStop (i : Fin 3) (s : State) : State :=
  match s.lines[i].state, s.lines[i].activity with
  | .passing, .closing settled => endPass i settled (s.modLine i (Line.does [.stop true]))
  | _, _ => s

/-- What an empty queue does: one due expiry is given to the queue, or else one millisecond passes; nothing runs during internal
initialisation (R205, R216). Expiries that fall together are given one by one, so an expiry whose timer the one before it has
stopped or restarted does not occur (R69, R118, R132, R213). -/
def passTime (s : State) : State :=
  if s.initialising then s
  else
    match dueExpiries s with
    | c :: _ => { s with pending := s.pending ++ [c] }
    | [] => countDown (forEach 3 finishStop s)

end Sys2Proof.Machine
end

