-- ==== Sys2Proof/Safety.lean ====
section
/-! DEFINITION. The terms in which claims are stated: when the part runs and is ready to take a request, what a command
leaves unchanged part by part, the reply a request leaves behind, and the laws of the part that every step keeps. -/

namespace Sys2Proof.Machine

/-! ### When a command has its own effect -/

/-- An IDLE transmitter has nothing waiting (R204: it begins a frame in the event in which it is IDLE and a frame waits). -/
abbrev Link.idleClear (l : Link) : Prop :=
  l.sending = none → l.replies = [] ∧ l.busyPlace = none ∧ l.started = none ∧ l.condition = none ∧ l.edge = none

/-- The part runs: its internal initialisation has ended, and an idle transmitter has nothing waiting. -/
abbrev Running (s : State) : Prop := s.initialising = false ∧ s.link.idleClear

/-- A request that arrives is taken in the event of its arrival (R201): no request waits, the reply queue has room, and no
accepted SoftReset is pending. -/
abbrev Ready (s : State) : Prop :=
  Running s ∧ s.link.requests = [] ∧ s.link.replies.length < 4 ∧ s.link.softResetPending = false

/-! ### What a command leaves unchanged -/

/-- The parts of the state, as a frame names them. -/
inductive Part where
  | phase | clock | points | drives | tableTimers | lines | discretes | speedUnit | sites | monitor | constraints | wells
  | wpTimer | turbine | heating | conditions | supervision | receiver | requests | notices | outgoing | linkRate | discards
  | resetPending | queue
  deriving DecidableEq, Repr

/-- What the end of every event may do to a line although its command does not concern it: an output of a role takes the level
its owner asks for, and its mismatch is judged with it (R58, R59). Everything else of the line stands, and a line whose role
is no output stands whole. A GENERAL line keeps the level it drives (R54, R58), and while the level driven stands so do the mismatch
timer and flag, but for those of ALARM in ROLE, which may be commanded twice in one event (log 30). Where the level driven changes and
agrees with the line's level, or the line is no output, timer and flag are clear; where it leaves an output disagreeing that showed no
disagreement before, the mismatch timer starts for mismatchTime (R59). -/
def LineSettled (d : Fin 24) (l m : Discrete) : Prop :=
  m.cfg = l.cfg ∧ m.pin = l.pin ∧ m.padLevel = l.padLevel ∧ m.level = l.level ∧ m.debounceTimer = l.debounceTimer ∧
    m.edgeSeen = l.edgeSeen ∧ m.edgeReported = l.edgeReported ∧ m.edgeCount = l.edgeCount ∧
    (roleIsOutput d = false → m = l) ∧ (l.cfg.role = false → m.commanded = l.commanded) ∧
    (d ≠ alarmLine ∨ l.cfg.role = false → m.commanded = l.commanded →
      m.mismatch = l.mismatch ∧ m.mismatchTimer = l.mismatchTimer) ∧
    (m.commanded ≠ l.commanded → m.cfg.out = false ∨ m.level = m.commanded → m.mismatch = false ∧ m.mismatchTimer = none) ∧
    (m.commanded ≠ l.commanded → m.cfg.out = true → m.level ≠ m.commanded → l.mismatch = false → l.mismatchTimer = none →
      m.mismatch = false ∧ m.mismatchTimer = some (m.cfg.mismatchTime * 10))

/-- What the end of every event may do to the condition unit although its command does not concern it: it takes up the
changes of the live set (R182). The masks stand, and a HELD snapshot stands whole (R185). -/
def ConditionsSettled (c d : Conditions) : Prop :=
  d.watch = c.watch ∧ d.horn = c.horn ∧
    (c.held = true → d.held = true ∧ d.number = c.number ∧ d.frozen = c.frozen ∧ d.changed = c.changed ∧
      d.frozenAt = c.frozenAt)

/-- The content of a notice of the snapshot record (R187). -/
def Conditions.snapshot (c : Conditions) : ConditionNotice := ⟨c.number, c.frozen, c.changed, c.frozenAt⟩

/-- What an event that brings no reply leaves on the line: a frame under transmission goes on, and an IDLE transmitter stays so or,
where the event's changes froze the snapshot, has begun the CONDITION notice of that snapshot (R184, R187, R204). -/
def SendingSettled (s t : State) : Prop :=
  (s.link.sending ≠ none → t.link.sending = s.link.sending) ∧
    (s.link.sending = none → t.link.sending = none ∨
      (s.conditions.held = false ∧ t.conditions.held = true ∧
        t.link.sending = some (conditionFrame t.conditions.snapshot)))

/-- A part is the same before and after a command, but for what the end of every event may do to the outputs, the condition unit
and an IDLE transmitter. -/
def Same (p : Part) (s t : State) : Prop :=
  match p with
  | .phase => t.initialising = s.initialising ∧ t.powerApplied = s.powerApplied ∧ t.resetHeldLow = s.resetHeldLow ∧
      t.resetCause = s.resetCause ∧ t.phase = s.phase
  | .clock => t.clock = s.clock ∧ t.clockTimer = s.clockTimer
  | .points => t.points = s.points
  | .drives => t.drives = s.drives
  | .tableTimers => t.ageTimer = s.ageTimer ∧ t.secondTimer = s.secondTimer
  | .lines => t.lines = s.lines
  | .discretes => ∀ d : Fin 24, LineSettled d s.discretes[d] t.discretes[d]
  | .speedUnit => t.speedUnit = s.speedUnit
  | .sites => t.sites = s.sites
  | .monitor => t.smTimer = s.smTimer ∧ t.minuteCounter = s.minuteCounter
  | .constraints => t.slots = s.slots ∧ t.bounds = s.bounds ∧ t.combined = s.combined
  | .wells => t.wells = s.wells
  | .wpTimer => t.wpTimer = s.wpTimer
  | .turbine => t.turbine = s.turbine
  | .heating => t.heating = s.heating
  | .conditions => ConditionsSettled s.conditions t.conditions
  | .supervision => t.supervision = s.supervision
  | .receiver => t.link.receiver = s.link.receiver
  | .requests => t.link.requests = s.link.requests ∧ t.link.busyPlace = s.link.busyPlace ∧
      t.link.busyCount = s.link.busyCount ∧ t.link.busyLostCount = s.link.busyLostCount
  | .notices => t.link.started = s.link.started ∧ t.link.edge = s.link.edge
  | .outgoing => t.link.replies = s.link.replies ∧ t.link.placings = s.link.placings ∧ SendingSettled s t
  | .linkRate => t.link.baud1 = s.link.baud1 ∧ t.link.baud0 = s.link.baud0
  | .discards => t.link.discardCount = s.link.discardCount
  | .resetPending => t.link.softResetPending = s.link.softResetPending
  | .queue => t.pending = s.pending

/-- Every part but those named is the same before and after. -/
def UnchangedBut (changed : List Part) (s t : State) : Prop := ∀ p, p ∉ changed → Same p s t

/-! ### Replies -/

/-- The replies under way, oldest first: the frame being sent, then the reply queue. -/
def Link.outgoing (l : Link) : List Frame := l.sending.toList ++ l.replies.map (fun r => r.frame)

/-- The command has left one reply behind: of the request's Kind plus 0x80 and with its tag, its Body the status and what
follows (R201, R202). It stands last among the replies under way, or is the frame an IDLE transmitter has begun. Where the same
event asks for a notice while the transmitter is IDLE, that it is the reply that is begun is the model's choice (R204 leaves it
open; log 28). -/
def Answered (s t : State) (kind : Nat) (tag : Byte) (status : Status) (content : List Byte) : Prop :=
  t.link.outgoing =
    s.link.outgoing ++ [⟨BitVec.ofNat 8 (kind + 0x80), tag, BitVec.ofNat 8 status.code :: content⟩]

/-- What the arrival of a good request does to supervision: in ARMED its timer runs for a full period again, of `period` times
100 ms, and nothing else of it changes; in every other state it stands (R213). -/
def SupervisionRefreshed (v w : Supervision) : Prop :=
  w = if v.state = .armed then { v with supervisionTimer := v.period.map (fun p => p * 100) } else v

/-- The frame of a request that is taken at once: beside what is named, its reply is under way and an ARMED supervision
timer is restarted (R213); nothing else changes. -/
def RequestFrame (changed : List Part) (s t : State) : Prop :=
  SupervisionRefreshed s.supervision t.supervision ∧ UnchangedBut (.supervision :: .outgoing :: changed) s t

/-- The frame of a request whose owner is supervision itself. -/
def SupervisionFrame (changed : List Part) (s t : State) : Prop := UnchangedBut (.supervision :: .outgoing :: changed) s t

/-- The Kinds of ReleaseSnapshot, SetMasks and Silence, the requests that act on the condition unit itself. -/
def AboutConditions (kind : Nat) : Prop := kind = 0x24 ∨ kind = 0x25 ∨ kind = 0x26

/-! ### Laws of the part -/

/-- Whether a line that is in ROLE drives what its owner asks for (R58). -/
def Driven (s : State) (d : Fin 24) : Prop :=
  s.discretes[d].cfg.role = true → s.discretes[d].commanded = s.discretes[d].roleCommand

/-- The outputs follow their owners at the end of every event (R58, R111, R138, R191). -/
def OutputsFollow (s : State) : Prop :=
  (∀ k : Fin 8, s.discretes[runLine k].roleCommand = s.wells[k].state.energised ∧ Driven s (runLine k)) ∧
    s.discretes[stopValveLine].roleCommand = s.turbine.state.energised ∧ Driven s stopValveLine ∧
    s.discretes[breakerOpenLine].roleCommand = breakerOpenDemand s ∧ Driven s breakerOpenLine ∧
    s.discretes[alarmLine].roleCommand = s.conditions.unsilenced.nonempty ∧ Driven s alarmLine

/-- The live set holds what the owners find (R182), the unsilenced set only members that are set (R189). -/
def LiveFollows (s : State) : Prop :=
  s.conditions.live = liveNow s ∧
    ∀ n : Fin 42, s.conditions.unsilenced[n] = true → s.conditions.live[n] = true

/-- Outside internal initialisation, outputs and conditions stand settled. -/
def Settled (s : State) : Prop := s.initialising = false → OutputsFollow s ∧ LiveFollows s

/-- Outside internal initialisation an IDLE transmitter has nothing waiting (R204); during it the link holds nothing
(R205). -/
def LinkSound (s : State) : Prop :=
  s.link.idleClear ∧
    (s.initialising = true → s.link.sending = none ∧ s.link.requests = [] ∧ s.link.softResetPending = false)

/-- The law of the constraint table (R100 to R102). -/
def TableLaw (s : State) : Prop :=
  (∀ t : Target, s.bounds[t.index] = boundOf s t) ∧ ∀ k : Fin 8, s.combined[k] = combinedOf s k

/-- The law of the grant (R156), with the ranges of what it compares (section 7.9, R136). -/
def GrantLaw (s : State) : Prop :=
  let g := s.turbine.grant
  0 ≤ g.request ∧ 1 ≤ s.turbine.cfg.extractionMax ∧ 0 ≤ g.grant ∧ g.grant ≤ g.request ∧
    g.grant ≤ s.turbine.cfg.extractionMax ∧ (s.turbine.state ≠ .loaded → g.grant = 0)

/-- The law of the speed demand (R124), with the ranges of the speed fields (section 6.1): an energised well's drive lies
within minSpeed ... maxSpeed and never exceeds the greater of minSpeed and the ceiling as ceilingView holds it, nor the stage cap
of its state (R123), which is minSpeed in STARTING; a de-energised one's is at its safe value 0. -/
def DemandLaw (s : State) : Prop :=
  ∀ k : Fin 8, let w := s.wells[k]
    0 ≤ w.cfg.minSpeed ∧ w.cfg.minSpeed ≤ w.cfg.maxSpeed ∧ w.cfg.maxSpeed ≤ 10000 ∧
    if w.state.energised then
      w.cfg.minSpeed ≤ demandOf s k ∧ demandOf s k ≤ w.cfg.maxSpeed ∧
        demandOf s k ≤ max w.cfg.minSpeed w.ceilingView.value ∧ ∀ cap ∈ w.cfg.stageCap w.state, demandOf s k ≤ cap
    else demandOf s k = 0

/-- Every drive holds its safe value while its owner is not active (R19, R138, R165); the scaling monitor's timer runs in
RUN only (R73). -/
def SafeDrives (s : State) : Prop :=
  (s.smTimer.isSome = true → s.phase = .run) ∧
    ∀ d : Fin 15, ownerActive s d = false → s.drives[d].value = safeValue d

/-- A trip-decay timer runs exactly while a well that is not LOCKED_OUT counts trips; outside LOCKED_OUT the count is below the
limit, and in LOCKED_OUT it stays at the limit (R131, R132, R110). -/
def TripCountLaw (s : State) : Prop :=
  ∀ k : Fin 8, let w := s.wells[k]
    (w.decayTimer.isSome = true ↔ 0 < w.tripCount ∧ w.state ≠ .lockedOut) ∧ 1 ≤ w.cfg.tripLimit ∧
      (w.state ≠ .lockedOut → w.tripCount < w.cfg.tripLimit) ∧ (w.state = .lockedOut → w.tripCount = w.cfg.tripLimit)

/-- What the quality of a point and its counters say of one another (R3, R6, R7, R9 to R11, R17). -/
def PointLaw (s : State) : Prop :=
  ∀ i : Fin 96, let p := s.points[i]
    1 ≤ p.cfg.failLimit ∧ p.failCount ≤ p.cfg.failLimit ∧ (p.recoveryTimer.isSome = true ↔ 0 < p.failCount) ∧
    (p.quality.isFailed = true → 0 < p.failCount) ∧ (p.quality.isFailed = false → p.failCount < p.cfg.failLimit) ∧
    (p.quality = .subst → p.cfg.substitute.isSome = true) ∧ (p.quality = .failed → p.cfg.substitute = none) ∧
    (p.lastAttemptOk = true → p.lastRead.isSome = true) ∧ (p.quality = .good ∨ p.quality = .held → p.value.isSome = true)

/-- A point's source binding is unique (R2): no two DISCRETE points name the same line, and at most one point has source SPEED. -/
def BindingLaw (s : State) : Prop :=
  ∀ i j : Fin 96, i ≠ j →
    (s.points[i].cfg.source = .discrete → s.points[j].cfg.source = .discrete → s.points[i].cfg.line ≠ s.points[j].cfg.line) ∧
    ¬ (s.points[i].cfg.source = .speed ∧ s.points[j].cfg.source = .speed)

/-- The lists of the part stay within the places the spec gives them: schedules of 24 entries and logs of 16 records
(section 2.3, R41), start logs of maxStarts entries (R113), four tooth periods (R67), request and reply queues of 4 (chapter
10). -/
def CapacityLaw (s : State) : Prop :=
  (∀ i : Fin 3, s.lines[i].active.length ≤ 24 ∧ s.lines[i].staged.length ≤ 24 ∧ s.lines[i].log.length ≤ 16) ∧
    (∀ k : Fin 8, s.wells[k].startLog.length ≤ s.wells[k].cfg.maxStarts) ∧ s.speedUnit.periods.length ≤ 4 ∧
    s.link.requests.length ≤ 4 ∧ s.link.replies.length ≤ 4

/-- What the dynamic fields of a site say of one another (R71, R85, R88 to R91, R94, R96): a ring of at most 60 records whose
doses sum to hourlyDose, an alertAge in ALERT only, and nothing but the stored results in a disabled site. -/
def SiteLaw (s : State) : Prop :=
  ∀ i : Fin 12, let x := s.sites[i]
    x.ring.length ≤ 60 ∧ x.hourlyDose = ringDose x.ring ∧ (x.alertAge.isSome = true ↔ x.level = .alert) ∧
    (x.enabled = true → x.cfg.kind ≠ .none ∧ x.demand.isSome = true) ∧
    (x.enabled = false → x.level = .normal ∧ x.demand = none ∧ x.inputsLost = false ∧ x.minuteDose = 0 ∧ x.minuteCover = 0)

/-- A pending CONDITION notice carries what the snapshot record holds (R187). -/
def SnapshotLaw (s : State) : Prop :=
  ∀ n, s.link.condition = some n → n = s.conditions.snapshot

/-- The unsilenced set lies in the horn mask (R189). -/
def UnsilencedLaw (s : State) : Prop :=
  ∀ n : Fin 42, s.conditions.unsilenced[n] = true → s.conditions.horn[n] = true

/-- What the mismatch timer and flag of a line say of it (R59, R65): either stands on an output alone, while its level differs from
the level commanded, and the two never stand together; during internal initialisation neither does. -/
def MismatchLaw (s : State) : Prop :=
  ∀ d : Fin 24, let l := s.discretes[d]
    (l.mismatch = true ∨ l.mismatchTimer.isSome = true → l.cfg.out = true ∧ l.level ≠ l.commanded ∧ s.initialising = false) ∧
      (l.mismatch = true → l.mismatchTimer = none)

/-- What holds at the end of every event: outputs, conditions and link stand settled. -/
def Sound (s : State) : Prop := Settled s ∧ LinkSound s ∧ SnapshotLaw s ∧ UnsilencedLaw s

/-! ### The condition set (section 9.1) -/

/-- What each of the 42 members is set while: the column "Set while" of the table of section 9.1, by member number. Only
configured sites count for SERVICE_DUE (R87); the emergency stop is active while D19 is a ROLE input at level 1 (R64). -/
def SetWhile (s : State) (n : Fin 42) : Prop :=
  if h : n.val < 8 then s.wells[n.val].state = .tripped
  else if h : n.val < 16 then s.wells[n.val - 8].state = .lockedOut
  else if n.val = 16 then s.turbine.state = .tripped
  else if n.val = 17 then s.turbine.stopValveFail = true
  else if n.val = 18 then s.turbine.loadReject = true
  else if n.val = 19 then s.heating.supplyShort = true
  else if n.val = 20 then s.heating.state = .cut
  else if h : n.val < 33 then s.sites[n.val - 21].level = .alarm
  else if n.val = 33 then
    ∃ i : Fin 12, s.sites[i].cfg.kind ≠ .none ∧ s.sites[i].cfg.serviceDose ≤ s.sites[i].cumulativeDose
  else if n.val = 34 then ∃ i : Fin 12, s.sites[i].enabled = true ∧ s.sites[i].inputsLost = true
  else if h : n.val < 38 then s.lines[n.val - 35].state = .faulted
  else if n.val = 38 then
    ∃ i : Fin 96, s.points[i].cfg.source ≠ .none ∧ (s.points[i].quality = .failed ∨ s.points[i].quality = .subst)
  else if n.val = 39 then ∃ d : Fin 24, s.discretes[d].mismatch = true
  else if n.val = 40 then let l := s.discretes[(19 : Fin 24)]; l.cfg.role = true ∧ l.cfg.out = false ∧ l.level = true
  else s.supervision.state = .fallback ∨ s.supervision.state = .safeStop

/-- The members of reporting class "set only": the lockouts, STOP_VALVE_FAIL, LOAD_REJECT and SERVICE_DUE (table of section 9.1). -/
def SetOnly (n : Fin 42) : Prop := (8 ≤ n.val ∧ n.val ≤ 15) ∨ n.val = 17 ∨ n.val = 18 ∨ n.val = 33

/-! ### How a line goes on (section 2.4) -/

/-- The start of a pass of a line l whose pending mark is clear (R31): the swap if ready, the entries before the first selected one
SKIPPED, and that entry begun with a start condition; a pass without a selected entry ends at once. -/
def PassStarts (t : State) (l m : Line) : Prop :=
  let a := if l.ready then l.staged.map (fun e => (⟨e, none⟩ : ActiveEntry)) else l.active
  match a.findIdx? (fun e => e.entry.selected l.passCounter) with
  | some n =>
    m = { l with
          active := a.mapIdx (fun j e => if j < n then { e with lastOutcome := some .skipped } else e)
          ready := false
          state := .passing
          activity := .entry n ((a[n]?).bind (fun e => sampleFor t e.entry)) false
          wireFast := l.cfg.fast }
  | none =>
    m = { l with
          active := a.map (fun e => { e with lastOutcome := some .skipped })
          ready := false
          state := .idle
          activity := .resting
          passCounter := wrapSucc 65535 l.passCounter }

/-- The end of a pass of a line l with the positions before n settled (R32): IDLE, or the pending pass. -/
def PassEnds (t : State) (l : Line) (n : Nat) (m : Line) : Prop :=
  if l.pending then PassStarts t { l.closeOut n .idle with pending := false } m else m = l.closeOut n .idle

/-- The line after the entry at a position has ended with an outcome, its transaction having done these actions on the wires; a stop
that ends the pass in the same event comes after them (R33, R40, R41). -/
def EntryEnded (s t : State) (i : Fin 3) (position : Nat) (e : Entry) (o : EntryOutcome) (acts : List WireAct)
    (closing : ClosingStop) : Prop :=
  let l : Line := { s.lines[i].settle s.clock position o with wires := acts }
  let stops := o.policed && e.stopPolicy
  match if stops then none else l.nextSelected (position + 1) with
  | some n =>
    t.lines[i] = (l.mark (position + 1) n .skipped).begin n ((l.active[n]?).bind (fun x => sampleFor t x.entry)) true
  | none =>
    let n := if stops then position + 1 else l.active.length
    let ended := if stops then l else l.mark (position + 1) l.active.length .skipped
    match closing with
    | .underWay => t.lines[i] = { ended with activity := .closing n }
    | .sent => PassEnds t { ended with wires := acts ++ [.stop true] } n t.lines[i]

/-- Every other line stands, and the drives of a line that may have swapped its schedule take the delivery states R20 gives them:
each drive is d's image under f, rebound where line i swapped (its ready mark went from set to clear). -/
def LineAndDrives (s t : State) (i : Fin 3) (f : Fin 15 → Drive → Drive) : Prop :=
  (∀ j : Fin 3, j ≠ i → t.lines[j] = s.lines[j]) ∧
    ∀ d : Fin 15, t.drives[d] =
      if s.lines[i].ready = true ∧ t.lines[i].ready = false then (f d s.drives[d]).rebind (driveBound t d)
      else f d s.drives[d]

/-! ### How the owners take a change of a role level (R57, R64) -/

/-- A slot of the constraint table after a post, or with none after a withdrawal: the other slots stand, and the bounds of the
targets it named before or names now, with the combined ceilings they touch, are computed anew (R98 to R102). -/
def Posted (s t : State) (k : Fin 22) (p : Option Post) : Prop :=
  let named (g : Target) : Prop := s.slots[k].map Post.target = some g ∨ p.map Post.target = some g
  t.slots[k] = p ∧ (∀ j : Fin 22, j ≠ k → t.slots[j] = s.slots[j]) ∧
    (∀ g : Target, (named g → t.bounds[g.index] = boundOf t g) ∧ (¬ named g → t.bounds[g.index] = s.bounds[g.index])) ∧
    ∀ w : Fin 8, (named (.pumpCeil w) ∨ named .pumpCeilAll → t.combined[w] = combinedOf t w) ∧
      (¬ named (.pumpCeil w) → ¬ named .pumpCeilAll → t.combined[w] = s.combined[w])

/-- The runback a trip of the turbine posts to slot K12 (R152, R153). -/
def RunbackPosted (s t : State) : Prop :=
  Posted s t runbackSlot (some ⟨.pumpCeilAll, clamp 0 10000 s.turbine.cfg.runbackSpeed, s.clock⟩)

/-- The part a trip of the turbine has beside its record: both drives at 0, from DV8 as the event's work left it, and the
runback posted (R152). -/
def TripSpreads (s t : State) (admission : Drive) : Prop :=
  t.drives[admissionDrive] = admission.write 0 ∧ t.drives[extractionDrive] = s.drives[extractionDrive].write 0 ∧
    RunbackPosted s t

/-- The wells at a change of the role level of line i: FBK_Wk to well Wk (R118, R120, R129), the ESTOP event to every well that is
not at rest (R131). A trip writes the well's demand to 0. -/
def WellsReact (s t : State) (i : Fin 24) (level : Bool) : Prop :=
  ∀ k : Fin 8, let w := s.wells[k]
    let trips (c : WellTripCause) : Prop :=
      t.wells[k] = w.trip s.clock c ∧ t.drives[wellDrive k] = s.drives[wellDrive k].write 0
    let stands : Prop := t.wells[k] = w ∧ t.drives[wellDrive k] = s.drives[wellDrive k]
    if i = feedbackLine k then
      (level = true → w.state = .starting →
        t.wells[k] = { w with state := .running, startTimer := none } ∧ t.drives[wellDrive k] = s.drives[wellDrive k]) ∧
      (level = true → w.state ≠ .starting → stands) ∧
      (level = false → w.state.isRunning = true → trips .feedbackLost) ∧
      (level = false → w.state = .stopping →
        t.wells[k] = w.completeStop ∧ t.drives[wellDrive k] = s.drives[wellDrive k]) ∧
      (level = false → w.state.isRunning = false → w.state ≠ .stopping → stands)
    else if i = estopLine ∧ level = true then (if w.state.atRest then stands else trips .estop)
    else stands

/-- The governor at a change of the role level of line i: BRK_CLOSED (R144, R148, R150) and the ESTOP event (R151). A load rejection
takes syncSpeed and the gains as configured at the event (the model's choice, log 59). The drives of no well and of no turbine stand. -/
def TurbineReacts (s t : State) (i : Fin 24) (level : Bool) : Prop :=
  let u := s.turbine
  let stands : Prop := t.turbine = u ∧ t.drives[admissionDrive] = s.drives[admissionDrive] ∧
    t.drives[extractionDrive] = s.drives[extractionDrive] ∧ Same .constraints s t
  (∀ d : Fin 15, 10 ≤ d.val → t.drives[d] = s.drives[d]) ∧
  if i = breakerClosedLine then
    (level = true → u.state = .rolling ∨ u.state = .syncWait →
      t.turbine = ({ u with
          state := .loaded, rollTimer := none, headerCount := 0, powerSetpoint := u.powerView.getD u.cfg.minLoad,
          pendingLoop := some (if u.mode = .load then .power else .header), loadReject := false } : Turbine).settleGrant ∧
        t.drives[admissionDrive] = s.drives[admissionDrive] ∧
        t.drives[extractionDrive] = s.drives[extractionDrive].write t.turbine.grant.valveDemand ∧ Same .constraints s t) ∧
    (level = false → u.state = .loaded →
      t.turbine = ({ u with
          state := .rolling, speedSetpoint := u.cfg.syncSpeed, speedAcquired := true, syncCount := 0,
          rollTimer := some (u.cfg.rollTimeout * 1000), loadReject := true,
          speedLoop := u.speedLoop.start u.cfg.syncSpeed u.speedView (u.cfg.syncSpeed - u.speedView) u.cfg.speedKp
            u.cfg.speedKi 0 } : Turbine).settleGrant ∧ t.turbine.grant.grant = 0 ∧
        t.drives[admissionDrive] = s.drives[admissionDrive].write t.turbine.speedLoop.output ∧
        t.drives[extractionDrive] = s.drives[extractionDrive].write t.turbine.grant.valveDemand ∧ Same .constraints s t) ∧
    (level = false → u.state = .unloading →
      t.turbine = ({ u with state := .stopped, rollTimer := none, breakerTimer := none,
                            openCommanded := false } : Turbine).settleGrant ∧
        t.turbine.grant.grant = 0 ∧ t.drives[admissionDrive] = s.drives[admissionDrive].write 0 ∧
        t.drives[extractionDrive] = s.drives[extractionDrive].write 0 ∧ Same .constraints s t) ∧
    (level = true → u.state ≠ .rolling → u.state ≠ .syncWait → stands) ∧
    (level = false → u.state ≠ .loaded → u.state ≠ .unloading → stands)
  else if i = estopLine ∧ level = true ∧ u.state.energised = true then
    t.turbine = u.trip s.clock .estop none ∧ TripSpreads s t s.drives[admissionDrive]
  else stands

/-- The point bound to line i takes a good read of the level, every other point stands (R13, R57). -/
def PointReads (s t : State) (i : Fin 24) (level : Bool) : Prop :=
  ∀ p : Fin 96, t.points[p] = if linePoint s i = some p then s.points[p].goodRead level.toInt false else s.points[p]

/-! ### What a reset leaves (R216) -/

/-- A loop record after any reset (R26). -/
abbrev LoopReset (l : Loop) : Prop := l.integral = 0 ∧ l.output = 0 ∧ l.held = false

/-- Points, drives, lines and discrete lines after any reset; every pad is released while it holds (R17, R23, R52, R65). -/
def FieldReset (t : State) : Prop :=
  (∀ i : Fin 96, let p := t.points[i]
    p.quality = .unset ∧ p.value = none ∧ p.age = 65535 ∧ p.failCount = 0 ∧ p.lastRead = none ∧ p.lastAttemptOk = false ∧
      p.clampedFlag = false ∧ p.recoveryTimer = none) ∧
    (∀ d : Fin 15, t.drives[d].value = safeValue d ∧ t.drives[d].lastDelivered = none ∧ t.drives[d].failingSince = none ∧
      t.drives[d].failingFor = none) ∧
    (∀ i : Fin 3, let l := t.lines[i]
      l.enabled = false ∧ l.state = .disabled ∧ l.activity = .resting ∧ l.wires = [.release] ∧ l.passTimer = none ∧ l.passCounter = 0 ∧
        l.pending = false ∧ l.ready = false ∧ l.overrun = 0 ∧ l.faultCause = none ∧ l.faultedSince = none ∧
        l.attemptCount = 0 ∧ l.log = [] ∧ l.logTotal = 0 ∧ ∀ e ∈ l.active, e.lastOutcome = none) ∧
    ∀ d : Fin 24, let l := t.discretes[d]
      l.roleCommand = false ∧ l.commanded = false ∧ l.debounceTimer = none ∧ l.mismatchTimer = none ∧ l.mismatch = false ∧
        l.edgeSeen = false ∧ l.edgeReported = false ∧ l.edgeCount = 0 ∧ padDriven t d = none

/-- Speed unit, sites and constraint table after any reset (R70, R96, R108). -/
def TableReset (t : State) : Prop :=
  t.speedUnit.signal = .silent ∧ t.speedUnit.lastEdge = none ∧ t.speedUnit.periods = [] ∧ t.speedUnit.speed = none ∧
    t.speedUnit.lossTimer = none ∧ t.speedUnit.timeBase = 0 ∧
    (∀ i : Fin 12, let x := t.sites[i]
      x.enabled = false ∧ x.ratio = 0 ∧ x.excess = 0 ∧ x.floorUnreachable = false ∧ x.inputsLost = false ∧
        x.level = .normal ∧ x.alertAge = none ∧ x.minuteDose = 0 ∧ x.minuteCover = 0 ∧ x.ring = [] ∧ x.hourlyDose = 0 ∧
        x.cumulativeDose = 0 ∧ x.demand = none ∧ x.siteFloor = none) ∧
    t.smTimer = none ∧ t.minuteCounter = 0 ∧ (∀ k : Fin 22, t.slots[k] = none) ∧
    (∀ g : Target, t.bounds[g.index] = ⟨targetDefault t g, none⟩) ∧ ∀ k : Fin 8, t.combined[k] = ⟨10000, none⟩

/-- Wells, governor and heat exchange unit after any reset, their loop records with them (R26, R135, R159, R181). -/
def PlantReset (t : State) : Prop :=
  (∀ k : Fin 8, let w := t.wells[k]
    w.state = .off ∧ w.stopTo = none ∧ w.suspendCause = none ∧ w.waitReason = none ∧ w.startLog = [] ∧ w.offFor = none ∧
      w.floorTimer = 0 ∧ w.tripCount = 0 ∧ w.tripRecord = none ∧ w.startTimer = none ∧ w.stopTimer = none ∧
      w.decayTimer = none ∧ w.intakeView = ⟨w.cfg.ownFloor, none⟩ ∧ w.ceilingView = ⟨10000, none⟩) ∧
    t.turbine.state = .tripped ∧ t.turbine.tripRecord = ⟨.powerUp, 0, none, none, 0, none, none⟩ ∧
    t.turbine.mode = .load ∧ t.turbine.speedSetpoint = 0 ∧ t.turbine.powerSetpoint = 0 ∧ t.turbine.speedView = 0 ∧
    t.turbine.powerView = none ∧ t.turbine.headerView = none ∧ t.turbine.flowView = none ∧
    t.turbine.speedAcquired = false ∧ t.turbine.pendingLoop = none ∧ t.turbine.syncCount = 0 ∧
    t.turbine.headerCount = 0 ∧ t.turbine.openCommanded = false ∧ t.turbine.rollTimer = none ∧
    t.turbine.breakerTimer = none ∧ t.turbine.verifyCount = none ∧ t.turbine.grant = ⟨0, 0, 0⟩ ∧
    t.turbine.stopValveFail = false ∧ t.turbine.loadReject = false ∧
    LoopReset t.turbine.speedLoop ∧ LoopReset t.turbine.powerLoop ∧ LoopReset t.turbine.headerLoop ∧
    LoopReset t.heating.supplyLoop ∧ LoopReset t.heating.floorLoop ∧
    t.heating.views = ⟨none, none, none, none, none, none, none⟩ ∧
    t.heating.state = .off ∧ t.heating.holdFrom = none ∧ t.heating.holdReason = none ∧ t.heating.target = none ∧
    t.heating.selected = none ∧ t.heating.requiredHeat = none ∧ t.heating.brineCapacity = none ∧
    t.heating.brineShare = none ∧ t.heating.extractionShare = none ∧ t.heating.shortfall = none ∧
    t.heating.targetHeld = false ∧ t.heating.loopsPending = false ∧ t.heating.shortCount = 0 ∧
    t.heating.supplyShort = false ∧ t.heating.floorView = ⟨t.heating.cfg.brineFloorDefault, none⟩

/-- Phase, supervision, clock, snapshot and link after any reset, and the periodic timers, which start when internal initialisation
ends (R193, R205, R208, R216). -/
def HostReset (t : State) : Prop :=
  t.initialising = true ∧ t.phase = .config ∧ t.clock = 0 ∧ t.clockTimer = none ∧ t.ageTimer = none ∧ t.secondTimer = none ∧
    t.wpTimer = none ∧ t.turbine.periodTimer = none ∧ t.heating.periodTimer = none ∧ t.supervision.state = .disarmed ∧
    t.supervision.period = none ∧
    t.supervision.fallbackHold = none ∧ t.supervision.fallbackSpeed = none ∧ t.supervision.supervisionTimer = none ∧
    t.supervision.holdTimer = none ∧ t.conditions.held = false ∧ t.conditions.number = 0 ∧ t.conditions.frozenAt = 0 ∧
    t.conditions.changed = MemberSet.empty ∧ t.conditions.unsilenced = MemberSet.empty ∧ t.link.receiver.state = .hunting ∧
    t.link.receiver.gapTimer = none ∧ t.link.receiver.bytes = [] ∧ t.link.requests = [] ∧ t.link.busyPlace = none ∧
    t.link.replies = [] ∧ t.link.started = none ∧ t.link.condition = none ∧ t.link.edge = none ∧ t.link.sending = none ∧
    t.link.softResetPending = false ∧ t.link.discardCount = 0 ∧ t.link.busyCount = 0 ∧ t.link.busyLostCount = 0

/-- Every dynamic value that the chapters state, as each reset leaves it while it holds (R216). -/
def DynamicReset (t : State) : Prop := FieldReset t ∧ TableReset t ∧ PlantReset t ∧ HostReset t

/-- The configurations of points, lines, discrete lines and speed unit after a POWER or PIN reset (R17, R52, R65, R70). -/
def FieldDefaults (t : State) : Prop :=
  (∀ i : Fin 96, t.points[i].cfg =
    { source := .none, cls := .temp, line := 0, rawLo := 0, rawHi := 65535, engLo := 0, engHi := 65535, faultBand := 0,
      staleLimit := 10, failLimit := 3, recoveryPeriod := 10, substitute := none }) ∧
    (∀ d : Fin 15, t.drives[d].delivery = .unbound) ∧
    (∀ i : Fin 3, t.lines[i].cfg = { fast := false, clockHold := 10, passInterval := 100, autoRecover := false } ∧
      t.lines[i].active = [] ∧ t.lines[i].staged = []) ∧
    (∀ d : Fin 24, t.discretes[d].cfg =
      { role := decide (d.val ≤ 20), out := decide (d.val < 8 ∨ d.val = 16 ∨ d.val = 17 ∨ d.val = 20), inverted := false,
        edge := false, edgeKind := .rising, debounce := 10, mismatchTime := 50 }) ∧
    t.speedUnit.cfg = { teeth := 60, ovsLimit := 9999, lossTime := 1000 }

/-- The configurations of sites, wells, governor and heat exchange unit after a POWER or PIN reset (R96, R135, R159, R181). -/
def PlantDefaults (t : State) : Prop :=
  (∀ i : Fin 12, t.sites[i].cfg =
    { kind := .none, tempPoint := none, concSource := .fixed, fixedConc := 0, presPoint := none, onset := 1000,
      action := .none, margin := 0, alarmMargin := 0, inhibitorLostMargin := 0, fallbackFloor := 0, station := none,
      doseBase := 0, doseGain := 0, alertDose := 36000000, clearDose := 0, confirmTime := 600,
      serviceDose := 4294967295, flashBase := 0, flashTemp := 0, slope := 0 }) ∧
    (∀ k : Fin 8, t.wells[k].cfg =
      { enabled := false, intakePoint := none, windingPoint := none, flowPoint := none, minSpeed := 0, maxSpeed := 10000,
        rampRate := 100, target := 0, ownFloor := 0, floorBand := 0, floorGain := 0, floorHys := 0, floorConfirm := 60,
        windTrip := 40000, windDelta := 0, windHys := 0, startTimeout := 10, stopTimeout := 10, minOff := 0,
        maxStarts := 10, tripLimit := 15, tripRecovery := 24, deliveryLimit := 10, autoRestart := false }) ∧
    t.turbine.cfg =
      { headerPoint := none, flowPoint := none, powerPoint := none, speedPoint := none, syncSpeed := 3000, syncBand := 15,
        syncHold := 20, accelRate := 100, rollTimeout := 600, minLoad := 0, maxLoad := 0, loadRate := 100,
        loadTarget := 0, headerSetpoint := 0, headerMin := 0, headerConfirm := 10, extractionMax := 1,
        extractionMinLoad := 0, breakerTimeout := 5, verifyFlow := 100000, tripVerifyTime := 10, runbackSpeed := 10000,
        speedKp := 0, speedKi := 0, powerKp := 0, powerKi := 0, headerKp := 0, headerKi := 0, deliveryLimit := 10 } ∧
    t.heating.cfg =
      { outdoorPoint := none, supplyPoint := none, returnPoint := none, netFlowPoint := none, brineInPoint := none,
        brineOutPoint := none, brineFlowPoint := none, brineFloorDefault := 0, supplyMax := 12000, supplyHys := 500,
        shortConfirm := 300, supplyKp := 0, supplyKi := 0, floorKp := 0, floorKi := 0 } ∧
    t.heating.curve = none

/-- Every configuration at its default (R216; the chapters' last rules), the masks with it: the watch mask holds all 42 members, the
horn mask the 33 members of the trips and lockouts, STOP_VALVE_FAIL, LOAD_REJECT, the site alarms, ESTOP and FALLBACK (R194). -/
def DefaultConfiguration (t : State) : Prop :=
  FieldDefaults t ∧ PlantDefaults t ∧ (∀ n : Fin 42, t.conditions.watch[n] = true) ∧
    ∀ n : Fin 42, t.conditions.horn[n] = true ↔ n.val ≤ 18 ∨ (21 ≤ n.val ∧ n.val ≤ 32) ∨ n.val = 40 ∨ n.val = 41

/-- Every configuration kept (R216). -/
def ConfigurationKept (s t : State) : Prop :=
  (∀ i : Fin 96, t.points[i].cfg = s.points[i].cfg) ∧
    (∀ d : Fin 15, t.drives[d].delivery = if driveBound s d then .pending else .unbound) ∧
    (∀ i : Fin 3, t.lines[i].cfg = s.lines[i].cfg ∧
      t.lines[i].active.map ActiveEntry.entry = s.lines[i].active.map ActiveEntry.entry ∧
      t.lines[i].staged = s.lines[i].staged) ∧
    (∀ d : Fin 24, t.discretes[d].cfg = s.discretes[d].cfg) ∧ t.speedUnit.cfg = s.speedUnit.cfg ∧
    (∀ i : Fin 12, t.sites[i].cfg = s.sites[i].cfg) ∧ (∀ k : Fin 8, t.wells[k].cfg = s.wells[k].cfg) ∧
    t.turbine.cfg = s.turbine.cfg ∧ t.heating.cfg = s.heating.cfg ∧ t.heating.curve = s.heating.curve ∧
    t.conditions.watch = s.conditions.watch ∧ t.conditions.horn = s.conditions.horn ∧ t.link.baud1 = s.link.baud1 ∧
    t.link.baud0 = s.link.baud0

/-! ### The length of a request's Body (R201, sections 10.7 and 10.8) -/

/-- A piece of a Body as section 10.8 encodes it: so many bytes, or an optional field of so many bytes behind its presence byte. -/
inductive BodyPiece where
  | bytes (n : Nat)
  | optional (n : Nat)
  deriving DecidableEq, Repr

/-- What the comparison of a Body's length comes to: it fits, it does not, or a byte that decides the length lies beyond its values. -/
inductive BodyVerdict where
  | fits | badLength | badField
  deriving DecidableEq, Repr

/-- A Body measured by its pieces, in their order. -/
def measure : List BodyPiece → List Byte → BodyVerdict
  | [], body => if body = [] then .fits else .badLength
  | .bytes n :: rest, body => if body.length < n then .badLength else measure rest (body.drop n)
  | .optional _ :: _, [] => .badLength
  | .optional n :: rest, presence :: body =>
    if presence = 0 then measure rest body
    else if presence = 1 then (if body.length < n then .badLength else measure rest (body.drop n))
    else .badField

/-- The pieces of the Body of each Kind: the fields of the table of section 10.7, at the widths of R209, adjoining fields taken
together. SetCurve is measured by the count it carries; WellCommand, TurbineCommand, SiteCommand and ReadSite by their command or view
byte (numbered as log 15 says). -/
def bodyPieces (kind : Nat) (body : List Byte) : List BodyPiece :=
  match kind with
  | 0x02 => [.bytes 4]
  | 0x03 => [.bytes 26]
  | 0x04 => [.bytes 2]
  | 0x05 => [.bytes 4]
  | 0x06 => [.bytes 1, .optional 3]
  | 0x07 => [.bytes 7]
  | 0x08 => [.bytes 4, .optional 1, .optional 1, .bytes 3]
  | 0x09 => [.bytes 4, .optional 1, .optional 1, .bytes 3]
  | 0x0A => [.bytes 2]
  | 0x0B => [.bytes 1]
  | 0x0C => [.bytes 1]
  | 0x0D => [.bytes 1]
  | 0x0E => [.bytes 2]
  | 0x0F => [.bytes 8]
  | 0x10 => [.bytes 2]
  | 0x12 => [.bytes 3]
  | 0x13 => [.bytes 2, .optional 1, .optional 1, .optional 1, .bytes 42]
  | 0x14 => [.bytes (if body[1]? = some 2 then 5 else 2)]
  | 0x15 => [.bytes 1]
  | 0x16 => [.optional 1, .optional 1, .optional 1, .optional 1, .bytes 65]
  | 0x17 => [.bytes (if body[0]? = some 1 then 2 else if body[0]? = some 2 then 4 else 1)]
  | 0x19 => [.optional 1, .optional 1, .optional 1, .optional 1, .optional 1, .optional 1, .optional 1, .bytes 19]
  | 0x1A => [.bytes (1 + 6 * (body.headD 0).toNat)]
  | 0x1B => [.bytes 1]
  | 0x1D => [.bytes 2, .optional 1, .bytes 5, .optional 1, .bytes 16, .optional 1, .bytes 27]
  | 0x1E => [.bytes (if body[1]? = some 3 then 6 else 2)]
  | 0x1F => [.bytes (if body[1]? = some 1 then 4 else 2)]
  | 0x20 => [.bytes 5]
  | 0x21 => [.bytes 2]
  | 0x22 => [.bytes 1]
  | 0x24 => [.bytes 2]
  | 0x25 => [.optional 6, .optional 6]
  | 0x27 => [.bytes 7]
  | _ => []

/-- Whether the command or view byte of a Body lies beyond its values: of WellCommand, TurbineCommand, SiteCommand and ReadSite, whose
length it decides (R201), and of a HeatingCommand, whose one byte it is (R164). -/
def commandBeyond (kind : Nat) (body : List Byte) : Bool :=
  match kind with
  | 0x14 => body[1]?.any (fun b => decide (4 < b.toNat))
  | 0x17 => body[0]?.any (fun b => decide (5 < b.toNat))
  | 0x1B => decide (body.length = 1) && body[0]?.any (fun b => decide (1 < b.toNat))
  | 0x1E => body[1]?.any (fun b => decide (3 < b.toNat))
  | 0x1F => body[1]?.any (fun b => decide (1 < b.toNat))
  | _ => false

/-- What the link makes of the Body of a request of an assigned Kind before its owner sees it (R201 step (2)). -/
def bodyVerdict (kind : Nat) (body : List Byte) : BodyVerdict :=
  if commandBeyond kind body then .badField else measure (bodyPieces kind body) body

/-! ### Forms of a claim about one command -/

/-- The command answers a next state of which P holds. -/
def Completes (c : Instr) (s : State) (P : State → Prop) : Prop := ∃ t, exec c s = .next t ∧ P t

/-- An event of the field or of a timer: P holds after it, and nothing but the named parts changes. -/
def Happens (c : Instr) (s : State) (changed : List Part) (P : State → Prop) : Prop :=
  Completes c s (fun t => P t ∧ UnchangedBut changed s t)

/-- The command is run and changes nothing. -/
def Idles (c : Instr) (s : State) : Prop := Happens c s [] (fun _ => True)

/-- A request is taken: P holds after it, its one reply is under way, and nothing but the named parts changes. -/
def Replies (c : Instr) (s : State) (kind : Nat) (tag : Byte) (status : Status) (content : List Byte) (changed : List Part)
    (P : State → Prop) : Prop :=
  Completes c s (fun t => P t ∧ Answered s t kind tag status content ∧ RequestFrame changed s t)

/-- A request is refused: its reply carries the status and the detail, and nothing changes (R202). -/
def Refuses (c : Instr) (s : State) (kind : Nat) (tag : Byte) (status : Status) (detail : List Byte) : Prop :=
  Replies c s kind tag status detail [] (fun _ => True)

/-- Every step keeps a law: from every state of which it holds, a next state has it too. -/
def Kept (law : State → Prop) : Prop := ∀ s t, law s → step s = .next t → law t

end Sys2Proof.Machine
end

