-- ==== Sys2Proof/WellFormed.lean ====
section
/-! DEFINITION. Well-formed commands: every raw number of a request fits the width R209 gives its field, so that a frame can
carry it. Whether the number is one its owner accepts is the owner's to check (R202); a request can be well formed and be
refused BAD_FIELD. -/

namespace Sys2Proof

namespace Fits

/-- A number of n bytes without sign. -/
def nat (n v : Nat) : Bool := decide (v < 256 ^ n)

/-- An integer of n bytes in two's complement. -/
def int (n : Nat) (v : Int) : Bool := decide (-(256 ^ n : Nat) ≤ 2 * v) && decide (2 * v < (256 ^ n : Nat))

/-- A class value (R209: 3 bytes). -/
def cls (v : Int) : Bool := int 3 v

/-- An optional identifier. -/
def opt (v : Option Nat) : Bool := v.all (nat 1)

end Fits

open Fits

def PointFields.wf (q : PointFields) : Bool :=
  nat 1 q.point && nat 1 q.source && nat 1 q.cls && nat 1 q.line && int 4 q.rawLo && int 4 q.rawHi && int 4 q.engLo &&
    int 4 q.engHi && nat 2 q.faultBand && nat 2 q.staleLimit && nat 1 q.failLimit && nat 1 q.recoveryPeriod

def LineFields.wf (q : LineFields) : Bool :=
  nat 1 q.line && nat 1 q.enabled && nat 1 q.rate && nat 1 q.clockHold && nat 2 q.passInterval && nat 1 q.autoRecover

def EntryFields.wf (q : EntryFields) : Bool :=
  nat 1 q.station && nat 1 q.kind && opt q.item && opt q.target && nat 1 q.errorPolicy && nat 1 q.every && nat 1 q.phase

def DiscreteFields.wf (q : DiscreteFields) : Bool :=
  nat 1 q.line && nat 1 q.select && nat 1 q.direction && nat 1 q.polarity && nat 1 q.sense && nat 1 q.edgeKind &&
    nat 1 q.debounce && nat 1 q.mismatchTime

def WellFields.wf (q : WellFields) : Bool :=
  nat 1 q.well && nat 1 q.enabled && opt q.intakePoint && opt q.windingPoint && opt q.flowPoint && cls q.minSpeed &&
    cls q.maxSpeed && nat 2 q.rampRate && cls q.target && cls q.ownFloor && cls q.floorBand && nat 2 q.floorGain &&
    cls q.floorHys && nat 2 q.floorConfirm && cls q.windTrip && cls q.windDelta && cls q.windHys && nat 1 q.startTimeout &&
    nat 1 q.stopTimeout && nat 2 q.minOff && nat 1 q.maxStarts && nat 1 q.tripLimit && nat 1 q.tripRecovery &&
    nat 1 q.deliveryLimit && nat 1 q.autoRestart

def TurbineFields.wf (q : TurbineFields) : Bool :=
  opt q.headerPoint && opt q.flowPoint && opt q.powerPoint && opt q.speedPoint && nat 1 q.teeth && cls q.ovsLimit &&
    nat 2 q.lossTime && cls q.syncSpeed && cls q.syncBand && nat 2 q.syncHold && nat 2 q.accelRate && nat 2 q.rollTimeout &&
    cls q.minLoad && cls q.maxLoad && nat 2 q.loadRate && cls q.loadTarget && cls q.headerSetpoint && cls q.headerMin &&
    nat 2 q.headerConfirm && cls q.extractionMax && cls q.extractionMinLoad && nat 1 q.breakerTimeout && cls q.verifyFlow &&
    nat 2 q.tripVerifyTime && cls q.runbackSpeed && nat 2 q.speedKp && nat 2 q.speedKi && nat 2 q.powerKp &&
    nat 2 q.powerKi && nat 2 q.headerKp && nat 2 q.headerKi && nat 1 q.deliveryLimit

def HeatingFields.wf (q : HeatingFields) : Bool :=
  opt q.outdoorPoint && opt q.supplyPoint && opt q.returnPoint && opt q.netFlowPoint && opt q.brineInPoint &&
    opt q.brineOutPoint && opt q.brineFlowPoint && cls q.brineFloorDefault && cls q.supplyMax && cls q.supplyHys &&
    nat 2 q.shortConfirm && nat 2 q.supplyKp && nat 2 q.supplyKi && nat 2 q.floorKp && nat 2 q.floorKi

def SiteFields.wf (q : SiteFields) : Bool :=
  nat 1 q.site && nat 1 q.kind && opt q.tempPoint && nat 1 q.concKind && nat 1 q.concPoint && cls q.fixedConc &&
    opt q.presPoint && nat 2 q.onset && nat 1 q.actionKind && nat 1 q.actionWell && cls q.margin && cls q.alarmMargin &&
    cls q.inhibitorLostMargin && cls q.fallbackFloor && opt q.station && cls q.doseBase && nat 2 q.doseGain &&
    nat 4 q.alertDose && nat 4 q.clearDose && nat 2 q.confirmTime && nat 4 q.serviceDose && cls q.flashBase &&
    cls q.flashTemp && int 2 q.slope

def SiteView.wf : SiteView → Bool
  | .status => true
  | .ring first count => nat 1 first && nat 1 count

/-- Every raw number of the request fits its field on the wire (R209). -/
def Request.wf : Request → Bool
  | .identify => true
  | .setClock clock => nat 4 clock
  | .configurePoint q => q.wf
  | .readPoints first count => nat 1 first && nat 1 count
  | .writePoint point value => nat 1 point && cls value
  | .setSubstitute point substitute => nat 1 point && substitute.all cls
  | .configureLine q => q.wf
  | .editEntry line position entry => nat 1 line && nat 1 position && entry.wf
  | .insertEntry line position entry => nat 1 line && nat 1 position && entry.wf
  | .removeEntry line position => nat 1 line && nat 1 position
  | .clearStaged line => nat 1 line
  | .swapSchedule line => nat 1 line
  | .resetLine line => nat 1 line
  | .readLine line view => nat 1 line && nat 1 view
  | .configureDiscrete q => q.wf
  | .setDiscrete line level => nat 1 line && nat 1 level
  | .readDiscrete => true
  | .clearEdges _ => true
  | .configureWell q => q.wf
  | .start well => nat 1 well
  | .stop well => nat 1 well
  | .setTarget well value => nat 1 well && cls value
  | .wellResetTrip well => nat 1 well
  | .unlock well => nat 1 well
  | .readWell well => nat 1 well
  | .configureTurbine q => q.wf
  | .roll => true
  | .setMode mode => nat 1 mode
  | .setLoad value => cls value
  | .unload => true
  | .trip => true
  | .turbineResetTrip => true
  | .readTurbine => true
  | .configureHeating q => q.wf
  | .setCurve breakpoints => nat 1 breakpoints.length && breakpoints.all (fun b => cls b.1 && cls b.2)
  | .heatingOn => true
  | .heatingOff => true
  | .readHeating => true
  | .configureSite q => q.wf
  | .siteEnable site => nat 1 site
  | .siteDisable site => nat 1 site
  | .markCleaned site => nat 1 site
  | .restoreDose site value => nat 1 site && nat 4 value
  | .readSite site view => nat 1 site && view.wf
  | .postLimit targetKind targetWell value => nat 1 targetKind && nat 1 targetWell && cls value
  | .withdrawLimit targetKind targetWell => nat 1 targetKind && nat 1 targetWell
  | .readConstraints view => nat 1 view
  | .readConditions => true
  | .releaseSnapshot number => nat 2 number
  | .setMasks _ _ => true
  | .silence => true
  | .armSupervision period fallbackHold fallbackSpeed => nat 2 period && nat 2 fallbackHold && cls fallbackSpeed
  | .resume => true
  | .commission => true
  | .decommission => true
  | .softReset => true

/-- The tag and the request a request row delivers; none for the rows that are no assigned request. -/
def Instr.request : Instr → Option (Byte × Request)
  | .identify tag => some (tag, .identify)
  | .setClock tag clock => some (tag, .setClock clock)
  | .configurePoint tag q => some (tag, .configurePoint q)
  | .readPoints tag first count => some (tag, .readPoints first count)
  | .writePoint tag point value => some (tag, .writePoint point value)
  | .setSubstitute tag point substitute => some (tag, .setSubstitute point substitute)
  | .configureLine tag q => some (tag, .configureLine q)
  | .editEntry tag line position entry => some (tag, .editEntry line position entry)
  | .insertEntry tag line position entry => some (tag, .insertEntry line position entry)
  | .removeEntry tag line position => some (tag, .removeEntry line position)
  | .clearStaged tag line => some (tag, .clearStaged line)
  | .swapSchedule tag line => some (tag, .swapSchedule line)
  | .resetLine tag line => some (tag, .resetLine line)
  | .readLine tag line view => some (tag, .readLine line view)
  | .configureDiscrete tag q => some (tag, .configureDiscrete q)
  | .setDiscrete tag line level => some (tag, .setDiscrete line level)
  | .readDiscrete tag => some (tag, .readDiscrete)
  | .clearEdges tag lines => some (tag, .clearEdges lines)
  | .configureWell tag q => some (tag, .configureWell q)
  | .start tag well => some (tag, .start well)
  | .stop tag well => some (tag, .stop well)
  | .setTarget tag well value => some (tag, .setTarget well value)
  | .wellResetTrip tag well => some (tag, .wellResetTrip well)
  | .unlock tag well => some (tag, .unlock well)
  | .readWell tag well => some (tag, .readWell well)
  | .configureTurbine tag q => some (tag, .configureTurbine q)
  | .roll tag => some (tag, .roll)
  | .setMode tag mode => some (tag, .setMode mode)
  | .setLoad tag value => some (tag, .setLoad value)
  | .unload tag => some (tag, .unload)
  | .trip tag => some (tag, .trip)
  | .turbineResetTrip tag => some (tag, .turbineResetTrip)
  | .readTurbine tag => some (tag, .readTurbine)
  | .configureHeating tag q => some (tag, .configureHeating q)
  | .setCurve tag breakpoints => some (tag, .setCurve breakpoints)
  | .heatingOn tag => some (tag, .heatingOn)
  | .heatingOff tag => some (tag, .heatingOff)
  | .readHeating tag => some (tag, .readHeating)
  | .configureSite tag q => some (tag, .configureSite q)
  | .siteEnable tag site => some (tag, .siteEnable site)
  | .siteDisable tag site => some (tag, .siteDisable site)
  | .markCleaned tag site => some (tag, .markCleaned site)
  | .restoreDose tag site value => some (tag, .restoreDose site value)
  | .readSite tag site view => some (tag, .readSite site view)
  | .postLimit tag targetKind targetWell value => some (tag, .postLimit targetKind targetWell value)
  | .withdrawLimit tag targetKind targetWell => some (tag, .withdrawLimit targetKind targetWell)
  | .readConstraints tag view => some (tag, .readConstraints view)
  | .readConditions tag => some (tag, .readConditions)
  | .releaseSnapshot tag number => some (tag, .releaseSnapshot number)
  | .setMasks tag watch horn => some (tag, .setMasks watch horn)
  | .silence tag => some (tag, .silence)
  | .armSupervision tag period fallbackHold fallbackSpeed => some (tag, .armSupervision period fallbackHold fallbackSpeed)
  | .resume tag => some (tag, .resume)
  | .commission tag => some (tag, .commission)
  | .decommission tag => some (tag, .decommission)
  | .softReset tag => some (tag, .softReset)
  | .powerReset _ _ => none
  | .pinReset _ _ => none
  | .startUp => none
  | .frameJudged => none
  | .gap => none
  | .framingError => none
  | .lineBreak => none
  | .unknownKind _ _ _ => none
  | .transmissionEnd => none
  | .ageTimerExpiry => none
  | .secondTimerExpiry => none
  | .recoveryTimerExpiry _ => none
  | .plantClockTick => none
  | .passTimerExpiry _ => none
  | .readEntryEnd _ _ _ => none
  | .writeDriveEntryEnd _ _ _ => none
  | .probeEnd _ _ _ => none
  | .heldClock _ => none
  | .heldDataWire _ => none
  | .recoveryProcedureEnd _ _ => none
  | .recoveryAttemptEnd _ _ => none
  | .padChange _ _ => none
  | .debounceExpiry _ => none
  | .mismatchExpiry _ => none
  | .toothEdge _ => none
  | .lossTimerExpiry => none
  | .smPeriodExpiry => none
  | .wpPeriodExpiry => none
  | .startTimerExpiry _ => none
  | .stopTimerExpiry _ => none
  | .tripDecayExpiry _ => none
  | .tgPeriodExpiry => none
  | .rollTimerExpiry => none
  | .breakerTimerExpiry => none
  | .hxPeriodExpiry => none
  | .supervisionTimerExpiry => none
  | .holdTimerExpiry => none
  | .characterReceived _ => none
  | .returnToMark => none

/-- A well-formed command: its request fits a frame, and UNKNOWN_KIND carries a Kind to which no request is assigned
(0x2C ... 0x3F, R201) and a Body a frame can hold (R195: 0 to 240 bytes). The operands of the field events are in range
by their types. -/
def Instr.wf (i : Instr) : Bool :=
  match i with
  | .unknownKind _ kind body => decide (0x2C ≤ kind.toNat) && decide (kind.toNat ≤ 0x3F) && decide (body.length ≤ 240)
  | _ => (i.request).all (fun p => p.2.wf)

end Sys2Proof
end

