-- ==== Sys2Proof/Certificates/Slice0/Obligations.lean ====
section
/-! DEFINITION. The statements for the provers: what the spec's rules say the part does, command by command, and the laws that
every step keeps. Each statement about a command names what it changes and says that nothing else does. -/

open Sys2Proof Sys2Proof.Machine

/-! ### The queue of commands and the passing of time -/

/-- Derived (the row's cut): a step takes the command at the front of the queue and runs it with the rest of the queue. -/
def Obligations.StepRunsTheFrontCommand : Prop := ∀ (c : Instr) (s : State), step (s.withFront c) = exec c s

/-- Derived; the model's choice (log 2): on an empty queue the first expiry that is due joins the queue and nothing else
changes; an expiry is due exactly while its timer stands at its end, and the judgement of a frame while the receiver holds it whole.
Where none is due, every closing stop still under way is sent (log 5), and one millisecond passes: every running timer
counts down by one, the time base goes on by 1000 microseconds, and nothing else changes. During internal initialisation nothing
happens. The last clause says what the sending of a closing stop does to its line: the pass ends as R32 says, and the stop is what the
line last did on its wires (log 52). -/
def Obligations.EmptyQueueLetsTimePass : Prop :=
  (∀ s : State, s.pending = [] →
    (s.initialising = true → step s = .next s) ∧
    (∀ c : Instr, c ∈ dueExpiries s ↔
      (c = .frameJudged ∧ s.link.receiver.complete = true) ∨ (c = .gap ∧ s.link.receiver.gapTimer = some 0) ∨
      (c = .plantClockTick ∧ s.clockTimer = some 0) ∨ (c = .ageTimerExpiry ∧ s.ageTimer = some 0) ∨
      (c = .secondTimerExpiry ∧ s.secondTimer = some 0) ∨
      (∃ p : Fin 96, c = .recoveryTimerExpiry p ∧ s.points[p].recoveryTimer = some 0) ∨
      (∃ d : Fin 24, (c = .debounceExpiry d ∧ s.discretes[d].debounceTimer = some 0) ∨
        (c = .mismatchExpiry d ∧ s.discretes[d].mismatchTimer = some 0)) ∨
      (c = .lossTimerExpiry ∧ s.speedUnit.lossTimer = some 0) ∨
      (∃ i : Fin 3, c = .passTimerExpiry i ∧ s.lines[i].passTimer = some 0) ∨
      (∃ k : Fin 8, (c = .startTimerExpiry k ∧ s.wells[k].startTimer = some 0) ∨
        (c = .stopTimerExpiry k ∧ s.wells[k].stopTimer = some 0) ∨
        (c = .tripDecayExpiry k ∧ s.wells[k].decayTimer = some 0)) ∨
      (c = .rollTimerExpiry ∧ s.turbine.rollTimer = some 0) ∨ (c = .breakerTimerExpiry ∧ s.turbine.breakerTimer = some 0) ∨
      (c = .smPeriodExpiry ∧ s.smTimer = some 0) ∨ (c = .wpPeriodExpiry ∧ s.wpTimer = some 0) ∨
      (c = .tgPeriodExpiry ∧ s.turbine.periodTimer = some 0) ∨ (c = .hxPeriodExpiry ∧ s.heating.periodTimer = some 0) ∨
      (c = .supervisionTimerExpiry ∧ s.supervision.supervisionTimer = some 0) ∨
      (c = .holdTimerExpiry ∧ s.supervision.holdTimer = some 0)) ∧
    (s.initialising = false → ∀ (c : Instr) (rest : List Instr), dueExpiries s = c :: rest →
      step s = .next { s with pending := [c] }) ∧
    (s.initialising = false → dueExpiries s = [] → let u := finishStop 2 (finishStop 1 (finishStop 0 s))
      ∃ t, step s = .next t ∧ t.pending = [] ∧ t.clock = u.clock ∧ t.clockTimer = u.clockTimer.tick ∧
        t.ageTimer = u.ageTimer.tick ∧ t.secondTimer = u.secondTimer.tick ∧ t.smTimer = u.smTimer.tick ∧
        t.minuteCounter = u.minuteCounter ∧ t.wpTimer = u.wpTimer.tick ∧
        (∀ i : Fin 96, t.points[i] = { u.points[i] with recoveryTimer := u.points[i].recoveryTimer.tick }) ∧
        (∀ i : Fin 3, t.lines[i] = { u.lines[i] with passTimer := u.lines[i].passTimer.tick }) ∧
        (∀ d : Fin 24, t.discretes[d] = { u.discretes[d] with debounceTimer := u.discretes[d].debounceTimer.tick,
                                                               mismatchTimer := u.discretes[d].mismatchTimer.tick }) ∧
        t.speedUnit = { u.speedUnit with lossTimer := u.speedUnit.lossTimer.tick,
                                         timeBase := u.speedUnit.timeBase + 1000#32 } ∧
        (∀ k : Fin 8, t.wells[k] = { u.wells[k] with startTimer := u.wells[k].startTimer.tick,
                                                     stopTimer := u.wells[k].stopTimer.tick,
                                                     decayTimer := u.wells[k].decayTimer.tick }) ∧
        t.turbine = { u.turbine with periodTimer := u.turbine.periodTimer.tick, rollTimer := u.turbine.rollTimer.tick,
                                     breakerTimer := u.turbine.breakerTimer.tick } ∧
        t.heating = { u.heating with periodTimer := u.heating.periodTimer.tick } ∧
        t.supervision = { u.supervision with supervisionTimer := u.supervision.supervisionTimer.tick,
                                             holdTimer := u.supervision.holdTimer.tick } ∧
        t.link = { u.link with receiver := { u.link.receiver with gapTimer := u.link.receiver.gapTimer.tick } } ∧
        UnchangedBut [.clock, .points, .tableTimers, .lines, .discretes, .speedUnit, .monitor, .wells, .wpTimer, .turbine,
          .heating, .supervision, .receiver] u t)) ∧
  (∀ (i : Fin 3) (u : State), let v := finishStop i u
    (∀ n, u.lines[i].state = .passing → u.lines[i].activity = .closing n →
      PassEnds v { u.lines[i] with wires := [.stop true] } n v.lines[i] ∧ LineAndDrives u v i (fun _ d => d) ∧ UnchangedBut [.lines, .drives] u v) ∧
    ((∀ n, u.lines[i].state = .passing → u.lines[i].activity ≠ .closing n) → v = u))

/-! ### Resets (R205, R206, R216) -/

/-- Derived (section 11.4 and the last rules of the chapters): the state after a POWER reset holds every dynamic value and every
configuration as the chapters state them, and the laws that every step keeps hold of it. That a line's record of its wires is then
their release is the model's (`wires` is its own field, log 52). The values that no rule states (log 20, 33) are left open. -/
def Obligations.TheResetState : Prop :=
  (DynamicReset State.reset ∧ DefaultConfiguration State.reset ∧ State.reset.pending = []) ∧
  (Sound State.reset ∧ TableLaw State.reset ∧ GrantLaw State.reset ∧ SafeDrives State.reset ∧ DemandLaw State.reset ∧
     TripCountLaw State.reset ∧ PointLaw State.reset ∧ BindingLaw State.reset ∧ CapacityLaw State.reset ∧ SiteLaw State.reset ∧
     MismatchLaw State.reset)

/-- Derived (section 11.4, R26, R206, R216): a POWER or PIN reset is taken in every state; it brings every dynamic value to what its
chapter states, every configuration to its default, and samples the straps. The end of the transmission of an accepted SoftReset's
reply is the SOFT reset, which brings every dynamic value to the same and keeps every configuration, the link rate and the levels of
the pads. The pins of the lines are the outside's; that the queue of commands stands is the model's choice (log 4), and so is the
record of a line's wires (log 52). The values that no rule states (log 20, 33) are left open. -/
def Obligations.TheThreeResets : Prop :=
  (∀ (baud1 baud0 : Bool) (s : State),
     Completes (.powerReset baud1 baud0) s (fun t => DynamicReset t ∧ DefaultConfiguration t ∧ t.link.baud1 = baud1 ∧
       t.link.baud0 = baud0 ∧ t.powerApplied = true ∧ t.resetHeldLow = s.resetHeldLow ∧
       (∀ d : Fin 24, t.discretes[d].pin = s.discretes[d].pin) ∧ t.pending = s.pending) ∧
     Completes (.pinReset baud1 baud0) s (fun t => DynamicReset t ∧ DefaultConfiguration t ∧ t.link.baud1 = baud1 ∧
       t.link.baud0 = baud0 ∧ t.powerApplied = s.powerApplied ∧ t.resetHeldLow = true ∧
       (∀ d : Fin 24, t.discretes[d].pin = s.discretes[d].pin) ∧ t.pending = s.pending)) ∧
  (∀ (s : State) (f : Frame), s.initialising = false → s.link.sending = some f → s.link.softResetPending = true →
     f.kind = 0xAB → f.body = [0] →
     Completes .transmissionEnd s (fun t => DynamicReset t ∧ ConfigurationKept s t ∧ t.powerApplied = s.powerApplied ∧
       t.resetHeldLow = s.resetHeldLow ∧ (∀ d : Fin 24, t.discretes[d].pin = s.discretes[d].pin) ∧ t.pending = s.pending))

/-- Derived (section 11.4, R65, R70, R193, R205, R216): during internal initialisation no command acts but the resets, START_UP and the
level of a pad. START_UP, its end, fixes the reset cause, starts the timers, samples the pads without debounce, lets BRK_OPEN_CMD
follow a closed breaker, forms the initial live set without a notice and begins the STARTED notice. The time base starts from 0 (R70).
Every output drives its de-energised level but BRK_OPEN_CMD where it follows, and no debounce timer runs. A mismatch timer runs only
where that follow commands an output against its level: the sampling of the pads starts none (the model's deduction, log 32). A reset
begins internal initialisation in every state, anew where another's was under way. That START_UP of a part that runs, an event that
cannot arise, changes nothing is the model's deduction (log 9). -/
def Obligations.InternalInitialisation : Prop :=
  (∀ (c : Instr) (s : State), s.initialising = true → (∀ a b, c ≠ .powerReset a b) → (∀ a b, c ≠ .pinReset a b) →
     c ≠ .startUp → (∀ d h, c ≠ .padChange d h) → exec c s = .next s) ∧
  (∀ s : State,
     (DynamicReset s → (∀ i : Fin 12, 1 ≤ s.sites[i].cfg.serviceDose) →
       Completes .startUp s (fun t =>
         t.initialising = false ∧ t.powerApplied = false ∧ t.resetHeldLow = false ∧
         t.resetCause = (if s.powerApplied then .power else if s.resetHeldLow then .pin else .soft) ∧
         t.phase = s.phase ∧ t.clock = s.clock ∧ t.clockTimer = some 1000 ∧ t.ageTimer = some 100 ∧
         t.secondTimer = some 1000 ∧ t.wpTimer = some 250 ∧ t.turbine = { s.turbine with periodTimer := some 100 } ∧
         t.heating = { s.heating with periodTimer := some 1000 } ∧
         (∀ d : Fin 24, t.discretes[d].cfg = s.discretes[d].cfg ∧ t.discretes[d].pin = s.discretes[d].pin ∧
           t.discretes[d].padLevel = (s.discretes[d].pin != s.discretes[d].cfg.inverted) ∧
           t.discretes[d].level = t.discretes[d].padLevel ∧ t.discretes[d].mismatch = false ∧
           t.discretes[d].edgeSeen = false ∧ t.discretes[d].edgeReported = false ∧ t.discretes[d].edgeCount = 0 ∧
           t.discretes[d].roleCommand = (decide (d = breakerOpenLine) && breakerClosed t) ∧
           t.discretes[d].commanded = (t.discretes[d].cfg.role && t.discretes[d].roleCommand) ∧
           t.discretes[d].debounceTimer = none ∧
           t.discretes[d].mismatchTimer =
             if t.discretes[d].cfg.out = true ∧ t.discretes[d].commanded = true ∧ t.discretes[d].level = false then
               some (t.discretes[d].cfg.mismatchTime * 10) else none) ∧
         t.speedUnit = s.speedUnit ∧ t.speedUnit.timeBase = 0 ∧
         (∀ n : Fin 42, t.conditions.live[n] = (decide (n.val = 16) || (decide (n.val = 40) && estopActive t))) ∧
         t.conditions.frozen = t.conditions.live ∧ t.conditions.held = false ∧ t.conditions.number = 0 ∧
         t.conditions.unsilenced = MemberSet.empty ∧
         t.link.sending = some ⟨0x70, 0, [BitVec.ofNat 8 t.resetCause.code]⟩ ∧ t.link.started = none ∧
         t.link.condition = none ∧ t.link.edge = none ∧
         UnchangedBut [.phase, .clock, .tableTimers, .discretes, .wpTimer, .turbine, .heating, .conditions, .notices,
           .outgoing] s t)) ∧
     (s.initialising = false → exec .startUp s = .next s)) ∧
  (∀ (baud1 baud0 : Bool) (s : State), Completes (.powerReset baud1 baud0) s (fun t => t.initialising = true) ∧
     Completes (.pinReset baud1 baud0) s (fun t => t.initialising = true))

/-! ### The transmitter (R203, R204) -/

/-- Derived (R201, R203, R204): the transmitter arbiter. At the end of a frame that is no accepted SoftReset's reply the
transmitter begins the oldest reply by its placing, else the pending notice STARTED before CONDITION before EDGE, else it is
IDLE; the chosen frame leaves its place. A pending EDGE notice that leaves is followed by a new one where a line's edge is not yet
reported: it carries every line whose edge is seen with its count, the levels and the clock, and marks those lines reported (R61). Beginning a reply of a full queue while requests wait takes the oldest
request, which its owner applies in this event to the state it finds and whose reply joins the queue. That an IDLE transmitter, at
which no transmission can end, is left as it is is the model's deduction (log 9). The bytes of an EDGE notice are laid out as log 51
says (`edgeFrame`). -/
def Obligations.TransmissionEndBeginsTheNextFrame : Prop :=
  ∀ s : State, s.initialising = false → Settled s →
    (s.link.sending = none → exec .transmissionEnd s = .next s) ∧
    (∀ f, s.link.sending = some f → (s.link.softResetPending = true → f.kind = 0xAB → f.body ≠ [0]) →
      (∀ r rest, s.link.replies = r :: rest → (∀ b, s.link.busyPlace = some b → r.placed ≤ b.placed) →
        (s.link.requests = [] ∨ s.link.softResetPending = true →
          Completes .transmissionEnd s (fun t => t.link.sending = some r.frame ∧ t.link.replies = rest ∧
            t.link.placings = s.link.placings ∧ UnchangedBut [.outgoing] s t)) ∧
        (∀ q waiting, s.link.requests = q :: waiting → s.link.replies.length = 4 → s.link.softResetPending = false →
          let begun := s.modLink (fun k => { k with sending := some r.frame, replies := rest, requests := waiting })
          let answered := settleRequest (decodeRequest q.kind.toNat q.body) begun
          Completes .transmissionEnd s (fun t => t.link.sending = some r.frame ∧ t.link.requests = waiting ∧
            t.link.placings = s.link.placings + 1 ∧
            t.link.replies = rest ++ [⟨⟨q.kind + 0x80, q.tag, answered.2.body⟩, s.link.placings⟩] ∧
            t = settle (placeReply q.kind q.tag answered.2 answered.1)))) ∧
      (∀ b, s.link.busyPlace = some b → (∀ r ∈ s.link.replies.head?, b.placed < r.placed) →
        Completes .transmissionEnd s (fun t => t.link.sending = some b.frame ∧ t.link.busyPlace = none ∧
          t.link.replies = s.link.replies ∧ t.link.requests = s.link.requests ∧
          t.link.busyCount = s.link.busyCount ∧ t.link.busyLostCount = s.link.busyLostCount ∧
          UnchangedBut [.outgoing, .requests] s t)) ∧
      (s.link.replies = [] → s.link.busyPlace = none →
        (∀ cause, s.link.started = some cause →
          Completes .transmissionEnd s (fun t => t.link.sending = some ⟨0x70, 0, [BitVec.ofNat 8 cause.code]⟩ ∧
            t.link.started = none ∧ t.link.condition = s.link.condition ∧ t.link.edge = s.link.edge ∧
            t.link.replies = [] ∧ UnchangedBut [.outgoing, .notices] s t)) ∧
        (∀ n, s.link.started = none → s.link.condition = some n →
          Completes .transmissionEnd s (fun t => t.link.sending = some (conditionFrame n) ∧ t.link.condition = none ∧
            t.link.replies = [] ∧ UnchangedBut [.outgoing] s t)) ∧
        (∀ n, s.link.started = none → s.link.condition = none → s.link.edge = some n →
          let again : Prop := ∃ d : Fin 24, s.discretes[d].edgeSeen = true ∧ s.discretes[d].edgeReported = false
          let notice : EdgeNotice :=
            ⟨Vector.ofFn (fun d => if s.discretes[d].edgeSeen then some s.discretes[d].edgeCount else none),
              Vector.ofFn (fun d => s.discretes[d].level), s.clock⟩
          Completes .transmissionEnd s (fun t => t.link.sending = some (edgeFrame n) ∧ t.link.replies = [] ∧
            t.link.started = none ∧ t.link.condition = none ∧
            (again → t.link.edge = some notice ∧ ∀ d : Fin 24, LineSettled d
              { s.discretes[d] with edgeReported := s.discretes[d].edgeReported || s.discretes[d].edgeSeen }
              t.discretes[d]) ∧
            (¬ again → t.link.edge = none ∧ ∀ d : Fin 24, LineSettled d s.discretes[d] t.discretes[d]) ∧
            UnchangedBut [.outgoing, .notices, .discretes] s t)) ∧
        (s.link.started = none → s.link.condition = none → s.link.edge = none →
          Completes .transmissionEnd s (fun t => t.link.sending = none ∧ t.link.replies = [] ∧
            UnchangedBut [.outgoing] s t))))

/-! ### The receiver (R196 to R198) -/

/-- Derived (R196, R198; the gap timer's 6 ms are log 8): what a received character does to a receiver that holds no whole frame
(one within a break is not received, and a whole frame is judged before the character is taken); and the three faults of a
partial frame, the return to mark, and what they do in HUNTING. And (R195) the bits of a character: a start bit at space, the 8 data
bits least significant first, a stop bit at mark, read back as the character they carry, or as a framing error where the stop bit is
at space; a frame is sent as its characters back to back, and the idle line is at mark. A receiver holds a frame whole once, after its
Length byte, as many bytes as that counts and the two Check bytes are in (R196). That the expiry of a stopped gap timer changes nothing
is the model's deduction (log 9). -/
def Obligations.TheReceiver : Prop :=
  (∀ (b : Byte) (s : State), Running s →
     (s.link.receiver.complete = false → s.link.receiver.inBreak = true → Idles (.characterReceived b) s) ∧
     (s.link.receiver.complete = false → s.link.receiver.inBreak = false →
       Happens (.characterReceived b) s [.receiver] (fun t =>
         t.link.receiver.inBreak = false ∧
         (s.link.receiver.state = .hunting → b = 0xE7 → t.link.receiver = ⟨.length, [], some gapTime, false⟩) ∧
         (s.link.receiver.state = .hunting → b ≠ 0xE7 → t.link.receiver = s.link.receiver) ∧
         (s.link.receiver.state = .length → 2 ≤ b.toNat → b.toNat ≤ 242 →
           t.link.receiver = ⟨.body, [b], some gapTime, false⟩) ∧
         (s.link.receiver.state = .length → b.toNat < 2 ∨ 242 < b.toNat →
           t.link.receiver = ⟨.hunting, [], none, false⟩) ∧
         (s.link.receiver.state = .body →
           t.link.receiver.state = .body ∧ t.link.receiver.bytes = s.link.receiver.bytes ++ [b] ∧
             t.link.receiver.gapTimer = if t.link.receiver.complete then none else some gapTime))) ∧
     (s.link.receiver.complete = true → (judgeHeld s).link.receiver.complete = false ∧
       exec (.characterReceived b) s = event (fun u => characterReceived b (judgeHeld u)) s)) ∧
  (∀ s : State, Running s → s.link.receiver.complete = false →
     (s.link.receiver.gapTimer.isSome = true → s.link.receiver.state ≠ .hunting →
       Happens .gap s [.receiver, .discards] (fun t =>
         t.link.receiver = { s.link.receiver with state := .hunting, bytes := [], gapTimer := none } ∧
         t.link.discardCount = satSucc 65535 s.link.discardCount)) ∧
     (s.link.receiver.gapTimer = none → Idles .gap s) ∧
     (s.link.receiver.state ≠ .hunting → s.link.receiver.inBreak = false →
       Happens .framingError s [.receiver, .discards] (fun t =>
         t.link.receiver = { s.link.receiver with state := .hunting, bytes := [], gapTimer := none } ∧
         t.link.discardCount = satSucc 65535 s.link.discardCount)) ∧
     (s.link.receiver.state = .hunting ∨ s.link.receiver.inBreak = true → Idles .framingError s) ∧
     (s.link.receiver.state ≠ .hunting →
       Happens .lineBreak s [.receiver, .discards] (fun t => t.link.receiver = ⟨.hunting, [], none, true⟩ ∧
         t.link.discardCount = satSucc 65535 s.link.discardCount)) ∧
     (s.link.receiver.state = .hunting →
       Happens .lineBreak s [.receiver] (fun t => t.link.receiver = { s.link.receiver with inBreak := true })) ∧
     Happens .returnToMark s [.receiver] (fun t => t.link.receiver = { s.link.receiver with inBreak := false })) ∧
  (∀ b : Byte, (characterBits b).length = 10 ∧ (characterBits b)[0]? = some false ∧ (characterBits b)[9]? = some true ∧
     (∀ i : Fin 8, (characterBits b)[i.val + 1]? = some (b.getLsbD i.val)) ∧
     receivedEvent (characterBits b) = some (.characterReceived b) ∧
     receivedEvent ((characterBits b).take 9 ++ [false]) = some .framingError) ∧
  (∀ (f : Frame) (l : Link), (∀ (k : Nat) (j : Fin 10), f.bits[10 * k + j.val]? =
       (f.bytes[k]?).bind (fun b => (characterBits b)[j.val]?)) ∧
     (l.sending = some f → l.wire = f.bits ++ [true]) ∧ (l.sending = none → l.wire = [true])) ∧
  (∀ r : Receiver, r.complete = true ↔
     r.state = .body ∧ ∃ (length : Byte) (rest : List Byte), r.bytes = length :: rest ∧ length.toNat + 2 ≤ rest.length)

/-- Derived (R196, R197, R199): the frame a receiver holds whole is judged once and the receiver hunts again. A frame that passes
its check but whose Kind is no request's is discarded and counted; any other arrives as a good request. A failed check is
TheCheckIsTheSpecs, and when a receiver holds a frame whole is TheReceiver. That a judgement changes nothing where it holds none is the
model's deduction (log 9). -/
def Obligations.AWholeFrameIsJudged : Prop :=
  ∀ s : State, Running s →
    (s.link.receiver.complete = false → Idles .frameJudged s) ∧
    (∀ (length kind tag : Byte) (rest : List Byte), s.link.receiver.bytes = length :: kind :: tag :: rest →
      s.link.receiver.complete = true →
      (crcOf s.link.receiver.bytes = 0 → kind.toNat = 0 ∨ 0x40 ≤ kind.toNat →
        Happens .frameJudged s [.receiver, .discards] (fun t =>
          t.link.receiver = { s.link.receiver with state := .hunting, bytes := [], gapTimer := none } ∧
          t.link.discardCount = satSucc 65535 s.link.discardCount)) ∧
      (crcOf s.link.receiver.bytes = 0 → 1 ≤ kind.toNat → kind.toNat ≤ 0x3F →
        exec .frameJudged s = exec (.unknownKind tag kind (rest.take (rest.length - 2)))
          (s.modLink (fun l => { l with receiver := { l.receiver with state := .hunting, bytes := [], gapTimer := none } }))))

/-- Stated (R197): the check register starts at 0xFFFF, takes each byte most significant bit first under the generator
polynomial, and ends at 0x29B1 over "123456789"; a frame is sent with the register over its bytes behind it, high byte first; a
received frame passes when the register over its bytes equals the two Check bytes, which is when the register over all of it
ends at 0; a whole frame that fails is discarded without a reply and counted. -/
def Obligations.TheCheckIsTheSpecs : Prop :=
  crcOf [] = 0xFFFF#16 ∧
    (∀ (bytes : List Byte) (b : Byte), crcOf (bytes ++ [b]) = Nat.repeat crcBit 8 (crcOf bytes ^^^ (b.setWidth 16 <<< 8))) ∧
    (∀ r : CheckRegister, crcBit r = (r <<< 1) ^^^ (if r.msb then 0x1021#16 else 0#16)) ∧
    crcOf [0x31, 0x32, 0x33, 0x34, 0x35, 0x36, 0x37, 0x38, 0x39] = 0x29B1#16 ∧
    (∀ (bytes : List Byte) (high low : Byte), crcOf (bytes ++ [high, low]) = 0 ↔ crcOf bytes = high ++ low) ∧
    (∀ f : Frame, ∃ length high low : Byte, let checked := length :: f.kind :: f.tag :: f.body
      (f.body.length ≤ 240 → length = BitVec.ofNat 8 (f.body.length + 2)) ∧
        f.bytes = 0xE7 :: checked ++ [high, low] ∧ high ++ low = crcOf checked) ∧
    ∀ (s : State) (length kind tag : Byte) (rest : List Byte), Running s → s.link.receiver.complete = true →
      s.link.receiver.bytes = length :: kind :: tag :: rest → crcOf s.link.receiver.bytes ≠ 0 →
      Happens .frameJudged s [.receiver, .discards] (fun t =>
        t.link.receiver = { s.link.receiver with state := .hunting, bytes := [], gapTimer := none } ∧
        t.link.discardCount = satSucc 65535 s.link.discardCount)

/-! ### Requests on the wire and in the queue (R199 to R201, R209) -/

/-- Derived (section 10.8, R209): the Body of every well-formed request, read again by its Kind, gives the request back. -/
def Obligations.EveryRequestBodyIsReadBack : Prop :=
  ∀ r : Request, r.wf = true → decodeRequest r.kind r.body = .ok r

/-- Derived (R199, R201, R209; log 3): the row of a request is the arrival of the good frame that carries it: its Kind, its Tag
and its Body, judged good, do the same. That UNKNOWN_KIND given with an assigned Kind does what the frame of that Kind does is the
model's choice (log 25). -/
def Obligations.ARequestRowIsItsFrame : Prop :=
  ∀ (c : Instr) (tag : Byte) (r : Request) (s : State), c.request = some (tag, r) → r.wf = true →
    exec c s = exec (.unknownKind tag (BitVec.ofNat 8 r.kind) r.body) s

/-- Derived (R199 to R201, R213): a good request that cannot be taken waits in the request queue, or is answered BUSY, or is lost; in
ARMED it restarts the supervision timer for a full period. Here a frame is under transmission, so nothing begins. -/
def Obligations.ARequestWaitsOrIsAnsweredBusy : Prop :=
  ∀ (c : Instr) (tag : Byte) (r : Request) (s : State) (f : Frame), c.request = some (tag, r) → s.initialising = false →
    s.link.sending = some f →
    (s.link.requests.length < 4 → s.link.replies.length = 4 ∨ s.link.softResetPending = true →
      Completes c s (fun t => t.link.requests = s.link.requests ++ [⟨BitVec.ofNat 8 r.kind, tag, r.body⟩] ∧
        t.link.busyPlace = s.link.busyPlace ∧ t.link.busyCount = s.link.busyCount ∧
        t.link.busyLostCount = s.link.busyLostCount ∧ SupervisionRefreshed s.supervision t.supervision ∧
        UnchangedBut [.supervision, .requests] s t)) ∧
    (s.link.requests.length = 4 → s.link.busyPlace = none →
      Completes c s (fun t => t.link.requests = s.link.requests ∧
        t.link.busyPlace = some ⟨⟨BitVec.ofNat 8 (r.kind + 0x80), tag, [8]⟩, s.link.placings⟩ ∧
        t.link.busyCount = satSucc 65535 s.link.busyCount ∧ t.link.busyLostCount = s.link.busyLostCount ∧
        t.link.replies = s.link.replies ∧ t.link.sending = s.link.sending ∧
        SupervisionRefreshed s.supervision t.supervision ∧ UnchangedBut [.supervision, .requests, .outgoing] s t)) ∧
    (∀ b, s.link.requests.length = 4 → s.link.busyPlace = some b →
      Completes c s (fun t => t.link.requests = s.link.requests ∧ t.link.busyPlace = some b ∧
        t.link.busyCount = s.link.busyCount ∧ t.link.busyLostCount = satSucc 65535 s.link.busyLostCount ∧
        SupervisionRefreshed s.supervision t.supervision ∧ UnchangedBut [.supervision, .requests] s t))

/-- Derived (R199, R201, R202, R209): a good frame of a Kind without a request is answered UNKNOWN_KIND, one whose Body does not have
the length of its fields BAD_LENGTH, one whose deciding byte lies beyond its values BAD_FIELD, which carries no detail (log 45); each
changes nothing. Which Bodies these are is told Kind by Kind (`bodyVerdict`: the pieces of each Body by section 10.7 and R209, a Body
with a count, presence, command or view byte measured by what that byte selects, and one whose deciding byte lies beyond its values not
compared; the command bytes are numbered as log 15 says). A Kind outside 0x01 to 0x3F is discarded (that UNKNOWN_KIND can be given with any Kind is log 25). And a request
whose reply is neither OK nor CLAMPED changes nothing: beside its one reply, only the supervision timer that its arrival restarts
moves. -/
def Obligations.RefusedFramesAndRequests : Prop :=
  (∀ (tag kind : Byte) (body : List Byte) (s : State), Ready s →
     (0x2C ≤ kind.toNat → kind.toNat ≤ 0x3F →
       Refuses (.unknownKind tag kind body) s kind.toNat tag .unknownKind []) ∧
     (1 ≤ kind.toNat → kind.toNat ≤ 0x2B → decodeRequest kind.toNat body = .badLength →
       Refuses (.unknownKind tag kind body) s kind.toNat tag .badLength []) ∧
     (1 ≤ kind.toNat → kind.toNat ≤ 0x2B → decodeRequest kind.toNat body = .badField →
       Refuses (.unknownKind tag kind body) s kind.toNat tag .badField []) ∧
     (kind.toNat = 0 ∨ 0x40 ≤ kind.toNat →
       Happens (.unknownKind tag kind body) s [.discards] (fun t =>
         t.link.discardCount = satSucc 65535 s.link.discardCount))) ∧
  (∀ (kind : Nat) (body : List Byte), 1 ≤ kind → kind ≤ 0x2B →
     (decodeRequest kind body = .badLength ↔ bodyVerdict kind body = .badLength) ∧
     (decodeRequest kind body = .badField ↔ bodyVerdict kind body = .badField) ∧
     ((∃ r, decodeRequest kind body = .ok r) ↔ bodyVerdict kind body = .fits)) ∧
  (∀ (c : Instr) (tag : Byte) (r : Request) (s : State), c.request = some (tag, r) → Ready s →
     ∃ status content, Completes c s (fun t => Answered s t r.kind tag status content ∧
       (status ≠ .ok → status ≠ .clamped → RequestFrame [] s t)))

/-! ### Points (chapter 01) -/

/-- Stated (R6, R7): what a good read and what a failed read do to a point, whatever its source. The second speaks of points whose
failCount lies within a failLimit that is at least 1, which R3 and the field range of R2 give every point (PointLaw of
EveryStepKeepsPointsListsAndSites keeps the count within the limit). -/
def Obligations.AReadOfAPoint : Prop :=
  (∀ (p : Point) (v : Int) (clamped : Bool), let q := p.goodRead v clamped
     q.lastRead = some ⟨v, 0, clamped⟩ ∧ q.lastAttemptOk = true ∧ q.clampedFlag = clamped ∧ q.failCount = p.failCount ∧
       q.recoveryTimer = p.recoveryTimer ∧ q.cfg = p.cfg ∧
       (p.quality ≠ .failed → p.quality ≠ .subst → q.quality = .good ∧ q.value = some v ∧ q.age = 0) ∧
       (p.quality = .failed ∨ p.quality = .subst → q.quality = p.quality ∧ q.value = p.value ∧ q.age = p.age)) ∧
  (∀ p : Point, p.failCount ≤ p.cfg.failLimit → 1 ≤ p.cfg.failLimit → let q := p.failedRead
     q.lastAttemptOk = false ∧ q.value = p.value ∧ q.age = p.age ∧ q.lastRead = p.lastRead ∧ q.clampedFlag = p.clampedFlag ∧
       q.cfg = p.cfg ∧ q.failCount = min p.cfg.failLimit (p.failCount + 1) ∧
       (p.failCount = 0 → q.recoveryTimer = some (p.cfg.recoveryPeriod * 1000)) ∧
       (p.failCount ≠ 0 → q.recoveryTimer = p.recoveryTimer) ∧
       (p.quality = .failed ∨ p.quality = .subst → q.quality = p.quality) ∧
       (p.quality ≠ .failed → p.quality ≠ .subst →
         (q.failCount = p.cfg.failLimit → p.cfg.substitute.isSome = true → q.quality = .subst) ∧
         (q.failCount = p.cfg.failLimit → p.cfg.substitute = none → q.quality = .failed) ∧
         (q.failCount ≠ p.cfg.failLimit → p.quality = .good → q.quality = .held) ∧
         (q.failCount ≠ p.cfg.failLimit → p.quality ≠ .good → q.quality = p.quality)))

/-- Derived (R1 to R3, R209): every form of ConfigurePoint: the field ranges, the structural change in RUN, the forbidden binding,
and the fields stored: those that belong to the source are taken, all others keep what is stored, and source NONE keeps every other
field (the model's reading, log 22). A change of source, class, line or a scaling end brings the dynamic fields to their reset
values; any other keeps them but for what R3 says of a new failLimit. That the reply leaves the substitute out is the model's choice
(log 37). -/
def Obligations.ConfigurePointForms : Prop :=
  ∀ (tag : Byte) (q : PointFields) (s : State), Ready s →
    (96 ≤ q.point → Refuses (.configurePoint tag q) s 0x03 tag .badField []) ∧
    ∀ i : Fin 96, q.point = i.val → let old := s.points[i]
      (PointFields.check q old.cfg = none → Refuses (.configurePoint tag q) s 0x03 tag .badField []) ∧
      (PointFields.check q old.cfg = none ↔
        ¬ (q.source ≤ 4 ∧ q.cls ≤ 7 ∧ (1 ≤ q.staleLimit ∧ q.staleLimit ≤ 65535) ∧ (1 ≤ q.failLimit ∧ q.failLimit ≤ 15) ∧
          (1 ≤ q.recoveryPeriod ∧ q.recoveryPeriod ≤ 255) ∧
          (q.source = 1 → (-32768 ≤ q.rawLo ∧ q.rawLo ≤ 65535) ∧ (-32768 ≤ q.rawHi ∧ q.rawHi ≤ 65535) ∧ q.rawLo ≠ q.rawHi ∧
            (-2147483648 ≤ q.engLo ∧ q.engLo ≤ 2147483647) ∧ (-2147483648 ≤ q.engHi ∧ q.engHi ≤ 2147483647) ∧
            q.faultBand ≤ 65535) ∧
          (q.source = 2 → q.cls = 7 ∧ q.line < 24) ∧ (q.source = 3 → q.cls = 4))) ∧
      ∀ new, PointFields.check q old.cfg = some new →
        (new.source.code = q.source ∧ (q.source ≠ 0 → new.cls.code = q.cls ∧ new.staleLimit = q.staleLimit ∧
          new.failLimit = q.failLimit ∧ new.recoveryPeriod = q.recoveryPeriod) ∧
          (q.source = 1 → new.rawLo = q.rawLo ∧ new.rawHi = q.rawHi ∧ new.engLo = q.engLo ∧ new.engHi = q.engHi ∧
            new.faultBand = q.faultBand) ∧ (q.source = 2 → new.line.val = q.line) ∧
          (q.source = 0 → new = { old.cfg with source := .none }) ∧
          (q.source ≠ 1 → new.rawLo = old.cfg.rawLo ∧ new.rawHi = old.cfg.rawHi ∧ new.engLo = old.cfg.engLo ∧
            new.engHi = old.cfg.engHi ∧ new.faultBand = old.cfg.faultBand) ∧
          (q.source ≠ 2 → new.line = old.cfg.line) ∧ new.substitute = old.cfg.substitute) ∧
        (structuralPointChange old.cfg new = true ↔ old.cfg.source ≠ new.source ∨ old.cfg.cls ≠ new.cls ∨
          old.cfg.line ≠ new.line ∨ old.cfg.rawLo ≠ new.rawLo ∨ old.cfg.rawHi ≠ new.rawHi ∨ old.cfg.engLo ≠ new.engLo ∨
          old.cfg.engHi ≠ new.engHi) ∧
        (bindingForbidden s i old.cfg new = true ↔
          (new.source = .discrete ∧ ∃ j : Fin 96, j ≠ i ∧ s.points[j].cfg.source = .discrete ∧
            s.points[j].cfg.line = new.line) ∨
          (new.source = .speed ∧ ∃ j : Fin 96, j ≠ i ∧ s.points[j].cfg.source = .speed) ∨
          (((old.cfg.source = .field ∧ new.source ≠ .field) ∨
              (old.cfg.source = .none ∧ (new.source = .discrete ∨ new.source = .speed ∨ new.source = .supervisory))) ∧
            ∃ l : Fin 3, ∃ e : Entry, ((∃ a ∈ s.lines[l].active, a.entry = e) ∨ e ∈ s.lines[l].staged) ∧
              (e.kind = .readU16 ∨ e.kind = .readS16 ∨ e.kind = .readU8 ∨ e.kind = .readU16St) ∧ e.target = .point i)) ∧
        (s.phase = .run → structuralPointChange old.cfg new = true →
          Refuses (.configurePoint tag q) s 0x03 tag .state []) ∧
        ((s.phase = .run → structuralPointChange old.cfg new = false) → bindingForbidden s i old.cfg new = true →
          Refuses (.configurePoint tag q) s 0x03 tag .inUse []) ∧
        ((s.phase = .run → structuralPointChange old.cfg new = false) → bindingForbidden s i old.cfg new = false →
          let stored := if old.cfg.cls = new.cls then new else { new with substitute := none }
          Replies (.configurePoint tag q) s 0x03 tag .ok (Wire.putPointConfig stored.fields) [.points] (fun t =>
            (∀ j : Fin 96, j ≠ i → t.points[j] = s.points[j]) ∧ t.points[i].cfg = stored ∧
            (structuralPointChange old.cfg new = true →
              t.points[i] = ⟨stored, .unset, none, 65535, 0, none, false, false, none⟩) ∧
            (structuralPointChange old.cfg new = false →
              t.points[i].value = old.value ∧ t.points[i].age = old.age ∧ t.points[i].lastRead = old.lastRead ∧
              t.points[i].lastAttemptOk = old.lastAttemptOk ∧ t.points[i].clampedFlag = old.clampedFlag ∧
              t.points[i].recoveryTimer = old.recoveryTimer ∧
              (old.cfg.failLimit = new.failLimit →
                t.points[i].failCount = old.failCount ∧ t.points[i].quality = old.quality) ∧
              (old.cfg.failLimit ≠ new.failLimit →
                (old.quality.isFailed = true → t.points[i].failCount = new.failLimit ∧ t.points[i].quality = old.quality) ∧
                (old.quality.isFailed = false → new.failLimit ≤ old.failCount →
                  t.points[i].failCount = new.failLimit ∧
                    t.points[i].quality = if stored.substitute.isSome then .subst else .failed) ∧
                (old.quality.isFailed = false → old.failCount < new.failLimit →
                  t.points[i].failCount = old.failCount ∧ t.points[i].quality = old.quality)))))

/-- Derived (R11, R12): WritePoint delivers the clamped value to a SUPERVISORY point as a good read; SetSubstitute stores or removes
the clamped substitute of a configured point, which makes a FAILED point SUBST and back. -/
def Obligations.WritePointAndSetSubstitute : Prop :=
  ∀ (tag : Byte) (s : State), Ready s →
    (∀ (point : Nat) (value : Int),
      (96 ≤ point → Refuses (.writePoint tag point value) s 0x05 tag .badField []) ∧
      ∀ i : Fin 96, point = i.val → let p := s.points[i]; let v := p.cfg.cls.clamp value
        (p.cfg.source ≠ .supervisory → Refuses (.writePoint tag point value) s 0x05 tag .state []) ∧
        (p.cfg.source = .supervisory →
          Replies (.writePoint tag point value) s 0x05 tag (if v = value then .ok else .clamped) (Wire.putClass v) [.points]
            (fun t => (∀ j : Fin 96, j ≠ i → t.points[j] = s.points[j]) ∧
              t.points[i] = p.goodRead v (decide (v ≠ value))))) ∧
    (∀ (point : Nat) (substitute : Option Int),
      (96 ≤ point → Refuses (.setSubstitute tag point substitute) s 0x06 tag .badField []) ∧
      ∀ i : Fin 96, point = i.val → let p := s.points[i]; let v := substitute.map p.cfg.cls.clamp
        (p.cfg.source = .none → Refuses (.setSubstitute tag point substitute) s 0x06 tag .state []) ∧
        (p.cfg.source ≠ .none →
          Replies (.setSubstitute tag point substitute) s 0x06 tag (if v = substitute then .ok else .clamped)
            (Wire.putOption Wire.putClass v) [.points]
            (fun t => (∀ j : Fin 96, j ≠ i → t.points[j] = s.points[j]) ∧ t.points[i].cfg = { p.cfg with substitute := v } ∧
              t.points[i] = { p with cfg := { p.cfg with substitute := v }, quality := t.points[i].quality } ∧
              (p.quality = .failed → v.isSome = true → t.points[i].quality = .subst) ∧
              (p.quality = .subst → v = none → t.points[i].quality = .failed) ∧
              ((p.quality = .failed → v = none) → (p.quality = .subst → v.isSome = true) →
                t.points[i].quality = p.quality))))

/-- Stated (R4; the clamped flag is R5's): the verdict of a FIELD point on a raw value. Within the scaling span the value is the
rounded, clamped line through the two ends; outside it, the nearer end's value within faultBand, else BAD_RAW. -/
def Obligations.FieldScaling : Prop :=
  ∀ (c : PointConfig) (r : Int), c.rawLo ≠ c.rawHi →
    let lo := min c.rawLo c.rawHi; let hi := max c.rawLo c.rawHi; let span := c.rawHi - c.rawLo
    let num := c.engLo * span + (r - c.rawLo) * (c.engHi - c.engLo)
    (lo ≤ r → r ≤ hi → ∃ eng : Int, scaleRaw c r = some (c.cls.clamp eng, decide (c.cls.clamp eng ≠ eng)) ∧
      2 * |eng * span - num| ≤ |span| ∧ (2 * |eng * span - num| = |span| → |num| < |eng * span|)) ∧
    (r < lo ∨ hi < r → let near := if r < lo then lo else hi
      let eng := if near = c.rawLo then c.engLo else c.engHi
      (|r - near| ≤ c.faultBand → scaleRaw c r = some (c.cls.clamp eng, true)) ∧
      (c.faultBand < |r - near| → scaleRaw c r = none))

/-- Derived (R8 to R10, R13, R22): the timers of the point table. An age timer expiry ages every point by one and makes an overdue
GOOD or HELD point STALE; a DISCRETE point reads its line and ends with age 0 or 1 (log 10 leaves open which). A recovery expiry
counts down after a good attempt and recovers the point at 0. A second timer expiry counts every FAILING drive. That an expiry of a
stopped timer changes nothing is the model's deduction (log 9). -/
def Obligations.PointTableTimers : Prop :=
  ∀ s : State, Running s →
    (s.ageTimer = none → Idles .ageTimerExpiry s) ∧
    (s.ageTimer.isSome = true → Happens .ageTimerExpiry s [.points, .tableTimers] (fun t =>
      t.ageTimer = some 100 ∧ t.secondTimer = s.secondTimer ∧
      ∀ i : Fin 96, let p := s.points[i]; let q := t.points[i]
        q.cfg = p.cfg ∧ q.failCount = p.failCount ∧ q.recoveryTimer = p.recoveryTimer ∧
        (p.cfg.source ≠ .discrete →
          q.lastRead = p.lastRead.map (fun r => { r with age := satSucc 65535 r.age }) ∧ q.value = p.value ∧
          q.lastAttemptOk = p.lastAttemptOk ∧ q.clampedFlag = p.clampedFlag ∧
          (p.quality = .unset ∨ p.cfg.source = .none → q.age = p.age ∧ q.quality = p.quality) ∧
          (p.quality ≠ .unset → p.cfg.source ≠ .none → q.age = satSucc 65535 p.age ∧
            ((p.quality = .good ∨ p.quality = .held) ∧ p.cfg.staleLimit < q.age → q.quality = .stale) ∧
            (¬ ((p.quality = .good ∨ p.quality = .held) ∧ p.cfg.staleLimit < q.age) → q.quality = p.quality))) ∧
        (p.cfg.source = .discrete → q.lastAttemptOk = true ∧ q.clampedFlag = false ∧
          (q.lastRead = some ⟨s.discretes[p.cfg.line].level.toInt, 0, false⟩ ∨
            q.lastRead = some ⟨s.discretes[p.cfg.line].level.toInt, 1, false⟩) ∧
          (p.quality.isFailed = false → 1 ≤ p.cfg.staleLimit → q.quality = .good ∧
            q.value = some s.discretes[p.cfg.line].level.toInt ∧ (q.age = 0 ∨ q.age = 1))))) ∧
    (s.secondTimer = none → Idles .secondTimerExpiry s) ∧
    (s.secondTimer.isSome = true → Happens .secondTimerExpiry s [.drives, .tableTimers] (fun t =>
      t.secondTimer = some 1000 ∧ t.ageTimer = s.ageTimer ∧
      ∀ d : Fin 15, (s.drives[d].delivery ≠ .failing → t.drives[d] = s.drives[d]) ∧
        (s.drives[d].delivery = .failing →
          t.drives[d] = { s.drives[d] with failingFor := s.drives[d].failingFor.map (satSucc 65535) }))) ∧
    ∀ i : Fin 96, let p := s.points[i]
      (p.recoveryTimer = none → Idles (.recoveryTimerExpiry i) s) ∧
      (p.recoveryTimer.isSome = true → Happens (.recoveryTimerExpiry i) s [.points] (fun t =>
        (∀ j : Fin 96, j ≠ i → t.points[j] = s.points[j]) ∧
        (p.lastAttemptOk = false → t.points[i] = { p with recoveryTimer := some (p.cfg.recoveryPeriod * 1000) }) ∧
        (p.lastAttemptOk = true → 1 < p.failCount →
          t.points[i] = { p with failCount := p.failCount - 1, recoveryTimer := some (p.cfg.recoveryPeriod * 1000) }) ∧
        (p.lastAttemptOk = true → p.failCount = 1 → p.quality.isFailed = false →
          t.points[i] = { p with failCount := 0, recoveryTimer := none }) ∧
        (∀ r, p.lastAttemptOk = true → p.failCount = 1 → p.quality.isFailed = true → p.lastRead = some r →
          t.points[i] = { p with failCount := 0, recoveryTimer := none, value := some r.value, age := r.age,
                                 clampedFlag := r.clamped,
                                 quality := if p.cfg.staleLimit < r.age then .stale else .good })))

/-- Derived (R208, R149, R213, R214): the plant clock counts seconds, wraps, and takes the value SetClock gives, with its interval
restarted; a value of more than four bytes cannot stand on the wire and is refused BAD_FIELD (log 31). The expiry of the
supervision timer in ARMED enters FALLBACK, the hold timer in FALLBACK enters SAFE_STOP and delivers STOP to the wells and UNLOAD
to a LOADED turbine. That an expiry of a stopped timer, or of one of these two in a state in which it never runs, changes nothing is the
model's deduction (log 9). -/
def Obligations.PlantClockAndSupervisionTimers : Prop :=
  (∀ (tag : Byte) (clock : Nat) (s : State),
     (Ready s → clock ≤ 4294967295 →
       Replies (.setClock tag clock) s 0x02 tag .ok (Wire.putNat 4 clock) [.clock] (fun t =>
         t.clock = clock ∧ t.clockTimer = some 1000)) ∧
     (Ready s → 4294967295 < clock → Refuses (.setClock tag clock) s 0x02 tag .badField []) ∧
     (Running s → s.clockTimer = none → Idles .plantClockTick s) ∧
     (Running s → s.clockTimer.isSome = true → Happens .plantClockTick s [.clock] (fun t =>
       t.clockTimer = some 1000 ∧ t.clock = if s.clock < 4294967295 then s.clock + 1 else 0))) ∧
  (∀ s : State, Running s → 1 ≤ s.turbine.cfg.extractionMax → let v := s.supervision
     (v.supervisionTimer = none ∨ v.state ≠ .armed → Idles .supervisionTimerExpiry s) ∧
     (∀ hold speed, v.supervisionTimer.isSome = true → v.state = .armed → v.fallbackHold = some hold →
       v.fallbackSpeed = some speed →
       Happens .supervisionTimerExpiry s [.supervision, .constraints] (fun t =>
         t.supervision = { v with state := .fallback, supervisionTimer := none,
                                  holdTimer := if hold = 0 then none else some (hold * 1000) } ∧
         Posted s t fallbackSlot (some ⟨.pumpCeilAll, clamp 0 10000 speed, s.clock⟩) ∧
         t.conditions.live[(41 : Fin 42)] = true)) ∧
     (v.holdTimer = none ∨ v.state ≠ .fallback → Idles .holdTimerExpiry s) ∧
     (v.holdTimer.isSome = true → v.state = .fallback →
       Happens .holdTimerExpiry s [.supervision, .wells, .turbine, .drives] (fun t =>
         t.supervision = { v with state := .safeStop, holdTimer := none } ∧
         (∀ k : Fin 8, let w := s.wells[k]
           (w.state = .off ∨ w.state = .tripped ∨ w.state = .lockedOut ∨ w.state = .stopping →
             t.wells[k] = w ∧ t.drives[wellDrive k] = s.drives[wellDrive k]) ∧
           (w.state = .waitStart ∨ w.state = .suspended →
             t.wells[k] = { w with state := .off, waitReason := none,
                                   suspendCause := if w.state = .suspended then none else w.suspendCause } ∧
               t.drives[wellDrive k] = s.drives[wellDrive k]) ∧
           (w.state.energised = true →
             t.wells[k] = { w with
               state := if feedback s k then .stopping else .off, stopTo := if feedback s k then some .off else none,
               suspendCause := none, waitReason := none, offFor := some 0, floorTimer := 0, startTimer := none,
               stopTimer := if feedback s k then some (w.cfg.stopTimeout * 1000) else none } ∧
               t.drives[wellDrive k] = s.drives[wellDrive k].write 0)) ∧
         (∀ d : Fin 15, 8 ≤ d.val → d ≠ extractionDrive → t.drives[d] = s.drives[d]) ∧
         (s.turbine.state ≠ .loaded → t.turbine = s.turbine ∧ t.drives[extractionDrive] = s.drives[extractionDrive]) ∧
         (s.turbine.state = .loaded → let u := s.turbine
           t.turbine = { u with
             state := .unloading, openCommanded := false, grant := ⟨u.grant.request, 0, 0⟩,
             powerSetpoint := if u.mode = .header then u.powerView.getD u.cfg.minLoad else u.powerSetpoint,
             pendingLoop := if u.mode = .header then some .power else u.pendingLoop } ∧
           t.drives[extractionDrive] = s.drives[extractionDrive].write 0))))

/-! ### Drives and the loop law (sections 1.6 and 1.7) -/

/-- Derived (R20 to R22 as far as they speak of one drive, R24 to R26 for one run): what a change of value, a success, a failure and
a swap do to a drive record; and the loop law with its anti-windup, the held run and the starting run, each of which keeps the gains
it took. That a starting run leaves held at no is the model's choice (log 55). -/
def Obligations.DriveRecordAndLoopLaw : Prop :=
  (∀ d : Drive,
     (∀ v : Int, (v = d.value → d.write v = d) ∧
       (v ≠ d.value → (d.write v).value = v ∧ (d.write v).lastDelivered = d.lastDelivered ∧
         (d.write v).failingSince = d.failingSince ∧ (d.write v).failingFor = d.failingFor ∧
         (d.write v).delivery = if d.delivery = .delivered then .pending else d.delivery)) ∧
     (∀ sample : Int, d.success sample =
       ⟨d.value, some sample, if d.value = sample then .delivered else .pending, none, none⟩) ∧
     (∀ clock : Nat, (d.delivery = .failing → d.failure clock = d) ∧
       (d.delivery ≠ .failing → d.failure clock = ⟨d.value, d.lastDelivered, .failing, some clock, some 0⟩)) ∧
     (d.rebind false = ⟨d.value, d.lastDelivered, .unbound, none, none⟩) ∧
     (d.delivery = .unbound → d.rebind true = { d with delivery := .pending }) ∧
     (d.delivery ≠ .unbound → d.rebind true = d) ∧
     ∀ limit : Nat, d.lost limit = true ↔ d.delivery = .failing ∧ ∃ n, d.failingFor = some n ∧ limit < n) ∧
  (∀ (l : Loop) (setpoint measurement error before : Int) (kp ki : Nat),
     let p := Int.tdiv (error * kp) 1000; let step := Int.tdiv (error * ki) 1000
     (let r := l.run setpoint measurement error kp ki
      let raised := if (l.output = 10000 ∧ 0 < step) ∨ (l.output = 0 ∧ step < 0) then l.integral else l.integral + step
      r.integral = clamp 0 10000 raised ∧ r.output = clamp 0 10000 (p + r.integral) ∧ r.held = false ∧
        r.setpoint = setpoint ∧ r.measurement = measurement ∧ r.gains = some (kp, ki)) ∧
     (let r := l.runHeld setpoint measurement error kp ki
      r.setpoint = setpoint ∧ r.measurement = measurement ∧ r.gains = some (kp, ki) ∧
      (0 ≤ l.integral → l.integral ≤ 10000 → r.integral = l.integral) ∧ r.output = clamp 0 10000 (p + r.integral) ∧
        r.held = true) ∧
     (let r := l.start setpoint measurement error kp ki before
      r.setpoint = setpoint ∧ r.measurement = measurement ∧ r.gains = some (kp, ki) ∧ r.held = false ∧
      r.integral = clamp 0 10000 (before - p) ∧ r.output = clamp 0 10000 (p + r.integral) ∧
        (0 ≤ before → before ≤ 10000 → 0 ≤ before - p → before - p ≤ 10000 → r.output = before)))

/-! ### Instrument lines (chapter 02) -/

/-- Derived (R32, R33, R41): how a line keeps its books: the outcome and the record of a settled entry, the 16 most recent records,
and the end of a pass. -/
def Obligations.LineBookkeeping : Prop :=
  ∀ (l : Line) (clock position : Nat) (o : EntryOutcome), let m := l.settle clock position o
    (∀ n : Nat, m.active[n]? = (l.active[n]?).map (fun e => if n = position then { e with lastOutcome := some o } else e)) ∧
      (o = .ok ∨ o = .skipped ∨ o = .notReached → m.log = l.log ∧ m.logTotal = l.logTotal) ∧
      (o ≠ .ok → o ≠ .skipped → o ≠ .notReached →
        m.log = (l.log ++ [(⟨some position, o, clock⟩ : ResultRecord)]).drop (l.log.length - 15) ∧
          m.logTotal = if l.logTotal < 65535 then l.logTotal + 1 else 0) ∧
      m = { l with active := m.active, log := m.log, logTotal := m.logTotal } ∧
      ∀ (settled : Nat) (state : LineState), let c := l.closeOut settled state
        (∀ n : Nat, c.active[n]? = (l.active[n]?).map (fun e => if settled ≤ n then { e with lastOutcome := some .notReached } else e)) ∧
          c = { l with active := c.active, state := state, activity := .resting,
                       passCounter := if l.passCounter < 65535 then l.passCounter + 1 else 0 }

/-- Derived (R27, R28, R50): every form of ConfigureLine: the ranges, the drive whose owner is active, the fields stored, enabling and
disabling; and ResetLine in every state of the line. A pass, a recovery procedure or a recovery attempt that it abandons ends with the
release of both wires and a stop if the clock wire is high, without reading back the data wire; in any other state the wires stand
(`wires` is the model's own record, log 52). -/
def Obligations.LineRequests : Prop :=
  (∀ (tag : Byte) (q : LineFields) (s : State), Ready s →
     (3 ≤ q.line ∨ LineFields.check q = none → Refuses (.configureLine tag q) s 0x07 tag .badField []) ∧
     (LineFields.check q = none ↔ ¬ (q.enabled ≤ 1 ∧ q.rate ≤ 1 ∧ q.autoRecover ≤ 1 ∧ (1 ≤ q.clockHold ∧ q.clockHold ≤ 100) ∧
       (1 ≤ q.passInterval ∧ q.passInterval ≤ 1000))) ∧
     ∀ (i : Fin 3) (enabled : Bool) (cfg : LineConfig), q.line = i.val → LineFields.check q = some (enabled, cfg) →
       (s.lines[i].enabled = true ↔ s.lines[i].state ≠ .disabled) → let l := s.lines[i]
       (enabled = decide (q.enabled = 1) ∧ cfg = ⟨decide (q.rate = 1), q.clockHold, q.passInterval, decide (q.autoRecover = 1)⟩) ∧
       (enabled = false → l.state ≠ .disabled → (∃ d : Fin 15, l.names d = true ∧ ownerActive s d = true) →
         Refuses (.configureLine tag q) s 0x07 tag .inUse []) ∧
       ((enabled = false → l.state ≠ .disabled → ∀ d : Fin 15, l.names d = true → ownerActive s d = false) →
         Replies (.configureLine tag q) s 0x07 tag .ok (Wire.putLineConfig (cfg.fields enabled)) [.lines] (fun t =>
           (∀ j : Fin 3, j ≠ i → t.lines[j] = s.lines[j]) ∧
           (enabled = true → l.state = .disabled → t.lines[i] =
             { l with cfg := cfg, enabled := true, state := .idle, activity := .resting, passTimer := some (cfg.passInterval * 10) }) ∧
           (enabled = true → l.state ≠ .disabled → t.lines[i] = { l with cfg := cfg }) ∧
           (enabled = false → l.state = .disabled → t.lines[i] = { l with cfg := cfg }) ∧
           (enabled = false → l.state ≠ .disabled →
             t.lines[i] = { ({ l with cfg := cfg } : Line).abort s.clock .disabled with enabled := false, passTimer := none })))) ∧
  (∀ (clockHigh : Bool) (l : Line), ({ l with wires := [.release, .stopIfClockHigh] } : Line).wiresUnder clockHigh =
     if clockHigh then [.release, .stop false] else [.release]) ∧
  (∀ (tag : Byte) (line : Nat) (s : State), Ready s →
     (3 ≤ line → Refuses (.resetLine tag line) s 0x0D tag .badField []) ∧
     ∀ i : Fin 3, line = i.val → let l := s.lines[i]; let state : LineState := if l.state = .disabled then .disabled else .idle
       let abandons : Prop :=
         (l.state = .passing ∧ ((∃ n sample r, l.activity = .entry n sample r) ∨ ∃ n, l.activity = .closing n)) ∨
           (l.state = .recovering ∧ ∃ n b, l.activity = .procedure n b) ∨ (l.state = .faulted ∧ l.activity = .attempt)
       Replies (.resetLine tag line) s 0x0D tag .ok [] [.lines] (fun t =>
         (∀ j : Fin 3, j ≠ i → t.lines[j] = s.lines[j]) ∧
         t.lines[i] = { l with
           state := state, activity := .resting, pending := false, ready := false, faultCause := none, faultedSince := none,
           active := t.lines[i].active, passCounter := t.lines[i].passCounter, log := t.lines[i].log,
           logTotal := t.lines[i].logTotal, wires := t.lines[i].wires } ∧
         (abandons → t.lines[i].wires = [.release, .stopIfClockHigh]) ∧ (¬ abandons → t.lines[i].wires = l.wires) ∧
         (∀ n sample r, l.state = .passing → l.activity = .entry n sample r →
           t.lines[i].log = (l.log ++ [(⟨some n, .aborted, s.clock⟩ : ResultRecord)]).drop (l.log.length - 15) ∧
           t.lines[i].logTotal = wrapSucc 65535 l.logTotal ∧ t.lines[i].passCounter = wrapSucc 65535 l.passCounter ∧
           ∀ j : Nat, t.lines[i].active[j]? = (l.active[j]?).map (fun e =>
             if j < n then e else { e with lastOutcome := some (if j = n then .aborted else .notReached) })) ∧
         (∀ n, (l.state = .passing ∧ l.activity = .closing n) ∨ (l.state = .recovering ∧ ∃ b, l.activity = .procedure n b) →
           t.lines[i].log = l.log ∧ t.lines[i].logTotal = l.logTotal ∧
           t.lines[i].passCounter = wrapSucc 65535 l.passCounter ∧ ∀ j : Nat, t.lines[i].active[j]? = (l.active[j]?).map (fun e =>
             if j < n then e else { e with lastOutcome := some .notReached })) ∧
         ((∀ n sample r, ¬ (l.state = .passing ∧ l.activity = .entry n sample r)) →
           (∀ n, ¬ ((l.state = .passing ∧ l.activity = .closing n) ∨
             (l.state = .recovering ∧ ∃ b, l.activity = .procedure n b))) →
           t.lines[i].log = l.log ∧ t.lines[i].logTotal = l.logTotal ∧ t.lines[i].passCounter = l.passCounter ∧
           t.lines[i].active = l.active)))

/-- Derived (R30, R48): the checks of an entry, by the sources of the points, and what the entry then holds; and the schedule check,
which passes exactly when its four requirements hold, points and drives alike. That requirement (3) takes the READ kinds as one
kind is the model's reading (log 17). -/
def Obligations.EntryAndScheduleChecks : Prop :=
  (∀ (q : EntryFields) (source : Fin 96 → Source),
     (EntryFields.check q source = none ↔
       ¬ ((8 ≤ q.station ∧ q.station ≤ 119) ∧ (1 ≤ q.every ∧ q.every ≤ 16) ∧ q.phase < q.every ∧ q.kind ≤ 5 ∧ q.errorPolicy ≤ 1 ∧
         (q.kind ≤ 4 → ∃ item ≤ 255, q.item = some item) ∧
         (q.kind = 5 → q.target = none) ∧ (q.kind = 4 → ∃ d : Fin 15, q.target = some d.val) ∧
         (q.kind ≤ 3 → q.target = none ∨
           ∃ p : Fin 96, q.target = some p.val ∧ (source p = .none ∨ source p = .field)))) ∧
     ∀ e, EntryFields.check q source = some e →
       e.station = q.station ∧ e.kind.code = q.kind ∧ e.item = (if q.kind = 5 then none else q.item) ∧
         e.target.number = q.target ∧ e.stopPolicy = decide (q.errorPolicy = 0) ∧ e.every = q.every ∧ e.phase = q.phase) ∧
  (∀ (s : State) (i : Fin 3) (c : List Entry),
     scheduleCheck s i c = none ↔
       (∀ p : Fin 96, c.countP (fun e => e.kind.isRead && decide (e.target = .point p)) ≤ 1) ∧
       (∀ d : Fin 15, c.countP (fun e => decide (e.kind = .writeDrive) && decide (e.target = .drive d)) ≤ 1) ∧
       (∀ (j : Fin 3) (e f : Entry), j ≠ i → e ∈ c →
         (∃ g ∈ s.lines[j].active, g.entry = f) ∨ (s.lines[j].ready = true ∧ f ∈ s.lines[j].staged) →
         (∀ p, e.kind.isRead = true → e.target = .point p → ¬ (f.kind.isRead = true ∧ f.target = .point p)) ∧
         (∀ d, e.kind = .writeDrive → e.target = .drive d → ¬ (f.kind = .writeDrive ∧ f.target = .drive d))) ∧
       ∀ (d : Fin 15) (g : ActiveEntry), g ∈ s.lines[i].active → g.entry.kind = .writeDrive → g.entry.target = .drive d →
         ownerActive s d = true → ∃ e ∈ c, e.kind = .writeDrive ∧ e.target = .drive d)

/-- Derived (R47, R48): every form of EditEntry, InsertEntry, RemoveEntry and ClearStaged. `edited` is the list the edit makes; while
ready is set it is put to the schedule check first. How the refusal names the offending point or drive is the model's coding
(log 18). -/
def Obligations.ScheduleEdits : Prop :=
  ∀ (tag : Byte) (line position : Nat) (q : EntryFields) (s : State), Ready s →
    (3 ≤ line → Refuses (.editEntry tag line position q) s 0x08 tag .badField [] ∧
      Refuses (.insertEntry tag line position q) s 0x09 tag .badField [] ∧
      Refuses (.removeEntry tag line position) s 0x0A tag .badField [] ∧
      Refuses (.clearStaged tag line) s 0x0B tag .badField []) ∧
    ∀ i : Fin 3, line = i.val → let l := s.lines[i]; let check := EntryFields.check q (fun p => s.points[p].cfg.source)
      let Edits (c : Instr) (kind : Nat) (edited : List Entry) (content : List Byte) : Prop :=
        (∀ o, l.ready = true → scheduleCheck s i edited = some o → Refuses c s kind tag .inUse (putOffender o)) ∧
        ((l.ready = true → scheduleCheck s i edited = none) →
          Replies c s kind tag .ok content [.lines] (fun t =>
            (∀ j : Fin 3, j ≠ i → t.lines[j] = s.lines[j]) ∧ t.lines[i] = { l with staged := edited }))
      (check = none ∨ l.staged.length ≤ position → Refuses (.editEntry tag line position q) s 0x08 tag .badField []) ∧
      (∀ e, check = some e → position < l.staged.length →
        Edits (.editEntry tag line position q) 0x08 (l.staged.set position e)
          (Wire.putByte l.staged.length ++ Wire.putEntry e.fields)) ∧
      (check = none ∨ l.staged.length < position → Refuses (.insertEntry tag line position q) s 0x09 tag .badField []) ∧
      (∀ e, check = some e → position ≤ l.staged.length → 24 ≤ l.staged.length →
        Refuses (.insertEntry tag line position q) s 0x09 tag .inUse []) ∧
      (∀ e, check = some e → position ≤ l.staged.length → l.staged.length < 24 →
        Edits (.insertEntry tag line position q) 0x09 (l.staged.take position ++ e :: l.staged.drop position)
          (Wire.putByte (l.staged.length + 1) ++ Wire.putEntry e.fields)) ∧
      (l.staged.length ≤ position → Refuses (.removeEntry tag line position) s 0x0A tag .badField []) ∧
      (position < l.staged.length →
        Edits (.removeEntry tag line position) 0x0A (l.staged.eraseIdx position) (Wire.putByte (l.staged.length - 1))) ∧
      Edits (.clearStaged tag line) 0x0B [] (Wire.putByte 0)

/-- Derived (R20, R31, R49): every form of SwapSchedule. A DISABLED line swaps at once, and the drives take the delivery states the
active schedules give them; any other is marked ready. How the refusal names the offending point or drive is the model's coding
(log 18), and so is the byte of the reply, 0 swapped and 1 marked ready, 1 also where the line was ready already (log 38). -/
def Obligations.SwapScheduleForms : Prop :=
  ∀ (tag : Byte) (line : Nat) (s : State), Ready s →
    (3 ≤ line → Refuses (.swapSchedule tag line) s 0x0C tag .badField []) ∧
    ∀ i : Fin 3, line = i.val → let l := s.lines[i]
      (l.ready = true → Replies (.swapSchedule tag line) s 0x0C tag .ok [1] [] (fun _ => True)) ∧
      (∀ o, l.ready = false → scheduleCheck s i l.staged = some o →
        Refuses (.swapSchedule tag line) s 0x0C tag .inUse (putOffender o)) ∧
      (l.ready = false → scheduleCheck s i l.staged = none → l.state ≠ .disabled →
        Replies (.swapSchedule tag line) s 0x0C tag .ok [1] [.lines] (fun t =>
          (∀ j : Fin 3, j ≠ i → t.lines[j] = s.lines[j]) ∧ t.lines[i] = { l with ready := true })) ∧
      (l.ready = false → scheduleCheck s i l.staged = none → l.state = .disabled →
        Replies (.swapSchedule tag line) s 0x0C tag .ok [0] [.lines, .drives] (fun t =>
          (∀ j : Fin 3, j ≠ i → t.lines[j] = s.lines[j]) ∧
          t.lines[i] = { l with active := l.staged.map (fun e => ⟨e, none⟩) } ∧
          ∀ d : Fin 15, t.drives[d].value = s.drives[d].value ∧ t.drives[d].lastDelivered = s.drives[d].lastDelivered ∧
            (driveBound t d = true → s.drives[d].delivery = .unbound → t.drives[d].delivery = .pending) ∧
            (driveBound t d = true → s.drives[d].delivery ≠ .unbound → t.drives[d] = s.drives[d]) ∧
            (driveBound t d = false → t.drives[d].delivery = .unbound ∧ t.drives[d].failingSince = none ∧
              t.drives[d].failingFor = none)))

/-- Derived (R29, R31, R45): what a pass timer expiry does in each state of the line. That one of a stopped
timer changes nothing is the model's deduction (log 9). -/
def Obligations.PassTimerExpiries : Prop :=
  ∀ (i : Fin 3) (s : State), Running s → let l := s.lines[i]; let again : Line := { l with passTimer := some (l.cfg.passInterval * 10) }
    (l.passTimer = none → Idles (.passTimerExpiry i) s) ∧
    (l.passTimer.isSome = true →
      (l.state = .disabled ∨ l.state = .passing ∨ l.state = .recovering ∨ l.state = .faulted →
        Happens (.passTimerExpiry i) s [.lines] (fun t =>
          (∀ j : Fin 3, j ≠ i → t.lines[j] = s.lines[j]) ∧
          (l.state = .disabled → t.lines[i] = again) ∧
          (l.state = .passing ∨ l.state = .recovering →
            (l.pending = false → t.lines[i] = { again with pending := true }) ∧
            (l.pending = true → t.lines[i] = { again with overrun := satSucc 65535 l.overrun })) ∧
          (l.state = .faulted →
            (l.activity = .attempt → t.lines[i] = { again with overrun := satSucc 65535 l.overrun }) ∧
            (l.activity ≠ .attempt → t.lines[i] = { again with activity := .attempt, wireFast := l.cfg.fast })))) ∧
      (l.state = .idle → l.pending = false →
        Happens (.passTimerExpiry i) s [.lines, .drives] (fun t =>
          LineAndDrives s t i (fun _ d => d) ∧ PassStarts t again t.lines[i])))

/-- Derived (R33, R34, R38, R40): the end of a READ entry. What the line does on its wires: address byte with direction 0, item,
repeated start, address byte with direction 1, then its bytes with ACK after each but the last and NAK after the last, ending at
the first byte the station refuses (beyond the answers listed it gives NAK and bytes of ones, log 36); `wires` keeps it with the stop
of a pass that ends there (the model's own record, log 52). The entry's outcome, what its point receives, and how the line goes on.
That the end changes nothing where the line performs no such entry is the model's deduction (log 9). -/
def Obligations.ReadEntryEnds : Prop :=
  ∀ (i : Fin 3) (station : StationAnswers) (closing : ClosingStop) (s : State), Running s → let l := s.lines[i]
    ((∀ position e sample, l.performing = some (position, e, sample) → e.kind.isRead = false) →
      Idles (.readEntryEnd i station closing) s) ∧
    ∀ position e sample, l.performing = some (position, e, sample) → e.kind.isRead = true →
      let ack (n : Nat) : Bool := station.acknowledges.getD n false
      let byte (n : Nat) : Byte := station.bytes.getD n 0xFF
      let refusal : Option EntryOutcome :=
        if ack 0 = false then some .addrNak else if ack 1 = false then some .dataNak
        else if ack 2 = false then some .addrNak else none
      let faulty : Prop := e.kind = .readU16St ∧ byte 2 ≠ 0
      let opening : List WireAct :=
        [if l.beganRepeated then .repeatedStart else .start, .address (BitVec.ofNat 8 (2 * e.station))]
      let item : List WireAct := [.data (BitVec.ofNat 8 (e.item.getD 0))]
      let turn : List WireAct := [.repeatedStart, .address (BitVec.ofNat 8 (2 * e.station + 1))]
      let bytes : Nat := if e.kind = .readU8 then 1 else if e.kind = .readU16St then 3 else 2
      let acts : List WireAct :=
        if ack 0 = false then opening else if ack 1 = false then opening ++ item
        else if ack 2 = false then opening ++ item ++ turn
        else opening ++ item ++ turn ++ List.replicate (bytes - 1) (.receive true) ++ [.receive false]
      (l.transaction e sample station).done = acts ∧
      (refusal = none → (l.transaction e sample station).received = (List.range bytes).map byte) ∧
      Happens (.readEntryEnd i station closing) s [.lines, .drives, .points] (fun t =>
        LineAndDrives s t i (fun _ d => d) ∧
        (∀ p : Fin 96, e.target ≠ .point p ∨ s.points[p].cfg.source ≠ .field → t.points[p] = s.points[p]) ∧
        (∀ o, refusal = some o → EntryEnded s t i position e o acts closing) ∧
        (refusal = none → faulty → EntryEnded s t i position e .stationFault acts closing) ∧
        (refusal = none → ¬ faulty → (∀ p : Fin 96, e.target = .point p → s.points[p].cfg.source ≠ .field) →
          EntryEnded s t i position e .ok acts closing) ∧
        ∀ p : Fin 96, e.target = .point p → s.points[p].cfg.source = .field →
          (refusal ≠ none ∨ faulty → t.points[p] = s.points[p].failedRead) ∧
          (refusal = none → ¬ faulty →
            ∀ raw : Int, raw = (if e.kind = .readU8 then ((byte 0).toNat : Int)
                else if e.kind = .readS16 then (byte 0 ++ byte 1).toInt
                else 256 * ((byte 0).toNat : Int) + (byte 1).toNat) →
              (∀ v clamped, scaleRaw s.points[p].cfg raw = some (v, clamped) →
                t.points[p] = s.points[p].goodRead v clamped ∧ EntryEnded s t i position e .ok acts closing) ∧
              (scaleRaw s.points[p].cfg raw = none →
                t.points[p] = s.points[p].failedRead ∧ EntryEnded s t i position e .badRaw acts closing)))

/-- Derived (R21, R33, R35, R39, R40): the end of a WRITE_DRIVE entry and of a PROBE. What the line does on its wires: address byte
with direction 0, then for a WRITE_DRIVE entry the item and the sample, high byte first, ending at the first byte the station
refuses (beyond the answers listed it gives NAK, log 36); a PROBE sends the address byte alone. `wires` keeps it, with the stop of a
pass that ends there (log 52). That the end changes nothing where the line performs no such entry is the model's deduction (log 9). -/
def Obligations.WriteAndProbeEntryEnds : Prop :=
  ∀ (i : Fin 3) (station : StationAnswers) (closing : ClosingStop) (s : State), Running s → let l := s.lines[i]
    let ack (n : Nat) : Bool := station.acknowledges.getD n false
    let opening (e : Entry) : List WireAct :=
      [if l.beganRepeated then .repeatedStart else .start, .address (BitVec.ofNat 8 (2 * e.station))]
    ((∀ position e sample, l.performing = some (position, e, sample) → e.kind ≠ .writeDrive) →
      Idles (.writeDriveEntryEnd i station closing) s) ∧
    (∀ position e d v, l.performing = some (position, e, some v) → e.kind = .writeDrive → e.target = .drive d →
      let o : EntryOutcome :=
        if ack 0 = false then .addrNak else if ack 1 = true ∧ ack 2 = true ∧ ack 3 = true then .ok else .dataNak
      let item : List WireAct := [.data (BitVec.ofNat 8 (e.item.getD 0))]
      let high : List WireAct := [.data (BitVec.ofInt 8 (v / 256))]
      let acts : List WireAct :=
        if ack 0 = false then opening e else if ack 1 = false then opening e ++ item
        else if ack 2 = false then opening e ++ item ++ high
        else opening e ++ item ++ high ++ [.data (BitVec.ofInt 8 v)]
      (l.transaction e (some v) station).done = acts ∧
      Happens (.writeDriveEntryEnd i station closing) s [.lines, .drives] (fun t =>
        EntryEnded s t i position e o acts closing ∧
        LineAndDrives s t i (fun x y => if x = d then (if o = .ok then y.success v else y.failure s.clock) else y))) ∧
    ((∀ position e sample, l.performing = some (position, e, sample) → e.kind ≠ .probe) →
      Idles (.probeEnd i station closing) s) ∧
    ∀ position e sample, l.performing = some (position, e, sample) → e.kind = .probe →
      (l.transaction e sample station).done = opening e ∧
      Happens (.probeEnd i station closing) s [.lines, .drives] (fun t =>
        EntryEnded s t i position e (if ack 0 then .ok else .addrNak) (opening e) closing ∧ LineAndDrives s t i (fun _ d => d))

/-- Derived (R36, R37, R42, R44, R45): a held clock wire ends the pass; a held data wire brings the recovery procedure or, without
autoRecover, FAULTED. Each gives the held entry's target a failed read or a failure; at the closing stop the record names no
position. After a held clock the line releases its wires and, where the clock wire rises within clockHold, sends a stop without reading
back the data wire (R42); a line that enters FAULTED releases them (R45). The record of this in `wires` is the model's (log 52), and that a
held wire where the line performs no transaction changes nothing its deduction (log 9). -/
def Obligations.HeldWires : Prop :=
  (∀ (clockRises : Bool) (l : Line), ({ l with wires := [.release, .stopIfClockRises] } : Line).wiresUnder clockRises =
    if clockRises then [.release, .stop false] else [.release]) ∧
  ∀ (i : Fin 3) (s : State), Running s → let l := s.lines[i]
    let released : List WireAct := [.release, .stopIfClockRises]
    let Failed (e : Entry) (t : State) : Prop :=
      ∀ p : Fin 96, t.points[p] =
        if e.kind.isRead = true ∧ e.target = .point p ∧ s.points[p].cfg.source = .field then s.points[p].failedRead
        else s.points[p]
    let failing (e : Entry) (x : Fin 15) (y : Drive) : Drive :=
      if e.kind = .writeDrive ∧ e.target = .drive x then y.failure s.clock else y
    let Recovers (t : State) (u : Line) (n : Nat) (atStop : Bool) : Prop :=
      if l.cfg.autoRecover then
        t.lines[i] = { u with state := .recovering, activity := .procedure n atStop, wireFast := l.cfg.fast }
      else t.lines[i] = { u.closeOut n .faulted with pending := false, faultCause := some .heldData,
                                                      faultedSince := some s.clock, attemptCount := 0, wires := [.release] }
    (∀ position e sample, l.performing = some (position, e, sample) →
      Happens (.heldClock i) s [.lines, .drives, .points] (fun t => Failed e t ∧ LineAndDrives s t i (failing e) ∧
        PassEnds t { l.settle s.clock position .heldClock with wires := released } (position + 1) t.lines[i]) ∧
      Happens (.heldDataWire i) s [.lines, .drives, .points] (fun t => Failed e t ∧ LineAndDrives s t i (failing e) ∧
        Recovers t (l.settle s.clock position .heldData) (position + 1) false)) ∧
    (∀ n, l.state = .passing → l.activity = .closing n →
      Happens (.heldClock i) s [.lines, .drives] (fun t => LineAndDrives s t i (fun _ d => d) ∧
        PassEnds t { l.record ⟨none, .heldClock, s.clock⟩ with wires := released } n t.lines[i]) ∧
      Happens (.heldDataWire i) s [.lines, .drives] (fun t => LineAndDrives s t i (fun _ d => d) ∧
        Recovers t (l.record ⟨none, .heldData, s.clock⟩) n true)) ∧
    (l.performing = none → (∀ n, l.state = .passing → l.activity ≠ .closing n) →
      Idles (.heldClock i) s ∧ Idles (.heldDataWire i) s)

/-- Derived (R43 to R45): the recovery procedure, reading w n being the wires as found at the line's n-th release (both high beyond
those listed): the release, at most nine pulses while the data wire reads low, and the stop, with the result the wires give it (that
a held clock in its stop counts as one at a pulse: log 53). How a recovery ends: a freed procedure ends the pass at the closing stop
or under STOP and goes on under CONTINUE (without a second stop where no further entry is selected: log 48); a failed one leaves the
line FAULTED with its cause. A freed attempt starts a pass; a failed one counts, and gives every target of the active schedule a
failed read or a failure. The line's record of its wires is then what that run of the procedure did (log 52). That the end of a
procedure or an attempt that is not under way changes nothing is the model's deduction (log 9). -/
def Obligations.RecoveriesEnd : Prop :=
  (∀ wires : List WireReading,
    let w (n : Nat) : WireReading := wires.getD n ⟨true, true⟩
    let low (n : Nat) : Prop := (w n).clockRises = true ∧ (w n).dataHigh = false
    let high (n : Nat) : Prop := (w n).clockRises = true ∧ (w n).dataHigh = true
    let ends (pulses : Nat) (stops : List WireAct) (r : RecoveryResult) : Prop :=
      recoveryProcedure wires = ⟨.release :: List.replicate pulses .pulse ++ stops, r⟩
    let stopAt (pulses n : Nat) : Prop :=
      ends pulses [.stop true] (if (w n).clockRises = false then .heldClock else if (w n).dataHigh then .freed else .heldData)
    (∀ n : Fin 10, (∀ m : Fin 10, m < n → low m) →
      ((w n).clockRises = false → ends n [] .heldClock) ∧ (high n → stopAt n (n.val + 1))) ∧
    ((∀ m : Fin 10, low m) → ends 9 [] .heldData)) ∧
  ∀ (i : Fin 3) (wires : List WireReading) (s : State), Running s → let l := s.lines[i]
    let result := (recoveryProcedure wires).result
    let ran : Line := { l with wires := (recoveryProcedure wires).done }
    (∀ n atStop, l.state = .recovering → l.activity = .procedure n atStop →
      Happens (.recoveryProcedureEnd i wires) s [.lines, .drives] (fun t => LineAndDrives s t i (fun _ d => d) ∧
        (∀ cause : FaultCause, (result = .heldData ∧ cause = .heldData) ∨ (result = .heldClock ∧ cause = .heldClock) →
          t.lines[i] = { ran.closeOut n .faulted with pending := false, faultCause := some cause,
                                                       faultedSince := some s.clock, attemptCount := 0 }) ∧
        (result = .freed →
          let stops := atStop || (l.active[n - 1]?).any (fun e => e.entry.stopPolicy)
          (stops = true → PassEnds t ran n t.lines[i]) ∧
          (stops = false →
            (∀ k, l.nextSelected n = some k → t.lines[i] =
                (ran.mark n k .skipped).begin k ((l.active[k]?).bind (fun x => sampleFor t x.entry)) false) ∧
            (l.nextSelected n = none →
              PassEnds t (ran.mark n l.active.length .skipped) l.active.length t.lines[i]))))) ∧
    (l.state ≠ .recovering → Idles (.recoveryProcedureEnd i wires) s) ∧
    (l.state = .faulted → l.activity = .attempt → l.pending = false →
      (result = .freed →
        Happens (.recoveryAttemptEnd i wires) s [.lines, .drives] (fun t => LineAndDrives s t i (fun _ d => d) ∧
          PassStarts t { ran with state := .idle, activity := .resting, faultCause := none, faultedSince := none } t.lines[i])) ∧
      (∀ cause : FaultCause, (result = .heldData ∧ cause = .heldData) ∨ (result = .heldClock ∧ cause = .heldClock) →
        (∀ p : Fin 96, l.active.countP (fun e => e.entry.reads p) ≤ 1) →
        Happens (.recoveryAttemptEnd i wires) s [.lines, .drives, .points] (fun t =>
          (∀ j : Fin 3, j ≠ i → t.lines[j] = s.lines[j]) ∧
          t.lines[i] = { ran with activity := .resting, faultCause := some cause, attemptCount := satSucc 65535 l.attemptCount } ∧
          (∀ p : Fin 96, t.points[p] =
            if (∃ e ∈ l.active, e.entry.reads p = true) ∧ s.points[p].cfg.source = .field then s.points[p].failedRead
            else s.points[p]) ∧
          ∀ d : Fin 15, t.drives[d] = if l.names d then s.drives[d].failure s.clock else s.drives[d]))) ∧
    (l.state ≠ .faulted ∨ l.activity ≠ .attempt → Idles (.recoveryAttemptEnd i wires) s)

/-! ### Discrete lines and the speed unit (chapter 03) -/

/-- Derived (R53 to R55, R57): every form of ConfigureDiscrete: the ranges, the role in use, the fields stored, what a change of
polarity, of direction and of the edge settings does, the mismatch judged afresh where none stood before (log 32, 39 for the cases
the spec leaves open), and the owner's reaction where the line's role level changes (a load rejection takes syncSpeed and the gains as
configured at the event: the model's choice, log 59). That pendingLoop stands through a load rejection and through the opening of the
breaker in UNLOADING, which R148 and R150 do not say, is the model's deduction (log 27). -/
def Obligations.ConfigureDiscreteForms : Prop :=
  ∀ (tag : Byte) (q : DiscreteFields) (s : State), Ready s → Settled s →
    (DiscreteFields.check q = none → Refuses (.configureDiscrete tag q) s 0x0F tag .badField []) ∧
    (DiscreteFields.check q = none ↔ ¬ (q.line ≤ 23 ∧ q.select ≤ 1 ∧ (q.select = 1 → q.direction ≤ 1) ∧ q.polarity ≤ 1 ∧ q.sense ≤ 1 ∧
      q.edgeKind ≤ 2 ∧ q.debounce ≤ 255 ∧ (1 ≤ q.mismatchTime ∧ q.mismatchTime ≤ 255) ∧ (q.select = 0 → q.line ≤ 20) ∧
      (q.sense = 1 → q.select = 1 ∧ q.direction = 0))) ∧
    ∀ (i : Fin 24) (new : DiscreteConfig), DiscreteFields.check q = some (i, new) → let l := s.discretes[i]
      (i.val = q.line ∧ new.role = decide (q.select = 0) ∧ new.inverted = decide (q.polarity = 1) ∧
        new.edge = decide (q.sense = 1) ∧ new.edgeKind.code = q.edgeKind ∧ new.debounce = q.debounce ∧
        new.mismatchTime = q.mismatchTime ∧
        new.out = if q.select = 0 then roleIsOutput i else decide (q.direction = 1)) ∧
      (roleInUse s i = true ↔
        (let wellNeeds (k : Fin 8) : Prop :=
           ¬ (s.wells[k].state = .off ∨ s.wells[k].state = .lockedOut ∨ s.wells[k].state = .tripped)
         let turbineNeeds : Prop := ¬ (s.turbine.state = .stopped ∨ s.turbine.state = .tripped)
         ((i.val < 8 ∨ i.val = 16 ∨ i.val = 17 ∨ i.val = 20) ∧ l.roleCommand = true) ∨
           (∃ k : Fin 8, (i.val = k.val ∨ i.val = k.val + 8) ∧ wellNeeds k) ∨
           ((i.val = 16 ∨ i.val = 17 ∨ i.val = 18) ∧ turbineNeeds) ∨
           (i.val = 19 ∧ ((l.cfg.role = true ∧ l.cfg.out = false ∧ l.level = true) ∨ (∃ k : Fin 8, wellNeeds k) ∨
             turbineNeeds)))) ∧
      (l.cfg.role = true → new.role = false → roleInUse s i = true →
        Refuses (.configureDiscrete tag q) s 0x0F tag .inUse []) ∧
      ((l.cfg.role = true → new.role = false → roleInUse s i = false) →
        Replies (.configureDiscrete tag q) s 0x0F tag .ok (Wire.putDiscreteConfig new.fields)
          [.discretes, .points, .wells, .turbine, .drives, .constraints] (fun t => let m := t.discretes[i]
          (∀ j : Fin 24, j ≠ i → LineSettled j s.discretes[j] t.discretes[j]) ∧
          m.cfg = new ∧ m.pin = l.pin ∧ (i ≠ alarmLine → roleIsOutput i = true → m.roleCommand = l.roleCommand) ∧
          (new.role = true → new.out = true → m.commanded = m.roleCommand) ∧
          (¬ (new.role = true ∧ new.out = true) → m.commanded = (decide (l.cfg.out = new.out) && l.commanded)) ∧
          (l.cfg.inverted = new.inverted →
            m.padLevel = l.padLevel ∧ m.level = l.level ∧ m.debounceTimer = l.debounceTimer) ∧
          (l.cfg.inverted ≠ new.inverted →
            m.padLevel = (l.pin != new.inverted) ∧ m.level = (l.pin != new.inverted) ∧ m.debounceTimer = none) ∧
          (l.cfg.role ≠ new.role ∨ l.cfg.out ≠ new.out ∨ l.cfg.edge ≠ new.edge ∨ l.cfg.edgeKind ≠ new.edgeKind →
            m.edgeSeen = false ∧ m.edgeReported = false ∧ m.edgeCount = 0) ∧
          (l.cfg.role = new.role → l.cfg.out = new.out → l.cfg.edge = new.edge → l.cfg.edgeKind = new.edgeKind →
            m.edgeSeen = l.edgeSeen ∧ m.edgeReported = l.edgeReported ∧ m.edgeCount = l.edgeCount) ∧
          (new.out = false ∨ m.level = m.commanded → m.mismatch = false ∧ m.mismatchTimer = none) ∧
          (new.out = true → m.level ≠ m.commanded → l.mismatch = false → l.mismatchTimer = none →
            m.mismatch = false ∧ m.mismatchTimer = some (new.mismatchTime * 10)) ∧
          (m.level = l.level → t.points = s.points) ∧ (m.level ≠ l.level → PointReads s t i m.level) ∧
          (m.roleLevel = l.roleLevel →
            t.wells = s.wells ∧ t.turbine = s.turbine ∧ t.drives = s.drives ∧ Same .constraints s t) ∧
          (m.roleLevel ≠ l.roleLevel → WellsReact s t i m.roleLevel ∧ TurbineReacts s t i m.roleLevel)))

/-- Derived (R58, R59, R62, R63): every form of SetDiscrete, ReadDiscrete and ClearEdges. That SetDiscrete leaves pin, padLevel and
level as they were until a PAD_CHANGE is the model's choice (log 7), and the layout of the reply of ReadDiscrete its reading
(log 19). -/
def Obligations.DiscreteRequests : Prop :=
  ∀ (tag : Byte) (s : State), Ready s →
    (∀ line level : Nat,
      (24 ≤ line ∨ 2 ≤ level → Refuses (.setDiscrete tag line level) s 0x10 tag .badField []) ∧
      ∀ (i : Fin 24) (v : Bool), line = i.val → level = v.toNat → let l := s.discretes[i]
        (l.cfg.role = true ∨ l.cfg.out = false ∨ (v = true ∧ (i.val < 8 ∨ i.val = 16)) →
          Refuses (.setDiscrete tag line level) s 0x10 tag .state []) ∧
        (l.cfg.role = false → l.cfg.out = true → ¬ (v = true ∧ (i.val < 8 ∨ i.val = 16)) →
          Replies (.setDiscrete tag line level) s 0x10 tag .ok [BitVec.ofNat 8 level] [.discretes] (fun t =>
            let m := t.discretes[i]
            (∀ j : Fin 24, j ≠ i → LineSettled j s.discretes[j] t.discretes[j]) ∧ m.commanded = v ∧ m.cfg = l.cfg ∧
            m.pin = l.pin ∧ m.padLevel = l.padLevel ∧ m.level = l.level ∧ m.debounceTimer = l.debounceTimer ∧
            m.edgeSeen = l.edgeSeen ∧ m.edgeReported = l.edgeReported ∧ m.edgeCount = l.edgeCount ∧
            padDriven t i = some (v != l.cfg.inverted) ∧
            (v = l.commanded → m.mismatch = l.mismatch ∧ m.mismatchTimer = l.mismatchTimer) ∧
            (v ≠ l.commanded → l.level = v → m.mismatch = false ∧ m.mismatchTimer = none) ∧
            (v ≠ l.commanded → l.level ≠ v → l.mismatch = false → l.mismatchTimer = none →
              m.mismatch = false ∧ m.mismatchTimer = some (l.cfg.mismatchTime * 10))))) ∧
    Replies (.readDiscrete tag) s 0x11 tag .ok (putAll (putDiscrete s) (indexes 24)) [.discretes] (fun t =>
      ∀ d : Fin 24, LineSettled d
        { s.discretes[d] with edgeReported := s.discretes[d].edgeReported || s.discretes[d].edgeSeen } t.discretes[d]) ∧
    ∀ lines : LineMask,
      let cleared (d : Fin 24) : Bool :=
        lines.getLsbD d.val && s.discretes[d].edgeSeen && s.discretes[d].edgeReported
      Replies (.clearEdges tag lines) s 0x12 tag .ok
        (putLineSet (Vector.ofFn cleared) ++ putLineSet (Vector.ofFn (fun d => s.discretes[d].edgeSeen && !cleared d)))
        [.discretes] (fun t => ∀ d : Fin 24, LineSettled d
          (if cleared d then { s.discretes[d] with edgeSeen := false, edgeReported := false, edgeCount := 0 }
           else s.discretes[d]) t.discretes[d])

/-- Derived (R13, R55 to R57, R59 to R61, R64): a change of a pad, the end of a debounce interval and the end of the mismatch time.
`Taken` is what a change of level brings in its one event: the bound point, the owning block, the mismatch timer of an output, and the
edge logic with its EDGE notice, which an idle transmitter begins. Where the flag of ALARM itself would sound the horn and so make
ALARM agree again, the event ends with the flag clear and the timer started anew (the model's reading, log 30). During internal
initialisation the pin alone changes. The bytes of an EDGE notice are laid out as log 51 says (`edgeFrame`). That a load rejection takes
syncSpeed and the gains as configured at the event is the model's choice (log 59). That pendingLoop stands through a load rejection and
through the opening of the breaker in UNLOADING, which R148 and R150 do not say, and that an expiry of a stopped timer changes nothing,
are its deductions (log 27, 9). -/
def Obligations.LevelsFollowThePads : Prop :=
  ∀ (i : Fin 24) (s : State), let l := s.discretes[i]
    let Taken (c : Instr) (base : Discrete) (level : Bool) : Prop :=
      let edge : Bool := !l.cfg.role && !l.cfg.out && l.cfg.edge &&
        (match l.cfg.edgeKind with | .rising => level | .falling => !level | .any => true)
      (edge = false →
        Happens c s [.discretes, .points, .wells, .turbine, .drives, .constraints] (fun t =>
          (∀ j : Fin 24, j ≠ i → LineSettled j s.discretes[j] t.discretes[j]) ∧ t.discretes[i].cfg = l.cfg ∧
          t.discretes[i].pin = base.pin ∧ t.discretes[i].padLevel = base.padLevel ∧ t.discretes[i].level = level ∧
          t.discretes[i].debounceTimer = none ∧ t.discretes[i].edgeSeen = l.edgeSeen ∧
          t.discretes[i].edgeCount = l.edgeCount ∧ PointReads s t i level ∧
          (let m := t.discretes[i];
            (l.cfg.out = false ∨ m.level = m.commanded → m.mismatch = false ∧ m.mismatchTimer = none) ∧
            (l.cfg.out = true → m.level ≠ m.commanded →
              (l.level = l.commanded → l.mismatch = false ∧ l.mismatchTimer = none) →
              m.mismatch = false ∧ m.mismatchTimer = some (l.cfg.mismatchTime * 10)) ∧
            (Settled s → i ≠ alarmLine → m.commanded = l.commanded)) ∧
          (l.cfg.role = true → l.cfg.out = false → WellsReact s t i level ∧ TurbineReacts s t i level) ∧
          (l.cfg.role = false ∨ l.cfg.out = true →
            t.wells = s.wells ∧ t.turbine = s.turbine ∧ t.drives = s.drives ∧ Same .constraints s t))) ∧
      (edge = true → Settled s → l.mismatch = false →
        Happens c s [.discretes, .points, .notices, .outgoing] (fun t =>
          let notice : EdgeNotice :=
            ⟨Vector.ofFn (fun d => if t.discretes[d].edgeSeen then some t.discretes[d].edgeCount else none),
              Vector.ofFn (fun d => t.discretes[d].level), s.clock⟩
          (∀ j : Fin 24, j ≠ i → LineSettled j
            { s.discretes[j] with edgeReported := s.discretes[j].edgeReported ||
                (s.link.edge.isNone && s.discretes[j].edgeSeen) } t.discretes[j]) ∧
          t.discretes[i].cfg = l.cfg ∧ t.discretes[i].pin = base.pin ∧ t.discretes[i].padLevel = base.padLevel ∧
          t.discretes[i].mismatch = false ∧ t.discretes[i].mismatchTimer = none ∧
          PointReads s t i level ∧ t.discretes[i].level = level ∧ t.discretes[i].debounceTimer = none ∧
          t.discretes[i].edgeSeen = true ∧ t.discretes[i].edgeCount = satSucc 255 l.edgeCount ∧
          t.link.started = s.link.started ∧
          (s.link.edge.isSome = true →
            t.discretes[i].edgeReported = false ∧ t.link.edge = s.link.edge ∧ t.link.sending = s.link.sending) ∧
          (s.link.edge = none →
            (∀ d : Fin 24, t.discretes[d].edgeSeen = true → t.discretes[d].edgeReported = true) ∧
            (s.link.sending ≠ none → t.link.edge = some notice ∧ t.link.sending = s.link.sending) ∧
            (s.link.sending = none → t.link.sending = some (edgeFrame notice) ∧ t.link.edge = none))))
    (∀ high : Bool, let pad := high != l.cfg.inverted
      (s.initialising = true →
        exec (.padChange i high) s = .next (s.modDiscrete i (fun x => { x with pin := high }))) ∧
      (Running s →
        (pad = l.padLevel →
          Happens (.padChange i high) s [.discretes] (fun t =>
            (∀ j : Fin 24, j ≠ i → LineSettled j s.discretes[j] t.discretes[j]) ∧
            LineSettled i { l with pin := high } t.discretes[i])) ∧
        (pad ≠ l.padLevel → pad = l.level →
          Happens (.padChange i high) s [.discretes] (fun t =>
            (∀ j : Fin 24, j ≠ i → LineSettled j s.discretes[j] t.discretes[j]) ∧
            LineSettled i { l with pin := high, padLevel := pad, debounceTimer := none } t.discretes[i])) ∧
        (pad ≠ l.padLevel → pad ≠ l.level → 0 < l.cfg.debounce →
          Happens (.padChange i high) s [.discretes] (fun t =>
            (∀ j : Fin 24, j ≠ i → LineSettled j s.discretes[j] t.discretes[j]) ∧
            LineSettled i { l with pin := high, padLevel := pad, debounceTimer := some l.cfg.debounce } t.discretes[i])) ∧
        (pad ≠ l.padLevel → pad ≠ l.level → l.cfg.debounce = 0 →
          Taken (.padChange i high) { l with pin := high, padLevel := pad } pad))) ∧
    (Running s →
      (l.debounceTimer = none → Idles (.debounceExpiry i) s) ∧
      (l.debounceTimer.isSome = true → l.padLevel = l.level →
        Happens (.debounceExpiry i) s [.discretes] (fun t =>
          (∀ j : Fin 24, j ≠ i → LineSettled j s.discretes[j] t.discretes[j]) ∧
          LineSettled i { l with debounceTimer := none } t.discretes[i])) ∧
      (l.debounceTimer.isSome = true → l.padLevel ≠ l.level → Taken (.debounceExpiry i) l l.padLevel) ∧
      (l.mismatchTimer = none → Idles (.mismatchExpiry i) s) ∧
      (l.mismatchTimer.isSome = true → Settled s → i ≠ alarmLine →
        Happens (.mismatchExpiry i) s [.discretes] (fun t =>
          (∀ j : Fin 24, j ≠ i → LineSettled j s.discretes[j] t.discretes[j]) ∧
          t.discretes[i] = { l with mismatchTimer := none, mismatch := true } ∧ t.conditions.live[(39 : Fin 42)] = true)) ∧
      (l.mismatchTimer.isSome = true → Settled s → i = alarmLine → l.cfg.out = true → l.level ≠ l.commanded →
        let ends : Bool := l.cfg.role && !s.conditions.unsilenced.nonempty && s.conditions.horn[(39 : Fin 42)] &&
          !s.conditions.live[(39 : Fin 42)]
        Happens (.mismatchExpiry i) s [.discretes] (fun t =>
          (∀ j : Fin 24, j ≠ i → LineSettled j s.discretes[j] t.discretes[j]) ∧
          (ends = false → t.discretes[i] = { l with mismatchTimer := none, mismatch := true,
                                                    roleCommand := t.conditions.unsilenced.nonempty } ∧
            t.conditions.live[(39 : Fin 42)] = true) ∧
          (ends = true → t.discretes[i] = { l with mismatchTimer := some (l.cfg.mismatchTime * 10), mismatch := false } ∧
            t.conditions.live[(39 : Fin 42)] = false))))

/-- Derived (R14, R67 to R69, R140, R151 to R153): a tooth edge and an expiry of the loss timer: the speed unit, the SPEED point, and
the governor's reaction to a computed speed, to overspeed and to the loss of speed. That the reading's clamped indication is clear,
also for a speed clamped to 9999, is the model's choice (log 47), and that an expiry of the stopped loss timer changes nothing its
deduction (log 9). -/
def Obligations.SpeedUnitEvents : Prop :=
  ∀ s : State, Running s → let u := s.speedUnit; let g := s.turbine
    (∀ offset : TimeBase, let stamp := u.timeBase + offset
      (u.signal = .silent ∨ u.signal = .lost →
        Happens (.toothEdge offset) s [.speedUnit] (fun t => t.speedUnit =
          { u with signal := .acquiring, lastEdge := some stamp, periods := [], lossTimer := some u.cfg.lossTime })) ∧
      (∀ last, u.signal = .acquiring ∨ u.signal = .measuring → u.lastEdge = some last →
        let kept := (min 65535 (stamp - last).toNat :: u.periods).take 4
        (kept.length < 4 →
          Happens (.toothEdge offset) s [.speedUnit] (fun t => t.speedUnit =
            { u with lastEdge := some stamp, periods := kept, lossTimer := some u.cfg.lossTime })) ∧
        (kept.length = 4 → let sum : Int := (kept.sum : Nat)
          let v : Int := if sum = 0 ∨ u.cfg.teeth = 0 then speedOf u.cfg.teeth kept
            else min 9999 ((480000000 + u.cfg.teeth * sum) / (2 * (u.cfg.teeth * sum)))
          (sum = 0 → v = 9999) ∧
          Happens (.toothEdge offset) s [.speedUnit, .points, .turbine, .drives, .constraints] (fun t =>
            t.speedUnit = { u with signal := .measuring, lastEdge := some stamp, periods := kept, speed := some v,
                                   lossTimer := some u.cfg.lossTime } ∧
            (∀ p : Fin 96, t.points[p] = if speedPoint s = some p then s.points[p].goodRead v false else s.points[p]) ∧
            (∀ d : Fin 15, d ≠ admissionDrive → d ≠ extractionDrive → t.drives[d] = s.drives[d]) ∧
            (v < u.cfg.ovsLimit →
              t.turbine = { g with speedAcquired := g.speedAcquired || g.state.energised } ∧ t.drives = s.drives ∧
                Same .constraints s t) ∧
            (u.cfg.ovsLimit ≤ v → g.state ≠ .tripped →
              t.turbine = ({ g with speedAcquired := g.speedAcquired || g.state.energised } : Turbine).trip s.clock .overspeed
                (some v) ∧ TripSpreads s t s.drives[admissionDrive]) ∧
            (u.cfg.ovsLimit ≤ v → g.state = .tripped →
              t.turbine = g.laterTrip s.clock .overspeed ∧ t.drives = s.drives ∧ RunbackPosted s t))))) ∧
    (u.lossTimer = none → Idles .lossTimerExpiry s) ∧
    (u.lossTimer.isSome = true →
      let trips : Bool := decide (g.state = .syncWait) || decide (g.state = .loaded) || decide (g.state = .unloading) ||
        (decide (g.state = .rolling) && g.speedAcquired)
      Happens .lossTimerExpiry s [.speedUnit, .points, .turbine, .drives, .constraints] (fun t =>
        t.speedUnit = { u with signal := .lost, lastEdge := none, periods := [], speed := some 0,
                               lossTimer := some u.cfg.lossTime } ∧
        (∀ p : Fin 96, t.points[p] = if speedPoint s = some p then s.points[p].failedRead else s.points[p]) ∧
        (∀ d : Fin 15, d ≠ admissionDrive → d ≠ extractionDrive → t.drives[d] = s.drives[d]) ∧
        (trips = true → t.turbine = g.trip s.clock .speedLost (some g.speedView) ∧ TripSpreads s t s.drives[admissionDrive]) ∧
        (trips = false → t.turbine = g ∧ t.drives = s.drives ∧ Same .constraints s t)))

/-! ### Well pumps (chapter 06) -/

/-- Derived (R109, R110, R97): every form of ConfigureWell: the ranges, the structural change in RUN, the start log and the tripped
well, the fields stored with the target clamped, the demand of an energised well under a new speed range, the trip count under a new
trip limit, and the default of WELL_FLOOR(k). That the well's view of that bound waits for the WP period also before the first one is
the model's choice (log 42). -/
def Obligations.ConfigureWellForms : Prop :=
  ∀ (tag : Byte) (q : WellFields) (s : State), Ready s →
    (WellFields.check q = none → Refuses (.configureWell tag q) s 0x13 tag .badField []) ∧
    (WellFields.check q = none ↔ ¬ (q.well ≤ 7 ∧ q.enabled ≤ 1 ∧ q.autoRestart ≤ 1 ∧
      (∀ p ∈ q.intakePoint, p ≤ 95) ∧ (∀ p ∈ q.windingPoint, p ≤ 95) ∧ (∀ p ∈ q.flowPoint, p ≤ 95) ∧
      (0 ≤ q.minSpeed ∧ q.minSpeed ≤ q.maxSpeed ∧ q.maxSpeed ≤ 10000) ∧ (1 ≤ q.rampRate ∧ q.rampRate ≤ 10000) ∧
      (0 ≤ q.ownFloor ∧ q.ownFloor ≤ 400000) ∧ (0 ≤ q.floorBand ∧ q.floorBand ≤ 100000) ∧ q.floorGain ≤ 10000 ∧
      (0 ≤ q.floorHys ∧ q.floorHys ≤ 100000) ∧ (1 ≤ q.floorConfirm ∧ q.floorConfirm ≤ 600) ∧
      (-5000 ≤ q.windTrip ∧ q.windTrip ≤ 40000) ∧ (0 ≤ q.windDelta ∧ q.windDelta ≤ 5000) ∧
      (0 ≤ q.windHys ∧ q.windHys ≤ 5000) ∧ (1 ≤ q.startTimeout ∧ q.startTimeout ≤ 60) ∧
      (1 ≤ q.stopTimeout ∧ q.stopTimeout ≤ 60) ∧ q.minOff ≤ 3600 ∧ (1 ≤ q.maxStarts ∧ q.maxStarts ≤ 10) ∧
      (1 ≤ q.tripLimit ∧ q.tripLimit ≤ 15) ∧ (1 ≤ q.tripRecovery ∧ q.tripRecovery ≤ 24) ∧
      (1 ≤ q.deliveryLimit ∧ q.deliveryLimit ≤ 60))) ∧
    ∀ k new clamped, WellFields.check q = some (k, new, clamped) → let w := s.wells[k]; let old := w.cfg
      let structural : Prop := old.enabled ≠ new.enabled ∨ old.intakePoint ≠ new.intakePoint ∨
        old.windingPoint ≠ new.windingPoint ∨ old.flowPoint ≠ new.flowPoint
      let inUse : Prop := new.maxStarts < w.startLog.length ∨ (s.phase = .config ∧ old.enabled = true ∧ new.enabled = false ∧
        (w.state = .tripped ∨ w.state = .lockedOut))
      (k.val = q.well ∧ new.fields = { q with well := 0, target := clamp q.minSpeed q.maxSpeed q.target } ∧
        clamped = decide (new.target ≠ q.target)) ∧
      (s.phase = .run → structural → Refuses (.configureWell tag q) s 0x13 tag .state []) ∧
      (¬ (s.phase = .run ∧ structural) → inUse → Refuses (.configureWell tag q) s 0x13 tag .inUse []) ∧
      (¬ (s.phase = .run ∧ structural) → ¬ inUse →
        Replies (.configureWell tag q) s 0x13 tag (if clamped then .clamped else .ok) (Wire.putWellConfig new.fields)
          [.wells, .drives, .constraints] (fun t =>
            (∀ j : Fin 8, j ≠ k → t.wells[j] = s.wells[j]) ∧
            t.wells[k] = { w with cfg := new, tripCount := t.wells[k].tripCount, decayTimer := t.wells[k].decayTimer } ∧
            (w.state = .lockedOut → t.wells[k].tripCount = new.tripLimit ∧ t.wells[k].decayTimer = w.decayTimer) ∧
            (w.state ≠ .lockedOut → w.tripCount < new.tripLimit →
              t.wells[k].tripCount = w.tripCount ∧ t.wells[k].decayTimer = w.decayTimer) ∧
            (w.state ≠ .lockedOut → new.tripLimit ≤ w.tripCount → t.wells[k].tripCount = new.tripLimit - 1 ∧
              t.wells[k].decayTimer = if new.tripLimit - 1 = 0 then none else w.decayTimer) ∧
            (∀ d : Fin 15, d ≠ wellDrive k → t.drives[d] = s.drives[d]) ∧
            (w.state.energised = false ∨ (old.minSpeed = new.minSpeed ∧ old.maxSpeed = new.maxSpeed) → t.drives = s.drives) ∧
            (w.state.energised = true → old.minSpeed ≠ new.minSpeed ∨ old.maxSpeed ≠ new.maxSpeed →
              let cap := (new.stageCap w.state).getD new.maxSpeed
              t.drives[wellDrive k] = s.drives[wellDrive k].write
                (clamp new.minSpeed (max new.minSpeed (min (min new.maxSpeed cap) w.ceilingView.value))
                  s.drives[wellDrive k].value)) ∧
            t.slots = s.slots ∧ t.combined = s.combined ∧
            (∀ g : Target, g ≠ .wellFloor k ∨ old.ownFloor = new.ownFloor → t.bounds[g.index] = s.bounds[g.index]) ∧
            (old.ownFloor ≠ new.ownFloor → t.bounds[(Target.wellFloor k).index] = boundOf t (.wellFloor k))))

/-- Derived (R15, R116, R119 to R122, section 6.4): every form of START, STOP, SET_TARGET, RESET_TRIP and UNLOCK. The reasons of a
refusal STATE are the model's (log 12, 14, 18), so the statement leaves each open. START tests the intake point by the well's last
reading; that the point is not usable before the first WP period expiry, and that the reading of a former point counts until the next
expiry, are the model's deductions (log 43), and that START leaves waitReason absent is its choice (log 44), as is that the reply of
SET_TARGET sends the well's state before the stored target (log 65). -/
def Obligations.WellCommandForms : Prop :=
  ∀ (tag : Byte) (well : Nat) (value : Int) (s : State), Ready s →
    (8 ≤ well → Refuses (.start tag well) s 0x14 tag .badField [] ∧ Refuses (.stop tag well) s 0x14 tag .badField [] ∧
      Refuses (.setTarget tag well value) s 0x14 tag .badField [] ∧
      Refuses (.wellResetTrip tag well) s 0x14 tag .badField [] ∧ Refuses (.unlock tag well) s 0x14 tag .badField []) ∧
    ∀ k : Fin 8, well = k.val → let w := s.wells[k]
      let permission : Prop := s.phase = .run ∧ (s.supervision.state = .disarmed ∨ s.supervision.state = .armed) ∧
        estopActive s = false ∧ inRole s (runLine k) = true ∧ inRole s (feedbackLine k) = true ∧ w.cfg.enabled = true
      let resets : Prop := estopActive s = false ∧ inRole s (runLine k) = true ∧ inRole s (feedbackLine k) = true
      let Others (t : State) : Prop := ∀ j : Fin 8, j ≠ k → t.wells[j] = s.wells[j]
      let RefusedInState (c : Instr) : Prop := ∃ reason : Byte,
        Refuses c s 0x14 tag .state [BitVec.ofNat 8 w.state.code, reason]
      ((w.state = .off ∨ w.state = .suspended) → permission → (viewValue w.intakeRead).isSome = true →
        Replies (.start tag well) s 0x14 tag .ok [BitVec.ofNat 8 WellState.waitStart.code] [.wells] (fun t =>
          Others t ∧ t.wells[k] = { w with state := .waitStart, suspendCause := none, waitReason := none })) ∧
      (¬ (w.state = .off ∨ w.state = .suspended) ∨ ¬ permission ∨ viewValue w.intakeRead = none →
        RefusedInState (.start tag well)) ∧
      (w.state = .off ∨ w.state = .tripped ∨ w.state = .lockedOut →
        Replies (.stop tag well) s 0x14 tag .ok [BitVec.ofNat 8 w.state.code] [] (fun _ => True)) ∧
      (w.state = .waitStart ∨ w.state = .suspended →
        Replies (.stop tag well) s 0x14 tag .ok [BitVec.ofNat 8 WellState.off.code] [.wells] (fun t => Others t ∧
          t.wells[k] = { w with state := .off, waitReason := none,
                                suspendCause := if w.state = .suspended then none else w.suspendCause })) ∧
      (w.state = .stopping →
        Replies (.stop tag well) s 0x14 tag .ok [BitVec.ofNat 8 WellState.stopping.code] [.wells] (fun t => Others t ∧
          t.wells[k] = { w with stopTo := some .off, suspendCause := none })) ∧
      (w.state.energised = true →
        let after : WellState := if feedback s k then .stopping else .off
        Replies (.stop tag well) s 0x14 tag .ok [BitVec.ofNat 8 after.code] [.wells, .drives] (fun t => Others t ∧
          t.wells[k] = { w with
            state := after, stopTo := if feedback s k then some .off else none, suspendCause := none, waitReason := none,
            offFor := some 0, floorTimer := 0, startTimer := none,
            stopTimer := if feedback s k then some (w.cfg.stopTimeout * 1000) else none } ∧
          (∀ d : Fin 15, t.drives[d] = if d = wellDrive k then s.drives[d].write 0 else s.drives[d]) ∧
          t.discretes[runLine k].roleCommand = false)) ∧
      (∀ stored, stored = clamp w.cfg.minSpeed w.cfg.maxSpeed value →
        Replies (.setTarget tag well value) s 0x14 tag (if stored = value then .ok else .clamped)
          (BitVec.ofNat 8 w.state.code :: Wire.putClass stored) [.wells] (fun t =>
            Others t ∧ t.wells[k] = { w with cfg := { w.cfg with target := stored } })) ∧
      (w.state = .tripped → resets →
        Replies (.wellResetTrip tag well) s 0x14 tag .ok [BitVec.ofNat 8 WellState.off.code] [.wells] (fun t =>
          Others t ∧ t.wells[k] = { w with state := .off })) ∧
      (w.state ≠ .tripped ∨ ¬ resets → RefusedInState (.wellResetTrip tag well)) ∧
      (w.state = .lockedOut → resets →
        Replies (.unlock tag well) s 0x14 tag .ok [BitVec.ofNat 8 WellState.off.code] [.wells] (fun t =>
          Others t ∧ t.wells[k] = { w with state := .off, tripCount := 0, decayTimer := none })) ∧
      (w.state ≠ .lockedOut ∨ ¬ resets → RefusedInState (.unlock tag well))

/-- Derived (R103, R112 to R118, R123 to R130): what the WP period does to each well: views, ages, and the work of its state: the
start conditions of a waiting well, the restart test of a suspended one, the drive test, the winding stage, the speed demand and the
floor timer of a running one. That an expiry of the stopped timer changes nothing is the model's deduction (log 9). -/
def Obligations.WellPeriod : Prop :=
  ∀ s : State, Running s →
    (s.wpTimer = none → Idles .wpPeriodExpiry s) ∧
    (s.wpTimer.isSome = true → Happens .wpPeriodExpiry s [.wpTimer, .wells, .drives] (fun t =>
      t.wpTimer = some 250 ∧ (∀ d : Fin 15, 8 ≤ d.val → t.drives[d] = s.drives[d]) ∧
      ∀ k : Fin 8, let w := s.wells[k]; let c := w.cfg; let drive := s.drives[wellDrive k]
        let v : Well := { w with
          intakeView := s.bounds[(Target.wellFloor k).index], ceilingView := s.combined[k],
          intakeRead := readView s c.intakePoint, windingRead := readView s c.windingPoint, flowRead := readView s c.flowPoint,
          startLog := (w.startLog.map (fun e => { e with age := e.age + 1 })).filter (fun e => decide (e.age < 14400)),
          offFor := w.offFor.map (satSucc 65535) }
        let floor := v.intakeView.value; let intake := boundValue s c.intakePoint; let winding := boundValue s c.windingPoint
        let Stands (u : Well) : Prop := t.wells[k] = u ∧ t.drives[wellDrive k] = drive
        let lost : Prop := drive.delivery = .failing ∧ ∃ n, drive.failingFor = some n ∧ c.deliveryLimit < n
        let permission : Prop := s.phase = .run ∧ (s.supervision.state = .disarmed ∨ s.supervision.state = .armed) ∧
          estopActive s = false ∧ inRole s (runLine k) = true ∧ inRole s (feedbackLine k) = true ∧ c.enabled = true
        let rested : Prop := ∀ n, v.offFor = some n → c.minOff * 1000 ≤ n * 250
        let StartsOrWaits : Prop :=
          (permission → rested → v.startLog.length < c.maxStarts → feedback s k = false →
            t.wells[k] = { v with state := .starting, stopTo := none, suspendCause := none, waitReason := none,
                                  startLog := v.startLog ++ [⟨s.clock, 0⟩], offFor := none, floorTimer := 0,
                                  startTimer := some (c.startTimeout * 1000) } ∧
              t.drives[wellDrive k] = drive.write c.minSpeed ∧ t.discretes[runLine k].roleCommand = true) ∧
          (¬ permission → Stands { v with waitReason := some .noPermission }) ∧
          (permission → ¬ rested → Stands { v with waitReason := some .minOff }) ∧
          (permission → rested → c.maxStarts ≤ v.startLog.length → Stands { v with waitReason := some .logFull }) ∧
          (permission → rested → v.startLog.length < c.maxStarts → feedback s k = true →
            Stands { v with waitReason := some .feedbackPresent })
        let Trips : Prop := t.wells[k] = v.trip s.clock .driveLost ∧ t.drives[wellDrive k] = drive.write 0
        (w.state = .off ∨ w.state = .stopping ∨ w.state = .tripped ∨ w.state = .lockedOut → Stands v) ∧
        (w.state = .waitStart → StartsOrWaits) ∧
        (w.state = .suspended →
          let cleared : Prop :=
            (w.suspendCause = some .lowIntake ∧ ∃ p, intake = some p ∧ floor + c.floorHys ≤ p) ∨
            (w.suspendCause = some .windingHot ∧ ∃ x, winding = some x ∧ x < c.windTrip - c.windHys)
          (c.autoRestart = false → Stands { v with waitReason := none }) ∧
          (c.autoRestart = true → ¬ cleared → Stands { v with waitReason := some .causePresent }) ∧
          (c.autoRestart = true → cleared → StartsOrWaits)) ∧
        (w.state = .starting → (lost → Trips) ∧ (¬ lost → Stands v)) ∧
        (w.state.isRunning = true →
          (lost → Trips) ∧
          (¬ lost → (∃ x, winding = some x ∧ c.windTrip ≤ x) →
            t.wells[k] = v.enterStopping .suspended (some .windingHot) (feedback s k) ∧
              t.drives[wellDrive k] = drive.write 0) ∧
          (¬ lost → (∀ x, winding = some x → x < c.windTrip) →
            let stage : WellState :=
              match winding with
              | none => .throttle1
              | some x =>
                if 0 < c.windDelta ∧ c.windTrip - c.windDelta ≤ x then .throttle1
                else if x < c.windTrip - 2 * c.windDelta then .running
                else if w.state = .running then .throttle2 else w.state
            let cap : Int :=
              if stage = .running then c.maxSpeed
              else if stage = .throttle2 then c.minSpeed + (c.maxSpeed - c.minSpeed) / 2 else c.minSpeed
            let ceiling := max c.minSpeed (min (min c.maxSpeed cap) v.ceilingView.value)
            let base : Int :=
              match intake with
              | none => c.minSpeed
              | some p =>
                let b := clamp c.minSpeed ceiling c.target
                if p < floor + c.floorBand then
                  max c.minSpeed (b - Int.tdiv ((floor + c.floorBand - p) * c.floorGain) 100)
                else b
            let demand : Int :=
              if drive.value < base then drive.value + min (base - drive.value) (max 1 ((c.rampRate : Int) / 4)) else base
            let count : Nat :=
              match intake with
              | none => w.floorTimer
              | some p => if floor ≤ p then 0 else if demand = c.minSpeed then satSucc 2400 w.floorTimer else w.floorTimer
            let confirmed : Prop := (∃ p, intake = some p ∧ p < floor) ∧ demand = c.minSpeed ∧ 4 * c.floorConfirm ≤ count
            (¬ confirmed → t.wells[k] = { v with state := stage, floorTimer := count } ∧
              t.drives[wellDrive k] = drive.write demand) ∧
            (confirmed →
              t.wells[k] = ({ v with state := stage } : Well).enterStopping .suspended (some .lowIntake) (feedback s k) ∧
                t.drives[wellDrive k] = (drive.write demand).write 0)))))

/-- Derived (R118, R120, R131, R132, R143, R150): the timers of a well and of the governor. An expiry of a well's start timer in
STARTING and of its stop timer in STOPPING trip the well, and the statement spells out what a trip does; a trip-decay expiry counts
one trip down. rollTimer trips a ROLLING or SYNC_WAIT turbine, breakerTimer an UNLOADING one. That an expiry of a stopped timer
changes nothing, and one in a state in which its timer never runs only stops it, are the model's deductions (log 9). -/
def Obligations.OwnerTimers : Prop :=
  (∀ (k : Fin 8) (s : State), Running s → let w := s.wells[k]
     let Others (t : State) : Prop := ∀ j : Fin 8, j ≠ k → t.wells[j] = s.wells[j]
     let Trips (t : State) (cause : WellTripCause) : Prop :=
       let locks : Prop := w.tripCount + 1 = w.cfg.tripLimit
       Others t ∧ t.wells[k] = { w with
         state := t.wells[k].state, stopTo := none, suspendCause := none, waitReason := none,
         offFor := if w.state.energised then some 0 else w.offFor, floorTimer := 0, startTimer := none, stopTimer := none,
         tripRecord := some ⟨cause, s.clock, w.state, viewValue w.intakeRead, viewValue w.windingRead⟩,
         tripCount := w.tripCount + 1, decayTimer := t.wells[k].decayTimer } ∧
       (locks → t.wells[k].state = .lockedOut ∧ t.wells[k].decayTimer = none) ∧
       (¬ locks → t.wells[k].state = .tripped ∧
         t.wells[k].decayTimer = if w.tripCount = 0 then some (w.cfg.tripRecovery * 3600000) else w.decayTimer) ∧
       (∀ d : Fin 15, t.drives[d] = if d = wellDrive k then s.drives[d].write 0 else s.drives[d]) ∧
       t.discretes[runLine k].roleCommand = false
     (w.startTimer = none → Idles (.startTimerExpiry k) s) ∧
     (w.startTimer.isSome = true → w.state = .starting →
       Happens (.startTimerExpiry k) s [.wells, .drives] (fun t => Trips t .feedbackFail)) ∧
     (w.startTimer.isSome = true → w.state ≠ .starting →
       Happens (.startTimerExpiry k) s [.wells] (fun t => Others t ∧ t.wells[k] = { w with startTimer := none })) ∧
     (w.stopTimer = none → Idles (.stopTimerExpiry k) s) ∧
     (w.stopTimer.isSome = true → w.state = .stopping →
       Happens (.stopTimerExpiry k) s [.wells, .drives] (fun t => Trips t .feedbackStuck)) ∧
     (w.stopTimer.isSome = true → w.state ≠ .stopping →
       Happens (.stopTimerExpiry k) s [.wells] (fun t => Others t ∧ t.wells[k] = { w with stopTimer := none })) ∧
     (w.decayTimer = none → Idles (.tripDecayExpiry k) s) ∧
     (w.decayTimer.isSome = true →
       Happens (.tripDecayExpiry k) s [.wells] (fun t => Others t ∧
         t.wells[k] = { w with
           tripCount := w.tripCount - 1,
           decayTimer := if w.tripCount - 1 = 0 then none else some (w.cfg.tripRecovery * 3600000) }))) ∧
  (∀ s : State, Running s → let u := s.turbine
     let Trips (c : Instr) (cause : TurbineTripCause) : Prop :=
       Happens c s [.turbine, .drives, .constraints] (fun t =>
         t.turbine = u.trip s.clock cause none ∧ TripSpreads s t s.drives[admissionDrive] ∧
         ∀ d : Fin 15, d ≠ admissionDrive → d ≠ extractionDrive → t.drives[d] = s.drives[d])
     (u.rollTimer = none → Idles .rollTimerExpiry s) ∧
     (u.rollTimer.isSome = true → u.state = .rolling ∨ u.state = .syncWait → Trips .rollTimerExpiry .rollTimeout) ∧
     (u.rollTimer.isSome = true → u.state ≠ .rolling → u.state ≠ .syncWait →
       Happens .rollTimerExpiry s [.turbine] (fun t => t.turbine = { u with rollTimer := none })) ∧
     (u.breakerTimer = none → Idles .breakerTimerExpiry s) ∧
     (u.breakerTimer.isSome = true → u.state = .unloading → Trips .breakerTimerExpiry .breakerFail) ∧
     (u.breakerTimer.isSome = true → u.state ≠ .unloading →
       Happens .breakerTimerExpiry s [.turbine] (fun t => t.turbine = { u with breakerTimer := none })))

/-! ### The turbine governor (chapter 07) -/

/-- Derived (R66, R136, R137, R156): every form of ConfigureTurbine: the ranges, the structural change in RUN, the fields stored, and
what a new field of the speed unit, a new load range, a new extraction limit and a new runback speed do at once. That a new syncSpeed,
headerMin or gain is stored at once, for a ROLL or a load rejection before the next TG period expiry too, is the model's choice (log
59). -/
def Obligations.ConfigureTurbineForms : Prop :=
  ∀ (tag : Byte) (q : TurbineFields) (s : State), Ready s → let u := s.turbine; let old := u.cfg; let unit := s.speedUnit
    (TurbineFields.check q = none → Refuses (.configureTurbine tag q) s 0x16 tag .badField []) ∧
    (TurbineFields.check q = none ↔ ¬ (
      (∀ p ∈ [q.headerPoint, q.flowPoint, q.powerPoint, q.speedPoint], ∀ n, p = some n → n ≤ 95) ∧
      (8 ≤ q.teeth ∧ q.teeth ≤ 240) ∧ (1 ≤ q.ovsLimit ∧ q.ovsLimit ≤ 9999) ∧ (50 ≤ q.lossTime ∧ q.lossTime ≤ 5000) ∧
      (100 ≤ q.syncSpeed ∧ q.syncSpeed ≤ 9999) ∧ (1 ≤ q.syncBand ∧ q.syncBand ≤ 500) ∧ (1 ≤ q.syncHold ∧ q.syncHold ≤ 600) ∧
      (10 ≤ q.accelRate ∧ q.accelRate ≤ 2000) ∧ (10 ≤ q.rollTimeout ∧ q.rollTimeout ≤ 3600) ∧
      (0 ≤ q.minLoad ∧ q.minLoad ≤ q.maxLoad ∧ q.maxLoad ≤ 100000) ∧ (10 ≤ q.loadRate ∧ q.loadRate ≤ 10000) ∧
      (ValueClass.pres.lo ≤ q.headerSetpoint ∧ q.headerSetpoint ≤ ValueClass.pres.hi) ∧
      (ValueClass.pres.lo ≤ q.headerMin ∧ q.headerMin ≤ ValueClass.pres.hi) ∧
      (1 ≤ q.headerConfirm ∧ q.headerConfirm ≤ 600) ∧ (1 ≤ q.extractionMax ∧ q.extractionMax ≤ 100000) ∧
      (0 ≤ q.extractionMinLoad ∧ q.extractionMinLoad ≤ 100000) ∧ (1 ≤ q.breakerTimeout ∧ q.breakerTimeout ≤ 60) ∧
      (1 ≤ q.verifyFlow ∧ q.verifyFlow ≤ 100000) ∧ (1 ≤ q.tripVerifyTime ∧ q.tripVerifyTime ≤ 600) ∧
      (0 ≤ q.runbackSpeed ∧ q.runbackSpeed ≤ 10000) ∧
      (∀ g ∈ [q.speedKp, q.speedKi, q.powerKp, q.powerKi, q.headerKp, q.headerKi], g ≤ 10000) ∧
      (1 ≤ q.deliveryLimit ∧ q.deliveryLimit ≤ 60) ∧ q.syncSpeed + q.syncBand < q.ovsLimit)) ∧
    ∀ new speed clamped, TurbineFields.check q = some (new, speed, clamped) →
      let structural : Prop := old.headerPoint ≠ new.headerPoint ∨ old.flowPoint ≠ new.flowPoint ∨
        old.powerPoint ≠ new.powerPoint ∨ old.speedPoint ≠ new.speedPoint ∨ unit.cfg.teeth ≠ speed.teeth
      (new.fields speed = { q with loadTarget := clamp q.minLoad q.maxLoad q.loadTarget } ∧
        clamped = decide (new.loadTarget ≠ q.loadTarget)) ∧
      (s.phase = .run → structural → Refuses (.configureTurbine tag q) s 0x16 tag .state []) ∧
      (¬ (s.phase = .run ∧ structural) →
        Replies (.configureTurbine tag q) s 0x16 tag (if clamped then .clamped else .ok)
          (Wire.putTurbineFields (new.fields speed)) [.turbine, .speedUnit, .drives, .constraints] (fun t =>
            (unit.cfg.teeth = speed.teeth → t.speedUnit = { unit with cfg := speed }) ∧
            (unit.cfg.teeth ≠ speed.teeth → unit.signal = .lost →
              t.speedUnit = { unit with cfg := speed, lastEdge := none, periods := [] }) ∧
            (unit.cfg.teeth ≠ speed.teeth → unit.signal ≠ .lost →
              t.speedUnit = { unit with cfg := speed, signal := .silent, lastEdge := none, periods := [], speed := none,
                                        lossTimer := none }) ∧
            t.turbine = { u with cfg := new, powerSetpoint := t.turbine.powerSetpoint, grant := t.turbine.grant } ∧
            ((old.minLoad = new.minLoad ∧ old.maxLoad = new.maxLoad) ∨ (u.state ≠ .loaded ∧ u.state ≠ .unloading) →
              t.turbine.powerSetpoint = u.powerSetpoint) ∧
            (¬ (old.minLoad = new.minLoad ∧ old.maxLoad = new.maxLoad) → u.state = .loaded →
              t.turbine.powerSetpoint = clamp new.minLoad new.maxLoad u.powerSetpoint) ∧
            (¬ (old.minLoad = new.minLoad ∧ old.maxLoad = new.maxLoad) → u.state = .unloading →
              t.turbine.powerSetpoint = max new.minLoad u.powerSetpoint) ∧
            (old.extractionMax = new.extractionMax ∧ old.extractionMinLoad = new.extractionMinLoad →
              t.turbine.grant = u.grant ∧ t.drives = s.drives) ∧
            (¬ (old.extractionMax = new.extractionMax ∧ old.extractionMinLoad = new.extractionMinLoad) →
              t.turbine.grant.request = u.grant.request ∧
              (u.state = .loaded → (∃ p, u.powerView = some p ∧ new.extractionMinLoad ≤ p) →
                t.turbine.grant.grant = min u.grant.request new.extractionMax) ∧
              (u.state ≠ .loaded ∨ (∀ p, u.powerView = some p → p < new.extractionMinLoad) → t.turbine.grant.grant = 0) ∧
              t.turbine.grant.valveDemand = roundHalfUp (t.turbine.grant.grant * 10000) new.extractionMax ∧
              ∀ d : Fin 15, t.drives[d] =
                if u.state.energised = true ∧ d = extractionDrive then s.drives[d].write t.turbine.grant.valveDemand
                else s.drives[d]) ∧
            (old.runbackSpeed = new.runbackSpeed ∨ s.slots[runbackSlot] = none → Same .constraints s t) ∧
            (old.runbackSpeed ≠ new.runbackSpeed → s.slots[runbackSlot].isSome = true →
              Posted s t runbackSlot (some ⟨.pumpCeilAll, new.runbackSpeed, s.clock⟩))))

/-- Derived (R141, R145, R146, R149, R151 to R154): every form of ROLL, SET_MODE, SET_LOAD, UNLOAD, TRIP and RESET_TRIP, with all that a
trip and a later trip do. The detail of a refusal STATE is the model's (log 18), so the statement leaves it open. That ROLL takes
headerMin as configured at the command is the model's choice (log 59), and that pendingLoop stands through an UNLOAD in ROLLING or
SYNC_WAIT, which R149 does not say, its deduction (log 27). -/
def Obligations.TurbineCommandForms : Prop :=
  ∀ (tag : Byte) (mode : Nat) (value : Int) (s : State), Ready s → 1 ≤ s.turbine.cfg.extractionMax → let u := s.turbine
    let inRoles : Prop := inRole s stopValveLine = true ∧ inRole s breakerOpenLine = true ∧ inRole s breakerClosedLine = true
    let rollable : Prop := s.phase = .run ∧ (s.supervision.state = .disarmed ∨ s.supervision.state = .armed) ∧
      estopActive s = false ∧ inRoles ∧ breakerClosed s = false ∧
      ∃ h, boundValue s u.cfg.headerPoint = some h ∧ u.cfg.headerMin ≤ h
    let noGrant : GrantRecord := ⟨u.grant.request, 0, 0⟩
    let RefusedInState (c : Instr) : Prop := ∃ detail, Refuses c s 0x17 tag .state detail
    (u.state = .stopped → rollable →
      Replies (.roll tag) s 0x17 tag .ok [BitVec.ofNat 8 TurbineState.rolling.code] [.turbine, .drives] (fun t =>
        t.turbine = { u with
          state := .rolling, speedAcquired := false, syncCount := 0,
          speedSetpoint := if s.speedUnit.signal = .lost then 0 else u.speedView, pendingLoop := some .speed,
          rollTimer := some (u.cfg.rollTimeout * 1000), grant := noGrant } ∧
        (∀ d : Fin 15, t.drives[d] = if d = extractionDrive then s.drives[d].write 0 else s.drives[d]) ∧
        t.discretes[stopValveLine].roleCommand = true)) ∧
    (u.state ≠ .stopped ∨ ¬ rollable → RefusedInState (.roll tag)) ∧
    (2 ≤ mode → Refuses (.setMode tag mode) s 0x17 tag .badField []) ∧
    (∀ m : TurbineMode, mode = m.code →
      Replies (.setMode tag mode) s 0x17 tag .ok [BitVec.ofNat 8 mode] [.turbine] (fun t =>
        (u.state ≠ .loaded ∨ u.mode = m → t.turbine = { u with mode := m }) ∧
        (u.state = .loaded → u.mode ≠ m → m = .load →
          t.turbine = { u with mode := m, pendingLoop := some .power, powerSetpoint := u.powerView.getD u.powerSetpoint }) ∧
        (u.state = .loaded → u.mode ≠ m → m = .header →
          t.turbine = { u with mode := m, pendingLoop := some .header }))) ∧
    (∀ stored, stored = clamp u.cfg.minLoad u.cfg.maxLoad value →
      Replies (.setLoad tag value) s 0x17 tag (if stored = value then .ok else .clamped) (Wire.putClass stored) [.turbine]
        (fun t => t.turbine = { u with cfg := { u.cfg with loadTarget := stored } })) ∧
    (u.state = .loaded →
      Replies (.unload tag) s 0x17 tag .ok [] [.turbine, .drives] (fun t =>
        t.turbine = { u with
          state := .unloading, openCommanded := false, grant := noGrant,
          powerSetpoint := if u.mode = .header then u.powerView.getD u.cfg.minLoad else u.powerSetpoint,
          pendingLoop := if u.mode = .header then some .power else u.pendingLoop } ∧
        ∀ d : Fin 15, t.drives[d] = if d = extractionDrive then s.drives[d].write 0 else s.drives[d])) ∧
    (u.state = .rolling ∨ u.state = .syncWait →
      Replies (.unload tag) s 0x17 tag .ok [] [.turbine, .drives] (fun t =>
        t.turbine = { u with state := .stopped, rollTimer := none, breakerTimer := none, openCommanded := false,
                             grant := noGrant } ∧
        (∀ d : Fin 15, t.drives[d] =
          if d = admissionDrive ∨ d = extractionDrive then s.drives[d].write 0 else s.drives[d]) ∧
        t.discretes[stopValveLine].roleCommand = false ∧ t.discretes[breakerOpenLine].roleCommand = breakerClosed t)) ∧
    (u.state = .unloading ∨ u.state = .stopped ∨ u.state = .tripped →
      Replies (.unload tag) s 0x17 tag .ok [] [] (fun _ => True)) ∧
    (u.state ≠ .tripped →
      Replies (.trip tag) s 0x17 tag .ok [BitVec.ofNat 8 TurbineState.tripped.code] [.turbine, .drives, .constraints] (fun t =>
        t.turbine = { u with
          state := .tripped, grant := noGrant, rollTimer := none, breakerTimer := none, syncCount := 0, headerCount := 0,
          pendingLoop := none, openCommanded := false, verifyCount := some 0,
          tripRecord := ⟨.supervisoryTrip, s.clock, some u.state, none, 0, none, none⟩ } ∧
        TripSpreads s t s.drives[admissionDrive] ∧
        (∀ d : Fin 15, d ≠ admissionDrive → d ≠ extractionDrive → t.drives[d] = s.drives[d]) ∧
        t.discretes[stopValveLine].roleCommand = false ∧ t.discretes[breakerOpenLine].roleCommand = breakerClosed t)) ∧
    (u.state = .tripped →
      Replies (.trip tag) s 0x17 tag .ok [BitVec.ofNat 8 TurbineState.tripped.code] [.turbine, .constraints] (fun t =>
        t.turbine = { u with
          tripRecord := { u.tripRecord with laterCount := satSucc 65535 u.tripRecord.laterCount,
                                            laterCause := some .supervisoryTrip, laterClock := some s.clock },
          verifyCount := if u.verifyCount = none ∧ u.stopValveFail = false then some 0 else u.verifyCount } ∧
        RunbackPosted s t)) ∧
    (u.state = .tripped → estopActive s = false → inRoles →
      Replies (.turbineResetTrip tag) s 0x17 tag .ok [] [.turbine, .constraints] (fun t =>
        t.turbine = { u with state := .stopped, verifyCount := none, stopValveFail := false, grant := noGrant } ∧
        Posted s t runbackSlot none)) ∧
    (u.state ≠ .tripped ∨ estopActive s = true ∨ ¬ inRoles → RefusedInState (.turbineResetTrip tag))

/-- Derived (R139, R142, R145 to R147, R149, R151, R155, R156): what the TG period does in each state of the governor: the measurements,
the test of DV8, the setpoint ramps, the loop in use with its pending start, the counts and the passages they bring, the
verification watch, and the grant where the power view has changed. That an expiry of the stopped timer changes nothing is the model's
deduction (log 9). -/
def Obligations.TurbinePeriod : Prop :=
  ∀ s : State, Running s → 1 ≤ s.turbine.cfg.extractionMax →
    (s.turbine.periodTimer = none → Idles .tgPeriodExpiry s) ∧
    (s.turbine.periodTimer.isSome = true → Happens .tgPeriodExpiry s [.turbine, .drives, .constraints] (fun t =>
      let u := s.turbine; let c := u.cfg; let valve := s.drives[admissionDrive]
      let v : Turbine := { u with
        periodTimer := some 100, headerView := boundValue s c.headerPoint, flowView := boundValue s c.flowPoint,
        powerView := boundValue s c.powerPoint, speedView := s.speedUnit.speed.getD 0 }
      let lost : Prop := valve.delivery = .failing ∧ ∃ n, valve.failingFor = some n ∧ c.deliveryLimit < n
      let band : Prop := s.speedUnit.signal = .measuring ∧ c.syncSpeed - c.syncBand ≤ v.speedView ∧
        v.speedView ≤ c.syncSpeed + c.syncBand
      -- the record the expiry leaves, and DV8; the grant is computed again after a passage or a change of the power view
      let Ends (w : Turbine) (admission : Drive) (passes : Prop) : Prop :=
        let anew : Prop := passes ∨ v.powerView ≠ u.powerView
        (anew → t.turbine = w.settleGrant ∧ t.drives[extractionDrive] =
          if w.state.energised then s.drives[extractionDrive].write w.settleGrant.grant.valveDemand
          else s.drives[extractionDrive]) ∧
        (¬ anew → t.turbine = w ∧ t.drives[extractionDrive] = s.drives[extractionDrive]) ∧
        t.drives[admissionDrive] = admission ∧ Same .constraints s t
      let speedRun (sp : Int) : Turbine := { v with
        speedSetpoint := sp, pendingLoop := if u.pendingLoop = some .speed then none else u.pendingLoop,
        speedLoop :=
          if u.pendingLoop = some .speed then u.speedLoop.start sp v.speedView (sp - v.speedView) c.speedKp c.speedKi valve.value
          else u.speedLoop.run sp v.speedView (sp - v.speedView) c.speedKp c.speedKi }
      let ramped (goal : Int) : Int :=
        if u.powerSetpoint < goal then min goal (u.powerSetpoint + (c.loadRate : Int) / 10)
        else max goal (u.powerSetpoint - (c.loadRate : Int) / 10)
      let powerRun (sp : Int) : Turbine × Drive :=
        match v.powerView with
        | none => ({ v with powerSetpoint := sp }, valve)
        | some m =>
          let loop := if u.pendingLoop = some .power then u.powerLoop.start sp m (sp - m) c.powerKp c.powerKi valve.value
            else u.powerLoop.run sp m (sp - m) c.powerKp c.powerKi
          ({ v with powerSetpoint := sp, pendingLoop := if u.pendingLoop = some .power then none else u.pendingLoop,
                    powerLoop := loop }, valve.write loop.output)
      let headerRun : Turbine × Drive :=
        match v.headerView with
        | none => (v, valve)
        | some m =>
          let loop :=
            if u.pendingLoop = some .header then
              u.headerLoop.start c.headerSetpoint m (m - c.headerSetpoint) c.headerKp c.headerKi valve.value
            else u.headerLoop.run c.headerSetpoint m (m - c.headerSetpoint) c.headerKp c.headerKi
          ({ v with pendingLoop := if u.pendingLoop = some .header then none else u.pendingLoop, headerLoop := loop },
            valve.write loop.output)
      (∀ d : Fin 15, d ≠ admissionDrive → d ≠ extractionDrive → t.drives[d] = s.drives[d]) ∧
      (u.state.energised = true → lost →
        t.turbine = v.trip s.clock .admissionLost none ∧ TripSpreads s t valve) ∧
      (u.state = .rolling → ¬ lost →
        let w := speedRun (min c.syncSpeed (u.speedSetpoint + (c.accelRate : Int) / 10))
        (¬ band → Ends { w with syncCount := 0 } (valve.write w.speedLoop.output) False) ∧
        (band → satSucc 600 u.syncCount < c.syncHold →
          Ends { w with syncCount := satSucc 600 u.syncCount } (valve.write w.speedLoop.output) False) ∧
        (band → c.syncHold ≤ satSucc 600 u.syncCount →
          Ends { w with syncCount := satSucc 600 u.syncCount, state := .syncWait } (valve.write w.speedLoop.output) True)) ∧
      (u.state = .syncWait → ¬ lost → let w := speedRun c.syncSpeed
        (band → Ends w (valve.write w.speedLoop.output) False) ∧
        (¬ band → Ends { w with state := .rolling, syncCount := 0 } (valve.write w.speedLoop.output) True)) ∧
      (u.state = .loaded → ¬ lost →
        let r := if u.mode = .load then powerRun (ramped c.loadTarget) else headerRun
        (v.headerView = none → Ends r.1 r.2 False) ∧
        (∀ h, v.headerView = some h → c.headerMin ≤ h → Ends { r.1 with headerCount := 0 } r.2 False) ∧
        (∀ h, v.headerView = some h → h < c.headerMin → satSucc 6000 u.headerCount < 10 * c.headerConfirm →
          Ends { r.1 with headerCount := satSucc 6000 u.headerCount } r.2 False) ∧
        (∀ h, v.headerView = some h → h < c.headerMin → 10 * c.headerConfirm ≤ satSucc 6000 u.headerCount →
          t.turbine = r.1.trip s.clock .lowHeader (some h) ∧ TripSpreads s t r.2)) ∧
      (u.state = .unloading → ¬ lost → let r := powerRun (ramped c.minLoad)
        (r.1.powerSetpoint = c.minLoad → u.openCommanded = false →
          Ends { r.1 with openCommanded := true, breakerTimer := some (c.breakerTimeout * 1000) } r.2 False ∧
            t.discretes[breakerOpenLine].roleCommand = true) ∧
        (r.1.powerSetpoint ≠ c.minLoad ∨ u.openCommanded = true → Ends r.1 r.2 False)) ∧
      (u.state = .stopped → Ends v valve False) ∧
      (u.state = .tripped →
        (u.verifyCount = none ∨ v.flowView = none → Ends v valve False) ∧
        ∀ n f, u.verifyCount = some n → v.flowView = some f →
          (f < c.verifyFlow → Ends { v with verifyCount := some 0 } valve False) ∧
          (c.verifyFlow ≤ f → satSucc 6000 n < 10 * c.tripVerifyTime →
            Ends { v with verifyCount := some (satSucc 6000 n) } valve False) ∧
          (c.verifyFlow ≤ f → 10 * c.tripVerifyTime ≤ satSucc 6000 n →
            Ends { v with verifyCount := none, stopValveFail := true } valve False))))

/-! ### The heat exchange unit (chapter 08) -/

/-- Derived (R97, R160, R164, R165): every form of ConfigureHeating and of HeatingCommand ON and OFF. The reason a refused ON names is
the model's coding (log 18), so the statement leaves it open. That a refused ON carries its reason byte alone, without the state that
R164 gives the reply, is the model's deduction (log 45). -/
def Obligations.HeatingRequests : Prop :=
  ∀ (tag : Byte) (s : State), Ready s → 1 ≤ s.turbine.cfg.extractionMax → let u := s.heating; let old := u.cfg
    let configured (c : HeatingConfig) : Bool := c.outdoorPoint.isSome && c.supplyPoint.isSome && c.returnPoint.isSome &&
      c.netFlowPoint.isSome && c.brineInPoint.isSome && c.brineOutPoint.isSome && c.brineFlowPoint.isSome
    (∀ q : HeatingFields,
      (HeatingFields.check q = none → Refuses (.configureHeating tag q) s 0x19 tag .badField []) ∧
      (HeatingFields.check q = none ↔ ¬ (
        (∀ p ∈ [q.outdoorPoint, q.supplyPoint, q.returnPoint, q.netFlowPoint, q.brineInPoint, q.brineOutPoint,
          q.brineFlowPoint], ∀ n, p = some n → n ≤ 95) ∧
        (∀ x ∈ [q.brineFloorDefault, q.supplyMax], ValueClass.temp.lo ≤ x ∧ x ≤ ValueClass.temp.hi) ∧
        (0 ≤ q.supplyHys ∧ q.supplyHys ≤ 5000) ∧ (1 ≤ q.shortConfirm ∧ q.shortConfirm ≤ 3600) ∧
        (∀ g ∈ [q.supplyKp, q.supplyKi, q.floorKp, q.floorKi], g ≤ 10000))) ∧
      ∀ new, HeatingFields.check q = some new →
        let rebinds : Prop := old.outdoorPoint ≠ new.outdoorPoint ∨ old.supplyPoint ≠ new.supplyPoint ∨
          old.returnPoint ≠ new.returnPoint ∨ old.netFlowPoint ≠ new.netFlowPoint ∨ old.brineInPoint ≠ new.brineInPoint ∨
          old.brineOutPoint ≠ new.brineOutPoint ∨ old.brineFlowPoint ≠ new.brineFlowPoint
        new.fields = q ∧
        (s.phase = .run → rebinds → Refuses (.configureHeating tag q) s 0x19 tag .state []) ∧
        (¬ (s.phase = .run ∧ rebinds) →
          Replies (.configureHeating tag q) s 0x19 tag .ok (Wire.putHeatingFields q ++ Wire.putBool (configured new))
            [.heating, .constraints] (fun t =>
              t.heating = { u with cfg := new } ∧ t.slots = s.slots ∧ t.combined = s.combined ∧
              (∀ g : Target, g ≠ .brineFloor ∨ old.brineFloorDefault = new.brineFloorDefault →
                t.bounds[g.index] = s.bounds[g.index]) ∧
              (old.brineFloorDefault ≠ new.brineFloorDefault →
                t.bounds[Target.brineFloor.index] = boundOf t .brineFloor)))) ∧
    (u.state ≠ .off →
      Replies (.heatingOn tag) s 0x1B tag .ok [BitVec.ofNat 8 u.state.code] [] (fun _ => True)) ∧
    (u.state = .off → s.phase = .run → configured old = true → u.curve.isSome = true →
      Replies (.heatingOn tag) s 0x1B tag .ok [BitVec.ofNat 8 HeatState.active.code] [.heating] (fun t =>
        t.heating = { u with state := .active, targetHeld := false, loopsPending := true })) ∧
    (u.state = .off → s.phase ≠ .run ∨ configured old = false ∨ u.curve = none →
      ∃ reason : Byte, Refuses (.heatingOn tag) s 0x1B tag .state [reason]) ∧
    (u.state = .off →
      Replies (.heatingOff tag) s 0x1B tag .ok [BitVec.ofNat 8 HeatState.off.code] [] (fun _ => True)) ∧
    (u.state ≠ .off →
      Replies (.heatingOff tag) s 0x1B tag .ok [BitVec.ofNat 8 HeatState.off.code] [.heating, .turbine, .drives] (fun t =>
        t.heating = { u with
          state := .off, extractionShare := some 0, target := none, targetHeld := false, holdFrom := none, holdReason := none,
          selected := none, loopsPending := false, shortCount := 0, supplyShort := false } ∧
        t.turbine = { s.turbine with grant := ⟨0, 0, 0⟩ } ∧
        (∀ d : Fin 15, t.drives[d] =
          if d = bypassDrive then s.drives[d].write 10000
          else if d = extractionDrive ∧ s.turbine.state.energised = true then s.drives[d].write 0 else s.drives[d])))

/-- Derived (R162, R163): every form of SetCurve, and the target a curve gives: the end targets outside it, and on a segment the
rounded line through its two breakpoints. -/
def Obligations.TheHeatingCurve : Prop :=
  (∀ (tag : Byte) (curve : List (Int × Int)) (s : State), Ready s →
    let good : Prop := 2 ≤ curve.length ∧ curve.length ≤ 8 ∧
      (∀ b ∈ curve, (ValueClass.temp.lo ≤ b.1 ∧ b.1 ≤ ValueClass.temp.hi) ∧
        ValueClass.temp.lo ≤ b.2 ∧ b.2 ≤ ValueClass.temp.hi) ∧
      curve.Pairwise (fun a b => a.1 < b.1)
    (¬ good → Refuses (.setCurve tag curve) s 0x1A tag .badField []) ∧
    (good → Replies (.setCurve tag curve) s 0x1A tag .ok (Wire.putByte curve.length ++ Wire.putBreakpoints curve) [.heating]
      (fun t => t.heating = { s.heating with curve := some curve }))) ∧
  ∀ (c : List (Int × Int)) (x : Int), c.Pairwise (fun a b => a.1 < b.1) →
    (∀ o v rest, c = (o, v) :: rest → x ≤ o → curveTarget c x = some v) ∧
    (∀ before o v, c = before ++ [(o, v)] → o ≤ x → curveTarget c x = some v) ∧
    ∀ before o v o2 v2 after, c = before ++ (o, v) :: (o2, v2) :: after → o ≤ x → x < o2 →
      let span := o2 - o; let line := v * span + (v2 - v) * (x - o)
      ∃ r, curveTarget c x = some r ∧ 2 * |r * span - line| ≤ span ∧
        (2 * |r * span - line| = span → |line| < |r * span|)

/-- Derived (R163, R166 to R178): what the HX period does in each state of heating: the inputs, the settling of the state, the target,
and in ACTIVE the allocation with the request written to the governor and the bypass with its two loops. That neither loop
counts as selected while DV10 is FAILING is the model's reading of R175 (log 26), and that a starting run leaves held at no its choice
(log 55). That an expiry of the stopped timer changes nothing is its deduction (log 9). -/
def Obligations.HeatExchangePeriod : Prop :=
  ∀ s : State, Running s → 1 ≤ s.turbine.cfg.extractionMax →
    (s.heating.periodTimer = none → Idles .hxPeriodExpiry s) ∧
    (s.heating.periodTimer.isSome = true → Happens .hxPeriodExpiry s [.heating, .turbine, .drives] (fun t =>
      let u := s.heating; let c := u.cfg; let bypass := s.drives[bypassDrive]
      let views : HeatViews := ⟨readView s c.outdoorPoint, readView s c.supplyPoint, readView s c.returnPoint,
        readView s c.netFlowPoint, readView s c.brineInPoint, readView s c.brineOutPoint, readView s c.brineFlowPoint⟩
      let v : Heating := { u with
        periodTimer := some 1000, floorView := s.bounds[Target.brineFloor.index], views := views }
      let essential : List (HoldReason × Option PointView) :=
        [(.supplyPoint, views.supply), (.returnPoint, views.ret), (.netFlowPoint, views.netFlow),
          (.brineInPoint, views.brineIn), (.brineOutPoint, views.brineOut), (.brineFlowPoint, views.brineFlow)]
      let unusable := essential.find? (fun e => decide (viewValue e.2 = none))
      let noTarget : Prop := viewValue views.outdoor = none ∧ u.target = none
      let formed (h : Heating) : Heating :=
        match viewValue views.outdoor with
        | none => { h with targetHeld := true }
        | some x => { h with target := (u.curve.bind (fun b => curveTarget b x)).or u.target, targetHeld := false }
      let Requests (r : Int) : Prop :=
        t.turbine = ({ s.turbine with grant := { s.turbine.grant with request := r } } : Turbine).settleGrant ∧
        (∀ d : Fin 15, d ≠ bypassDrive → t.drives[d] =
          if d = extractionDrive ∧ s.turbine.state.energised = true then s.drives[d].write t.turbine.grant.valveDemand
          else s.drives[d])
      let Rests (h : Heating) : Prop := t.heating = h ∧ t.turbine = s.turbine ∧ t.drives = s.drives
      let Holds (r : HoldReason) : Prop :=
        Rests { v with state := .hold, holdFrom := if u.state = .hold then u.holdFrom else some u.state, holdReason := some r }
      (u.state = .off → Rests v) ∧
      (u.state ≠ .off →
        (∀ e, unusable = some e → Holds e.1) ∧
        (unusable = none → noTarget → Holds .noTarget) ∧
        (¬ noTarget → ∀ net, viewValue views.netFlow = some net → ∀ sup, viewValue views.supply = some sup →
          ∀ ret, viewValue views.ret = some ret → ∀ flow, viewValue views.brineFlow = some flow →
          ∀ inlet, viewValue views.brineIn = some inlet → ∀ outlet, viewValue views.brineOut = some outlet →
          let hot : Prop := (u.state ≠ .cut ∧ c.supplyMax ≤ sup) ∨
            (u.state = .hold ∧ u.holdFrom = some .cut ∧ c.supplyMax - c.supplyHys ≤ sup)
          let stillCut : Prop := u.state = .cut ∧ c.supplyMax - c.supplyHys ≤ sup
          (hot → Requests 0 ∧ t.turbine.grant.grant = 0 ∧ t.drives[bypassDrive] = bypass.write 10000 ∧
            t.heating = formed { v with state := .cut, holdFrom := none, holdReason := none, extractionShare := some 0,
                                        shortfall := some 0, shortCount := 0, supplyShort := false }) ∧
          (stillCut → Rests (formed v)) ∧
          (¬ hot → ¬ stillCut → ∀ target, (formed v).target = some target →
            let floor := v.floorView.value; let opening := 10000 - bypass.value
            let required := max 0 (Int.tdiv (419 * net * (target - ret)) 1000000)
            let capacity := max 0 (Int.tdiv (419 * flow * (inlet - floor)) 1000000)
            let share := min required capacity; let grant := t.turbine.grant.grant
            let shortfall := required - share - grant
            let count := if 0 < shortfall then satSucc 3600 u.shortCount else 0
            let supplyP := Int.tdiv ((target - sup) * c.supplyKp) 1000
            let floorP := Int.tdiv ((outlet - floor) * c.floorKp) 1000
            let starting : Bool := u.loopsPending || decide (u.state ≠ .active)
            let supplyFirst : Prop := clamp 0 10000 (supplyP + u.supplyLoop.integral) <
              clamp 0 10000 (floorP + u.floorLoop.integral)
            let supplyStarted := u.supplyLoop.start target sup (target - sup) c.supplyKp c.supplyKi opening
            let floorStarted := u.floorLoop.start floor outlet (outlet - floor) c.floorKp c.floorKi opening
            let supplyFree := u.supplyLoop.run target sup (target - sup) c.supplyKp c.supplyKi
            let floorFree := u.floorLoop.run floor outlet (outlet - floor) c.floorKp c.floorKi
            let supplyHeld := u.supplyLoop.runHeld target sup (target - sup) c.supplyKp c.supplyKi
            let floorHeld := u.floorLoop.runHeld floor outlet (outlet - floor) c.floorKp c.floorKi
            let Ends (l m : Loop) (selected : Option Selected) : Prop :=
              t.heating = { formed v with
                state := .active, holdFrom := if u.state = .active then u.holdFrom else none,
                holdReason := if u.state = .active then u.holdReason else none, loopsPending := false,
                requiredHeat := some required, brineCapacity := some capacity, brineShare := some share,
                extractionShare := some grant, shortfall := some shortfall, shortCount := count,
                supplyShort := decide (0 < shortfall) && (u.supplyShort || decide (c.shortConfirm ≤ count)),
                supplyLoop := l, floorLoop := m, selected := selected } ∧
              t.drives[bypassDrive] = bypass.write (10000 - min l.output m.output)
            Requests (clamp 0 100000 (required - share)) ∧
            (starting = true → Ends supplyStarted floorStarted
              (some (if supplyStarted.output < floorStarted.output then .supply else .floor))) ∧
            (starting = false → bypass.delivery = .failing → Ends supplyHeld floorHeld none) ∧
            (starting = false → bypass.delivery ≠ .failing → supplyFirst → Ends supplyFree floorHeld (some .supply)) ∧
            (starting = false → bypass.delivery ≠ .failing → ¬ supplyFirst →
              Ends supplyHeld floorFree (some .floor)))))))

/-! ### Scaling sites (chapter 04) -/

/-- Stated (R75), with the ratios and the floor that rest on it (R76, R77, R80): the solubility of silica between the table's values,
its range and its order; the ratios rounded half up and clamped; the floor temperature by two divisions that round upward. -/
def Obligations.ScalingArithmetic : Prop :=
  silicaTable = [70, 106, 153, 212, 282, 364, 458, 563, 680, 807, 944, 1091, 1246, 1409] ∧
    (∀ x : Int, (x < 0 → solubility x = 70) ∧ (26000 ≤ x → solubility x = 1409) ∧
      ∀ (i : Nat) (lo hi : Int), silicaTable[i]? = some lo → silicaTable[i + 1]? = some hi → 2000 * (i : Int) ≤ x →
        x < 2000 * (i + 1) → ∃ q, solubility x = lo + q ∧ 4000 * q ≤ 2 * ((hi - lo) * (x - 2000 * i)) + 2000 ∧
          2 * ((hi - lo) * (x - 2000 * i)) + 2000 < 4000 * (q + 1)) ∧
    (∀ x y : Int, 70 ≤ solubility x ∧ solubility x ≤ 1409 ∧ (x ≤ y → solubility x ≤ solubility y)) ∧
    (∀ c x : Int, 0 ≤ c → let d := solubility x
      ∃ q, silicaRatio c x = min 9999 q ∧ 2 * d * q ≤ 2000 * c + d ∧ 2000 * c + d < 2 * d * (q + 1)) ∧
    (∀ flash p : Int, 0 ≤ flash → 0 ≤ p → (p = 0 → calciteRatio flash p = 9999) ∧
      (0 < p → ∃ q, calciteRatio flash p = min 9999 q ∧ 2 * p * q ≤ 2000 * flash + p ∧
        2000 * flash + p < 2 * p * (q + 1))) ∧
    ∀ (c need : Int) (onset : Nat), 0 ≤ c → 0 < onset → (need - 1) * onset < 1000 * c → 1000 * c ≤ need * onset →
      (need ≤ 70 → silicaFloor c onset = (0, false)) ∧
      (1409 < need → silicaFloor c onset = (26000, true)) ∧
      (70 < need → need ≤ 1409 → ∀ (j : Nat) (lo hi : Int), silicaTable[j]? = some lo → silicaTable[j + 1]? = some hi →
        lo < need → need ≤ hi → ∃ x, silicaFloor c onset = (x, false) ∧ need ≤ solubility x ∧
          (x - 2000 * j - 1) * (hi - lo) < (need - lo) * 2000 ∧ (need - lo) * 2000 ≤ (x - 2000 * j) * (hi - lo))

/-- Derived (R71, R86, R94): every form of ConfigureSite and of the SiteCommands. That RESTORE_DOSE of a value beyond four bytes is
refused BAD_FIELD is the model's choice (log 31), and that the reply of MARK_CLEANED and RESTORE_DOSE holds cumulativeDose alone its
reading (log 19); so are that a second byte other than 0 beside FIXED, NONE or BRINE_FLOOR is refused (log 41) and the three-byte width
of the margins (log 58). That with kind NONE either action, any margin and any fallbackFloor pass, and that ENABLE takes doseBase as
configured at the command, are the model's choices (log 68, 67). -/
def Obligations.SiteRequests : Prop :=
  ∀ (tag : Byte) (s : State), Ready s →
    (∀ q : SiteFields,
      (SiteFields.check q = none → Refuses (.configureSite tag q) s 0x1D tag .badField []) ∧
      (SiteFields.check q = none ↔ ¬ (
        (q.site ≤ 11 ∧ q.kind ≤ 2) ∧ (∀ p ∈ [q.tempPoint, q.presPoint], ∀ n, p = some n → n ≤ 95) ∧
        ((q.concKind = 0 ∧ q.concPoint = 0) ∨ (q.concKind = 1 ∧ q.concPoint ≤ 95)) ∧
        ((q.actionKind ≤ 1 ∧ q.actionWell = 0) ∨ (q.actionKind = 2 ∧ q.actionWell ≤ 7)) ∧
        ¬ (q.actionKind = 1 ∧ q.kind = 2) ∧ ¬ (q.actionKind = 2 ∧ q.kind = 1) ∧
        (∀ n, q.station = some n → n ≤ 3) ∧ (ValueClass.conc.lo ≤ q.fixedConc ∧ q.fixedConc ≤ ValueClass.conc.hi) ∧
        (800 ≤ q.onset ∧ q.onset ≤ 3000) ∧
        (q.kind = 1 → (∀ m ∈ [q.margin, q.alarmMargin, q.inhibitorLostMargin], 0 ≤ m ∧ m ≤ 5000) ∧
          ValueClass.temp.lo ≤ q.fallbackFloor ∧ q.fallbackFloor ≤ ValueClass.temp.hi) ∧
        (q.kind = 2 → (∀ m ∈ [q.margin, q.alarmMargin, q.inhibitorLostMargin], 0 ≤ m ∧ m ≤ 1000) ∧
          ValueClass.pres.lo ≤ q.fallbackFloor ∧ q.fallbackFloor ≤ ValueClass.pres.hi) ∧
        (0 ≤ q.doseBase ∧ q.doseBase ≤ 10000) ∧ q.doseGain ≤ 10000 ∧ (1 ≤ q.alertDose ∧ q.alertDose ≤ 36000000) ∧
        q.clearDose < q.alertDose ∧ (60 ≤ q.confirmTime ∧ q.confirmTime ≤ 3600) ∧
        (1 ≤ q.serviceDose ∧ q.serviceDose ≤ 4294967295) ∧
        (ValueClass.pres.lo ≤ q.flashBase ∧ q.flashBase ≤ ValueClass.pres.hi) ∧
        (ValueClass.temp.lo ≤ q.flashTemp ∧ q.flashTemp ≤ ValueClass.temp.hi) ∧ -10000 ≤ q.slope ∧ q.slope ≤ 10000)) ∧
      ∀ i new, SiteFields.check q = some (i, new) → let x := s.sites[i]; let old := x.cfg
        let structural : Prop := old.kind ≠ new.kind ∨ old.tempPoint ≠ new.tempPoint ∨ old.concSource ≠ new.concSource ∨
          old.presPoint ≠ new.presPoint ∨ old.action ≠ new.action ∨ old.station ≠ new.station
        (i.val = q.site ∧ new.fields = { q with site := 0 }) ∧
        (s.phase = .run → structural → Refuses (.configureSite tag q) s 0x1D tag .state []) ∧
        (¬ (s.phase = .run ∧ structural) →
          Replies (.configureSite tag q) s 0x1D tag .ok (Wire.putSiteConfig new.fields) [.sites] (fun t =>
            (∀ j : Fin 12, j ≠ i → t.sites[j] = s.sites[j]) ∧
            (old.kind ≠ new.kind → t.sites[i] =
              ⟨new, false, 0, 0, false, false, .normal, none, 0, 0, [], 0, 0, none, none⟩) ∧
            (old.kind = new.kind → structural → t.sites[i] =
              { x with cfg := new, ratio := 0, excess := 0, level := .normal, alertAge := none, inputsLost := false,
                       floorUnreachable := false, minuteDose := 0, minuteCover := 0, siteFloor := none }) ∧
            (¬ structural → t.sites[i] = { x with cfg := new })))) ∧
    ∀ site value : Nat,
      (12 ≤ site → Refuses (.siteEnable tag site) s 0x1E tag .badField [] ∧
        Refuses (.siteDisable tag site) s 0x1E tag .badField [] ∧ Refuses (.markCleaned tag site) s 0x1E tag .badField [] ∧
        Refuses (.restoreDose tag site value) s 0x1E tag .badField []) ∧
      ∀ i : Fin 12, site = i.val → let x := s.sites[i]
        let Becomes (t : State) (y : Site) : Prop := t.sites[i] = y ∧ ∀ j : Fin 12, j ≠ i → t.sites[j] = s.sites[j]
        (x.cfg.kind = .none → Refuses (.siteEnable tag site) s 0x1E tag .state [] ∧
          Refuses (.markCleaned tag site) s 0x1E tag .state []) ∧
        (x.cfg.kind ≠ .none → x.enabled = true →
          Replies (.siteEnable tag site) s 0x1E tag .ok [1, BitVec.ofNat 8 x.level.code] [] (fun _ => True)) ∧
        (x.cfg.kind ≠ .none → x.enabled = false →
          Replies (.siteEnable tag site) s 0x1E tag .ok [1, BitVec.ofNat 8 SiteLevel.normal.code] [.sites] (fun t =>
            Becomes t { x with
              enabled := true, ratio := 0, excess := 0, level := .normal, alertAge := none, inputsLost := false,
              floorUnreachable := false, minuteDose := 0, minuteCover := 0, siteFloor := none,
              demand := some x.cfg.doseBase })) ∧
        (x.enabled = false →
          Replies (.siteDisable tag site) s 0x1E tag .ok [0, BitVec.ofNat 8 x.level.code] [] (fun _ => True)) ∧
        (x.enabled = true →
          Replies (.siteDisable tag site) s 0x1E tag .ok [0, BitVec.ofNat 8 SiteLevel.normal.code] [.sites, .constraints]
            (fun t => Becomes t { x with enabled := false, level := .normal, alertAge := none, inputsLost := false,
                                         minuteDose := 0, minuteCover := 0, demand := none } ∧
              Posted s t (siteSlot i) none)) ∧
        (x.cfg.kind ≠ .none →
          Replies (.markCleaned tag site) s 0x1E tag .ok (Wire.putNat 4 0) [.sites] (fun t =>
            Becomes t { x with cumulativeDose := 0 })) ∧
        (4294967295 < value → Refuses (.restoreDose tag site value) s 0x1E tag .badField []) ∧
        (value ≤ 4294967295 → x.cfg.kind = .none ∨ s.phase = .run →
          Refuses (.restoreDose tag site value) s 0x1E tag .state []) ∧
        (value ≤ 4294967295 → x.cfg.kind ≠ .none → s.phase = .config →
          Replies (.restoreDose tag site value) s 0x1E tag .ok (Wire.putNat 4 value) [.sites] (fun t =>
            Becomes t { x with cumulativeDose := value }))

/-- Derived (R73, R74, R76 to R86, R88 to R93): what the SM period does to every site: inputs, ratio and dose, the minute where it
closes, the level, the floor with its margins, the demand, the post to the site's own slot, and then the dosing drives. That an expiry
of the stopped timer changes nothing is the model's deduction (log 9). -/
def Obligations.ScalingPeriod : Prop :=
  ∀ s : State, Running s →
    (s.smTimer = none → Idles .smPeriodExpiry s) ∧
    (s.smTimer.isSome = true → Happens .smPeriodExpiry s [.sites, .monitor, .drives, .constraints] (fun t =>
      let closing : Bool := decide (60 ≤ s.minuteCounter + 1)
      t.smTimer = some 1000 ∧ t.minuteCounter = (if closing then 0 else s.minuteCounter + 1) ∧ (TableLaw s → TableLaw t) ∧
      (∀ k : Fin 22, 12 ≤ k.val → t.slots[k] = s.slots[k]) ∧
      (∀ i : Fin 12, let x := s.sites[i]; let c := x.cfg; let y := t.sites[i]
        let ringWith (dose cover : Nat) : List MinuteRecord :=
          (x.ring ++ [(⟨dose, cover, s.clock⟩ : MinuteRecord)]).drop (x.ring.length - 59)
        (c.kind = .none ∨ (x.enabled = false ∧ closing = false) → y = x ∧ t.slots[siteSlot i] = s.slots[siteSlot i]) ∧
        (c.kind ≠ .none → x.enabled = false → closing = true →
          y = { x with minuteDose := 0, minuteCover := 0, ring := ringWith 0 0, hourlyDose := ringDose (ringWith 0 0),
                       cumulativeDose := min 4294967295 x.cumulativeDose } ∧
          t.slots[siteSlot i] = s.slots[siteSlot i]) ∧
        (c.kind ≠ .none → x.enabled = true →
          let temp := boundValue s c.tempPoint
          let concentration := match c.concSource with
            | .fixed => some c.fixedConc
            | .point p => s.points[p].usableValue
          -- the saturation ratio, the base floor and whether the floor is unreachable, where the inputs are usable
          let found : Option (Nat × Int × Bool) :=
            match c.kind, temp, concentration, boundValue s c.presPoint with
            | .silica, some x, some conc, _ =>
              some ((silicaRatio conc x).toNat, (silicaFloor conc c.onset).1, (silicaFloor conc c.onset).2)
            | .calcite, some x, _, some p =>
              let flash := max 0 (c.flashBase + Int.tdiv (c.slope * (x - c.flashTemp)) 100)
              some ((calciteRatio flash p).toNat, flash, false)
            | _, _, _, _ => none
          let ratio := (found.map (fun r => r.1)).getD x.ratio
          let excess := (found.map (fun r => r.1 - c.onset)).getD x.excess
          let dose := x.minuteDose + (found.map (fun r => r.1 - c.onset)).getD 0
          let cover := x.minuteCover + (if found.isSome then 1 else 0)
          let ring := if closing then ringWith dose cover else x.ring
          let hourly := if closing then ringDose ring else x.hourlyDose
          let aged : SiteLevel × Option Nat :=
            if x.level = .alert then
              let age := satSucc 3600 (x.alertAge.getD 0)
              if c.confirmTime ≤ age then (.alarm, none) else (.alert, some age)
            else (x.level, x.alertAge)
          let tested : SiteLevel × Option Nat :=
            if closing = true ∧ (aged.1 = .normal ∨ aged.1 = .watch) ∧ c.alertDose ≤ hourly then (.alert, some 0)
            else if closing = true ∧ (aged.1 = .alert ∨ aged.1 = .alarm) ∧ hourly < c.clearDose then (.normal, none)
            else aged
          let level : SiteLevel :=
            if tested.1 = .normal ∨ tested.1 = .watch then (if c.onset ≤ ratio then .watch else .normal) else tested.1
          let lost : Bool := c.station.any (fun j => decide (s.drives[dosingDrive j].delivery = .failing))
          let margins : Int := c.margin + (if level = .alarm then c.alarmMargin else 0) +
            (if lost then c.inhibitorLostMargin else 0)
          let floor : Int :=
            match c.kind, found with
            | .calcite, some r => ValueClass.pres.clamp (ceilDiv (r.2.1 * (1000 + margins)) 1000)
            | .calcite, none => ValueClass.pres.clamp c.fallbackFloor
            | _, some r => ValueClass.temp.clamp (r.2.1 + margins)
            | _, none => ValueClass.temp.clamp c.fallbackFloor
          y = { x with
              ratio := ratio, excess := excess, floorUnreachable := (found.map (fun r => r.2.2)).getD x.floorUnreachable,
              inputsLost := found.isNone, minuteDose := if closing then 0 else dose,
              minuteCover := if closing then 0 else cover, ring := ring, hourlyDose := hourly,
              cumulativeDose := if closing then min 4294967295 (x.cumulativeDose + dose) else x.cumulativeDose,
              level := level, alertAge := tested.2, siteFloor := some floor,
              demand := if found.isSome then
                some (clamp 0 10000 (c.doseBase + roundHalfUp ((excess : Int) * c.doseGain) 100)) else x.demand } ∧
          (c.action = .none → t.slots[siteSlot i] = s.slots[siteSlot i]) ∧
          ∀ g, c.action.target = some g → t.slots[siteSlot i] = some ⟨g, g.cls.clamp floor, s.clock⟩)) ∧
      (∀ d : Fin 15, d.val < 11 → t.drives[d] = s.drives[d]) ∧
      ∀ j : Fin 4, ∃ v : Int, t.drives[dosingDrive j] = s.drives[dosingDrive j].write v ∧ 0 ≤ v ∧
        (∀ i : Fin 12, t.sites[i].enabled = true → t.sites[i].cfg.station = some j → t.sites[i].demand.getD 0 ≤ v) ∧
        (v = 0 ∨ ∃ i : Fin 12, t.sites[i].enabled = true ∧ t.sites[i].cfg.station = some j ∧
          t.sites[i].demand = some v)))

/-! ### The constraint table and the condition unit (chapters 05 and 09) -/

/-- Derived (R97, R100 to R102): what the default of a target, its bound and binding origin, and the combined ceiling of a well are. -/
def Obligations.TheStricterBoundHolds : Prop :=
  (∀ s : State, targetDefault s .brineFloor = s.heating.cfg.brineFloorDefault ∧ targetDefault s .pumpCeilAll = 10000 ∧
    ∀ k : Fin 8, targetDefault s (.wellFloor k) = s.wells[k].cfg.ownFloor ∧ targetDefault s (.pumpCeil k) = 10000) ∧
  (∀ (slots : Vector (Option Post) 22) (dflt : Int) (g : Target), let v := effectiveBound slots dflt g
    let posted (x : Int) : Prop := ∃ k : Fin 22, ∃ p, slots[k] = some p ∧ p.target = g ∧ p.value = x
    (v = dflt ∨ posted v) ∧
      (g.isFloor = true → dflt ≤ v ∧ ∀ x, posted x → x ≤ v) ∧ (g.isFloor = false → v ≤ dflt ∧ ∀ x, posted x → v ≤ x)) ∧
    (∀ g : Target, g.isFloor = true ↔ g = .brineFloor ∨ ∃ k, g = .wellFloor k) ∧
    (∀ (s : State) (g : Target), boundOf s g =
        ⟨effectiveBound s.slots (targetDefault s g) g, bindingSlot s.slots g (effectiveBound s.slots (targetDefault s g) g)⟩ ∧
      ∀ v : Int, let posts (k : Fin 22) : Prop := ∃ p, s.slots[k] = some p ∧ p.target = g ∧ p.value = v
        (bindingSlot s.slots g v = none ↔ ∀ k, ¬ posts k) ∧
        ∀ k, bindingSlot s.slots g v = some k ↔ posts k ∧ ∀ j, j < k → ¬ posts j) ∧
    ∀ (s : State) (w : Fin 8), let b := combinedOf s w
      let v := min s.bounds[(Target.pumpCeil w).index].value s.bounds[Target.pumpCeilAll.index].value
      let posts (k : Fin 22) : Prop := ∃ p, s.slots[k] = some p ∧ (p.target = .pumpCeil w ∨ p.target = .pumpCeilAll) ∧
        p.value = v
      b.value = v ∧ (b.origin = none ↔ ∀ k, ¬ posts k) ∧ ∀ k, b.origin = some k ↔ posts k ∧ ∀ j, j < k → ¬ posts j

/-- Derived (R98, R99, R104, R105): every form of PostLimit and WithdrawLimit. That a reply gives a binding origin as an optional
identifier, DEFAULT being its absence, is the model's choice (log 49), and so is that WithdrawLimit reports the slot withdrawn, or that
none was, in that form (log 60). -/
def Obligations.PoolRequests : Prop :=
  ∀ (tag : Byte) (kind well : Nat) (value : Int) (s : State), Ready s →
    (targetOf kind well = none → Refuses (.postLimit tag kind well value) s 0x20 tag .badField [] ∧
      Refuses (.withdrawLimit tag kind well) s 0x21 tag .badField []) ∧
    (∀ g, targetOf kind well = some g ↔
      (kind = 0 ∧ well = 0 ∧ g = .brineFloor) ∨ (∃ k : Fin 8, kind = 1 ∧ well = k.val ∧ g = .wellFloor k) ∨
        (∃ k : Fin 8, kind = 2 ∧ well = k.val ∧ g = .pumpCeil k) ∨ (kind = 3 ∧ well = 0 ∧ g = .pumpCeilAll)) ∧
    ∀ g stored, targetOf kind well = some g → stored = g.cls.clamp value →
      let holds (j : Fin 8) : Prop := s.slots[poolSlot j].map Post.target = some g
      let free (j : Fin 8) : Prop := s.slots[poolSlot j] = none
      let Bounds (slots : Vector (Option Post) 22) : List Byte := let b := boundOf { s with slots := slots } g
        Wire.putClass b.value ++ putOrigin b.origin
      let Posts (j : Fin 8) : Prop := let p : Post := ⟨g, stored, s.clock⟩
        Replies (.postLimit tag kind well value) s 0x20 tag (if stored = value then .ok else .clamped)
          (Wire.putByte (14 + j.val) ++ Wire.putClass stored ++ Bounds (s.slots.set (poolSlot j).val (some p)))
          [.constraints] (fun t => Posted s t (poolSlot j) (some p))
      (∀ j, holds j → (∀ i, i < j → ¬ holds i) →
        Posts j ∧
        Replies (.withdrawLimit tag kind well) s 0x21 tag .ok
          (putIdent (some (poolSlot j)) ++ Bounds (s.slots.set (poolSlot j).val none))
          [.constraints] (fun t => Posted s t (poolSlot j) none)) ∧
      (∀ j, (∀ i, ¬ holds i) → free j → (∀ i, i < j → ¬ free i) → Posts j) ∧
      ((∀ i, ¬ holds i) → (∀ i, ¬ free i) → Refuses (.postLimit tag kind well value) s 0x20 tag .inUse []) ∧
      ((∀ i, ¬ holds i) →
        Replies (.withdrawLimit tag kind well) s 0x21 tag .ok
          (putIdent (none : Option (Fin 22)) ++ Wire.putClass s.bounds[g.index].value ++
            putOrigin s.bounds[g.index].origin) [] (fun _ => True))

/-- Derived (R182 to R191): every form of ReleaseSnapshot, SetMasks and Silence. The commanded level of ALARM follows the unsilenced
set at once; where that clears the line's own mismatch the live set changes with it (log 30), and the snapshot follows that change as
it follows any (`Follows`), judged by the watch mask the request found. Where D20 shows no mismatch the condition unit changes only as
the request asks. That the reply is begun before a notice of the same event, which therefore still waits, is the model's choice
(log 28). -/
def Obligations.ConditionRequests : Prop :=
  ∀ (tag : Byte) (s : State), Ready s → Settled s → let c := s.conditions
    let next := if c.number < 65535 then c.number + 1 else 0
    let Follows (t : State) : Prop := let b := t.conditions
      let counted : Prop := ∃ n : Fin 42, c.watch[n] = true ∧ c.live[n] ≠ b.live[n] ∧
        (¬ SetOnly n ∨ b.live[n] = true)
      (∀ n : Fin 42, b.live[n] = true ↔ SetWhile t n) ∧
        (c.held = true ∨ ¬ counted → b.held = c.held ∧ b.number = c.number ∧ b.frozen = c.frozen ∧ b.changed = c.changed ∧
          b.frozenAt = c.frozenAt ∧ t.link.condition = s.link.condition) ∧
        (c.held = false → counted → b.held = true ∧ b.number = next ∧ b.frozen = b.live ∧ b.frozenAt = s.clock ∧
          (∀ n : Fin 42, b.changed[n] =
            ((s.link.condition.map (fun m => m.changed[n])).getD false || b.live[n] != c.frozen[n])) ∧
          t.link.condition = some ⟨next, b.live, b.changed, s.clock⟩)
    (∀ number : Nat,
      (c.held = false → Replies (.releaseSnapshot tag number) s 0x24 tag .ok (Wire.putBool false ++ putWord c.number)
        [] (fun _ => True)) ∧
      (c.held = true → number ≠ c.number →
        Refuses (.releaseSnapshot tag number) s 0x24 tag .state (putWord c.number)) ∧
      (c.held = true → number = c.number →
        let difference : Prop := ∃ n : Fin 42, c.watch[n] = true ∧ c.live[n] ≠ c.frozen[n] ∧
          (¬ SetOnly n ∨ c.live[n] = true)
        let changed : MemberSet := Vector.ofFn (fun n =>
          (s.link.condition.map (fun m => m.changed[n])).getD false || c.live[n] != c.frozen[n])
        (¬ difference →
          Replies (.releaseSnapshot tag number) s 0x24 tag .ok (Wire.putBool false ++ putWord c.number) [.conditions]
            (fun t => t.conditions = { c with held := false } ∧ t.link.condition = s.link.condition)) ∧
        (difference →
          Replies (.releaseSnapshot tag number) s 0x24 tag .ok (Wire.putBool true ++ putWord next) [.conditions]
            (fun t => t.conditions = { c with number := next, frozen := c.live, changed := changed, frozenAt := s.clock } ∧
              t.link.condition = some ⟨next, c.live, changed, s.clock⟩)))) ∧
    (∀ watch horn : Option MemberMask,
      let good : Prop := ∀ m ∈ watch.toList ++ horn.toList, m.toNat < 2 ^ 42
      let w : MemberSet := match watch with | none => c.watch | some m => Vector.ofFn (fun n : Fin 42 => m.getLsbD n.val)
      let h : MemberSet := match horn with | none => c.horn | some m => Vector.ofFn (fun n : Fin 42 => m.getLsbD n.val)
      let kept : MemberSet := Vector.ofFn (fun n => c.unsilenced[n] && (horn.isNone || h[n]))
      (¬ good → Refuses (.setMasks tag watch horn) s 0x25 tag .badField []) ∧
      (good → Replies (.setMasks tag watch horn) s 0x25 tag .ok (putMembers w ++ putMembers h) [.conditions] (fun t =>
        t.conditions.watch = w ∧ t.conditions.horn = h ∧
        (∀ n : Fin 42, t.conditions.unsilenced[n] = (kept[n] && t.conditions.live[n])) ∧
        t.discretes[alarmLine].roleCommand = t.conditions.unsilenced.nonempty ∧ Follows t ∧
        (s.discretes[alarmLine].mismatch = false →
          t.conditions = { c with watch := w, horn := h, unsilenced := kept } ∧ t.link.condition = s.link.condition)))) ∧
    Replies (.silence tag) s 0x26 tag .ok (putMembers c.unsilenced) [.conditions] (fun t =>
      t.conditions.unsilenced = MemberSet.empty ∧ t.conditions.watch = c.watch ∧ t.conditions.horn = c.horn ∧
      t.discretes[alarmLine].roleCommand = false ∧ Follows t ∧
      (s.discretes[alarmLine].mismatch = false →
        t.conditions = { c with unsilenced := MemberSet.empty } ∧ t.link.condition = s.link.condition))

/-- Derived (R182 to R185, R187, R189, R191): the table of the condition set, by member number: what each member is set while and which
members are of class set only (the live set, and which changes are counted); and what every step of a part that runs does to the
condition unit: the live set holds what the table says, the unsilenced set takes
the horn's members that are set anew and loses those that clear, a FREE snapshot freezes on a watched counted change and asks for its
notice, and a HELD one stands. A pending notice waits or is begun. Of every command and of the empty queue, resets aside (after which
the part is in internal initialisation), and of a request that waits or is held whole; the three requests about conditions
themselves are ConditionRequests. -/
def Obligations.ConditionsFollowEveryEvent : Prop :=
  (∀ (s : State) (n : Fin 42), (liveNow s)[n] = true ↔ SetWhile s n) ∧
  (∀ n : Fin 42, (Member.ofNumber n).either = false ↔ SetOnly n) ∧
  ∀ s t : State, Running s → Settled s → step s = .next t → t.initialising = false →
    (∀ c, s.pending.head? = some c → (∀ tag r, c.request = some (tag, r) → ¬ AboutConditions r.kind) ∧
      ∀ tag kind body, c = .unknownKind tag kind body → ¬ AboutConditions kind.toNat) →
    (∀ q ∈ s.link.requests, ¬ AboutConditions q.kind.toNat) →
    (∀ kind, s.link.receiver.complete = true → s.link.receiver.bytes[1]? = some kind → ¬ AboutConditions kind.toNat) →
    let a := s.conditions; let b := t.conditions
    let counted : Prop := ∃ n : Fin 42, a.watch[n] = true ∧ a.live[n] ≠ b.live[n] ∧
      (¬ SetOnly n ∨ b.live[n] = true)
    let next := if a.number < 65535 then a.number + 1 else 0
    let Begun (n : ConditionNotice) : Prop := t.link.condition = none ∧ t.link.sending = some (conditionFrame n)
    (∀ n : Fin 42, b.live[n] = true ↔ SetWhile t n) ∧ b.watch = a.watch ∧ b.horn = a.horn ∧
      (∀ n : Fin 42, b.unsilenced[n] = (b.live[n] && (a.unsilenced[n] || (a.horn[n] && !a.live[n])))) ∧
      t.discretes[alarmLine].roleCommand = b.unsilenced.nonempty ∧
      (a.held = true ∨ ¬ counted → b.held = a.held ∧ b.number = a.number ∧ b.frozen = a.frozen ∧ b.changed = a.changed ∧
        b.frozenAt = a.frozenAt ∧ (t.link.condition = s.link.condition ∨ ∃ n, s.link.condition = some n ∧ Begun n)) ∧
      (a.held = false → counted →
        b.held = true ∧ b.number = next ∧ b.frozen = b.live ∧ b.frozenAt = t.clock ∧
        (∀ n : Fin 42, b.changed[n] =
          ((s.link.condition.map (fun m => m.changed[n])).getD false || b.live[n] != a.frozen[n])) ∧
        let notice : ConditionNotice := ⟨next, b.live, b.changed, t.clock⟩
        t.link.condition = some notice ∨ (s.link.sending = none ∧ Begun notice))

/-! ### Phase and supervision (chapter 11) -/

/-- Derived (R212, R213, R215): every form of ArmSupervision and Resume. In DISARMED a fallbackSpeed outside its range is clamped; in
ARMED, FALLBACK and SAFE_STOP it is refused BAD_FIELD, as is any other field outside its range. That the reply of ArmSupervision sends
the three stored fields without presence bytes is the model's choice (log 66). -/
def Obligations.SupervisionRequests : Prop :=
  ∀ (tag : Byte) (period hold : Nat) (speed : Int) (s : State), Ready s → let v := s.supervision
    let inRange : Prop := 5 ≤ period ∧ period ≤ 600 ∧ hold ≤ 3600
    let Takes (c : Instr) (kind : Nat) (status : Status) (content : List Byte) (changed : List Part) (P : State → Prop) :
        Prop := Completes c s (fun t => P t ∧ Answered s t kind tag status content ∧ SupervisionFrame changed s t)
    (v.state = .disarmed → ¬ inRange → Refuses (.armSupervision tag period hold speed) s 0x27 tag .badField []) ∧
    (v.state ≠ .disarmed → period = 0 → Refuses (.armSupervision tag period hold speed) s 0x27 tag .locked []) ∧
    (v.state ≠ .disarmed → period ≠ 0 → ¬ inRange ∨ ¬ (0 ≤ speed ∧ speed ≤ 10000) →
      Refuses (.armSupervision tag period hold speed) s 0x27 tag .badField []) ∧
    (∀ stored, stored = clamp 0 10000 speed → inRange → v.state = .disarmed ∨ (0 ≤ speed ∧ speed ≤ 10000) →
      let status : Status := if stored = speed then .ok else .clamped
      let fields := putWord period ++ putWord hold ++ Wire.putClass stored
      (v.state = .disarmed ∨ v.state = .armed →
        Takes (.armSupervision tag period hold speed) 0x27 status (Wire.putByte SupervisionState.armed.code ++ fields) []
          (fun t => t.supervision = ⟨.armed, some period, some hold, some stored, some (period * 100), v.holdTimer⟩)) ∧
      (v.state = .fallback ∨ v.state = .safeStop →
        Takes (.armSupervision tag period hold speed) 0x27 .ok (Wire.putByte v.state.code ++ fields) [.constraints]
          (fun t => t.supervision =
            { v with period := some period, fallbackHold := some hold, fallbackSpeed := some stored } ∧
            (v.fallbackSpeed = some stored → Same .constraints s t) ∧
            (v.fallbackSpeed ≠ some stored →
              Posted s t fallbackSlot (some ⟨.pumpCeilAll, stored, s.clock⟩))))) ∧
    (v.state = .disarmed ∨ v.state = .armed →
      Replies (.resume tag) s 0x28 tag .ok (Wire.putByte v.state.code) [] (fun _ => True)) ∧
    (v.state = .fallback ∨ v.state = .safeStop →
      Takes (.resume tag) 0x28 .ok (Wire.putByte SupervisionState.armed.code) [.constraints] (fun t =>
        t.supervision = { v with state := .armed, supervisionTimer := v.period.map (fun n => n * 100), holdTimer := none } ∧
        Posted s t fallbackSlot none ∧ t.conditions.live[(41 : Fin 42)] = false))

/-- Derived (section 11.2): once armed, supervision does not return to DISARMED but by a reset, which leaves the part in internal
initialisation. -/
def Obligations.SupervisionStaysArmed : Prop :=
  ∀ s t : State, s.supervision.state ≠ .disarmed → step s = .next t → t.supervision.state = .disarmed →
    t.initialising = true

/-- Derived (R73, R206, R210, R211, R216): every form of Commission, Decommission and SoftReset. How a reply names a failing item is the
model's coding (log 18), so the statement leaves it open; which sites' bindings are checked is log 16. -/
def Obligations.PhaseRequests : Prop :=
  ∀ (tag : Byte) (s : State), Ready s →
    let Binds (p : Option (Fin 96)) (required : Bool) (cls : ValueClass) : Prop :=
      (required = true → p.isSome = true) ∧
        ∀ i, p = some i → s.points[i].cfg.source ≠ .none ∧ s.points[i].cfg.cls = cls
    let Bound (d : Fin 15) : Prop := ∃ i : Fin 3, ∃ e ∈ s.lines[i].active, e.entry.kind = .writeDrive ∧
      e.entry.target = .drive d
    let heat := s.heating.cfg; let tg := s.turbine.cfg
    let heated : Prop := heat.outdoorPoint.isSome = true ∧ heat.supplyPoint.isSome = true ∧ heat.returnPoint.isSome = true ∧
      heat.netFlowPoint.isSome = true ∧ heat.brineInPoint.isSome = true ∧ heat.brineOutPoint.isSome = true ∧
      heat.brineFlowPoint.isSome = true
    let passes : Prop :=
      (∀ k : Fin 8, let c := s.wells[k].cfg
        Binds c.intakePoint c.enabled .pres ∧ Binds c.windingPoint c.enabled .temp ∧ Binds c.flowPoint false .flow) ∧
      (Binds tg.headerPoint false .pres ∧ Binds tg.flowPoint false .flow ∧ Binds tg.powerPoint false .power ∧
        Binds tg.speedPoint false .speed ∧ ∀ i, tg.speedPoint = some i → s.points[i].cfg.source = .speed) ∧
      (Binds heat.outdoorPoint false .temp ∧ Binds heat.supplyPoint false .temp ∧ Binds heat.returnPoint false .temp ∧
        Binds heat.netFlowPoint false .flow ∧ Binds heat.brineInPoint false .temp ∧ Binds heat.brineOutPoint false .temp ∧
        Binds heat.brineFlowPoint false .flow) ∧
      (∀ i : Fin 12, let c := s.sites[i].cfg
        (c.kind = .silica → Binds c.tempPoint true .temp ∧ ∀ p, c.concSource = .point p → Binds (some p) true .conc) ∧
        (c.kind = .calcite → Binds c.tempPoint true .temp ∧ Binds c.presPoint true .pres)) ∧
      (∀ k : Fin 8, s.wells[k].cfg.enabled = true → Bound (wellDrive k)) ∧
      (tg.headerPoint.isSome = true ∨ tg.flowPoint.isSome = true ∨ tg.powerPoint.isSome = true ∨
        tg.speedPoint.isSome = true → Bound admissionDrive ∧ Bound extractionDrive) ∧
      (heated → Bound bypassDrive) ∧
      (∀ i : Fin 12, ∀ j, s.sites[i].cfg.kind ≠ .none → s.sites[i].cfg.station = some j → Bound (dosingDrive j)) ∧
      (∀ i : Fin 12, ∀ k, s.sites[i].cfg.kind ≠ .none → s.sites[i].cfg.action = .wellFloor k →
        s.wells[k].cfg.enabled = true) ∧
      (heated → s.heating.curve.isSome = true)
    let rests : Prop :=
      (∀ k : Fin 8, s.wells[k].state = .off ∨ s.wells[k].state = .tripped ∨ s.wells[k].state = .lockedOut) ∧
      (s.turbine.state = .stopped ∨ s.turbine.state = .tripped) ∧ s.heating.state = .off
    (s.phase = .run → Refuses (.commission tag) s 0x29 tag .state []) ∧
    (s.phase = .config → ¬ passes → ∃ item, Refuses (.commission tag) s 0x29 tag .badConfig item) ∧
    (s.phase = .config → passes →
      Replies (.commission tag) s 0x29 tag .ok [] [.phase, .monitor] (fun t =>
        t.phase = .run ∧ t.initialising = false ∧ t.resetCause = s.resetCause ∧ t.powerApplied = s.powerApplied ∧
        t.resetHeldLow = s.resetHeldLow ∧ t.smTimer = some 1000 ∧ t.minuteCounter = 0)) ∧
    (s.phase = .config → Refuses (.decommission tag) s 0x2A tag .state []) ∧
    (s.phase = .run → ¬ rests → ∃ item, Refuses (.decommission tag) s 0x2A tag .state item) ∧
    (s.phase = .run → rests →
      Replies (.decommission tag) s 0x2A tag .ok [] [.phase, .monitor, .sites, .constraints, .drives] (fun t =>
        t.phase = .config ∧ t.initialising = false ∧ t.resetCause = s.resetCause ∧ t.powerApplied = s.powerApplied ∧
        t.resetHeldLow = s.resetHeldLow ∧ t.smTimer = none ∧ t.minuteCounter = 0 ∧
        (∀ i : Fin 12, t.sites[i] = { s.sites[i] with minuteDose := 0, minuteCover := 0 }) ∧
        (∀ k : Fin 22, t.slots[k] = if k.val < 12 then none else s.slots[k]) ∧ (TableLaw s → TableLaw t) ∧
        ∀ d : Fin 15, t.drives[d] = if 11 ≤ d.val then s.drives[d].write 0 else s.drives[d])) ∧
    (rests → Replies (.softReset tag) s 0x2B tag .ok [] [.resetPending] (fun t => t.link.softResetPending = true)) ∧
    (¬ rests → ∃ item, Refuses (.softReset tag) s 0x2B tag .state item)

/-! ### Reading the part -/

/-- Derived (R18, R51, R95, R106, R134, R158, R180, R192, R207, R209): the reading requests reply with the records they name and change
nothing. The first clauses spell R209's class values, numbers and optional fields, section 1.3's usable value, and the 14 bytes of a
point record by the table of section 10.8. Where R209 leaves the layout of a reply open, the layout is the model's (log 19, 40), and so are the code of a binding
origin (log 49), the request of ReadHeating without a presence byte (log 50), the gains of a loop that has not run since a reset (log
46), the presence byte before a station's drive record (log 54), the three bytes of the pending notices (log 56), the slot record
without presence bytes (log 57), the width of a site's margins (log 58), speedView without a presence byte (log 61), the presence bytes
of rollTimer and breakerTimer (log 62), speedPoint as it stands at the request (log 63), the byte of the straps (log 64), the code of CAUSE_PRESENT (log 18) and the
report of an unbound or never read point as UNSET without a value (`putView`, log 24); the rounding of a time left is a free value
(log 11). -/
def Obligations.ReadingChangesNothing : Prop :=
  let two (n : Nat) : List Byte := [BitVec.ofNat 8 (n / 256), BitVec.ofNat 8 n]
  let three (v : Int) : List Byte := let w := BitVec.ofInt 24 v; [w.extractLsb' 16 8, w.extractLsb' 8 8, w.extractLsb' 0 8]
  (∀ (v : Int) (n : Nat) (b : Bool), Wire.putClass v = three v ∧ putWord n = two n ∧ putLong n = two (n / 65536) ++ two n ∧
    Wire.putByte n = [BitVec.ofNat 8 n] ∧ Wire.putBool b = [if b then 1 else 0] ∧ Wire.putOption Wire.putClass none = [0] ∧
    Wire.putOption Wire.putClass (some v) = 1 :: three v) ∧
  (∀ p : Point, p.usableValue = if p.quality = .good ∨ p.quality = .held then p.value
    else if p.quality = .subst then p.cfg.substitute else none) ∧
  (∀ p : Point, p.failCount ≤ 15 → p.cfg.failLimit ≤ 15 → ∃ flags : Byte,
    let source : BitVec 4 := match p.cfg.source with
      | .none => 0 | .field => 1 | .discrete => 2 | .speed => 3 | .supervisory => 4
    let cls : BitVec 4 := match p.cfg.cls with
      | .temp => 0 | .pres => 1 | .flow => 2 | .conc => 3 | .speed => 4 | .power => 5 | .frac => 6 | .level => 7
    let quality : BitVec 3 := match p.quality with
      | .unset => 0 | .good => 1 | .held => 2 | .stale => 3 | .failed => 4 | .subst => 5
    putPointRecord p = [source ++ cls, flags, BitVec.ofNat 4 p.failCount ++ BitVec.ofNat 4 p.cfg.failLimit] ++ two p.age ++
      three (p.value.getD 0) ++ three (p.usableValue.getD 0) ++ three (p.cfg.substitute.getD 0) ∧
    flags.getLsbD 7 = p.usableValue.isSome ∧ flags.getLsbD 6 = p.clampedFlag ∧ flags.getLsbD 5 = p.lastAttemptOk ∧
    flags.getLsbD 4 = p.cfg.substitute.isSome ∧ flags.getLsbD 3 = p.value.isSome ∧ flags.extractLsb' 0 3 = quality) ∧
  ∀ (tag : Byte) (s : State), Ready s →
    let Reads (c : Instr) (kind : Nat) (content : List Byte) : Prop := Replies c s kind tag .ok content [] (fun _ => True)
    (let l := s.link;
      Reads (.identify tag) 0x01 (putWord 4620 ++ Wire.putByte 1 ++ putLong (linkRate l.baud1 l.baud0) ++
        Wire.putByte (2 * l.baud1.toNat + l.baud0.toNat) ++ Wire.putByte s.resetCause.code ++ Wire.putByte s.phase.code ++
        Wire.putByte s.supervision.state.code ++ putLong s.clock ++ Wire.putByte 0 ++ Wire.putByte l.replies.length ++
        Wire.putBool l.busyPlace.isSome ++ Wire.putBool l.started.isSome ++ Wire.putBool l.condition.isSome ++
        Wire.putBool l.edge.isSome ++ putWord l.discardCount ++ putWord l.busyCount ++ putWord l.busyLostCount)) ∧
    (∀ first count : Nat,
      (1 ≤ count → count ≤ 16 → first + count ≤ 96 → Reads (.readPoints tag first count) 0x04
        (Wire.putByte first ++ Wire.putByte count ++ putAll putPointRecord ((s.points.toList.drop first).take count))) ∧
      (¬ (1 ≤ count ∧ count ≤ 16 ∧ first + count ≤ 96) →
        Refuses (.readPoints tag first count) s 0x04 tag .badField [])) ∧
    (∀ line view : Nat,
      (∀ (i : Fin 3) (v : LineView), line = i.val → LineView.choices[view]? = some v →
        Reads (.readLine tag line view) 0x0E (putLineView s.lines[i] v)) ∧
      (3 ≤ line ∨ 4 ≤ view → Refuses (.readLine tag line view) s 0x0E tag .badField [])) ∧
    (∀ well : Nat, (∀ k : Fin 8, well = k.val → Reads (.readWell tag well) 0x15 (putWell k s)) ∧
      (8 ≤ well → Refuses (.readWell tag well) s 0x15 tag .badField [])) ∧
    Reads (.readTurbine tag) 0x18 (putTurbine s) ∧
    Reads (.readHeating tag) 0x1C (putHeating s) ∧
    (∀ (site : Nat) (view : SiteView),
      (12 ≤ site → Refuses (.readSite tag site view) s 0x1F tag .badField []) ∧
      ∀ i : Fin 12, site = i.val →
        (view = .status → Reads (.readSite tag site view) 0x1F (putSiteStatus s s.sites[i])) ∧
        ∀ first count : Nat, view = .ring first count →
          (first ≤ 59 → 1 ≤ count → count ≤ 30 →
            Reads (.readSite tag site view) 0x1F (Wire.putByte s.sites[i].ring.length ++
              putList putMinute ((s.sites[i].ring.drop first).take count))) ∧
          (59 < first ∨ count = 0 ∨ 30 < count → Refuses (.readSite tag site view) s 0x1F tag .badField [])) ∧
    (∀ view : Nat,
      (view = 0 → Reads (.readConstraints tag view) 0x22 (putAll putSlot s.slots.toList)) ∧
      (view = 1 → Reads (.readConstraints tag view) 0x22
        (putAll (fun g => Wire.putClass (targetDefault s g) ++ Wire.putClass s.bounds[g.index].value ++
            putOrigin s.bounds[g.index].origin) allTargets ++
          putAll (fun b => Wire.putClass (Bound.value b) ++ putOrigin b.origin) s.combined.toList)) ∧
      (2 ≤ view → Refuses (.readConstraints tag view) s 0x22 tag .badField [])) ∧
    (let c := s.conditions;
      Reads (.readConditions tag) 0x23 (putMembers c.live ++ Wire.putBool c.held ++ putWord c.number ++ putMembers c.frozen ++
        putMembers c.changed ++ putLong c.frozenAt ++ Wire.putBool s.link.condition.isSome ++ putMembers c.watch ++
        putMembers c.horn ++ putMembers c.unsilenced ++ Wire.putBool s.discretes[alarmLine].roleCommand))

/-! ### Laws that every step keeps -/

/-- Derived (R58, R111, R138, R182, R187, R189, R191, R204, R205): at the end of every step, outside internal initialisation, the outputs
follow their owners, the live set holds what the owners find, the unsilenced set holds only members that are set and lie in the
horn mask, a pending CONDITION notice carries the snapshot record, and an idle transmitter has nothing waiting. And (R59, R65) the
mismatch timer and flag of a line stand only on an output whose level differs from the level commanded, one of the two at most. -/
def Obligations.EveryStepLeavesThePartSettled : Prop := Kept Sound ∧ Kept MismatchLaw

/-- Derived (section 5.2): the law of the constraint table. After every step each target's effective bound and binding origin are
those of its default and of the posted slots (R100, R101), and each well's combined ceiling is the lesser of its two (R102). -/
def Obligations.EveryStepKeepsTheLawOfTheTable : Prop := Kept TableLaw

/-- Derived (R19, R73, R138, R156, R165): the law of the grant and of the drives. The grant lies within the request and the extraction
limit and is 0 outside LOADED; a drive whose owner is not active stands at its safe value; the monitor's timer runs in RUN only. -/
def Obligations.EveryStepKeepsGrantAndDrives : Prop := Kept GrantLaw ∧ Kept SafeDrives

/-- Derived (R110, R123, R124, R131, R132): the law of the speed demand: an energised well's drive value lies within minSpeed ...
maxSpeed and never exceeds the greater of minSpeed and the ceiling its ceilingView holds, nor the stage cap of its state, and a
de-energised one's is 0. And the law of the trip count: the decay timer runs exactly while a well that is not LOCKED_OUT counts trips;
the count is below tripLimit outside LOCKED_OUT and equals it in LOCKED_OUT. -/
def Obligations.EveryStepKeepsDemandAndTripCount : Prop := Kept DemandLaw ∧ Kept TripCountLaw

/-- Derived (R2, R3, R6, R7, R9 to R11, R41, R67, R85, R88 to R91, R94, R113, R200, R201): quality and counters of a point agree, no two points are
bound to one discrete line and at most one is SPEED, every list stays within its places, and the dynamic fields of a site agree. -/
def Obligations.EveryStepKeepsPointsListsAndSites : Prop := Kept PointLaw ∧ Kept BindingLaw ∧ Kept CapacityLaw ∧ Kept SiteLaw
end

