-- ==== Sys2Proof/Laws/State.lean ====
section
/-! SUPPORT. One lemma per field per named update of the state, and the readings of the fixed banks after an update. -/

namespace Sys2Proof.Machine

-- One after the other: see Laws/Frames.lean.
set_option Elab.async false

section Banks

variable {α : Type} {n : Nat}

@[simp] theorem modifyAt_get (v : Vector α n) (i j : Fin n) (f : α → α) :
    (modifyAt v i f)[j] = if i = j then f v[i] else v[j] := by
  simp [modifyAt, Vector.getElem_set, Fin.ext_iff]

@[simp] theorem modifyAt_getElem (v : Vector α n) (i : Fin n) (j : Nat) (h : j < n) (f : α → α) :
    (modifyAt v i f)[j] = if i.val = j then f v[i] else v[j] := by
  simp [modifyAt, Vector.getElem_set]

theorem modifyAt_get_self (v : Vector α n) (i : Fin n) (f : α → α) : (modifyAt v i f)[i] = f v[i] := by simp

theorem modifyAt_get_ne (v : Vector α n) {i j : Fin n} (f : α → α) (h : i ≠ j) : (modifyAt v i f)[j] = v[j] := by
  rw [modifyAt_get, if_neg h]

theorem modifyAt_id (v : Vector α n) (i : Fin n) (f : α → α) (h : f v[i] = v[i]) : modifyAt v i f = v := by
  ext j hj
  simp only [modifyAt_getElem]
  split
  · subst_vars; exact h
  · rfl

@[simp] theorem modifyAll_get (v : Vector α n) (i : Fin n) (f : Fin n → α → α) : (modifyAll v f)[i] = f i v[i] := by
  simp [modifyAll]

@[simp] theorem modifyAll_getElem (v : Vector α n) (i : Nat) (h : i < n) (f : Fin n → α → α) :
    (modifyAll v f)[i] = f ⟨i, h⟩ v[i] := by simp [modifyAll]

theorem mem_indexes (i : Fin n) : i ∈ indexes n := by simp [indexes]

/-- A relation that is reflexive and transitive holds across a run over every index if each single run has it. -/
theorem forEach_rel {σ : Type} (R : σ → σ → Prop) (refl : ∀ a, R a a) (trans : ∀ a b c, R a b → R b c → R a c)
    (n : Nat) (f : Fin n → σ → σ) (h : ∀ i a, R a (f i a)) (s : σ) : R s (forEach n f s) := by
  unfold forEach
  induction indexes n generalizing s with
  | nil => exact refl s
  | cons i rest ih => exact trans _ _ _ (h i s) (ih (f i s))

/-- A property that every single run keeps is kept by a run over every index. -/
theorem forEach_keeps {σ : Type} (P : σ → Prop) (n : Nat) (f : Fin n → σ → σ) (h : ∀ i a, P a → P (f i a)) (s : σ)
    (hs : P s) : P (forEach n f s) := by
  unfold forEach
  induction indexes n generalizing s with
  | nil => exact hs
  | cons i rest ih => exact ih (f i s) (h i s hs)

end Banks

/-! ### Fields after a named update -/

section Fields

variable (s : State)

section
variable (i : Fin 96) (f : Point → Point)
@[simp] theorem State.modPoint_initialising : (s.modPoint i f).initialising = s.initialising := rfl
@[simp] theorem State.modPoint_powerApplied : (s.modPoint i f).powerApplied = s.powerApplied := rfl
@[simp] theorem State.modPoint_resetHeldLow : (s.modPoint i f).resetHeldLow = s.resetHeldLow := rfl
@[simp] theorem State.modPoint_resetCause : (s.modPoint i f).resetCause = s.resetCause := rfl
@[simp] theorem State.modPoint_phase : (s.modPoint i f).phase = s.phase := rfl
@[simp] theorem State.modPoint_supervision : (s.modPoint i f).supervision = s.supervision := rfl
@[simp] theorem State.modPoint_clock : (s.modPoint i f).clock = s.clock := rfl
@[simp] theorem State.modPoint_clockTimer : (s.modPoint i f).clockTimer = s.clockTimer := rfl
@[simp] theorem State.modPoint_points : (s.modPoint i f).points = modifyAt s.points i f := rfl
@[simp] theorem State.modPoint_drives : (s.modPoint i f).drives = s.drives := rfl
@[simp] theorem State.modPoint_ageTimer : (s.modPoint i f).ageTimer = s.ageTimer := rfl
@[simp] theorem State.modPoint_secondTimer : (s.modPoint i f).secondTimer = s.secondTimer := rfl
@[simp] theorem State.modPoint_lines : (s.modPoint i f).lines = s.lines := rfl
@[simp] theorem State.modPoint_discretes : (s.modPoint i f).discretes = s.discretes := rfl
@[simp] theorem State.modPoint_speedUnit : (s.modPoint i f).speedUnit = s.speedUnit := rfl
@[simp] theorem State.modPoint_sites : (s.modPoint i f).sites = s.sites := rfl
@[simp] theorem State.modPoint_smTimer : (s.modPoint i f).smTimer = s.smTimer := rfl
@[simp] theorem State.modPoint_minuteCounter : (s.modPoint i f).minuteCounter = s.minuteCounter := rfl
@[simp] theorem State.modPoint_slots : (s.modPoint i f).slots = s.slots := rfl
@[simp] theorem State.modPoint_bounds : (s.modPoint i f).bounds = s.bounds := rfl
@[simp] theorem State.modPoint_combined : (s.modPoint i f).combined = s.combined := rfl
@[simp] theorem State.modPoint_wells : (s.modPoint i f).wells = s.wells := rfl
@[simp] theorem State.modPoint_wpTimer : (s.modPoint i f).wpTimer = s.wpTimer := rfl
@[simp] theorem State.modPoint_turbine : (s.modPoint i f).turbine = s.turbine := rfl
@[simp] theorem State.modPoint_heating : (s.modPoint i f).heating = s.heating := rfl
@[simp] theorem State.modPoint_conditions : (s.modPoint i f).conditions = s.conditions := rfl
@[simp] theorem State.modPoint_link : (s.modPoint i f).link = s.link := rfl
@[simp] theorem State.modPoint_pending : (s.modPoint i f).pending = s.pending := rfl
end

section
variable (i : Fin 15) (f : Drive → Drive)
@[simp] theorem State.modDrive_initialising : (s.modDrive i f).initialising = s.initialising := rfl
@[simp] theorem State.modDrive_powerApplied : (s.modDrive i f).powerApplied = s.powerApplied := rfl
@[simp] theorem State.modDrive_resetHeldLow : (s.modDrive i f).resetHeldLow = s.resetHeldLow := rfl
@[simp] theorem State.modDrive_resetCause : (s.modDrive i f).resetCause = s.resetCause := rfl
@[simp] theorem State.modDrive_phase : (s.modDrive i f).phase = s.phase := rfl
@[simp] theorem State.modDrive_supervision : (s.modDrive i f).supervision = s.supervision := rfl
@[simp] theorem State.modDrive_clock : (s.modDrive i f).clock = s.clock := rfl
@[simp] theorem State.modDrive_clockTimer : (s.modDrive i f).clockTimer = s.clockTimer := rfl
@[simp] theorem State.modDrive_points : (s.modDrive i f).points = s.points := rfl
@[simp] theorem State.modDrive_drives : (s.modDrive i f).drives = modifyAt s.drives i f := rfl
@[simp] theorem State.modDrive_ageTimer : (s.modDrive i f).ageTimer = s.ageTimer := rfl
@[simp] theorem State.modDrive_secondTimer : (s.modDrive i f).secondTimer = s.secondTimer := rfl
@[simp] theorem State.modDrive_lines : (s.modDrive i f).lines = s.lines := rfl
@[simp] theorem State.modDrive_discretes : (s.modDrive i f).discretes = s.discretes := rfl
@[simp] theorem State.modDrive_speedUnit : (s.modDrive i f).speedUnit = s.speedUnit := rfl
@[simp] theorem State.modDrive_sites : (s.modDrive i f).sites = s.sites := rfl
@[simp] theorem State.modDrive_smTimer : (s.modDrive i f).smTimer = s.smTimer := rfl
@[simp] theorem State.modDrive_minuteCounter : (s.modDrive i f).minuteCounter = s.minuteCounter := rfl
@[simp] theorem State.modDrive_slots : (s.modDrive i f).slots = s.slots := rfl
@[simp] theorem State.modDrive_bounds : (s.modDrive i f).bounds = s.bounds := rfl
@[simp] theorem State.modDrive_combined : (s.modDrive i f).combined = s.combined := rfl
@[simp] theorem State.modDrive_wells : (s.modDrive i f).wells = s.wells := rfl
@[simp] theorem State.modDrive_wpTimer : (s.modDrive i f).wpTimer = s.wpTimer := rfl
@[simp] theorem State.modDrive_turbine : (s.modDrive i f).turbine = s.turbine := rfl
@[simp] theorem State.modDrive_heating : (s.modDrive i f).heating = s.heating := rfl
@[simp] theorem State.modDrive_conditions : (s.modDrive i f).conditions = s.conditions := rfl
@[simp] theorem State.modDrive_link : (s.modDrive i f).link = s.link := rfl
@[simp] theorem State.modDrive_pending : (s.modDrive i f).pending = s.pending := rfl
end

section
variable (i : Fin 3) (f : Line → Line)
@[simp] theorem State.modLine_initialising : (s.modLine i f).initialising = s.initialising := rfl
@[simp] theorem State.modLine_powerApplied : (s.modLine i f).powerApplied = s.powerApplied := rfl
@[simp] theorem State.modLine_resetHeldLow : (s.modLine i f).resetHeldLow = s.resetHeldLow := rfl
@[simp] theorem State.modLine_resetCause : (s.modLine i f).resetCause = s.resetCause := rfl
@[simp] theorem State.modLine_phase : (s.modLine i f).phase = s.phase := rfl
@[simp] theorem State.modLine_supervision : (s.modLine i f).supervision = s.supervision := rfl
@[simp] theorem State.modLine_clock : (s.modLine i f).clock = s.clock := rfl
@[simp] theorem State.modLine_clockTimer : (s.modLine i f).clockTimer = s.clockTimer := rfl
@[simp] theorem State.modLine_points : (s.modLine i f).points = s.points := rfl
@[simp] theorem State.modLine_drives : (s.modLine i f).drives = s.drives := rfl
@[simp] theorem State.modLine_ageTimer : (s.modLine i f).ageTimer = s.ageTimer := rfl
@[simp] theorem State.modLine_secondTimer : (s.modLine i f).secondTimer = s.secondTimer := rfl
@[simp] theorem State.modLine_lines : (s.modLine i f).lines = modifyAt s.lines i f := rfl
@[simp] theorem State.modLine_discretes : (s.modLine i f).discretes = s.discretes := rfl
@[simp] theorem State.modLine_speedUnit : (s.modLine i f).speedUnit = s.speedUnit := rfl
@[simp] theorem State.modLine_sites : (s.modLine i f).sites = s.sites := rfl
@[simp] theorem State.modLine_smTimer : (s.modLine i f).smTimer = s.smTimer := rfl
@[simp] theorem State.modLine_minuteCounter : (s.modLine i f).minuteCounter = s.minuteCounter := rfl
@[simp] theorem State.modLine_slots : (s.modLine i f).slots = s.slots := rfl
@[simp] theorem State.modLine_bounds : (s.modLine i f).bounds = s.bounds := rfl
@[simp] theorem State.modLine_combined : (s.modLine i f).combined = s.combined := rfl
@[simp] theorem State.modLine_wells : (s.modLine i f).wells = s.wells := rfl
@[simp] theorem State.modLine_wpTimer : (s.modLine i f).wpTimer = s.wpTimer := rfl
@[simp] theorem State.modLine_turbine : (s.modLine i f).turbine = s.turbine := rfl
@[simp] theorem State.modLine_heating : (s.modLine i f).heating = s.heating := rfl
@[simp] theorem State.modLine_conditions : (s.modLine i f).conditions = s.conditions := rfl
@[simp] theorem State.modLine_link : (s.modLine i f).link = s.link := rfl
@[simp] theorem State.modLine_pending : (s.modLine i f).pending = s.pending := rfl
end

section
variable (i : Fin 24) (f : Discrete → Discrete)
@[simp] theorem State.modDiscrete_initialising : (s.modDiscrete i f).initialising = s.initialising := rfl
@[simp] theorem State.modDiscrete_powerApplied : (s.modDiscrete i f).powerApplied = s.powerApplied := rfl
@[simp] theorem State.modDiscrete_resetHeldLow : (s.modDiscrete i f).resetHeldLow = s.resetHeldLow := rfl
@[simp] theorem State.modDiscrete_resetCause : (s.modDiscrete i f).resetCause = s.resetCause := rfl
@[simp] theorem State.modDiscrete_phase : (s.modDiscrete i f).phase = s.phase := rfl
@[simp] theorem State.modDiscrete_supervision : (s.modDiscrete i f).supervision = s.supervision := rfl
@[simp] theorem State.modDiscrete_clock : (s.modDiscrete i f).clock = s.clock := rfl
@[simp] theorem State.modDiscrete_clockTimer : (s.modDiscrete i f).clockTimer = s.clockTimer := rfl
@[simp] theorem State.modDiscrete_points : (s.modDiscrete i f).points = s.points := rfl
@[simp] theorem State.modDiscrete_drives : (s.modDiscrete i f).drives = s.drives := rfl
@[simp] theorem State.modDiscrete_ageTimer : (s.modDiscrete i f).ageTimer = s.ageTimer := rfl
@[simp] theorem State.modDiscrete_secondTimer : (s.modDiscrete i f).secondTimer = s.secondTimer := rfl
@[simp] theorem State.modDiscrete_lines : (s.modDiscrete i f).lines = s.lines := rfl
@[simp] theorem State.modDiscrete_discretes : (s.modDiscrete i f).discretes = modifyAt s.discretes i f := rfl
@[simp] theorem State.modDiscrete_speedUnit : (s.modDiscrete i f).speedUnit = s.speedUnit := rfl
@[simp] theorem State.modDiscrete_sites : (s.modDiscrete i f).sites = s.sites := rfl
@[simp] theorem State.modDiscrete_smTimer : (s.modDiscrete i f).smTimer = s.smTimer := rfl
@[simp] theorem State.modDiscrete_minuteCounter : (s.modDiscrete i f).minuteCounter = s.minuteCounter := rfl
@[simp] theorem State.modDiscrete_slots : (s.modDiscrete i f).slots = s.slots := rfl
@[simp] theorem State.modDiscrete_bounds : (s.modDiscrete i f).bounds = s.bounds := rfl
@[simp] theorem State.modDiscrete_combined : (s.modDiscrete i f).combined = s.combined := rfl
@[simp] theorem State.modDiscrete_wells : (s.modDiscrete i f).wells = s.wells := rfl
@[simp] theorem State.modDiscrete_wpTimer : (s.modDiscrete i f).wpTimer = s.wpTimer := rfl
@[simp] theorem State.modDiscrete_turbine : (s.modDiscrete i f).turbine = s.turbine := rfl
@[simp] theorem State.modDiscrete_heating : (s.modDiscrete i f).heating = s.heating := rfl
@[simp] theorem State.modDiscrete_conditions : (s.modDiscrete i f).conditions = s.conditions := rfl
@[simp] theorem State.modDiscrete_link : (s.modDiscrete i f).link = s.link := rfl
@[simp] theorem State.modDiscrete_pending : (s.modDiscrete i f).pending = s.pending := rfl
end

section
variable (i : Fin 12) (f : Site → Site)
@[simp] theorem State.modSite_initialising : (s.modSite i f).initialising = s.initialising := rfl
@[simp] theorem State.modSite_powerApplied : (s.modSite i f).powerApplied = s.powerApplied := rfl
@[simp] theorem State.modSite_resetHeldLow : (s.modSite i f).resetHeldLow = s.resetHeldLow := rfl
@[simp] theorem State.modSite_resetCause : (s.modSite i f).resetCause = s.resetCause := rfl
@[simp] theorem State.modSite_phase : (s.modSite i f).phase = s.phase := rfl
@[simp] theorem State.modSite_supervision : (s.modSite i f).supervision = s.supervision := rfl
@[simp] theorem State.modSite_clock : (s.modSite i f).clock = s.clock := rfl
@[simp] theorem State.modSite_clockTimer : (s.modSite i f).clockTimer = s.clockTimer := rfl
@[simp] theorem State.modSite_points : (s.modSite i f).points = s.points := rfl
@[simp] theorem State.modSite_drives : (s.modSite i f).drives = s.drives := rfl
@[simp] theorem State.modSite_ageTimer : (s.modSite i f).ageTimer = s.ageTimer := rfl
@[simp] theorem State.modSite_secondTimer : (s.modSite i f).secondTimer = s.secondTimer := rfl
@[simp] theorem State.modSite_lines : (s.modSite i f).lines = s.lines := rfl
@[simp] theorem State.modSite_discretes : (s.modSite i f).discretes = s.discretes := rfl
@[simp] theorem State.modSite_speedUnit : (s.modSite i f).speedUnit = s.speedUnit := rfl
@[simp] theorem State.modSite_sites : (s.modSite i f).sites = modifyAt s.sites i f := rfl
@[simp] theorem State.modSite_smTimer : (s.modSite i f).smTimer = s.smTimer := rfl
@[simp] theorem State.modSite_minuteCounter : (s.modSite i f).minuteCounter = s.minuteCounter := rfl
@[simp] theorem State.modSite_slots : (s.modSite i f).slots = s.slots := rfl
@[simp] theorem State.modSite_bounds : (s.modSite i f).bounds = s.bounds := rfl
@[simp] theorem State.modSite_combined : (s.modSite i f).combined = s.combined := rfl
@[simp] theorem State.modSite_wells : (s.modSite i f).wells = s.wells := rfl
@[simp] theorem State.modSite_wpTimer : (s.modSite i f).wpTimer = s.wpTimer := rfl
@[simp] theorem State.modSite_turbine : (s.modSite i f).turbine = s.turbine := rfl
@[simp] theorem State.modSite_heating : (s.modSite i f).heating = s.heating := rfl
@[simp] theorem State.modSite_conditions : (s.modSite i f).conditions = s.conditions := rfl
@[simp] theorem State.modSite_link : (s.modSite i f).link = s.link := rfl
@[simp] theorem State.modSite_pending : (s.modSite i f).pending = s.pending := rfl
end

section
variable (i : Fin 8) (f : Well → Well)
@[simp] theorem State.modWell_initialising : (s.modWell i f).initialising = s.initialising := rfl
@[simp] theorem State.modWell_powerApplied : (s.modWell i f).powerApplied = s.powerApplied := rfl
@[simp] theorem State.modWell_resetHeldLow : (s.modWell i f).resetHeldLow = s.resetHeldLow := rfl
@[simp] theorem State.modWell_resetCause : (s.modWell i f).resetCause = s.resetCause := rfl
@[simp] theorem State.modWell_phase : (s.modWell i f).phase = s.phase := rfl
@[simp] theorem State.modWell_supervision : (s.modWell i f).supervision = s.supervision := rfl
@[simp] theorem State.modWell_clock : (s.modWell i f).clock = s.clock := rfl
@[simp] theorem State.modWell_clockTimer : (s.modWell i f).clockTimer = s.clockTimer := rfl
@[simp] theorem State.modWell_points : (s.modWell i f).points = s.points := rfl
@[simp] theorem State.modWell_drives : (s.modWell i f).drives = s.drives := rfl
@[simp] theorem State.modWell_ageTimer : (s.modWell i f).ageTimer = s.ageTimer := rfl
@[simp] theorem State.modWell_secondTimer : (s.modWell i f).secondTimer = s.secondTimer := rfl
@[simp] theorem State.modWell_lines : (s.modWell i f).lines = s.lines := rfl
@[simp] theorem State.modWell_discretes : (s.modWell i f).discretes = s.discretes := rfl
@[simp] theorem State.modWell_speedUnit : (s.modWell i f).speedUnit = s.speedUnit := rfl
@[simp] theorem State.modWell_sites : (s.modWell i f).sites = s.sites := rfl
@[simp] theorem State.modWell_smTimer : (s.modWell i f).smTimer = s.smTimer := rfl
@[simp] theorem State.modWell_minuteCounter : (s.modWell i f).minuteCounter = s.minuteCounter := rfl
@[simp] theorem State.modWell_slots : (s.modWell i f).slots = s.slots := rfl
@[simp] theorem State.modWell_bounds : (s.modWell i f).bounds = s.bounds := rfl
@[simp] theorem State.modWell_combined : (s.modWell i f).combined = s.combined := rfl
@[simp] theorem State.modWell_wells : (s.modWell i f).wells = modifyAt s.wells i f := rfl
@[simp] theorem State.modWell_wpTimer : (s.modWell i f).wpTimer = s.wpTimer := rfl
@[simp] theorem State.modWell_turbine : (s.modWell i f).turbine = s.turbine := rfl
@[simp] theorem State.modWell_heating : (s.modWell i f).heating = s.heating := rfl
@[simp] theorem State.modWell_conditions : (s.modWell i f).conditions = s.conditions := rfl
@[simp] theorem State.modWell_link : (s.modWell i f).link = s.link := rfl
@[simp] theorem State.modWell_pending : (s.modWell i f).pending = s.pending := rfl
end

section
variable (f : Turbine → Turbine)
@[simp] theorem State.modTurbine_initialising : (s.modTurbine f).initialising = s.initialising := rfl
@[simp] theorem State.modTurbine_powerApplied : (s.modTurbine f).powerApplied = s.powerApplied := rfl
@[simp] theorem State.modTurbine_resetHeldLow : (s.modTurbine f).resetHeldLow = s.resetHeldLow := rfl
@[simp] theorem State.modTurbine_resetCause : (s.modTurbine f).resetCause = s.resetCause := rfl
@[simp] theorem State.modTurbine_phase : (s.modTurbine f).phase = s.phase := rfl
@[simp] theorem State.modTurbine_supervision : (s.modTurbine f).supervision = s.supervision := rfl
@[simp] theorem State.modTurbine_clock : (s.modTurbine f).clock = s.clock := rfl
@[simp] theorem State.modTurbine_clockTimer : (s.modTurbine f).clockTimer = s.clockTimer := rfl
@[simp] theorem State.modTurbine_points : (s.modTurbine f).points = s.points := rfl
@[simp] theorem State.modTurbine_drives : (s.modTurbine f).drives = s.drives := rfl
@[simp] theorem State.modTurbine_ageTimer : (s.modTurbine f).ageTimer = s.ageTimer := rfl
@[simp] theorem State.modTurbine_secondTimer : (s.modTurbine f).secondTimer = s.secondTimer := rfl
@[simp] theorem State.modTurbine_lines : (s.modTurbine f).lines = s.lines := rfl
@[simp] theorem State.modTurbine_discretes : (s.modTurbine f).discretes = s.discretes := rfl
@[simp] theorem State.modTurbine_speedUnit : (s.modTurbine f).speedUnit = s.speedUnit := rfl
@[simp] theorem State.modTurbine_sites : (s.modTurbine f).sites = s.sites := rfl
@[simp] theorem State.modTurbine_smTimer : (s.modTurbine f).smTimer = s.smTimer := rfl
@[simp] theorem State.modTurbine_minuteCounter : (s.modTurbine f).minuteCounter = s.minuteCounter := rfl
@[simp] theorem State.modTurbine_slots : (s.modTurbine f).slots = s.slots := rfl
@[simp] theorem State.modTurbine_bounds : (s.modTurbine f).bounds = s.bounds := rfl
@[simp] theorem State.modTurbine_combined : (s.modTurbine f).combined = s.combined := rfl
@[simp] theorem State.modTurbine_wells : (s.modTurbine f).wells = s.wells := rfl
@[simp] theorem State.modTurbine_wpTimer : (s.modTurbine f).wpTimer = s.wpTimer := rfl
@[simp] theorem State.modTurbine_turbine : (s.modTurbine f).turbine = f s.turbine := rfl
@[simp] theorem State.modTurbine_heating : (s.modTurbine f).heating = s.heating := rfl
@[simp] theorem State.modTurbine_conditions : (s.modTurbine f).conditions = s.conditions := rfl
@[simp] theorem State.modTurbine_link : (s.modTurbine f).link = s.link := rfl
@[simp] theorem State.modTurbine_pending : (s.modTurbine f).pending = s.pending := rfl
end

section
variable (f : Heating → Heating)
@[simp] theorem State.modHeating_initialising : (s.modHeating f).initialising = s.initialising := rfl
@[simp] theorem State.modHeating_powerApplied : (s.modHeating f).powerApplied = s.powerApplied := rfl
@[simp] theorem State.modHeating_resetHeldLow : (s.modHeating f).resetHeldLow = s.resetHeldLow := rfl
@[simp] theorem State.modHeating_resetCause : (s.modHeating f).resetCause = s.resetCause := rfl
@[simp] theorem State.modHeating_phase : (s.modHeating f).phase = s.phase := rfl
@[simp] theorem State.modHeating_supervision : (s.modHeating f).supervision = s.supervision := rfl
@[simp] theorem State.modHeating_clock : (s.modHeating f).clock = s.clock := rfl
@[simp] theorem State.modHeating_clockTimer : (s.modHeating f).clockTimer = s.clockTimer := rfl
@[simp] theorem State.modHeating_points : (s.modHeating f).points = s.points := rfl
@[simp] theorem State.modHeating_drives : (s.modHeating f).drives = s.drives := rfl
@[simp] theorem State.modHeating_ageTimer : (s.modHeating f).ageTimer = s.ageTimer := rfl
@[simp] theorem State.modHeating_secondTimer : (s.modHeating f).secondTimer = s.secondTimer := rfl
@[simp] theorem State.modHeating_lines : (s.modHeating f).lines = s.lines := rfl
@[simp] theorem State.modHeating_discretes : (s.modHeating f).discretes = s.discretes := rfl
@[simp] theorem State.modHeating_speedUnit : (s.modHeating f).speedUnit = s.speedUnit := rfl
@[simp] theorem State.modHeating_sites : (s.modHeating f).sites = s.sites := rfl
@[simp] theorem State.modHeating_smTimer : (s.modHeating f).smTimer = s.smTimer := rfl
@[simp] theorem State.modHeating_minuteCounter : (s.modHeating f).minuteCounter = s.minuteCounter := rfl
@[simp] theorem State.modHeating_slots : (s.modHeating f).slots = s.slots := rfl
@[simp] theorem State.modHeating_bounds : (s.modHeating f).bounds = s.bounds := rfl
@[simp] theorem State.modHeating_combined : (s.modHeating f).combined = s.combined := rfl
@[simp] theorem State.modHeating_wells : (s.modHeating f).wells = s.wells := rfl
@[simp] theorem State.modHeating_wpTimer : (s.modHeating f).wpTimer = s.wpTimer := rfl
@[simp] theorem State.modHeating_turbine : (s.modHeating f).turbine = s.turbine := rfl
@[simp] theorem State.modHeating_heating : (s.modHeating f).heating = f s.heating := rfl
@[simp] theorem State.modHeating_conditions : (s.modHeating f).conditions = s.conditions := rfl
@[simp] theorem State.modHeating_link : (s.modHeating f).link = s.link := rfl
@[simp] theorem State.modHeating_pending : (s.modHeating f).pending = s.pending := rfl
end

section
variable (f : Link → Link)
@[simp] theorem State.modLink_initialising : (s.modLink f).initialising = s.initialising := rfl
@[simp] theorem State.modLink_powerApplied : (s.modLink f).powerApplied = s.powerApplied := rfl
@[simp] theorem State.modLink_resetHeldLow : (s.modLink f).resetHeldLow = s.resetHeldLow := rfl
@[simp] theorem State.modLink_resetCause : (s.modLink f).resetCause = s.resetCause := rfl
@[simp] theorem State.modLink_phase : (s.modLink f).phase = s.phase := rfl
@[simp] theorem State.modLink_supervision : (s.modLink f).supervision = s.supervision := rfl
@[simp] theorem State.modLink_clock : (s.modLink f).clock = s.clock := rfl
@[simp] theorem State.modLink_clockTimer : (s.modLink f).clockTimer = s.clockTimer := rfl
@[simp] theorem State.modLink_points : (s.modLink f).points = s.points := rfl
@[simp] theorem State.modLink_drives : (s.modLink f).drives = s.drives := rfl
@[simp] theorem State.modLink_ageTimer : (s.modLink f).ageTimer = s.ageTimer := rfl
@[simp] theorem State.modLink_secondTimer : (s.modLink f).secondTimer = s.secondTimer := rfl
@[simp] theorem State.modLink_lines : (s.modLink f).lines = s.lines := rfl
@[simp] theorem State.modLink_discretes : (s.modLink f).discretes = s.discretes := rfl
@[simp] theorem State.modLink_speedUnit : (s.modLink f).speedUnit = s.speedUnit := rfl
@[simp] theorem State.modLink_sites : (s.modLink f).sites = s.sites := rfl
@[simp] theorem State.modLink_smTimer : (s.modLink f).smTimer = s.smTimer := rfl
@[simp] theorem State.modLink_minuteCounter : (s.modLink f).minuteCounter = s.minuteCounter := rfl
@[simp] theorem State.modLink_slots : (s.modLink f).slots = s.slots := rfl
@[simp] theorem State.modLink_bounds : (s.modLink f).bounds = s.bounds := rfl
@[simp] theorem State.modLink_combined : (s.modLink f).combined = s.combined := rfl
@[simp] theorem State.modLink_wells : (s.modLink f).wells = s.wells := rfl
@[simp] theorem State.modLink_wpTimer : (s.modLink f).wpTimer = s.wpTimer := rfl
@[simp] theorem State.modLink_turbine : (s.modLink f).turbine = s.turbine := rfl
@[simp] theorem State.modLink_heating : (s.modLink f).heating = s.heating := rfl
@[simp] theorem State.modLink_conditions : (s.modLink f).conditions = s.conditions := rfl
@[simp] theorem State.modLink_link : (s.modLink f).link = f s.link := rfl
@[simp] theorem State.modLink_pending : (s.modLink f).pending = s.pending := rfl
end

section
variable (f : Conditions → Conditions)
@[simp] theorem State.modConditions_initialising : (s.modConditions f).initialising = s.initialising := rfl
@[simp] theorem State.modConditions_powerApplied : (s.modConditions f).powerApplied = s.powerApplied := rfl
@[simp] theorem State.modConditions_resetHeldLow : (s.modConditions f).resetHeldLow = s.resetHeldLow := rfl
@[simp] theorem State.modConditions_resetCause : (s.modConditions f).resetCause = s.resetCause := rfl
@[simp] theorem State.modConditions_phase : (s.modConditions f).phase = s.phase := rfl
@[simp] theorem State.modConditions_supervision : (s.modConditions f).supervision = s.supervision := rfl
@[simp] theorem State.modConditions_clock : (s.modConditions f).clock = s.clock := rfl
@[simp] theorem State.modConditions_clockTimer : (s.modConditions f).clockTimer = s.clockTimer := rfl
@[simp] theorem State.modConditions_points : (s.modConditions f).points = s.points := rfl
@[simp] theorem State.modConditions_drives : (s.modConditions f).drives = s.drives := rfl
@[simp] theorem State.modConditions_ageTimer : (s.modConditions f).ageTimer = s.ageTimer := rfl
@[simp] theorem State.modConditions_secondTimer : (s.modConditions f).secondTimer = s.secondTimer := rfl
@[simp] theorem State.modConditions_lines : (s.modConditions f).lines = s.lines := rfl
@[simp] theorem State.modConditions_discretes : (s.modConditions f).discretes = s.discretes := rfl
@[simp] theorem State.modConditions_speedUnit : (s.modConditions f).speedUnit = s.speedUnit := rfl
@[simp] theorem State.modConditions_sites : (s.modConditions f).sites = s.sites := rfl
@[simp] theorem State.modConditions_smTimer : (s.modConditions f).smTimer = s.smTimer := rfl
@[simp] theorem State.modConditions_minuteCounter : (s.modConditions f).minuteCounter = s.minuteCounter := rfl
@[simp] theorem State.modConditions_slots : (s.modConditions f).slots = s.slots := rfl
@[simp] theorem State.modConditions_bounds : (s.modConditions f).bounds = s.bounds := rfl
@[simp] theorem State.modConditions_combined : (s.modConditions f).combined = s.combined := rfl
@[simp] theorem State.modConditions_wells : (s.modConditions f).wells = s.wells := rfl
@[simp] theorem State.modConditions_wpTimer : (s.modConditions f).wpTimer = s.wpTimer := rfl
@[simp] theorem State.modConditions_turbine : (s.modConditions f).turbine = s.turbine := rfl
@[simp] theorem State.modConditions_heating : (s.modConditions f).heating = s.heating := rfl
@[simp] theorem State.modConditions_conditions : (s.modConditions f).conditions = f s.conditions := rfl
@[simp] theorem State.modConditions_link : (s.modConditions f).link = s.link := rfl
@[simp] theorem State.modConditions_pending : (s.modConditions f).pending = s.pending := rfl
end

section
variable (f : SpeedUnit → SpeedUnit)
@[simp] theorem State.modSpeed_initialising : (s.modSpeed f).initialising = s.initialising := rfl
@[simp] theorem State.modSpeed_powerApplied : (s.modSpeed f).powerApplied = s.powerApplied := rfl
@[simp] theorem State.modSpeed_resetHeldLow : (s.modSpeed f).resetHeldLow = s.resetHeldLow := rfl
@[simp] theorem State.modSpeed_resetCause : (s.modSpeed f).resetCause = s.resetCause := rfl
@[simp] theorem State.modSpeed_phase : (s.modSpeed f).phase = s.phase := rfl
@[simp] theorem State.modSpeed_supervision : (s.modSpeed f).supervision = s.supervision := rfl
@[simp] theorem State.modSpeed_clock : (s.modSpeed f).clock = s.clock := rfl
@[simp] theorem State.modSpeed_clockTimer : (s.modSpeed f).clockTimer = s.clockTimer := rfl
@[simp] theorem State.modSpeed_points : (s.modSpeed f).points = s.points := rfl
@[simp] theorem State.modSpeed_drives : (s.modSpeed f).drives = s.drives := rfl
@[simp] theorem State.modSpeed_ageTimer : (s.modSpeed f).ageTimer = s.ageTimer := rfl
@[simp] theorem State.modSpeed_secondTimer : (s.modSpeed f).secondTimer = s.secondTimer := rfl
@[simp] theorem State.modSpeed_lines : (s.modSpeed f).lines = s.lines := rfl
@[simp] theorem State.modSpeed_discretes : (s.modSpeed f).discretes = s.discretes := rfl
@[simp] theorem State.modSpeed_speedUnit : (s.modSpeed f).speedUnit = f s.speedUnit := rfl
@[simp] theorem State.modSpeed_sites : (s.modSpeed f).sites = s.sites := rfl
@[simp] theorem State.modSpeed_smTimer : (s.modSpeed f).smTimer = s.smTimer := rfl
@[simp] theorem State.modSpeed_minuteCounter : (s.modSpeed f).minuteCounter = s.minuteCounter := rfl
@[simp] theorem State.modSpeed_slots : (s.modSpeed f).slots = s.slots := rfl
@[simp] theorem State.modSpeed_bounds : (s.modSpeed f).bounds = s.bounds := rfl
@[simp] theorem State.modSpeed_combined : (s.modSpeed f).combined = s.combined := rfl
@[simp] theorem State.modSpeed_wells : (s.modSpeed f).wells = s.wells := rfl
@[simp] theorem State.modSpeed_wpTimer : (s.modSpeed f).wpTimer = s.wpTimer := rfl
@[simp] theorem State.modSpeed_turbine : (s.modSpeed f).turbine = s.turbine := rfl
@[simp] theorem State.modSpeed_heating : (s.modSpeed f).heating = s.heating := rfl
@[simp] theorem State.modSpeed_conditions : (s.modSpeed f).conditions = s.conditions := rfl
@[simp] theorem State.modSpeed_link : (s.modSpeed f).link = s.link := rfl
@[simp] theorem State.modSpeed_pending : (s.modSpeed f).pending = s.pending := rfl
end

section
variable (f : Supervision → Supervision)
@[simp] theorem State.modSupervision_initialising : (s.modSupervision f).initialising = s.initialising := rfl
@[simp] theorem State.modSupervision_powerApplied : (s.modSupervision f).powerApplied = s.powerApplied := rfl
@[simp] theorem State.modSupervision_resetHeldLow : (s.modSupervision f).resetHeldLow = s.resetHeldLow := rfl
@[simp] theorem State.modSupervision_resetCause : (s.modSupervision f).resetCause = s.resetCause := rfl
@[simp] theorem State.modSupervision_phase : (s.modSupervision f).phase = s.phase := rfl
@[simp] theorem State.modSupervision_supervision : (s.modSupervision f).supervision = f s.supervision := rfl
@[simp] theorem State.modSupervision_clock : (s.modSupervision f).clock = s.clock := rfl
@[simp] theorem State.modSupervision_clockTimer : (s.modSupervision f).clockTimer = s.clockTimer := rfl
@[simp] theorem State.modSupervision_points : (s.modSupervision f).points = s.points := rfl
@[simp] theorem State.modSupervision_drives : (s.modSupervision f).drives = s.drives := rfl
@[simp] theorem State.modSupervision_ageTimer : (s.modSupervision f).ageTimer = s.ageTimer := rfl
@[simp] theorem State.modSupervision_secondTimer : (s.modSupervision f).secondTimer = s.secondTimer := rfl
@[simp] theorem State.modSupervision_lines : (s.modSupervision f).lines = s.lines := rfl
@[simp] theorem State.modSupervision_discretes : (s.modSupervision f).discretes = s.discretes := rfl
@[simp] theorem State.modSupervision_speedUnit : (s.modSupervision f).speedUnit = s.speedUnit := rfl
@[simp] theorem State.modSupervision_sites : (s.modSupervision f).sites = s.sites := rfl
@[simp] theorem State.modSupervision_smTimer : (s.modSupervision f).smTimer = s.smTimer := rfl
@[simp] theorem State.modSupervision_minuteCounter : (s.modSupervision f).minuteCounter = s.minuteCounter := rfl
@[simp] theorem State.modSupervision_slots : (s.modSupervision f).slots = s.slots := rfl
@[simp] theorem State.modSupervision_bounds : (s.modSupervision f).bounds = s.bounds := rfl
@[simp] theorem State.modSupervision_combined : (s.modSupervision f).combined = s.combined := rfl
@[simp] theorem State.modSupervision_wells : (s.modSupervision f).wells = s.wells := rfl
@[simp] theorem State.modSupervision_wpTimer : (s.modSupervision f).wpTimer = s.wpTimer := rfl
@[simp] theorem State.modSupervision_turbine : (s.modSupervision f).turbine = s.turbine := rfl
@[simp] theorem State.modSupervision_heating : (s.modSupervision f).heating = s.heating := rfl
@[simp] theorem State.modSupervision_conditions : (s.modSupervision f).conditions = s.conditions := rfl
@[simp] theorem State.modSupervision_link : (s.modSupervision f).link = s.link := rfl
@[simp] theorem State.modSupervision_pending : (s.modSupervision f).pending = s.pending := rfl
end

end Fields

end Sys2Proof.Machine
end

