-- ==== Sys2Proof/Laws/Only.lean ====
section
/-! SUPPORT. The exact frame of an operation: every part but those named keeps its fields to the letter. Each operation gets one
such lemma in Laws/Frames.lean; `Only.same` turns it into the frame a claim speaks of. -/

namespace Sys2Proof.Machine

-- One after the other: see Laws/Frames.lean.
set_option Elab.async false

/-- A part keeps every field. -/
def Exact (p : Part) (s t : State) : Prop :=
  match p with
  | .phase => (t.initialising, t.powerApplied, t.resetHeldLow, t.resetCause, t.phase) =
      (s.initialising, s.powerApplied, s.resetHeldLow, s.resetCause, s.phase)
  | .clock => (t.clock, t.clockTimer) = (s.clock, s.clockTimer)
  | .points => t.points = s.points
  | .drives => t.drives = s.drives
  | .tableTimers => (t.ageTimer, t.secondTimer) = (s.ageTimer, s.secondTimer)
  | .lines => t.lines = s.lines
  | .discretes => t.discretes = s.discretes
  | .speedUnit => t.speedUnit = s.speedUnit
  | .sites => t.sites = s.sites
  | .monitor => (t.smTimer, t.minuteCounter) = (s.smTimer, s.minuteCounter)
  | .constraints => (t.slots, t.bounds, t.combined) = (s.slots, s.bounds, s.combined)
  | .wells => t.wells = s.wells
  | .wpTimer => t.wpTimer = s.wpTimer
  | .turbine => t.turbine = s.turbine
  | .heating => t.heating = s.heating
  | .conditions => (t.conditions, t.link.condition) = (s.conditions, s.link.condition)
  | .supervision => t.supervision = s.supervision
  | .receiver => t.link.receiver = s.link.receiver
  | .requests => (t.link.requests, t.link.busyPlace, t.link.busyCount, t.link.busyLostCount) =
      (s.link.requests, s.link.busyPlace, s.link.busyCount, s.link.busyLostCount)
  | .notices => (t.link.started, t.link.edge) = (s.link.started, s.link.edge)
  | .outgoing => (t.link.replies, t.link.placings, t.link.sending) = (s.link.replies, s.link.placings, s.link.sending)
  | .linkRate => (t.link.baud1, t.link.baud0) = (s.link.baud1, s.link.baud0)
  | .discards => t.link.discardCount = s.link.discardCount
  | .resetPending => t.link.softResetPending = s.link.softResetPending
  | .queue => t.pending = s.pending

/-- Every part but those named keeps its fields. -/
def Only (changed : List Part) (s t : State) : Prop := ∀ p, p ∉ changed → Exact p s t

theorem Exact.refl (p : Part) (s : State) : Exact p s s := by cases p <;> rfl

theorem Exact.trans {p : Part} {a b c : State} (h : Exact p a b) (k : Exact p b c) : Exact p a c := by
  cases p <;> simp only [Exact] at * <;> rw [k, h]

theorem Only.refl (ps : List Part) (s : State) : Only ps s s := fun p _ => Exact.refl p s

theorem Only.trans {ps : List Part} {a b c : State} (h : Only ps a b) (k : Only ps b c) : Only ps a c :=
  fun p hp => (h p hp).trans (k p hp)

theorem Only.mono {ps qs : List Part} {a b : State} (h : Only ps a b) (hs : ∀ p ∈ ps, p ∈ qs) : Only qs a b :=
  fun p hp => h p (fun hm => hp (hs p hm))

/-- Two operations in a row. -/
theorem Only.seq {ps qs rs : List Part} {a b c : State} (h : Only ps a b) (k : Only qs b c)
    (hs : (∀ p ∈ ps, p ∈ rs) := by decide) (ks : (∀ p ∈ qs, p ∈ rs) := by decide) : Only rs a c :=
  (h.mono hs).trans (k.mono ks)

/-- An operation followed by one whose parts are among those already named. -/
theorem Only.also {qs rs : List Part} {a b c : State} (h : Only rs a b) (k : Only qs b c)
    (ks : (∀ p ∈ qs, p ∈ rs) := by decide) : Only rs a c := h.trans (k.mono ks)

/-- A choice between two operations. -/
theorem Only.ite {ps : List Part} {a b c : State} {p : Prop} [Decidable p] (h : Only ps a b) (k : Only ps a c) :
    Only ps a (if p then b else c) := by split <;> assumption

theorem Only.forEach {ps : List Part} (n : Nat) (f : Fin n → State → State) (h : ∀ i a, Only ps a (f i a)) (s : State) :
    Only ps s (Machine.forEach n f s) :=
  forEach_rel (Only ps) (Only.refl ps) (fun _ _ _ => Only.trans) n f h s

theorem Only.foldl {ps : List Part} {α : Type} (l : List α) (f : State → α → State) (h : ∀ a s, Only ps s (f s a)) (s : State) :
    Only ps s (l.foldl f s) := by
  induction l generalizing s with
  | nil => exact Only.refl ps s
  | cons a rest ih => exact (h a s).trans (ih _)

theorem LineSettled.refl (d : Fin 24) (l : Discrete) : LineSettled d l l := by simp [LineSettled]

theorem ConditionsSettled.refl (c : Conditions) : ConditionsSettled c c := by simp [ConditionsSettled]

theorem ConditionsSettled.trans {a b c : Conditions} (h : ConditionsSettled a b) (k : ConditionsSettled b c) :
    ConditionsSettled a c := by
  unfold ConditionsSettled at *
  refine ⟨k.1.trans h.1, k.2.1.trans h.2.1, fun ha => ?_⟩
  obtain ⟨hb, h1, h2, h3, h4⟩ := h.2.2 ha
  obtain ⟨hc, k1, k2, k3, k4⟩ := k.2.2 hb
  exact ⟨hc, k1.trans h1, k2.trans h2, k3.trans h3, k4.trans h4⟩

theorem Exact.same {p : Part} {s t : State} (h : Exact p s t) : Same p s t := by
  cases p <;> simp only [Exact, Same, Prod.mk.injEq] at *
  case discretes => rw [h]; exact fun d => LineSettled.refl d _
  case conditions => rw [h.1]; exact ConditionsSettled.refl _
  case outgoing => exact ⟨h.1, h.2.1, fun _ => h.2.2, fun hn => Or.inl (h.2.2.trans hn)⟩
  all_goals exact h

theorem Same.refl (p : Part) (s : State) : Same p s s := (Exact.refl p s).same

theorem ConditionsSettled.snapshot {a b : Conditions} (h : ConditionsSettled a b) (ha : a.held = true) :
    b.held = true ∧ b.snapshot = a.snapshot := by
  obtain ⟨hb, h1, h2, h3, h4⟩ := h.2.2 ha
  exact ⟨hb, by simp only [Conditions.snapshot, h1, h2, h3, h4]⟩

/-- A snapshot FREE after the settling was FREE before it (R185). -/
theorem ConditionsSettled.free {a b : Conditions} (h : ConditionsSettled a b) (hb : b.held = false) : a.held = false := by
  cases ha : a.held with
  | false => rfl
  | true => rw [(h.2.2 ha).1] at hb; cases hb

/-- Two stretches of one event, of which the second leaves the snapshot to the settling: a notice the first has begun goes on and is
still that of the snapshot, which is HELD. -/
theorem SendingSettled.trans {a b c : State} (h : SendingSettled a b) (k : SendingSettled b c)
    (hc : ConditionsSettled a.conditions b.conditions) (kc : ConditionsSettled b.conditions c.conditions) :
    SendingSettled a c := by
  refine ⟨fun ha => ?_, fun ha => ?_⟩
  · have hb := h.1 ha
    exact (k.1 (by rw [hb]; exact ha)).trans hb
  · rcases h.2 ha with hb | ⟨h1, h2, h3⟩
    · rcases k.2 hb with kb | ⟨k1, k2, k3⟩
      · exact Or.inl kb
      · exact Or.inr ⟨hc.free k1, k2, k3⟩
    · obtain ⟨c1, c2⟩ := kc.snapshot h2
      exact Or.inr ⟨h1, c1, by rw [k.1 (by rw [h3]; simp), h3, c2]⟩

/-- Every part but the outputs and the line, where one stretch follows another. -/
theorem Same.trans {p : Part} {a b c : State} (hd : p ≠ .discretes) (hp : p ≠ .outgoing) (h : Same p a b) (k : Same p b c) :
    Same p a c := by
  cases p <;> simp only [Same] at *
  case discretes => exact absurd rfl hd
  case conditions => exact h.trans k
  case outgoing => exact absurd rfl hp
  all_goals simp_all

theorem Only.same {ps : List Part} {s t : State} (h : Only ps s t) : UnchangedBut ps s t := fun p hp => (h p hp).same

theorem UnchangedBut.refl (ps : List Part) (s : State) : UnchangedBut ps s s := fun p _ => Same.refl p s

/-- An operation with its exact frame, and then the end of an event, where the line and the snapshot are both framed or the line is
not. -/
theorem Only.settled {ps : List Part} {a b c : State} (h : Only ps a b) (k : UnchangedBut ps b c)
    (hs : (Part.outgoing ∉ ps → Part.conditions ∉ ps) := by decide) : UnchangedBut ps a c := by
  intro p hp
  by_cases hd : p = .discretes
  · subst hd
    have e : b.discretes = a.discretes := h .discretes hp
    have := k .discretes hp
    simp only [Same, e] at this
    exact this
  · by_cases ho : p = .outgoing
    · subst ho
      have h1 := (h .outgoing hp).same
      have k1 := k .outgoing hp
      exact ⟨k1.1.trans h1.1, k1.2.1.trans h1.2.1,
        h1.2.2.trans k1.2.2 (h .conditions (hs hp)).same (k .conditions (hs hp))⟩
    · exact (h p hp).same.trans hd ho (k p hp)

theorem UnchangedBut.mono {ps qs : List Part} {a b : State} (h : UnchangedBut ps a b) (hs : ∀ p ∈ ps, p ∈ qs) :
    UnchangedBut qs a b := fun p hp => h p (fun hm => hp (hs p hm))

end Sys2Proof.Machine
end

