-- ==== Sys2Proof/Laws/Frames.lean ====
section
/-! SUPPORT. The frame of every operation of the part: which parts it can change. A claim's frame follows by `Only.same`. -/

namespace Sys2Proof.Machine

-- The lemmas are checked one after the other: read as one text with the rest, their proofs would wait on each other's threads.
set_option Elab.async false

/-! ### Named updates -/

theorem State.modPoint_only (s : State) (i : Fin 96) (f : Point → Point) : Only [.points] s (s.modPoint i f) := by
  intro p hp; cases p <;> first | rfl | simp at hp

theorem State.modDrive_only (s : State) (i : Fin 15) (f : Drive → Drive) : Only [.drives] s (s.modDrive i f) := by
  intro p hp; cases p <;> first | rfl | simp at hp

theorem State.modLine_only (s : State) (i : Fin 3) (f : Line → Line) : Only [.lines] s (s.modLine i f) := by
  intro p hp; cases p <;> first | rfl | simp at hp

theorem State.modDiscrete_only (s : State) (i : Fin 24) (f : Discrete → Discrete) : Only [.discretes] s (s.modDiscrete i f) := by
  intro p hp; cases p <;> first | rfl | simp at hp

theorem State.modSite_only (s : State) (i : Fin 12) (f : Site → Site) : Only [.sites] s (s.modSite i f) := by
  intro p hp; cases p <;> first | rfl | simp at hp

theorem State.modWell_only (s : State) (i : Fin 8) (f : Well → Well) : Only [.wells] s (s.modWell i f) := by
  intro p hp; cases p <;> first | rfl | simp at hp

theorem State.modTurbine_only (s : State) (f : Turbine → Turbine) : Only [.turbine] s (s.modTurbine f) := by
  intro p hp; cases p <;> first | rfl | simp at hp

theorem State.modHeating_only (s : State) (f : Heating → Heating) : Only [.heating] s (s.modHeating f) := by
  intro p hp; cases p <;> first | rfl | simp at hp

theorem State.modConditions_only (s : State) (f : Conditions → Conditions) : Only [.conditions] s (s.modConditions f) := by
  intro p hp; cases p <;> first | rfl | simp at hp

theorem State.modSpeed_only (s : State) (f : SpeedUnit → SpeedUnit) : Only [.speedUnit] s (s.modSpeed f) := by
  intro p hp; cases p <;> first | rfl | simp at hp

theorem State.modSupervision_only (s : State) (f : Supervision → Supervision) : Only [.supervision] s (s.modSupervision f) := by
  intro p hp; cases p <;> first | rfl | simp at hp


/-! ### Shared operations -/

theorem writeDrive_only (i : Fin 15) (v : Int) (s : State) : Only [.drives] s (writeDrive i v s) := s.modDrive_only i _

theorem recompute_only (t : Target) (s : State) : Only [.constraints] s (recompute t s) := by
  intro p hp; cases p <;> first | (cases t <;> rfl) | simp at hp

theorem setSlots_only (s : State) (v : Vector (Option Post) 22) : Only [.constraints] s { s with slots := v } := by
  intro p hp; cases p <;> first | rfl | simp at hp

theorem post_only (k : Fin 22) (t : Target) (v : Int) (s : State) : Only [.constraints] s (post k t v s) := by
  unfold post
  dsimp only
  have h := (setSlots_only s (s.slots.set k.val (some ⟨t, t.cls.clamp v, s.clock⟩))).trans (recompute_only t _)
  split
  · exact Only.ite h (h.trans (recompute_only _ _))
  · exact h

theorem withdraw_only (k : Fin 22) (s : State) : Only [.constraints] s (withdraw k s) := by
  unfold withdraw
  split
  · exact Only.refl _ s
  · exact (setSlots_only s _).trans (recompute_only _ _)

theorem commandRole_only (d : Fin 24) (c : Bool) (s : State) : Only [.discretes] s (commandRole d c s) :=
  s.modDiscrete_only d _

theorem settleOutputs_only (s : State) : Only [.discretes] s (settleOutputs s) :=
  ((Only.forEach 8 _ (fun _ _ => commandRole_only _ _ _) s).trans (commandRole_only _ _ _)).trans (commandRole_only _ _ _)

theorem settleAlarm_only (s : State) : Only [.discretes] s (settleAlarm s) := commandRole_only _ _ s

theorem freeze_only (s : State) : Only [.conditions] s (freeze s) := by
  intro p hp; cases p <;> first | rfl | simp at hp

theorem takeUpLive_only (s : State) : Only [.conditions, .discretes] s (takeUpLive s) :=
  (s.modConditions_only _).seq (settleAlarm_only _)

theorem settleConditions_only (s : State) : Only [.conditions, .discretes] s (settleConditions s) := by
  unfold settleConditions
  have h := (takeUpLive_only s).trans (takeUpLive_only (takeUpLive s))
  exact Only.ite (h.seq (freeze_only _)) h

theorem settle_only (s : State) : Only [.conditions, .discretes] s (settle s) := by
  unfold settle
  exact (settleOutputs_only s).seq (settleConditions_only _)

/-! ### Points -/

theorem setPointsAge_only (s : State) (v : Vector Point 96) (a : Timer) :
    Only [.points, .tableTimers] s { s with points := v, ageTimer := a } := by
  intro p hp; cases p <;> first | rfl | simp at hp

theorem setDrivesSecond_only (s : State) (v : Vector Drive 15) (a : Timer) :
    Only [.drives, .tableTimers] s { s with drives := v, secondTimer := a } := by
  intro p hp; cases p <;> first | rfl | simp at hp

theorem ageTimerExpiry_only (s : State) : Only [.points, .tableTimers] s (ageTimerExpiry s) := by
  unfold ageTimerExpiry
  split
  · exact Only.refl _ s
  · exact setPointsAge_only s _ _

theorem secondTimerExpiry_only (s : State) : Only [.drives, .tableTimers] s (secondTimerExpiry s) := by
  unfold secondTimerExpiry
  split
  · exact Only.refl _ s
  · exact setDrivesSecond_only s _ _

theorem recoveryTimerExpiry_only (i : Fin 96) (s : State) : Only [.points] s (recoveryTimerExpiry i s) := by
  unfold recoveryTimerExpiry
  split
  · exact Only.refl _ s
  · exact s.modPoint_only i _

theorem plantClockTick_only (s : State) : Only [.clock] s (plantClockTick s) := by
  unfold plantClockTick
  split
  · exact Only.refl _ s
  · intro p hp; cases p <;> first | rfl | simp at hp

/-! ### Lines -/

theorem failRead_only (e : Entry) (s : State) : Only [.points] s (failRead e s) := by
  unfold failRead
  split
  · exact Only.ite (s.modPoint_only _ _) (Only.refl _ s)
  · exact Only.refl _ s
  · exact Only.refl _ s

theorem failDrive_only (e : Entry) (s : State) : Only [.drives] s (failDrive e s) := by
  unfold failDrive
  split
  · exact Only.ite (s.modDrive_only _ _) (Only.refl _ s)
  · exact Only.refl _ s
  · exact Only.refl _ s

theorem failEntry_only (e : Entry) (s : State) : Only [.points, .drives] s (failEntry e s) :=
  (failRead_only e s).seq (failDrive_only e _)

theorem setDrives_only (s : State) (v : Vector Drive 15) : Only [.drives] s { s with drives := v } := by
  intro p hp; cases p <;> first | rfl | simp at hp

theorem rebindDrives_only (s : State) : Only [.drives] s (rebindDrives s) := setDrives_only s _

theorem swapLine_only (i : Fin 3) (s : State) : Only [.lines, .drives] s (swapLine i s) :=
  (s.modLine_only i _).seq (rebindDrives_only _)

theorem goOn_only (i : Fin 3) (n : Nat) (r : Bool) (s : State) : Only [.lines] s (goOn i n r s).1 := by
  unfold goOn
  dsimp only
  split <;> exact s.modLine_only i _

theorem openPass_only (i : Fin 3) (s : State) : Only [.lines, .drives] s (openPass i s).1 := by
  unfold openPass
  dsimp only
  have h : Only [.lines, .drives] s (if s.lines[i].ready then swapLine i s else s) :=
    Only.ite (swapLine_only i s) (Only.refl _ s)
  exact (h.also (State.modLine_only _ i _)).also (goOn_only i 0 false _)

theorem startPass_only (i : Fin 3) (fuel : Nat) (s : State) : Only [.lines, .drives] s (startPass i fuel s) := by
  induction fuel generalizing s with
  | zero => exact Only.refl _ s
  | succ fuel ih =>
    have h := openPass_only i s
    unfold startPass
    rcases he : openPass i s with ⟨u, _ | _⟩ <;> rw [he] at h
    · have k := h.seq (u.modLine_only i (fun l => l.closeOut l.active.length .idle)) (rs := [.lines, .drives])
      exact Only.ite ((k.seq (State.modLine_only _ i _)).trans (ih _)) k
    · exact h

theorem endPass_only (i : Fin 3) (n : Nat) (s : State) : Only [.lines, .drives] s (endPass i n s) := by
  unfold endPass
  have k := (s.modLine_only i (fun l => l.closeOut n .idle)).mono (qs := [.lines, .drives]) (by decide)
  exact Only.ite ((k.seq (State.modLine_only _ i _)).trans (startPass_only i 2 _)) k

theorem faultPass_only (i : Fin 3) (n : Nat) (c : FaultCause) (s : State) : Only [.lines] s (faultPass i n c s) :=
  s.modLine_only i _

theorem sendStop_only (i : Fin 3) (n : Nat) (c : ClosingStop) (s : State) :
    Only [.lines, .drives] s (sendStop i n c s) := by
  unfold sendStop
  cases c
  · exact (s.modLine_only i _).seq (endPass_only i n _)
  · exact (s.modLine_only i _).mono (by decide)

theorem afterEntry_only (i : Fin 3) (n : Nat) (stop : Bool) (c : ClosingStop) (s : State) :
    Only [.lines, .drives] s (afterEntry i n stop c s) := by
  unfold afterEntry
  split
  · exact sendStop_only i _ c s
  · have h := goOn_only i (n + 1) true s
    rcases he : goOn i (n + 1) true s with ⟨u, _ | _⟩ <;> rw [he] at h
    · exact h.seq (sendStop_only i _ c u)
    · exact h.mono (by decide)

theorem settleEntry_only (i : Fin 3) (n : Nat) (e : Entry) (o : EntryOutcome) (a : List WireAct) (c : ClosingStop) (s : State) :
    Only [.lines, .drives] s (settleEntry i n e o a c s) :=
  (s.modLine_only i _).seq (afterEntry_only i n _ c _)

theorem readVerdict_only (e : Entry) (raw : Int) (s : State) : Only [.points] s (readVerdict e raw s).1 := by
  unfold readVerdict
  split
  · split
    · split <;> exact s.modPoint_only _ _
    · exact Only.refl _ s
  · exact Only.refl _ s
  · exact Only.refl _ s

theorem readOutcome_only (e : Entry) (x : Transaction) (s : State) : Only [.points] s (readOutcome e x s).1 := by
  unfold readOutcome
  split
  · exact failRead_only e s
  · exact failRead_only e s
  · split
    · exact failRead_only e s
    · exact readVerdict_only e _ s

theorem readEntryEnd_only (i : Fin 3) (r : StationAnswers) (c : ClosingStop) (s : State) :
    Only [.points, .lines, .drives] s (readEntryEnd i r c s) := by
  unfold readEntryEnd
  split
  · split
    · exact (readOutcome_only _ _ s).seq (settleEntry_only i _ _ _ _ c _)
    · exact Only.refl _ s
  · exact Only.refl _ s

theorem writeOutcome_only (e : Entry) (v : Option Int) (x : Transaction) (s : State) :
    Only [.drives] s (writeOutcome e v x s).1 := by
  unfold writeOutcome
  split
  · exact failDrive_only e s
  · exact failDrive_only e s
  · split
    · exact s.modDrive_only _ _
    · exact Only.refl _ s

theorem writeDriveEntryEnd_only (i : Fin 3) (r : StationAnswers) (c : ClosingStop) (s : State) :
    Only [.lines, .drives] s (writeDriveEntryEnd i r c s) := by
  unfold writeDriveEntryEnd
  split
  · split
    · exact (writeOutcome_only _ _ _ s).seq (settleEntry_only i _ _ _ _ c _)
    · exact Only.refl _ s
  · exact Only.refl _ s

theorem probeEnd_only (i : Fin 3) (a : StationAnswers) (c : ClosingStop) (s : State) :
    Only [.lines, .drives] s (probeEnd i a c s) := by
  unfold probeEnd
  split
  · exact Only.ite (settleEntry_only i _ _ _ _ c s) (Only.refl _ s)
  · exact Only.refl _ s

theorem heldClock_only (i : Fin 3) (s : State) : Only [.points, .lines, .drives] s (heldClock i s) := by
  unfold heldClock
  split
  · exact ((failEntry_only _ s).seq (rs := [.points, .lines, .drives]) (State.modLine_only _ i _)).seq (endPass_only i _ _)
  · split
    · exact (s.modLine_only i _).seq (endPass_only i _ _)
    · exact Only.refl _ s

theorem recoverOrFault_only (i : Fin 3) (n : Nat) (b : Bool) (s : State) : Only [.lines] s (recoverOrFault i n b s) :=
  Only.ite (s.modLine_only i _) ((s.modLine_only i _).seq (faultPass_only i n _ _))

theorem heldDataWire_only (i : Fin 3) (s : State) : Only [.points, .lines, .drives] s (heldDataWire i s) := by
  unfold heldDataWire
  split
  · exact ((failEntry_only _ s).seq (rs := [.points, .lines, .drives]) (State.modLine_only _ i _)).seq
      (recoverOrFault_only i _ _ _)
  · split
    · exact (s.modLine_only i _).seq (recoverOrFault_only i _ _ _)
    · exact Only.refl _ s

theorem afterRecovery_only (i : Fin 3) (n : Nat) (b : Bool) (s : State) :
    Only [.lines, .drives] s (afterRecovery i n b s) := by
  unfold afterRecovery
  dsimp only
  split
  · exact endPass_only i n s
  · have h := (s.modLine_only i (fun l => { l with state := .passing })).trans (goOn_only i n false _)
    rcases he : goOn i n false (s.modLine i (fun l => { l with state := .passing })) with ⟨u, _ | _⟩ <;> rw [he] at h
    · exact h.seq (endPass_only i _ u)
    · exact h.mono (by decide)

theorem recoveryProcedureEnd_only (i : Fin 3) (r : List WireReading) (s : State) :
    Only [.lines, .drives] s (recoveryProcedureEnd i r s) := by
  unfold recoveryProcedureEnd
  split
  · refine (s.modLine_only i (Line.does (recoveryProcedure r).done)).seq (qs := [.lines, .drives]) ?_
    dsimp only
    split
    · exact afterRecovery_only i _ _ _
    · exact (faultPass_only i _ _ _).mono (by decide)
    · exact (faultPass_only i _ _ _).mono (by decide)
  · exact Only.refl _ s

theorem attemptFailed_only (i : Fin 3) (c : FaultCause) (s : State) :
    Only [.points, .lines, .drives] s (attemptFailed i c s) :=
  ((Only.foldl s.lines[i].active _ (fun e s => failEntry_only e.entry s) s).seq (rs := [.points, .lines, .drives])
    (Only.refl [] _)).seq (State.modLine_only _ i _)

theorem recoveryAttemptEnd_only (i : Fin 3) (r : List WireReading) (s : State) :
    Only [.points, .lines, .drives] s (recoveryAttemptEnd i r s) := by
  unfold recoveryAttemptEnd
  split
  · refine (s.modLine_only i (Line.does (recoveryProcedure r).done)).seq (qs := [.points, .lines, .drives]) ?_
    dsimp only
    split
    · exact (State.modLine_only _ i _).seq (startPass_only i 2 _)
    · exact attemptFailed_only i _ _
    · exact attemptFailed_only i _ _
  · exact Only.refl _ s

theorem passTimerExpiry_only (i : Fin 3) (s : State) : Only [.lines, .drives] s (passTimerExpiry i s) := by
  unfold passTimerExpiry
  split
  · exact Only.refl _ s
  · have k := (s.modLine_only i (fun l => { l with passTimer := some (l.cfg.passInterval * 10) })).mono
      (qs := [.lines, .drives]) (by decide)
    dsimp only
    split
    · exact k
    · exact k.trans (startPass_only i 2 _)
    · exact k.seq (State.modLine_only _ i _)
    · exact k.seq (State.modLine_only _ i _)
    · exact k.seq (State.modLine_only _ i _)

/-! ### Wells -/

theorem writeDemand_only (k : Fin 8) (v : Int) (s : State) : Only [.drives] s (writeDemand k v s) := writeDrive_only _ v s

theorem modWell_writeDemand_only (k : Fin 8) (f : Well → Well) (v : Int) (s : State) :
    Only [.wells, .drives] s (writeDemand k v (s.modWell k f)) := (s.modWell_only k f).seq (writeDemand_only k v _)

theorem enterStarting_only (k : Fin 8) (s : State) : Only [.wells, .drives] s (enterStarting k s) :=
  modWell_writeDemand_only k _ _ s

theorem enterStopping_only (k : Fin 8) (t : StopTo) (c : Option SuspendCause) (s : State) :
    Only [.wells, .drives] s (enterStopping k t c s) := modWell_writeDemand_only k _ _ s

theorem tripWell_only (k : Fin 8) (c : WellTripCause) (s : State) : Only [.wells, .drives] s (tripWell k c s) :=
  modWell_writeDemand_only k _ _ s

theorem modWell_only' (k : Fin 8) (f : Well → Well) (s : State) : Only [.wells, .drives] s (s.modWell k f) :=
  (s.modWell_only k f).mono (by decide)

theorem estopWells_only (s : State) : Only [.wells, .drives] s (estopWells s) :=
  Only.forEach 8 _ (fun k s => Only.ite (Only.refl _ s) (tripWell_only k .estop s)) s

theorem feedbackChanged_only (k : Fin 8) (b : Bool) (s : State) : Only [.wells, .drives] s (feedbackChanged k b s) := by
  unfold feedbackChanged
  dsimp only
  repeat' split
  all_goals first | exact Only.refl _ s | exact tripWell_only k _ s | exact modWell_only' k _ s

theorem startTimerExpiry_only (k : Fin 8) (s : State) : Only [.wells, .drives] s (startTimerExpiry k s) := by
  unfold startTimerExpiry
  split
  · exact Only.refl _ s
  · exact Only.ite ((modWell_only' k _ s).trans (tripWell_only k _ _)) (modWell_only' k _ s)

theorem stopTimerExpiry_only (k : Fin 8) (s : State) : Only [.wells, .drives] s (stopTimerExpiry k s) := by
  unfold stopTimerExpiry
  split
  · exact Only.refl _ s
  · exact Only.ite ((modWell_only' k _ s).trans (tripWell_only k _ _)) (modWell_only' k _ s)

theorem tripDecayExpiry_only (k : Fin 8) (s : State) : Only [.wells] s (tripDecayExpiry k s) := by
  unfold tripDecayExpiry
  split
  · exact Only.refl _ s
  · exact s.modWell_only k _

theorem startOrWait_only (k : Fin 8) (s : State) : Only [.wells, .drives] s (startOrWait k s) := by
  unfold startOrWait
  split
  · exact enterStarting_only k s
  · exact modWell_only' k _ s

theorem settleFloor_only (k : Fin 8) (s : State) : Only [.wells, .drives] s (settleFloor k s) := by
  unfold settleFloor
  dsimp only
  split
  · exact modWell_only' k _ s
  · exact Only.refl _ s
  · exact Only.ite (enterStopping_only k _ _ s) (modWell_only' k _ s)

theorem runDemand_only (k : Fin 8) (s : State) : Only [.wells, .drives] s (runDemand k s) :=
  (writeDemand_only k _ s).seq (settleFloor_only k _)

theorem runWell_only (k : Fin 8) (s : State) : Only [.wells, .drives] s (runWell k s) := by
  unfold runWell
  dsimp only
  split
  · exact (modWell_only' k _ s).trans (runDemand_only k _)
  · exact Only.ite (enterStopping_only k _ _ s) ((modWell_only' k _ s).trans (runDemand_only k _))

theorem testRestart_only (k : Fin 8) (s : State) : Only [.wells, .drives] s (testRestart k s) :=
  Only.ite (modWell_only' k _ s) (Only.ite (modWell_only' k _ s) (startOrWait_only k s))

theorem wellWork_only (k : Fin 8) (s : State) : Only [.wells, .drives] s (wellWork k s) := by
  unfold wellWork
  split
  · exact startOrWait_only k s
  · exact testRestart_only k s
  · exact Only.ite (tripWell_only k _ s) (Only.refl _ s)
  · exact Only.ite (tripWell_only k _ s) (runWell_only k s)
  · exact Only.ite (tripWell_only k _ s) (runWell_only k s)
  · exact Only.ite (tripWell_only k _ s) (runWell_only k s)
  all_goals exact Only.refl _ s

theorem readWellInputs_only (k : Fin 8) (s : State) : Only [.wells] s (readWellInputs k s) := s.modWell_only k _

theorem wellPeriod_only (k : Fin 8) (s : State) : Only [.wells, .drives] s (wellPeriod k s) :=
  ((readWellInputs_only k s).seq (rs := [.wells, .drives]) (State.modWell_only _ k _)).trans (wellWork_only k _)

theorem wpPeriodExpiry_only (s : State) : Only [.wells, .wpTimer, .drives] s (wpPeriodExpiry s) := by
  unfold wpPeriodExpiry
  split
  · exact Only.refl _ s
  · have h : Only [.wpTimer] s { s with wpTimer := some 250 } := by
      intro p hp; cases p <;> first | rfl | simp at hp
    exact h.seq (Only.forEach 8 _ wellPeriod_only _)

theorem stopWell_only (k : Fin 8) (s : State) : Only [.wells, .drives] s (stopWell k s) := by
  unfold stopWell
  split
  all_goals first | exact Only.refl _ s | exact modWell_only' k _ s | exact enterStopping_only k _ _ s

theorem takeSpeedRange_only (k : Fin 8) (old : WellConfig) (s : State) : Only [.drives] s (takeSpeedRange k old s) :=
  Only.ite (writeDemand_only k _ s) (Only.refl _ s)

theorem storeWell_only (k : Fin 8) (new : WellConfig) (s : State) :
    Only [.wells, .drives, .constraints] s (storeWell k new s) := by
  unfold storeWell
  have h := (s.modWell_only k (fun w => ({ w with cfg := new } : Well).takeTripLimit)).seq
    (rs := [.wells, .drives, .constraints]) (takeSpeedRange_only k s.wells[k].cfg _)
  exact Only.ite h (h.seq (recompute_only _ _))

/-! ### Turbine and speed unit -/

theorem recomputeGrant_only (s : State) : Only [.turbine, .drives] s (recomputeGrant s) :=
  Only.ite ((s.modTurbine_only _).seq (writeDrive_only _ _ _)) ((s.modTurbine_only _).mono (by decide))

theorem writeRequest_only (v : Int) (s : State) : Only [.turbine, .drives] s (writeRequest v s) :=
  ((s.modTurbine_only _).mono (by decide)).trans (recomputeGrant_only _)

theorem restDrives_only (s : State) : Only [.drives] s (restDrives s) := (writeDrive_only _ _ s).trans (writeDrive_only _ _ _)

theorem postRunback_only (s : State) : Only [.constraints] s (postRunback s) := post_only _ _ _ s

theorem tripTurbine_only (c : TurbineTripCause) (v : Option Int) (s : State) :
    Only [.turbine, .drives, .constraints] s (tripTurbine c v s) :=
  ((s.modTurbine_only _).seq (rs := [.turbine, .drives, .constraints]) (restDrives_only _)).seq (postRunback_only _)

theorem tripOrLater_only (c : TurbineTripCause) (v : Option Int) (s : State) :
    Only [.turbine, .drives, .constraints] s (tripOrLater c v s) :=
  Only.ite ((s.modTurbine_only _).seq (postRunback_only _)) (tripTurbine_only c v s)

theorem passTurbine_only (f : Turbine → Turbine) (s : State) : Only [.turbine, .drives] s (passTurbine f s) :=
  ((s.modTurbine_only f).mono (by decide)).trans (recomputeGrant_only _)

theorem rejectLoad_only (s : State) : Only [.turbine, .drives] s (rejectLoad s) :=
  ((s.modTurbine_only _).seq (writeDrive_only _ _ _)).trans (recomputeGrant_only _)

theorem stopTurbine_only (s : State) : Only [.turbine, .drives] s (stopTurbine s) :=
  ((restDrives_only s).mono (by decide)).trans (passTurbine_only _ _)

theorem breakerChanged_only (b : Bool) (s : State) : Only [.turbine, .drives] s (breakerChanged b s) := by
  unfold breakerChanged
  split
  · exact passTurbine_only _ s
  · exact passTurbine_only _ s
  · exact rejectLoad_only s
  · exact stopTurbine_only s
  · exact Only.refl _ s

theorem estopTurbine_only (s : State) : Only [.turbine, .drives, .constraints] s (estopTurbine s) :=
  Only.ite (tripTurbine_only _ _ s) (Only.refl _ s)

theorem speedLost_only (s : State) : Only [.turbine, .drives, .constraints] s (speedLost s) := by
  unfold speedLost
  dsimp only
  repeat' split
  all_goals first | exact tripTurbine_only _ _ s | exact Only.refl _ s

theorem atSpeedPoint_only (f : Point → Point) (s : State) : Only [.points] s (atSpeedPoint f s) := by
  unfold atSpeedPoint
  split
  · exact s.modPoint_only _ f
  · exact Only.refl _ s

theorem speedComputed_only (v : Int) (s : State) :
    Only [.points, .turbine, .drives, .constraints] s (speedComputed v s) := by
  unfold speedComputed
  dsimp only
  have h := (atSpeedPoint_only (Point.goodRead v false) s).mono (qs := [.points, .turbine, .drives, .constraints]) (by decide)
  have k : Only [.points, .turbine, .drives, .constraints] s
      (if (atSpeedPoint (Point.goodRead v false) s).turbine.state.energised = true then
        (atSpeedPoint (Point.goodRead v false) s).modTurbine (fun t => { t with speedAcquired := true })
       else atSpeedPoint (Point.goodRead v false) s) := Only.ite (h.seq (State.modTurbine_only _ _)) h
  exact Only.ite (k.seq (tripOrLater_only _ _ _)) k

theorem toothEdge_only (o : TimeBase) (s : State) :
    Only [.speedUnit, .points, .turbine, .drives, .constraints] s (toothEdge o s) := by
  unfold toothEdge
  have h := (s.modSpeed_only (SpeedUnit.edge (s.speedUnit.timeBase + o))).mono
    (qs := [.speedUnit, .points, .turbine, .drives, .constraints]) (by decide)
  dsimp only
  split
  · split
    · exact h.seq (speedComputed_only _ _)
    · exact h
  · exact h

theorem lossTimerExpiry_only (s : State) :
    Only [.speedUnit, .points, .turbine, .drives, .constraints] s (lossTimerExpiry s) := by
  unfold lossTimerExpiry
  split
  · exact Only.refl _ s
  · exact ((s.modSpeed_only _).seq (rs := [.speedUnit, .points, .turbine, .drives, .constraints])
      (atSpeedPoint_only _ _)).seq (speedLost_only _)

theorem rollTimerExpiry_only (s : State) : Only [.turbine, .drives, .constraints] s (rollTimerExpiry s) := by
  unfold rollTimerExpiry
  split
  · exact Only.refl _ s
  · have h := (s.modTurbine_only (fun t => { t with rollTimer := none })).mono
      (qs := [.turbine, .drives, .constraints]) (by decide)
    exact Only.ite (h.trans (tripTurbine_only _ _ _)) h

theorem breakerTimerExpiry_only (s : State) : Only [.turbine, .drives, .constraints] s (breakerTimerExpiry s) := by
  unfold breakerTimerExpiry
  split
  · exact Only.refl _ s
  · have h := (s.modTurbine_only (fun t => { t with breakerTimer := none })).mono
      (qs := [.turbine, .drives, .constraints]) (by decide)
    exact Only.ite (h.trans (tripTurbine_only _ _ _)) h

theorem modTurbine_only' (f : Turbine → Turbine) (s : State) : Only [.turbine, .drives] s (s.modTurbine f) :=
  (s.modTurbine_only f).mono (by decide)

theorem modTurbine_writeAdmission_only (f : Turbine → Turbine) (v : Int) (s : State) :
    Only [.turbine, .drives] s (writeAdmission v (s.modTurbine f)) := (s.modTurbine_only f).seq (writeDrive_only _ v _)

theorem rollingWork_only (s : State) : Only [.turbine, .drives] s (rollingWork s) := by
  unfold rollingWork
  dsimp only
  have h := modTurbine_writeAdmission_only (fun t => t.rampSpeed.runSpeedLoop s.drives[admissionDrive].value)
    ((s.turbine.rampSpeed.runSpeedLoop s.drives[admissionDrive].value).speedLoop.output) s
  split
  · split
    · exact h.trans (passTurbine_only _ _)
    · exact h.trans (modTurbine_only' _ _)
  · exact h.trans (modTurbine_only' _ _)

theorem syncWaitWork_only (s : State) : Only [.turbine, .drives] s (syncWaitWork s) := by
  unfold syncWaitWork
  dsimp only
  split
  · exact modTurbine_writeAdmission_only _ _ s
  · exact (modTurbine_writeAdmission_only _ _ s).trans (passTurbine_only _ _)

theorem powerWork_only (s : State) : Only [.turbine, .drives] s (powerWork s) :=
  Only.ite (modTurbine_writeAdmission_only _ _ s) (modTurbine_only' _ s)

theorem headerWork_only (s : State) : Only [.turbine, .drives] s (headerWork s) :=
  Only.ite (modTurbine_writeAdmission_only _ _ s) (modTurbine_only' _ s)

theorem settleHeader_only (s : State) : Only [.turbine, .drives, .constraints] s (settleHeader s) := by
  unfold settleHeader
  dsimp only
  repeat' split
  all_goals first | exact Only.refl _ s | exact tripTurbine_only _ _ s | exact (s.modTurbine_only _).mono (by decide)

theorem loadedWork_only (s : State) : Only [.turbine, .drives, .constraints] s (loadedWork s) := by
  unfold loadedWork
  split
  · exact ((modTurbine_only' _ s).trans (powerWork_only _)).seq (settleHeader_only _)
  · exact (headerWork_only s).seq (settleHeader_only _)

theorem unloadingWork_only (s : State) : Only [.turbine, .drives] s (unloadingWork s) := by
  unfold unloadingWork
  dsimp only
  have h := (modTurbine_only' (fun t => { t with powerSetpoint := approach s.turbine.cfg.minLoad t.cfg.loadStep t.powerSetpoint })
    s).trans (powerWork_only _)
  exact Only.ite (h.trans (modTurbine_only' _ _)) h

theorem turbineWork_only (s : State) : Only [.turbine, .drives, .constraints] s (turbineWork s) := by
  unfold turbineWork
  split
  · exact (rollingWork_only s).mono (by decide)
  · exact (syncWaitWork_only s).mono (by decide)
  · exact loadedWork_only s
  · exact (unloadingWork_only s).mono (by decide)
  · exact (s.modTurbine_only _).mono (by decide)
  · exact Only.refl _ s

theorem readTurbineInputs_only (s : State) : Only [.turbine] s (readTurbineInputs s) := s.modTurbine_only _

theorem turbinePeriod_only (s : State) : Only [.turbine, .drives, .constraints] s (turbinePeriod s) := by
  unfold turbinePeriod
  dsimp only
  have h := (readTurbineInputs_only s).mono (qs := [.turbine, .drives, .constraints]) (by decide)
  split
  · exact h.trans (tripTurbine_only _ _ _)
  · have k := h.trans (turbineWork_only (readTurbineInputs s))
    split
    · exact k
    · exact k.seq (recomputeGrant_only _)

theorem tgPeriodExpiry_only (s : State) : Only [.turbine, .drives, .constraints] s (tgPeriodExpiry s) := by
  unfold tgPeriodExpiry
  split
  · exact Only.refl _ s
  · exact ((s.modTurbine_only _).mono (by decide)).trans (turbinePeriod_only _)

theorem unloadTurbine_only (s : State) : Only [.turbine, .drives] s (unloadTurbine s) := by
  unfold unloadTurbine
  split
  · exact passTurbine_only _ s
  · exact stopTurbine_only s
  · exact stopTurbine_only s
  all_goals exact Only.refl _ s

theorem storeTurbine_only (new : TurbineConfig) (speed : SpeedConfig) (s : State) :
    Only [.speedUnit, .turbine, .drives, .constraints] s (storeTurbine new speed s) := by
  unfold storeTurbine
  dsimp only
  have h := (s.modSpeed_only (SpeedUnit.configure speed)).seq (rs := [.speedUnit, .turbine, .drives, .constraints])
    (State.modTurbine_only _ (fun t => ({ t with cfg := new } : Turbine).takeLoadRange s.turbine.cfg))
  generalize ((s.modSpeed (SpeedUnit.configure speed)).modTurbine
    (fun t => ({ t with cfg := new } : Turbine).takeLoadRange s.turbine.cfg)) = u at h ⊢
  have k : Only [.speedUnit, .turbine, .drives, .constraints] s
      (if s.turbine.cfg.extractionMax = new.extractionMax ∧ s.turbine.cfg.extractionMinLoad = new.extractionMinLoad then u
       else recomputeGrant u) := Only.ite h (h.seq (recomputeGrant_only u))
  exact Only.ite (k.seq (postRunback_only _)) k

/-! ### Discrete lines -/

theorem setEdge_only (s : State) (v : Vector Discrete 24) (e : Option EdgeNotice) :
    Only [.discretes, .notices] s { s with discretes := v, link := { s.link with edge := e } } := by
  intro p hp; cases p <;> first | rfl | simp at hp

theorem queueEdgeNotice_only (s : State) : Only [.discretes, .notices] s (queueEdgeNotice s) := setEdge_only s _ _

theorem examineEdge_only (i : Fin 24) (b : Bool) (s : State) : Only [.discretes, .notices] s (examineEdge i b s) := by
  unfold examineEdge askEdgeNotice
  dsimp only
  have h := (s.modDiscrete_only i Discrete.catchEdge).mono (qs := [.discretes, .notices]) (by decide)
  exact Only.ite (Only.ite h (h.trans (queueEdgeNotice_only _))) (Only.refl _ s)

theorem readLinePoint_only (i : Fin 24) (s : State) : Only [.points] s (readLinePoint i s) := by
  unfold readLinePoint
  split
  · exact s.modPoint_only _ _
  · exact Only.refl _ s

theorem estopEvent_only (s : State) : Only [.wells, .turbine, .drives, .constraints] s (estopEvent s) :=
  (estopWells_only s).seq (estopTurbine_only _)

theorem roleChanged_only (i : Fin 24) (b : Bool) (s : State) :
    Only [.wells, .turbine, .drives, .constraints] s (roleChanged i b s) := by
  unfold roleChanged
  repeat' split
  · exact (feedbackChanged_only _ b s).mono (by decide)
  · exact (breakerChanged_only b s).mono (by decide)
  · exact estopEvent_only s
  · exact Only.refl _ s
  · exact Only.refl _ s

theorem deliverRole_only (i : Fin 24) (b : Bool) (s : State) :
    Only [.wells, .turbine, .drives, .constraints] s (deliverRole i b s) :=
  Only.ite (Only.refl _ s) (roleChanged_only i _ s)

theorem takeLevel_only (i : Fin 24) (b : Bool) (s : State) :
    Only [.discretes, .notices, .points, .wells, .turbine, .drives, .constraints] s (takeLevel i b s) := by
  unfold takeLevel
  dsimp only
  have h := (s.modDiscrete_only i (fun l => { l with debounceTimer := none })).mono
    (qs := [.discretes, .notices, .points, .wells, .turbine, .drives, .constraints]) (by decide)
  exact Only.ite h ((((h.also (State.modDiscrete_only _ i _)).also (readLinePoint_only i _)).also (deliverRole_only i _ _)).also
    (examineEdge_only i b _))

theorem padChange_only (i : Fin 24) (b : Bool) (s : State) :
    Only [.discretes, .notices, .points, .wells, .turbine, .drives, .constraints] s (padChange i b s) := by
  unfold padChange
  dsimp only
  have h := (s.modDiscrete_only i (fun l => { l with pin := b })).mono
    (qs := [.discretes, .notices, .points, .wells, .turbine, .drives, .constraints]) (by decide)
  refine Only.ite h (Only.ite h ?_)
  have k := h.seq (State.modDiscrete_only (s.modDiscrete i (fun l => { l with pin := b })) i
    (fun l => { l with padLevel := b != (s.modDiscrete i (fun l => { l with pin := b })).discretes[i].cfg.inverted }))
    (rs := [.discretes, .notices, .points, .wells, .turbine, .drives, .constraints])
  exact Only.ite (k.trans (takeLevel_only i _ _)) (k.seq (State.modDiscrete_only _ i _))

theorem debounceExpiry_only (i : Fin 24) (s : State) :
    Only [.discretes, .notices, .points, .wells, .turbine, .drives, .constraints] s (debounceExpiry i s) := by
  unfold debounceExpiry
  split
  · exact Only.refl _ s
  · exact takeLevel_only i _ s

theorem mismatchExpiry_only (i : Fin 24) (s : State) : Only [.discretes] s (mismatchExpiry i s) := by
  unfold mismatchExpiry
  split
  · exact Only.refl _ s
  · exact s.modDiscrete_only i _

theorem storeDiscrete_only (i : Fin 24) (new : DiscreteConfig) (s : State) :
    Only [.discretes, .points, .wells, .turbine, .drives, .constraints] s (storeDiscrete i new s) := by
  unfold storeDiscrete
  dsimp only
  have h := (s.modDiscrete_only i (Discrete.configure new)).mono
    (qs := [.discretes, .points, .wells, .turbine, .drives, .constraints]) (by decide)
  have k : Only [.discretes, .points, .wells, .turbine, .drives, .constraints] s
      (if (s.modDiscrete i (Discrete.configure new)).discretes[i].level = s.discretes[i].level then
        s.modDiscrete i (Discrete.configure new)
       else readLinePoint i (s.modDiscrete i (Discrete.configure new))) := Only.ite h (h.seq (readLinePoint_only i _))
  exact k.seq (deliverRole_only i _ _)

/-! ### Sites -/

theorem postSite_only (i : Fin 12) (s : State) : Only [.constraints] s (postSite i s) := by
  unfold postSite
  split
  · exact post_only _ _ _ s
  · exact Only.refl _ s

theorem siteWork_only (b : Bool) (i : Fin 12) (s : State) : Only [.sites, .constraints] s (siteWork b i s) :=
  (s.modSite_only i _).seq (postSite_only i _)

theorem sitePeriod_only (b : Bool) (i : Fin 12) (s : State) : Only [.sites, .constraints] s (sitePeriod b i s) :=
  Only.ite (Only.refl _ s) (Only.ite (siteWork_only b i s)
    (Only.ite ((s.modSite_only i _).mono (by decide)) (Only.refl _ s)))

theorem setDosing_only (s : State) : Only [.drives] s (setDosing s) :=
  Only.forEach 4 _ (fun _ _ => writeDrive_only _ _ _) s

theorem smPeriodExpiry_only (s : State) : Only [.sites, .constraints, .drives, .monitor] s (smPeriodExpiry s) := by
  unfold smPeriodExpiry
  split
  · exact Only.refl _ s
  · dsimp only
    refine Only.seq (Only.seq (rs := [.sites, .constraints, .monitor]) (ps := [.monitor]) (b := _) ?_
      (Only.forEach 12 _ (sitePeriod_only _) _)) (setDosing_only _)
    intro p hp; cases p <;> first | rfl | simp at hp

theorem disableSite_only (i : Fin 12) (s : State) : Only [.sites, .constraints] s (disableSite i s) :=
  (s.modSite_only i _).seq (withdraw_only _ _)

theorem startMonitor_only (s : State) : Only [.monitor] s (startMonitor s) := by
  intro p hp; cases p <;> first | rfl | simp at hp

theorem stopMonitor_only (s : State) : Only [.monitor, .sites, .constraints, .drives] s (stopMonitor s) := by
  unfold stopMonitor
  refine Only.seq (Only.seq (rs := [.monitor, .sites, .constraints]) (ps := [.monitor, .sites]) (b := _) ?_
    (Only.forEach 12 _ (fun i s => withdraw_only (siteSlot i) s) _))
    (Only.forEach 4 _ (fun j s => writeDrive_only (dosingDrive j) 0 s) _)
  intro p hp; cases p <;> first | rfl | simp at hp

/-! ### Heating -/

theorem writeOpening_only (v : Int) (s : State) : Only [.drives] s (writeOpening v s) := writeDrive_only _ _ s

theorem enterCut_only (s : State) : Only [.heating, .turbine, .drives] s (enterCut s) :=
  ((writeOpening_only 0 s).seq (rs := [.heating, .turbine, .drives]) (writeRequest_only 0 _)).seq (State.modHeating_only _ _)

theorem settleHeating_only (s : State) : Only [.heating, .turbine, .drives] s (settleHeating s) := by
  have active : Only [.heating, .turbine, .drives] s (enterActive s) := (s.modHeating_only _).mono (by decide)
  have hold (r : HoldReason) : Only [.heating, .turbine, .drives] s (enterHold r s) := (s.modHeating_only _).mono (by decide)
  unfold settleHeating
  dsimp only
  repeat' split
  all_goals first | exact Only.refl _ s | exact active | exact hold _ | exact enterCut_only s

theorem allocate_only (s : State) : Only [.heating, .turbine, .drives] s (allocate s) :=
  (writeRequest_only _ s).seq (State.modHeating_only _ _)

theorem runBypass_only (s : State) : Only [.heating, .drives] s (runBypass s) :=
  (s.modHeating_only _).seq (writeOpening_only _ _)

theorem heatingWork_only (s : State) : Only [.heating, .turbine, .drives] s (heatingWork s) := by
  unfold heatingWork
  split
  · exact (((s.modHeating_only _).mono (by decide)).trans (allocate_only _)).seq (runBypass_only _)
  · exact (s.modHeating_only _).mono (by decide)
  · exact Only.refl _ s
  · exact Only.refl _ s

theorem hxPeriodExpiry_only (s : State) : Only [.heating, .turbine, .drives] s (hxPeriodExpiry s) := by
  unfold hxPeriodExpiry
  split
  · exact Only.refl _ s
  · exact ((((s.modHeating_only _).trans (State.modHeating_only _ _)).mono (by decide)).trans (settleHeating_only _)).trans
      (heatingWork_only _)

theorem turnHeatingOff_only (s : State) : Only [.heating, .turbine, .drives] s (turnHeatingOff s) :=
  ((writeOpening_only 0 s).seq (rs := [.heating, .turbine, .drives]) (writeRequest_only 0 _)).seq (State.modHeating_only _ _)

theorem storeHeating_only (new : HeatingConfig) (s : State) : Only [.heating, .constraints] s (storeHeating new s) := by
  unfold storeHeating
  have h := (s.modHeating_only (fun h => { h with cfg := new })).mono (qs := [.heating, .constraints]) (by decide)
  exact Only.ite h (h.seq (recompute_only _ _))

/-! ### Conditions and supervision -/

theorem releaseHeld_only (s : State) : Only [.conditions] s (releaseHeld s) :=
  Only.ite ((s.modConditions_only _).trans (freeze_only _)) (s.modConditions_only _)

theorem refreshSupervision_only (s : State) : Only [.supervision] s (refreshSupervision s) :=
  Only.ite (s.modSupervision_only _) (Only.refl _ s)

theorem stopAllWells_only (s : State) : Only [.wells, .drives] s (stopAllWells s) :=
  Only.forEach 8 _ (fun k s => Only.ite (Only.refl _ s) (stopWell_only k s)) s

theorem unloadIfLoaded_only (s : State) : Only [.turbine, .drives] s (unloadIfLoaded s) :=
  Only.ite (unloadTurbine_only s) (Only.refl _ s)

theorem holdTimerExpiry_only (s : State) : Only [.supervision, .wells, .turbine, .drives] s (holdTimerExpiry s) := by
  unfold holdTimerExpiry
  split
  · exact Only.refl _ s
  · exact Only.ite (((s.modSupervision_only _).seq (rs := [.supervision, .wells, .turbine, .drives])
      (stopAllWells_only _)).seq (unloadIfLoaded_only _)) (Only.refl _ s)

theorem supervisionTimerExpiry_only (s : State) : Only [.supervision, .constraints] s (supervisionTimerExpiry s) := by
  unfold supervisionTimerExpiry
  split
  · exact Only.refl _ s
  · exact Only.ite ((s.modSupervision_only _).seq (post_only _ _ _ _)) (Only.refl _ s)

theorem resumeSupervision_only (s : State) : Only [.supervision, .constraints] s (resumeSupervision s) :=
  (s.modSupervision_only _).seq (withdraw_only _ _)


end Sys2Proof.Machine
end

