-- ==== Sys2Proof/Laws/Link.lean ====
section
/-! SUPPORT. What the end of an event does (`finish`), and what a request leaves behind when it is taken at once. -/

namespace Sys2Proof.Machine

-- One after the other: see Laws/Frames.lean.
set_option Elab.async false

/-! ### Outputs and conditions -/

/-- The level the owner of an output's role asks for, ALARM aside (R58, R111, R138). -/
def asks (s : State) (d : Fin 24) : Bool :=
  if h : d.val < 8 then s.wells[d.val].state.energised
  else if d = stopValveLine then s.turbine.state.energised else breakerOpenDemand s

/-- The mismatch flag and timer of a line judged afresh (R59). -/
def Discrete.judged (m : Discrete) : Bool × Timer :=
  if m.cfg.out && m.level != m.commanded then (false, some (m.cfg.mismatchTime * 10)) else (false, none)

/-- What any number of commands does to the mismatch flag and timer of a line (R59). -/
def Rejudged (l m : Discrete) : Prop :=
  ((m.mismatch, m.mismatchTimer) = (l.mismatch, l.mismatchTimer) ∨ (m.mismatch, m.mismatchTimer) = m.judged) ∧
    (m.commanded ≠ l.commanded →
      (m.cfg.out = false ∨ m.level = m.commanded) ∨ (l.mismatch = false ∧ l.mismatchTimer = none) →
      (m.mismatch, m.mismatchTimer) = m.judged)

theorem Rejudged.refl (l : Discrete) : Rejudged l l := ⟨.inl rfl, fun h => absurd rfl h⟩

theorem Rejudged.take (c : Bool) (l : Discrete) : Rejudged l (l.setRoleCommand c) := by
  obtain ⟨cfg, role, commanded, pin, pad, level, timer, mismatchTimer, mismatch, seen, reported, count⟩ := l
  unfold Rejudged Discrete.judged Discrete.setRoleCommand Discrete.setCommanded Discrete.judgeMismatch
  by_cases hc : commanded = c
  · cases hr : cfg.role <;> simp [hc]
  · cases hr : cfg.role <;> cases ho : cfg.out <;> cases mismatch <;> cases mismatchTimer <;>
      by_cases hl : level = c <;> simp [ho, hl, hc, Ne.symm hc]

theorem Rejudged.trans {a b c : Discrete} (hcfg : c.cfg = b.cfg) (hlevel : c.level = b.level) (h : Rejudged a b)
    (k : Rejudged b c) : Rejudged a c := by
  obtain ⟨hf, hj⟩ := h
  obtain ⟨kf, kj⟩ := k
  unfold Discrete.judged at *
  rw [hcfg, hlevel] at kf kj
  unfold Rejudged Discrete.judged
  rw [hcfg, hlevel]
  cases ha : a.commanded <;> cases hb : b.commanded <;> cases hc : c.commanded <;> cases hl : b.level <;> cases ho : b.cfg.out <;>
    simp only [ha, hb, hc, hl, ho] at hf hj kf kj ⊢ <;> simp_all <;> grind

/-- What the settling of an event may do to a line whose owner asks for a level: nothing, or the level is taken; ALARM, which may be
commanded twice, keeps what no command touches. -/
def LineAsked (d : Fin 24) (c : Bool) (l m : Discrete) : Prop :=
  if d = alarmLine then
    m.cfg = l.cfg ∧ m.pin = l.pin ∧ m.padLevel = l.padLevel ∧ m.level = l.level ∧ m.debounceTimer = l.debounceTimer ∧
      m.edgeSeen = l.edgeSeen ∧ m.edgeReported = l.edgeReported ∧ m.edgeCount = l.edgeCount ∧
      (l.cfg.role = false →
        m.commanded = l.commanded ∧ m.mismatch = l.mismatch ∧ m.mismatchTimer = l.mismatchTimer) ∧ Rejudged l m
  else m = l ∨ (roleIsOutput d = true ∧ m = l.setRoleCommand c)

/-- What a change of the level asked for leaves of a line. -/
theorem Discrete.setRoleCommand_keeps (c : Bool) (l : Discrete) :
    let m := l.setRoleCommand c
    (m.cfg = l.cfg ∧ m.pin = l.pin ∧ m.padLevel = l.padLevel ∧ m.level = l.level ∧ m.debounceTimer = l.debounceTimer ∧
      m.edgeSeen = l.edgeSeen ∧ m.edgeReported = l.edgeReported ∧ m.edgeCount = l.edgeCount) ∧
    (l.cfg.role = false → m.commanded = l.commanded ∧ m.mismatch = l.mismatch ∧ m.mismatchTimer = l.mismatchTimer) ∧
    (m.commanded = l.commanded → m.mismatch = l.mismatch ∧ m.mismatchTimer = l.mismatchTimer) ∧
    m.setRoleCommand c = m := by
  obtain ⟨cfg, role, commanded, pin, pad, level, timer, mismatchTimer, mismatch, seen, reported, count⟩ := l
  unfold Discrete.setRoleCommand Discrete.setCommanded Discrete.judgeMismatch
  by_cases hc : commanded = c
  · cases hr : cfg.role <;> simp [hr, hc]
  · cases hr : cfg.role <;> cases cfg.out <;> cases mismatch <;> cases mismatchTimer <;>
      by_cases hl : level = c <;> simp [hr, hl, hc, Ne.symm hc]

theorem LineAsked.refl (d : Fin 24) (c : Bool) (l : Discrete) : LineAsked d c l l := by
  unfold LineAsked; split
  · simp [Rejudged.refl]
  · exact Or.inl rfl

theorem LineAsked.take (d : Fin 24) (c : Bool) (l : Discrete) (h : roleIsOutput d = true) :
    LineAsked d c l (l.setRoleCommand c) := by
  unfold LineAsked; split
  · obtain ⟨⟨h1, h2, h3, h4, h5, h6, h7, h8⟩, hr, -, -⟩ := l.setRoleCommand_keeps c
    exact ⟨h1, h2, h3, h4, h5, h6, h7, h8, hr, Rejudged.take c l⟩
  · exact Or.inr ⟨h, rfl⟩

/-- A command of ALARM, whatever its level. -/
theorem LineAsked.alarm (c v : Bool) (l : Discrete) : LineAsked alarmLine c l (l.setRoleCommand v) := by
  have := LineAsked.take alarmLine v l (by decide)
  simpa only [LineAsked, if_true] using this

theorem LineAsked.trans {d : Fin 24} {x : Bool} {a b c : Discrete} (h : LineAsked d x a b) (k : LineAsked d x b c) :
    LineAsked d x a c := by
  unfold LineAsked at *
  split at h
  · rename_i hd
    rw [if_pos hd] at k ⊢
    obtain ⟨h1, h2, h3, h4, h5, h6, h7, h8, h9, hj⟩ := h
    obtain ⟨k1, k2, k3, k4, k5, k6, k7, k8, k9, kj⟩ := k
    refine ⟨k1.trans h1, k2.trans h2, k3.trans h3, k4.trans h4, k5.trans h5, k6.trans h6, k7.trans h7, k8.trans h8, fun hr => ?_,
      hj.trans k1 k4 kj⟩
    obtain ⟨p1, p2, p3⟩ := h9 hr
    obtain ⟨q1, q2, q3⟩ := k9 (by rw [h1]; exact hr)
    exact ⟨q1.trans p1, q2.trans p2, q3.trans p3⟩
  · rename_i hd
    rw [if_neg hd] at k ⊢
    rcases h with rfl | ⟨ho, rfl⟩
    · exact k
    · rcases k with rfl | ⟨-, rfl⟩
      · exact Or.inr ⟨ho, rfl⟩
      · exact Or.inr ⟨ho, (a.setRoleCommand_keeps x).2.2.2⟩

/-- What a line's flag and timer are after a change of the level commanded (the last clauses of `LineSettled`). -/
theorem Rejudged.clauses {l m : Discrete} (h : Rejudged l m) :
    (m.commanded ≠ l.commanded → m.cfg.out = false ∨ m.level = m.commanded → m.mismatch = false ∧ m.mismatchTimer = none) ∧
    (m.commanded ≠ l.commanded → m.cfg.out = true → m.level ≠ m.commanded → l.mismatch = false → l.mismatchTimer = none →
      m.mismatch = false ∧ m.mismatchTimer = some (m.cfg.mismatchTime * 10)) := by
  refine ⟨fun hc ha => ?_, fun hc ho hl h1 h2 => ?_⟩
  · have := h.2 hc (.inl ha)
    rcases ha with ha | ha <;> simpa [Discrete.judged, ha] using this
  · simpa [Discrete.judged, ho, hl] using h.2 hc (.inr ⟨h1, h2⟩)

theorem LineAsked.settled {d : Fin 24} {x : Bool} {l m : Discrete} (h : LineAsked d x l m) : LineSettled d l m := by
  unfold LineAsked at h
  split at h
  · rename_i hd
    subst hd
    obtain ⟨h1, h2, h3, h4, h5, h6, h7, h8, h9, hj⟩ := h
    refine ⟨h1, h2, h3, h4, h5, h6, h7, h8, fun hn => absurd hn (by decide), fun hr => (h9 hr).1, fun hr _ => ?_, hj.clauses⟩
    rcases hr with hr | hr
    · exact absurd rfl hr
    · exact (h9 hr).2
  · rcases h with rfl | ⟨ho, rfl⟩
    · exact LineSettled.refl d _
    · obtain ⟨⟨h1, h2, h3, h4, h5, h6, h7, h8⟩, hr, hm, -⟩ := l.setRoleCommand_keeps x
      exact ⟨h1, h2, h3, h4, h5, h6, h7, h8, fun (hn : roleIsOutput d = false) => absurd (ho.symm.trans hn) (by decide),
        fun h => (hr h).1, fun _ => hm, (Rejudged.take x l).clauses⟩

/-- One stretch of the end of an event: outputs take what their owners ask for, the condition unit settles, and nothing else but the
line changes. -/
def Settling (s t : State) : Prop :=
  (∀ p : Part, p ≠ .discretes → p ≠ .outgoing → Same p s t) ∧
    ∀ d : Fin 24, LineAsked d (asks s d) s.discretes[d] t.discretes[d]

/-- The level asked for follows the wells, the turbine and the level of BRK_CLOSED. -/
theorem asks_eq {s t : State} (hw : t.wells = s.wells) (ht : t.turbine = s.turbine)
    (hb : t.discretes[breakerClosedLine] = s.discretes[breakerClosedLine]) (d : Fin 24) : asks t d = asks s d := by
  unfold asks breakerOpenDemand breakerClosed
  rw [hw, ht, hb]

theorem Settling.asks {s t : State} (h : Settling s t) (d : Fin 24) : asks t d = asks s d := by
  refine asks_eq (h.1 .wells (by decide) (by decide)) (h.1 .turbine (by decide) (by decide)) ?_ d
  rcases h.2 breakerClosedLine with e | ⟨ho, -⟩
  · exact e
  · exact absurd ho (by decide)

theorem Settling.refl (s : State) : Settling s s := ⟨fun p _ _ => Same.refl p s, fun d => LineAsked.refl d _ _⟩

theorem Settling.trans {a b c : State} (h : Settling a b) (k : Settling b c) : Settling a c :=
  ⟨fun p hd ho => (h.1 p hd ho).trans hd ho (k.1 p hd ho),
    fun d => (h.2 d).trans (by have := k.2 d; rwa [h.asks d] at this)⟩

theorem Only.settling {s t : State} (h : Only [.outgoing] s t) : Settling s t := by
  refine ⟨fun p _ ho => (h p (by simpa using ho)).same, fun d => ?_⟩
  have e : t.discretes = s.discretes := h .discretes (by decide)
  rw [e]; exact LineAsked.refl d _ _

/-- A settling leaves what a command need not name, the line apart. -/
theorem Settling.unchanged {s t : State} (h : Settling s t) : UnchangedBut [.outgoing] s t := by
  intro p hp
  by_cases hd : p = .discretes
  · subst hd; exact fun d => (h.2 d).settled
  · exact h.1 p hd (by simpa using hp)

/-- A settling that leaves the line to the letter. -/
theorem Settling.unchangedAll {s t : State} (h : Settling s t) (ho : Exact .outgoing s t) : UnchangedBut [] s t := by
  intro p _
  by_cases hp : p = .outgoing
  · subst hp; exact ho.same
  · exact h.unchanged p (by simpa using hp)

theorem commandRole_settling (d : Fin 24) (c : Bool) (s : State) (h : LineAsked d (asks s d) s.discretes[d] (s.discretes[d].setRoleCommand c)) :
    Settling s (commandRole d c s) := by
  refine ⟨fun p hd _ => (commandRole_only d c s p (by simpa using hd)).same, fun e => ?_⟩
  by_cases he : e = d
  · subst he
    simpa [commandRole, State.modDiscrete, modifyAt] using h
  · have : d.val ≠ e.val := fun hh => he (Fin.ext hh.symm)
    simpa [commandRole, State.modDiscrete, modifyAt, Vector.getElem_set_ne _ _ this] using LineAsked.refl e _ _

theorem runLine_isOutput (k : Fin 8) : roleIsOutput (runLine k) = true := by revert k; decide

theorem asks_runLine (s : State) (k : Fin 8) : asks s (runLine k) = s.wells[k].state.energised := by
  unfold asks runLine
  rw [dif_pos k.isLt]; rfl

theorem settleOutputs_settling (s : State) : Settling s (settleOutputs s) := by
  unfold settleOutputs
  have runs := forEach_rel Settling Settling.refl (fun _ _ _ => Settling.trans) 8
    (fun k a => commandRole (runLine k) a.wells[k].state.energised a)
    (fun k a => commandRole_settling _ _ a (by rw [asks_runLine]; exact LineAsked.take _ _ _ (runLine_isOutput k))) s
  refine (runs.trans (commandRole_settling stopValveLine _ _ ?_)).trans (commandRole_settling breakerOpenLine _ _ ?_)
  · exact LineAsked.take _ _ _ (by decide)
  · exact LineAsked.take _ _ _ (by decide)

theorem settleAlarm_settling (s : State) : Settling s (settleAlarm s) :=
  commandRole_settling alarmLine _ s (LineAsked.alarm _ _ _)

/-- A change of the condition record alone that the settling may make. -/
theorem modConditions_settling (s : State) (f : Conditions → Conditions) (h : ConditionsSettled s.conditions (f s.conditions)) :
    Settling s (s.modConditions f) := by
  refine ⟨fun p _ _ => ?_, fun d => LineAsked.refl d _ _⟩
  by_cases hp : p = .conditions
  · subst hp; exact h
  · exact (s.modConditions_only f p (by simpa using hp)).same

theorem takeUpLive_settling (s : State) : Settling s (takeUpLive s) :=
  (modConditions_settling s _ (by simp [ConditionsSettled])).trans (settleAlarm_settling _)

theorem freeze_settling (s : State) (h : s.conditions.held = false) : Settling s (freeze s) := by
  refine ⟨fun p _ _ => ?_, fun d => LineAsked.refl d _ _⟩
  by_cases hp : p = .conditions
  · subst hp; simp [Same, freeze, ConditionsSettled, State.modLink, State.modConditions, h]
  · exact (freeze_only s p (by simpa using hp)).same

theorem settleConditions_settling (s : State) : Settling s (settleConditions s) := by
  unfold settleConditions
  dsimp only
  have h := (takeUpLive_settling s).trans (takeUpLive_settling _)
  split
  · rename_i hc
    exact h.trans (freeze_settling _ (by simp only [Bool.and_eq_true, Bool.not_eq_true'] at hc; exact hc.1))
  · exact h

theorem settle_settling (s : State) : Settling s (settle s) :=
  (settleOutputs_settling s).trans (settleConditions_settling _)

/-- The settling of an event changes nothing a command would have to name. -/
theorem settle_frame (s : State) : UnchangedBut [] s (settle s) :=
  (settle_settling s).unchangedAll (settle_only s .outgoing (by decide))

theorem settle_sending (s : State) : (settle s).link.sending = s.link.sending := by
  have h := settle_only s .outgoing (by decide)
  simp only [Exact, Prod.mk.injEq] at h
  exact h.2.2

/-! ### The transmitter at the end of an event -/

theorem arbiter_idle {l : Link} (h : l.replies = []) (hb : l.busyPlace = none) (hs : l.started = none) (he : l.edge = none) :
    arbiter l = l.condition.map (fun n => .condition (conditionFrame n)) := by
  unfold arbiter noticeChoice
  rw [h, hb, hs, he]
  cases l.condition <;> rfl

theorem beginCondition_settling (f : Frame) (s : State) : Settling s (beginChoice (.condition f) s) := by
  refine ⟨fun p _ ho => ?_, fun d => LineAsked.refl d _ _⟩
  cases p <;> first | (exact absurd rfl ho) |
    simp [Same, beginChoice, State.modLink, LineSettled.refl, ConditionsSettled.refl]

/-- The notices of the condition unit after the settling of an event that found none pending: none, or the one of the snapshot just
frozen (R184, R187). -/
theorem settle_condition (s : State) (h : s.link.condition = none) :
    (settle s).link.condition = none ∨
      (s.conditions.held = false ∧ (settle s).conditions.held = true ∧
        (settle s).link.condition = some (settle s).conditions.snapshot) := by
  have o := settleOutputs_only s .conditions (by decide)
  have k1 := fun a => (takeUpLive_settling a).1 .conditions (by decide) (by decide)
  have c1 : ∀ a : State, (takeUpLive a).link.condition = a.link.condition := fun a => rfl
  simp only [Exact, Prod.mk.injEq] at o
  unfold settle settleConditions
  dsimp only
  split
  · rename_i hc
    simp only [Bool.and_eq_true, Bool.not_eq_true'] at hc
    refine Or.inr ⟨?_, rfl, ?_⟩
    · have := ConditionsSettled.free (k1 _) (ConditionsSettled.free (k1 _) hc.1)
      rwa [o.1] at this
    · simp [freeze, State.modLink, State.modConditions, Conditions.snapshot]
  · exact Or.inl (by rw [c1, c1, o.2, h])

/-- The end of an event whose idle transmitter has nothing to send before the event's own changes are settled. -/
theorem finish_frame (u : State) (h : u.link.idleClear) : UnchangedBut [] u (finish u) := by
  have hs := settle_frame u
  unfold finish transmit
  cases hq : u.link.sending with
  | some f =>
    rw [settle_sending, hq]
    exact hs
  | none =>
    obtain ⟨h1, h2, h3, h4, h5⟩ := h hq
    have o := hs .outgoing (by decide)
    have r := hs .requests (by decide)
    have n := hs .notices (by decide)
    simp only [Same] at o r n
    have ha := arbiter_idle (l := (settle u).link) (o.1.trans h1) (r.2.1.trans h2) (n.1.trans h3) (n.2.trans h5)
    rw [settle_sending, hq, ha]
    rcases settle_condition u h4 with hn | ⟨f1, f2, f3⟩
    · rw [hn]; exact hs
    · rw [f3]
      have all := ((settle_settling u).trans (beginCondition_settling (conditionFrame (settle u).conditions.snapshot) _)).trans
        (settle_settling _)
      have k := settle_frame (beginChoice (.condition (conditionFrame (settle u).conditions.snapshot)) (settle u))
      intro p _
      by_cases hp : p = .outgoing
      · subst hp
        have ko := k .outgoing (by decide)
        obtain ⟨g1, g2⟩ := ConditionsSettled.snapshot (k .conditions (by decide)) f2
        refine ⟨ko.1.trans o.1, ko.2.1.trans o.2.1, fun hne => absurd hq hne, fun _ => Or.inr ⟨f1, g1, ?_⟩⟩
        refine (settle_sending _).trans ?_
        exact (congrArg (fun x => some (conditionFrame x)) g2).symm
      · exact all.unchanged p (by simpa using hp)

theorem finish_sending (u : State) (f : Frame) (h : u.link.sending = some f) : finish u = settle u := by
  unfold finish transmit
  rw [settle_sending, h]

/-! ### A reply placed and sent -/

theorem placeReply_only (kind tag : Byte) (a : Answer) (s : State) : Only [.outgoing] s (placeReply kind tag a s) := by
  intro p hp; cases p <;> first | rfl | simp at hp

theorem takeRequests_none (n : Nat) (s : State) (h : s.link.requests = []) : takeRequests n s = s := by
  cases n with
  | zero => rfl
  | succ n => rw [takeRequests, h]

theorem beginReply_eq (f : Frame) (s : State) (h : s.link.requests = []) :
    beginChoice (.reply f) s = s.modLink (fun l => { l with sending := some f, replies := l.replies.drop 1 }) :=
  takeRequests_none 4 _ h

theorem beginReply_only (f : Frame) (s : State) (h : s.link.requests = []) :
    Only [.outgoing] s (beginChoice (.reply f) s) := by
  rw [beginReply_eq f s h]
  intro p hp; cases p <;> first | rfl | simp at hp

/-- A request that was taken at once: its reply stands last among those under way, and nothing else follows from the end of
the event but what every event's end settles. -/
theorem finish_answer (kind tag : Byte) (a : Answer) (u : State) (hr : u.link.requests = [])
    (hi : u.link.sending = none → u.link.replies = [] ∧ u.link.busyPlace = none) :
    UnchangedBut [.outgoing] u (finish (placeReply kind tag a u)) ∧
      (finish (placeReply kind tag a u)).link.outgoing = u.link.outgoing ++ [⟨replyKind kind, tag, a.body⟩] := by
  have hp := (placeReply_only kind tag a u).settling
  have hs := settle_settling (placeReply kind tag a u)
  have os := (settle_frame (placeReply kind tag a u)) .outgoing (by decide)
  have hse := settle_sending (placeReply kind tag a u)
  unfold finish transmit
  cases hq : u.link.sending with
  | some f =>
    have hq' : (placeReply kind tag a u).link.sending = some f := hq
    rw [hse, hq']
    refine ⟨(hp.trans hs).unchanged, ?_⟩
    simp only [Same] at os
    unfold Link.outgoing
    rw [hse, os.1]
    simp [placeReply, State.modLink, hq]
  | none =>
    have hq' : (placeReply kind tag a u).link.sending = none := hq
    obtain ⟨h1, h2⟩ := hi hq
    have rs := (settle_frame (placeReply kind tag a u)) .requests (by decide)
    simp only [Same] at os rs
    have hreps : (settle (placeReply kind tag a u)).link.replies = [⟨⟨replyKind kind, tag, a.body⟩, u.link.placings⟩] := by
      rw [os.1]; simp [placeReply, State.modLink, h1]
    have hbusy : (settle (placeReply kind tag a u)).link.busyPlace = none := rs.2.1.trans h2
    have hreq : (settle (placeReply kind tag a u)).link.requests = [] := rs.1.trans hr
    have ha : arbiter (settle (placeReply kind tag a u)).link = some (.reply ⟨replyKind kind, tag, a.body⟩) := by
      unfold arbiter; rw [hreps, hbusy]
    rw [hse, hq', ha]
    have hb := beginReply_only ⟨replyKind kind, tag, a.body⟩ _ hreq
    have hf := (settle_frame (beginChoice (.reply ⟨replyKind kind, tag, a.body⟩) (settle (placeReply kind tag a u))))
    refine ⟨(((hp.trans hs).trans hb.settling).trans (settle_settling _)).unchanged, ?_⟩
    have of := hf .outgoing (by decide)
    have se := settle_sending (beginChoice (.reply ⟨replyKind kind, tag, a.body⟩) (settle (placeReply kind tag a u)))
    simp only [Same] at of
    have hb1 : (beginChoice (.reply ⟨replyKind kind, tag, a.body⟩) (settle (placeReply kind tag a u))).link.sending =
        some ⟨replyKind kind, tag, a.body⟩ ∧
        (beginChoice (.reply ⟨replyKind kind, tag, a.body⟩) (settle (placeReply kind tag a u))).link.replies = [] := by
      rw [beginReply_eq _ _ hreq]
      simp [State.modLink, hreps]
    simp only [Link.outgoing, se, of.1, hb1.1, hb1.2, hq, h1]
    simp

end Sys2Proof.Machine
end

