-- ==== Sys2Proof/Laws/Events.lean ====
section
/-! SUPPORT. How a command ends: what follows for a taken request and for an event from the frame of the operation behind it. -/

namespace Sys2Proof.Machine

-- One after the other: see Laws/Frames.lean.
set_option Elab.async false

theorem refreshSupervision_link (s : State) : (refreshSupervision s).link = s.link := by
  unfold refreshSupervision; split <;> rfl

theorem refreshSupervision_state (s : State) : (refreshSupervision s).supervision.state = s.supervision.state := by
  unfold refreshSupervision Supervision.restart; split <;> rfl

theorem Ready.takenAtOnce {s : State} (h : Ready s) : takenAtOnce (refreshSupervision s) = true := by
  unfold Machine.takenAtOnce
  rw [refreshSupervision_link, h.2.1, h.2.2.2]
  simp [h.2.2.1]

theorem arriveRequest_ready (tag : Byte) (r : Request) {s : State} (h : Ready s) :
    arriveRequest tag r s = placeReply (BitVec.ofNat 8 r.kind) tag (applyRequest r (refreshSupervision s)).2
      (applyRequest r (refreshSupervision s)).1 := by
  unfold arriveRequest
  simp only [h.takenAtOnce, if_true, answerRequest, settleRequest]

/-- A request taken at once, whose owner touches neither the request queue nor the replies under way. -/
theorem onRequest_completes (tag : Byte) (r : Request) {s : State} (h : Ready s) {changed : List Part}
    (hu : Only changed (refreshSupervision s) (applyRequest r (refreshSupervision s)).1)
    (hr : Part.requests ∉ changed) (ho : Part.outgoing ∉ changed) :
    ∃ t, onRequest tag r s = .next t ∧ UnchangedBut [.outgoing] (applyRequest r (refreshSupervision s)).1 t ∧
      Answered s t r.kind tag (applyRequest r (refreshSupervision s)).2.status
        (applyRequest r (refreshSupervision s)).2.content ∧
      UnchangedBut (.supervision :: .outgoing :: changed) s t := by
  have hq := hu .requests hr
  have hs := hu .outgoing ho
  simp only [Exact, Prod.mk.injEq, refreshSupervision_link] at hq hs
  obtain ⟨f1, f2⟩ := finish_answer (BitVec.ofNat 8 r.kind) tag (applyRequest r (refreshSupervision s)).2
    (applyRequest r (refreshSupervision s)).1 (hq.1.trans h.2.1)
    (fun hn => by rw [hs.1, hq.2.1]; exact ⟨(h.1.2 (hs.2.2 ▸ hn)).1, (h.1.2 (hs.2.2 ▸ hn)).2.1⟩)
  refine ⟨_, ?_, f1, ?_, ?_⟩
  · unfold onRequest event
    rw [h.1.1, arriveRequest_ready tag r h]
    rfl
  · unfold Answered
    rw [f2]
    unfold Link.outgoing
    rw [hs.1, hs.2.2]
    simp only [replyKind, Answer.body, Wire.putByte, Wire.putNat]
    congr 2
    rw [BitVec.ofNat_add]
    congr 1
    cases (applyRequest r (refreshSupervision s)).2.status <;> rfl
  · have a : Only (.supervision :: .outgoing :: changed) s (refreshSupervision s) :=
      (refreshSupervision_only s).mono (by intro p hp; simp at hp; simp [hp])
    exact (a.trans (hu.mono (by intro p hp; simp [hp]))).settled (f1.mono (by intro p hp; simp at hp; simp [hp])) (by simp)

/-- An event that touches neither the request queue, nor the notices, nor the replies under way, nor the condition unit itself. -/
theorem event_completes (f : State → State) {s : State} (h : Running s) {changed : List Part} (hu : Only changed s (f s))
    (hr : Part.requests ∉ changed) (hn : Part.notices ∉ changed) (ho : Part.outgoing ∉ changed)
    (hc : Part.conditions ∉ changed) :
    ∃ t, event f s = .next t ∧ UnchangedBut [] (f s) t ∧ UnchangedBut changed s t := by
  have hq := hu .requests hr
  have hs := hu .outgoing ho
  have hm := hu .notices hn
  have hd := hu .conditions hc
  simp only [Exact, Prod.mk.injEq] at hq hs hm hd
  have hf := finish_frame (f s) (fun k => by
    have := h.2 (hs.2.2 ▸ k)
    rw [hs.1, hq.2.1, hm.1, hm.2, hd.2]
    exact this)
  refine ⟨_, ?_, hf, hu.settled (hf.mono (by simp)) (fun _ => hc)⟩
  unfold event
  rw [h.1]
  rfl

end Sys2Proof.Machine
end

