-- ==== Sys2Proof/Laws/Wires.lean ====
section
/-! SUPPORT. What a transaction on the wires can do: it stops at the first byte the station refuses, and a transaction that ends
complete has done all its actions. -/

namespace Sys2Proof.Machine

@[simp] theorem Transaction.after_done (a : WireAct) (t : Transaction) : (t.after a).done = a :: t.done := rfl
@[simp] theorem Transaction.after_received (a : WireAct) (t : Transaction) : (t.after a).received = t.received := rfl
@[simp] theorem Transaction.after_ended (a : WireAct) (t : Transaction) : (t.after a).ended = t.ended := rfl

/-- What a run of actions can do: it has done the first of them in order, up to a last one that was refused, and all of them where
it ends complete. -/
theorem transact_done (acts : List WireAct) (x : StationAnswers) :
    ∃ rest, acts = (transact acts x).done ++ rest ∧
      ((transact acts x).ended = .complete → rest = []) ∧
      ((transact acts x).ended = .addressRefused → ∃ b, (transact acts x).done.getLast? = some (.address b)) ∧
      ((transact acts x).ended = .dataRefused → ∃ b, (transact acts x).done.getLast? = some (.data b)) := by
  have last {a c : WireAct} {l : List WireAct} (h : l.getLast? = some c) : (a :: l).getLast? = some c := by
    rw [List.getLast?_cons, h]; rfl
  induction acts generalizing x with
  | nil => exact ⟨[], by simp [transact]⟩
  | cons a acts ih =>
    have grown (y : StationAnswers) : ∃ rest, a :: acts = a :: (transact acts y).done ++ rest ∧
        ((transact acts y).ended = .complete → rest = []) ∧
        ((transact acts y).ended = .addressRefused → ∃ b, (a :: (transact acts y).done).getLast? = some (.address b)) ∧
        ((transact acts y).ended = .dataRefused → ∃ b, (a :: (transact acts y).done).getLast? = some (.data b)) := by
      obtain ⟨rest, h, hc, ha, hd⟩ := ih y
      exact ⟨rest, congrArg _ h, hc, fun e => (ha e).imp fun _ => last, fun e => (hd e).imp fun _ => last⟩
    cases a with
    | start => exact grown x
    | repeatedStart => exact grown x
    | address b =>
      simp only [transact]
      split
      · exact grown _
      · exact ⟨acts, by simp⟩
    | data b =>
      simp only [transact]
      split
      · exact grown _
      · exact ⟨acts, by simp⟩
    | receive ack => exact grown _
    | release => exact grown x
    | pulse => exact grown x
    | stop readBack => exact grown x
    | stopIfClockRises => exact grown x
    | stopIfClockHigh => exact grown x

end Sys2Proof.Machine
end

