-- ==== Sys2Proof/Tests/Slice0.lean ====
section
/-! SUPPORT. Tests: the checks of well-formedness, the worked examples of spec/, and for every statement of the obligations with
hypotheses a state and operands that meet them (`witness_<statement>`). Expected results come from spec/. -/

namespace Sys2Proof.Tests

open Sys2Proof Sys2Proof.Machine

set_option maxRecDepth 20000
-- One after the other: see Laws/Frames.lean.
set_option Elab.async false

/-! ### States of the tests -/

/-- A part that runs, everything else as a POWER reset leaves it. -/
def base : State := { State.reset with initialising := false, powerApplied := false }

/-- The same part with its live set formed. -/
def settledBase : State := { base with conditions := { base.conditions with live := liveNow base } }

/-- The state after a command, and nothing where it stops. -/
def after (c : Instr) (s : State) : Option State :=
  match step (s.withFront c) with
  | .next t => some t
  | _ => none

def aPoint : PointFields := ⟨17, 1, 1, 0, 4000, 20000, 0, 60000, 100, 50, 3, 10⟩
def aLine : LineFields := ⟨0, 1, 0, 10, 100, 0⟩
def anEntry : EntryFields := ⟨16, 0, some 1, some 17, 0, 1, 0⟩
def aDiscrete : DiscreteFields := ⟨23, 1, 0, 0, 1, 2, 10, 50⟩
def aWell : WellFields := ⟨7, 1, some 1, some 2, none, 3000, 9000, 400, 8000, 18000, 1500, 300, 500, 60, 15000, 800, 500, 10, 10,
  60, 4, 3, 1, 10, 1⟩
def aTurbine : TurbineFields := ⟨some 3, some 4, some 5, some 6, 60, 3270, 200, 3000, 15, 20, 100, 600, 2000, 20000, 500, 18000,
  8000, 6000, 10, 5000, 8000, 5, 100, 10, 6000, 1000, 100, 500, 100, 500, 100, 10⟩
def aHeating : HeatingFields := ⟨some 1, some 2, some 3, some 4, some 5, some 6, some 7, 7000, 9800, 300, 120, 2000, 500, 1000,
  200⟩
def aSite : SiteFields := ⟨0, 1, some 6, 0, 0, 520, none, 1100, 1, 0, 300, 500, 400, 12000, some 0, 100, 200, 5000, 1000, 600,
  100000, 0, 0, 0⟩

/-! ### Well-formedness: each check refuses an ill-formed term -/

theorem test_wf_accepts : (Instr.configurePoint 1 aPoint).wf ∧ (Instr.configureLine 1 aLine).wf ∧
    (Instr.editEntry 1 0 0 anEntry).wf ∧ (Instr.configureDiscrete 1 aDiscrete).wf ∧ (Instr.configureWell 1 aWell).wf ∧
    (Instr.configureTurbine 1 aTurbine).wf ∧ (Instr.configureHeating 1 aHeating).wf ∧ (Instr.configureSite 1 aSite).wf ∧
    (Instr.unknownKind 1 0x2C []).wf ∧ Instr.startUp.wf ∧ (Instr.setClock 1 4294967295).wf := by decide
theorem test_wf_nat1 : Fits.nat 1 255 = true ∧ Fits.nat 1 256 = false := by decide
theorem test_wf_nat2 : Fits.nat 2 65535 = true ∧ Fits.nat 2 65536 = false := by decide
theorem test_wf_int2 : Fits.int 2 32767 = true ∧ Fits.int 2 32768 = false ∧ Fits.int 2 (-32768) = true ∧
    Fits.int 2 (-32769) = false := by decide
theorem test_wf_class : Fits.cls 8388607 = true ∧ Fits.cls 8388608 = false ∧ Fits.cls (-8388608) = true ∧
    Fits.cls (-8388609) = false := by decide
theorem test_wf_opt : Fits.opt none = true ∧ Fits.opt (some 255) = true ∧ Fits.opt (some 256) = false := by decide
theorem test_wf_point : ({ aPoint with staleLimit := 65536 } : PointFields).wf = false ∧
    ({ aPoint with engHi := 2147483648 } : PointFields).wf = false := by decide
theorem test_wf_line : ({ aLine with passInterval := 65536 } : LineFields).wf = false := by decide
theorem test_wf_entry : ({ anEntry with item := some 256 } : EntryFields).wf = false ∧
    ({ anEntry with every := 256 } : EntryFields).wf = false := by decide
theorem test_wf_discrete : ({ aDiscrete with debounce := 256 } : DiscreteFields).wf = false := by decide
theorem test_wf_well : ({ aWell with minSpeed := 8388608 } : WellFields).wf = false ∧
    ({ aWell with autoRestart := 256 } : WellFields).wf = false := by decide
theorem test_wf_turbine : ({ aTurbine with teeth := 256 } : TurbineFields).wf = false ∧
    ({ aTurbine with headerKi := 65536 } : TurbineFields).wf = false := by decide
theorem test_wf_heating : ({ aHeating with supplyPoint := some 256 } : HeatingFields).wf = false ∧
    ({ aHeating with floorKi := 65536 } : HeatingFields).wf = false := by decide
theorem test_wf_site : ({ aSite with slope := 32768 } : SiteFields).wf = false ∧
    ({ aSite with serviceDose := 4294967296 } : SiteFields).wf = false := by decide
theorem test_wf_view : (SiteView.ring 256 1).wf = false ∧ (SiteView.ring 255 1).wf = true := by decide
theorem test_wf_clock : (Instr.setClock 1 4294967296).wf = false := by decide
theorem test_wf_curve : (Instr.setCurve 1 [(8388608, 0)]).wf = false ∧ (Instr.setCurve 1 [(0, 1)]).wf = true := by decide
theorem test_wf_unknown : (Instr.unknownKind 1 0x2B []).wf = false ∧ (Instr.unknownKind 1 0x40 []).wf = false ∧
    (Instr.unknownKind 1 0x3F (List.replicate 241 0)).wf = false := by decide

/-- The table gives no row any bits, so no word spells a command (log 1). -/
theorem test_no_word_spells_a_command : decodeTableWord 8 4 = none ∧ base.withFetchWord 8 4 = base := ⟨rfl, rfl⟩

/-! ### The wire (R197, sections 10.7 and 10.8) -/

theorem test_check_value : crcOf [0x31, 0x32, 0x33, 0x34, 0x35, 0x36, 0x37, 0x38, 0x39] = 0x29B1#16 := by decide

/-- The worked example of section 10.8: ReadPoints of two points from P17 is Kind 0x04 with the Body 17, 2; eight bytes. -/
theorem test_read_points_frame : decodeRequest 0x04 [17, 2] = .ok (.readPoints 17 2) ∧
    (Frame.bytes ⟨0x04, 0x2C, [17, 2]⟩).take 6 = [0xE7, 4, 0x04, 0x2C, 17, 2] ∧
    (Frame.bytes ⟨0x04, 0x2C, [17, 2]⟩).length = 8 := by decide

/-- The same example: a Body of three bytes is BAD_LENGTH. -/
theorem test_read_points_bad_length : decodeRequest 0x04 [17, 2, 0] = .badLength := by decide

/-- SetClock 0x02 carries four bytes, high byte first. -/
theorem test_set_clock_body : decodeRequest 0x02 [0, 1, 0, 2] = .ok (.setClock 65538) ∧
    (Request.setClock 65538).body = [0, 1, 0, 2] := by decide

/-- SetSubstitute 0x06: point, presence byte, class value of three bytes in two's complement. -/
theorem test_set_substitute_body : decodeRequest 0x06 [18, 1, 0xFF, 0xFF, 0xFE] = .ok (.setSubstitute 18 (some (-2))) ∧
    decodeRequest 0x06 [18, 0] = .ok (.setSubstitute 18 none) ∧ decodeRequest 0x06 [18, 2] = .badField := by decide

/-- WritePoint 0x05. -/
theorem test_write_point_body : (Request.writePoint 3 (-1)).body = [3, 0xFF, 0xFF, 0xFF] := by decide

/-- ConfigurePoint 0x03: the fields of P17 of section 1.2 with its number and source first, and read back. -/
theorem test_configure_point_body : decodeRequest 0x03 (Request.body (.configurePoint aPoint)) = .ok (.configurePoint aPoint) ∧
    (Request.body (.configurePoint aPoint)).take 2 = [17, 1] := by decide

/-- SetDiscrete 0x10, ClearEdges 0x12: item n of a set at bit n mod 8 of byte n div 8 (R209). -/
theorem test_clear_edges_body : decodeRequest 0x12 [0, 0, 0x80] = .ok (.clearEdges 0x800000) ∧
    decodeRequest 0x12 [1, 0, 0] = .ok (.clearEdges 1) ∧ decodeRequest 0x10 [21, 1] = .ok (.setDiscrete 21 1) := by decide

/-- PostLimit 0x20: PUMP_CEIL of well 5 at -1, WithdrawLimit 0x21. -/
theorem test_post_limit_body : decodeRequest 0x20 [2, 5, 0xFF, 0xFF, 0xFF] = .ok (.postLimit 2 5 (-1)) ∧
    decodeRequest 0x21 [3, 0] = .ok (.withdrawLimit 3 0) := by decide

/-- ArmSupervision 0x27: period and fallbackHold of two bytes, fallbackSpeed a class value. -/
theorem test_arm_body : decodeRequest 0x27 [0, 60, 1, 0x2C, 0, 0x10, 0] = .ok (.armSupervision 60 300 4096) := by decide

/-- The commands of one Kind: WellCommand 0x14 START to well 3, TurbineCommand 0x17 ROLL, HeatingCommand 0x1B. -/
theorem test_command_bodies : decodeRequest 0x14 [3, 0] = .ok (.start 3) ∧ decodeRequest 0x17 [0] = .ok .roll ∧
    decodeRequest 0x14 [3, 9] = .badField := by decide

/-! ### Worked examples of the chapters -/

/-- P17 of section 1.2. -/
def intake : PointConfig :=
  { PointConfig.initial with source := .field, cls := .pres, rawLo := 4000, rawHi := 20000, engLo := 0, engHi := 60000,
                             faultBand := 100 }

theorem test_scaling : scaleRaw intake 12000 = some (30000, false) ∧ scaleRaw intake 12001 = some (30004, false) ∧
    scaleRaw intake 3950 = some (0, true) ∧ scaleRaw intake 20100 = some (60000, true) ∧ scaleRaw intake 3800 = none ∧
    scaleRaw { intake with rawLo := 20000, rawHi := 4000 } 12001 = some (29996, false) := by decide

/-- The loop of section 1.7. -/
theorem test_loop :
    (⟨0, 0, none, 3000, 3000, false⟩ : Loop).run 8500 8420 80 2000 500 = ⟨8500, 8420, some (2000, 500), 3040, 3200, false⟩ ∧
    (⟨0, 0, none, 3060, 3140, false⟩ : Loop).runHeld 8500 8480 20 2000 500 =
      ⟨8500, 8480, some (2000, 500), 3060, 3100, true⟩ ∧
    (⟨0, 0, none, 3060, 3000, true⟩ : Loop).run 8500 8493 7 2000 500 = ⟨8500, 8493, some (2000, 500), 3063, 3077, false⟩ ∧
    loopP (-7) 150 = -1 := by decide

/-- The speeds of section 3.7. -/
theorem test_speeds : speedOf 60 [333, 333, 334, 333] = 3001 ∧ speedOf 60 [300, 333, 333, 334] = 3077 ∧
    speedOf 60 [250, 300, 333, 333] = 3289 := by decide

/-- Site S0 of section 4.3. -/
theorem test_silica : solubility 11240 = 422 ∧ silicaRatio 520 11240 = 1232 ∧
    silicaFloor 520 1100 = (12286, false) ∧ silicaFloor 60 1100 = (0, false) ∧ silicaFloor 77 1100 = (0, false) ∧
    silicaFloor 78 1100 = (56, false) ∧ silicaFloor 619 1100 = (14000, false) ∧ silicaFloor 1550 1100 = (26000, true) := by decide

/-- Site S7 of section 4.4. -/
theorem test_calcite : calciteRatio 20107 22000 = 914 ∧ ceilDiv (20107 * 1080) 1000 = 21716 ∧
    ceilDiv (20107 * 1130) 1000 = 22721 := by decide

/-- The curve of section 8.2. -/
theorem test_curve : let c : List (Int × Int) := [(-2500, 9500), (-1000, 8500), (500, 7500), (1500, 6500)]
    curveTarget c (-3000) = some 9500 ∧ curveTarget c (-1750) = some 9000 ∧ curveTarget c (-1236) = some 8657 ∧
    curveTarget c (-1000) = some 8500 ∧ curveTarget c 1000 = some 7000 ∧ curveTarget c 2000 = some 6500 := by decide

/-- The capacity of the brine in section 8.9. -/
theorem test_heat : heatOf 8000 3414 = 11443 ∧ heatOf 8000 2914 = 9767 := by decide

/-- The cases of section 7.9. -/
def grantCase (request extractionMax power : Int) : GrantRecord :=
  (({ Turbine.fresh { TurbineConfig.initial with extractionMax := extractionMax, extractionMinLoad := 8000 } with
      state := .loaded, powerView := some power, grant := ⟨request, 0, 0⟩ } : Turbine).settleGrant).grant

theorem test_grant : grantCase 6155 5000 18000 = ⟨6155, 5000, 10000⟩ ∧ grantCase 3200 5000 18000 = ⟨3200, 3200, 6400⟩ ∧
    grantCase 3333 4800 18000 = ⟨3333, 3333, 6944⟩ ∧ grantCase 3333 4800 7900 = ⟨3333, 0, 0⟩ := by decide

/-! ### Single steps -/

theorem test_set_clock : (after (.setClock 5 77) base).map (fun t => (t.clock, t.clockTimer, t.link.sending)) =
    some (77, some 1000, some ⟨0x82, 5, [0, 0, 0, 0, 77]⟩) := by decide

/-- R208: the clock wraps from 4 294 967 295 to 0. -/
theorem test_clock_wraps :
    (after .plantClockTick { base with clock := 4294967295, clockTimer := some 0 }).map (fun t => t.clock) = some 0 := by decide

/-- R12: a write beyond the class of the point is clamped (FRAC to 10000) and answered CLAMPED. -/
theorem test_write_point_clamps :
    (after (.writePoint 1 95 10001) (base.modPoint 95 (fun p => { p with cfg := { p.cfg with source := .supervisory, cls := .frac } }))).map
      (fun t => (t.points[95].value, t.points[95].quality, t.points[95].clampedFlag, t.link.sending)) =
    some (some 10000, .good, true, some ⟨0x85, 1, [1, 0, 0x27, 0x10]⟩) := by decide

/-- R18: seventeen points in one ReadPoints are refused BAD_FIELD, the Body the status byte 4 alone. -/
theorem test_read_points_seventeen : (after (.readPoints 0x2C 17 17) base).map (fun t => t.link.sending) =
    some (some ⟨0x84, 0x2C, [4]⟩) := by decide

/-- R201: a Kind without a request is answered UNKNOWN_KIND with its Kind plus 0x80. -/
theorem test_unknown_kind : (after (.unknownKind 9 0x2C []) base).map (fun t => t.link.sending) = some (some ⟨0xAC, 9, [2]⟩) := by
  decide

/-- Well W3 of the worked example of section 6.5. -/
def demandCase (intakeNow drive : Int) : State :=
  ((({ base with wpTimer := some 0, phase := .run }.modPoint 1 (fun p => { p with
        cfg := { p.cfg with source := .field, cls := .pres }, quality := .good, value := some intakeNow })).modPoint 2 (fun p =>
          { p with cfg := { p.cfg with source := .field }, quality := .good, value := some 0 })).modDrive 3 (fun d =>
        { d with value := drive })).modWell 3 (fun w => { w with
      state := .running
      cfg := { w.cfg with enabled := true, intakePoint := some 1, windingPoint := some 2, minSpeed := 3000, maxSpeed := 9000,
                          rampRate := 400, target := 8000, ownFloor := 22721, floorBand := 1500, floorGain := 300 } })

/-- The same well with its floor in force in the table. -/
def demandState (intakeNow drive : Int) : State := recompute (.wellFloor 3) (demandCase intakeNow drive)

theorem test_demand_falls :
    (after .wpPeriodExpiry (demandState 22500 8000)).map (fun t => t.drives[3].value) = some 3000 ∧
    (after .wpPeriodExpiry (demandState 23800 8000)).map (fun t => t.drives[3].value) = some 6737 := by decide

theorem test_demand_ramps :
    (after .wpPeriodExpiry (demandState 23800 3000)).map (fun t => t.drives[3].value) = some 3100 := by decide

/-- The overspeed of section 3.7: the edge that makes the kept periods 333, 333, 300, 250 µs. -/
def overspeedState : State := { base with
  speedUnit := { base.speedUnit with cfg := ⟨60, 3270, 200⟩, signal := .measuring, timeBase := 5000, lastEdge := some 4950,
                                     periods := [300, 333, 333, 334] }
  turbine := { base.turbine with state := .loaded } }

theorem test_overspeed : (after (.toothEdge 200) overspeedState).map (fun t =>
    (t.speedUnit.speed, t.turbine.state, t.turbine.tripRecord.cause, t.turbine.tripRecord.value)) =
    some (some 3289, .tripped, .overspeed, some 3289) := by decide

/-- R105: nothing was posted, so nothing is withdrawn and the ceiling stands at 10000 from DEFAULT. -/
theorem test_withdraw_nothing : (after (.withdrawLimit 1 3 0) base).map (fun t => t.slots[14]) = some none := by decide

/-- R104, R101: a ceiling posted by the host binds PUMP_CEIL_ALL in the lowest pool slot, K14. -/
theorem test_post_limit : (after (.postLimit 1 3 0 6000) base).map (fun t => (t.slots[14].map Post.value, t.bounds[17], t.combined[7])) =
    some (some 6000, ⟨6000, some 14⟩, ⟨6000, some 14⟩) := by decide

/-- R214: the expiry in ARMED posts the fallback speed to K13 and starts the hold timer. -/
theorem test_fallback : (after .supervisionTimerExpiry { base with supervision := ⟨.armed, some 5, some 30, some 4000, some 0, none⟩ }).map
    (fun t => (t.supervision.state, t.supervision.holdTimer, t.combined[0])) =
    some (.fallback, some 30000, ⟨4000, some 13⟩) := by decide

/-- R206, R216: the end of the transmission of an accepted SoftReset's reply is the reset. -/
def softState : State := base.modLink (fun l => { l with sending := some ⟨0xAB, 3, [0]⟩, softResetPending := true })

theorem test_soft_reset : (after .transmissionEnd softState).map (fun t => (t.initialising, t.phase, t.link.sending)) =
    some (true, .config, none) := by decide

/-- R62: an edge not reported survives a clear. -/
theorem test_clear_edges : (after (.clearEdges 1 0xFFFFFF) ((base.modDiscrete 21 (fun l =>
      { l with edgeSeen := true, edgeReported := true, edgeCount := 3 })).modDiscrete 22 (fun l =>
      { l with edgeSeen := true, edgeReported := false, edgeCount := 2 }))).map
    (fun t => (t.discretes[21].edgeCount, t.discretes[22].edgeCount, t.link.sending)) =
    some (0, 2, some ⟨0x92, 1, [0, 0, 0, 0x20, 0, 0, 0x40]⟩) := by decide

/-! ### Witnesses: the whole part -/

theorem base_ready : Ready base ∧ Running base := by decide

theorem base_outputs : OutputsFollow base := by unfold OutputsFollow Driven; decide

theorem base_live_empty : ∀ n : Fin 42, base.conditions.unsilenced[n] = false := by decide

/-- The settled part stands settled whatever the link does. -/
theorem settled_with_link (l : Link) : Settled { settledBase with link := l } := fun _ =>
  ⟨⟨fun k => base_outputs.1 k, base_outputs.2.1, base_outputs.2.2.1, Eq.trans (b := false) rfl rfl, base_outputs.2.2.2.2.1,
    Eq.trans (b := false) rfl rfl, base_outputs.2.2.2.2.2.2⟩, by rfl,
    fun n h => absurd (h.symm.trans (base_live_empty n)) (by decide)⟩

theorem settledBase_settled : Settled settledBase := settled_with_link settledBase.link

theorem witness_EmptyQueueLetsTimePass :
    (State.reset.pending = [] ∧ State.reset.initialising = true) ∧
      (({ base with clockTimer := some 0 } : State).pending = [] ∧ ({ base with clockTimer := some 0 } : State).initialising = false ∧
        dueExpiries { base with clockTimer := some 0 } = [.plantClockTick]) ∧
      (base.pending = [] ∧ base.initialising = false ∧ dueExpiries base = []) ∧
      (let s := base.modLine 1 (fun l => { l with state := .passing, activity := .closing 24 })
       s.lines[1].state = .passing ∧ s.lines[1].activity = .closing 24) ∧
      ∀ n : Nat, base.lines[0].state = .passing → base.lines[0].activity ≠ .closing n :=
  ⟨by decide, ⟨by decide, by decide, by decide⟩, ⟨by decide, by decide, by decide⟩, by decide, fun _ h => absurd h (by decide)⟩

/-- R213: a good request judged with the supervision timer run out restarts it, and no expiry follows. -/
theorem test_request_before_expiry :
    dueExpiries (refreshSupervision { base with supervision := { base.supervision with
      state := .armed, period := some 5, supervisionTimer := some 0 } }) = [] := by decide

theorem witness_TheThreeResets : softState.initialising = false ∧ softState.link.sending = some ⟨0xAB, 3, [0]⟩ ∧
    softState.link.softResetPending = true := by decide

/-- The part while a PIN reset holds, every pad high. -/
def heldLow : State := State.afterHardReset (fun _ => true) true true false true .pin []

theorem heldLow_point (i : Fin 96) : heldLow.points[i] = Point.fresh PointConfig.initial := by
  show (Vector.ofFn (fun _ : Fin 96 => Point.fresh PointConfig.initial))[i.val] = _
  rw [Vector.getElem_ofFn]

theorem witness_InternalInitialisation :
    (heldLow.initialising = true ∧ Instr.silence 0 ≠ .startUp ∧ (∀ a b, Instr.silence 0 ≠ .powerReset a b) ∧
      (∀ a b, Instr.silence 0 ≠ .pinReset a b) ∧ ∀ d h, Instr.silence 0 ≠ .padChange d h) ∧
    (∀ i : Fin 12, 1 ≤ heldLow.sites[i].cfg.serviceDose) ∧ DynamicReset heldLow ∧ base.initialising = false := by
  refine ⟨⟨by decide, by decide, nofun, nofun, nofun⟩, by decide, ⟨?_, ?_, ?_, ?_⟩, by decide⟩
  · refine ⟨fun i => by rw [heldLow_point i]; decide, by decide, ?_, by decide⟩
    intro i
    fin_cases i <;> refine ⟨rfl, rfl, rfl, rfl, rfl, rfl, rfl, rfl, rfl, rfl, rfl, rfl, rfl, rfl, fun e h => ?_⟩ <;> cases h
  · refine ⟨rfl, rfl, rfl, rfl, rfl, rfl, by decide, rfl, rfl, by decide, ?_, by decide⟩
    intro g
    cases g with
    | brineFloor => decide
    | pumpCeilAll => decide
    | wellFloor k => revert k; decide
    | pumpCeil k => revert k; decide
  · refine ⟨by decide, ?_⟩; and_intros <;> rfl
  · unfold HostReset; and_intros <;> rfl

theorem base_point (i : Fin 96) : base.points[i] = Point.fresh PointConfig.initial := by
  show (Vector.ofFn (fun _ : Fin 96 => Point.fresh PointConfig.initial))[i.val] = _
  rw [Vector.getElem_ofFn]

/-! ### Witnesses: the link -/

/-- A frame under transmission, the replies and notices given. -/
def sendingWith (f : Frame) (replies : List WaitingReply) (requests : List QueuedRequest) (busy : Option WaitingReply) : State :=
  settledBase.modLink (fun l => { l with sending := some f, replies := replies, requests := requests, busyPlace := busy })

def aReply (n : Nat) : WaitingReply := ⟨⟨0x81, 1, [0]⟩, n⟩
def aRequest : QueuedRequest := ⟨0x11, 2, []⟩

/-- An EDGE notice on its way out while D21 has an edge that no notice carries yet. -/
def edgeWaits : State :=
  (settledBase.modDiscrete 21 (fun l => { l with edgeSeen := true, edgeCount := 2 })).modLink (fun l =>
    { l with sending := some ⟨0x81, 1, [0]⟩, edge := some ⟨Vector.ofFn (fun _ => none), Vector.ofFn (fun _ => false), 0⟩ })

/-- R61: the EDGE notice that leaves is followed by one that carries D21 with its count 2 and marks it reported. -/
theorem test_edge_queued_anew : (after .transmissionEnd edgeWaits).map (fun t =>
    (t.link.edge.map (fun n => n.counts[21]), t.discretes[21].edgeReported)) = some (some (some 2), true) := by decide

theorem witness_TransmissionEndBeginsTheNextFrame_edge :
    Settled edgeWaits ∧ edgeWaits.link.started = none ∧ edgeWaits.link.condition = none ∧ edgeWaits.link.edge.isSome = true ∧
    edgeWaits.link.replies = [] ∧ edgeWaits.link.busyPlace = none ∧
      ∃ d : Fin 24, edgeWaits.discretes[d].edgeSeen = true ∧ edgeWaits.discretes[d].edgeReported = false :=
  ⟨fun _ => ⟨by unfold OutputsFollow Driven; decide, by rfl, fun n h => absurd (h.symm.trans (base_live_empty n)) (by decide)⟩,
    by decide⟩

theorem witness_TransmissionEndBeginsTheNextFrame :
    (settledBase.initialising = false ∧ settledBase.link.sending = none ∧ Settled settledBase) ∧
    (let s := sendingWith ⟨0x81, 1, [0]⟩ [aReply 4, aReply 5] [] (some (aReply 4))
     Settled s ∧ (s.link.softResetPending = false ∧ s.link.replies = [aReply 4, aReply 5] ∧
       (∀ b ∈ s.link.busyPlace, 4 ≤ b.placed) ∧ s.link.requests = [])) ∧
    (let s := sendingWith ⟨0x81, 1, [0]⟩ [aReply 1, aReply 2, aReply 3, aReply 4] [aRequest] none
     Settled s ∧ (s.link.replies.length = 4 ∧ s.link.requests = [aRequest] ∧ s.link.softResetPending = false)) ∧
    (let s := sendingWith ⟨0x81, 1, [0]⟩ [aReply 4] [] (some (aReply 3))
     Settled s ∧ s.link.busyPlace = some (aReply 3) ∧ ∀ r ∈ s.link.replies.head?, 3 < r.placed) ∧
    (let s := sendingWith ⟨0x81, 1, [0]⟩ [] [] none
     Settled s ∧ s.link.replies = [] ∧ s.link.busyPlace = none ∧ s.link.started = none ∧ s.link.condition = none ∧
       s.link.edge = none ∧ Settled (s.modLink (fun l => { l with started := some .pin })) ∧
       Settled (s.modLink (fun l => { l with condition := some ⟨1, MemberSet.all, MemberSet.empty, 0⟩ }))) :=
  ⟨⟨by decide, by decide, settledBase_settled⟩, ⟨settled_with_link _, by decide⟩, ⟨settled_with_link _, by decide⟩,
    ⟨settled_with_link _, by decide⟩, ⟨settled_with_link _, by decide, by decide, by decide, by decide, by decide,
      settled_with_link _, settled_with_link _⟩⟩

/-- The base state with a receiver. -/
def receiving (r : Receiver) : State := base.modLink (fun l => { l with receiver := r })

/-- ReadDiscrete with tag 2, whole: Length 2, Kind, Tag and the Check of the three. -/
def wholeFrame : List Byte := (Frame.bytes ⟨0x11, 2, []⟩).drop 1

theorem witness_TheReceiver :
    (Running (receiving ⟨.hunting, [], none, true⟩) ∧ (receiving ⟨.hunting, [], none, true⟩).link.receiver.complete = false) ∧
    (Running (receiving ⟨.length, [], some 6, false⟩) ∧ (receiving ⟨.length, [], some 6, false⟩).link.receiver.complete = false) ∧
    (Running (receiving ⟨.body, [2, 0x11], some 6, false⟩) ∧
      (receiving ⟨.body, [2, 0x11], some 6, false⟩).link.receiver.complete = false) ∧
    (Running (receiving ⟨.body, wholeFrame, none, false⟩) ∧
      (receiving ⟨.body, wholeFrame, none, false⟩).link.receiver.complete = true) := by decide

/-- R195: the Sync byte 0xE7 on the line: start bit, 1 1 1 0 0 1 1 1 from the least significant, stop bit. -/
theorem test_character_bits : characterBits 0xE7 = [false, true, true, true, false, false, true, true, true, true] := by decide

/-- R195, R198: a character read bit by bit, and one whose stop bit is at space. -/
theorem test_received_event :
    receivedEvent [false, true, false, false, false, true, false, false, false, true] = some (.characterReceived 0x11) ∧
      receivedEvent [false, true, false, false, false, true, false, false, false, false] = some .framingError := by decide

theorem witness_AWholeFrameIsJudged :
    (Running base ∧ base.link.receiver.complete = false) ∧
    (∃ kind tag rest, (receiving ⟨.body, wholeFrame, none, false⟩).link.receiver.bytes = 2 :: kind :: tag :: rest ∧
      crcOf (receiving ⟨.body, wholeFrame, none, false⟩).link.receiver.bytes = 0 ∧ 1 ≤ kind.toNat ∧ kind.toNat ≤ 0x3F) ∧
    (∃ kind tag rest, (Frame.bytes ⟨0x40, 2, []⟩).drop 1 = 2 :: kind :: tag :: rest ∧
      crcOf ((Frame.bytes ⟨0x40, 2, []⟩).drop 1) = 0 ∧ 0x40 ≤ kind.toNat) :=
  ⟨by decide, ⟨0x11, 2, (Frame.bytes ⟨0x11, 2, []⟩).drop 4, by decide⟩, ⟨0x40, 2, (Frame.bytes ⟨0x40, 2, []⟩).drop 4, by decide⟩⟩

theorem witness_TheCheckIsTheSpecs : let s := receiving ⟨.body, [2, 0x11, 2, 0, 0], none, false⟩
    Running s ∧ s.link.receiver.complete = true ∧ s.link.receiver.bytes = 2 :: 0x11 :: 2 :: [0, 0] ∧
      crcOf s.link.receiver.bytes ≠ 0 := by decide

theorem witness_EveryRequestBodyIsReadBack : (Request.setCurve [(-2500, 9500), (8388607, -8388608)]).wf = true ∧
    (Request.configureWell aWell).wf = true ∧ (Request.setMasks none (some 0xFFFFFFFFFFFF)).wf = true ∧
    (Request.armSupervision 65535 0 (-8388608)).wf = true := by decide

theorem witness_ARequestRowIsItsFrame : (Instr.restoreDose 7 255 4294967295).request = some (7, .restoreDose 255 4294967295) ∧
    (Request.restoreDose 255 4294967295).wf = true := by decide

theorem witness_ARequestWaitsOrIsAnsweredBusy : (Instr.identify 7).request = some (7, .identify) ∧
    (let s := sendingWith ⟨0x81, 1, [0]⟩ [aReply 1, aReply 2, aReply 3, aReply 4] [aRequest, aRequest, aRequest] none
     s.initialising = false ∧ s.link.sending = some ⟨0x81, 1, [0]⟩ ∧ s.link.requests.length < 4 ∧ s.link.replies.length = 4) ∧
    (let s := sendingWith ⟨0x81, 1, [0]⟩ [aReply 1] [aRequest, aRequest, aRequest, aRequest] none
     s.initialising = false ∧ s.link.requests.length = 4 ∧ s.link.busyPlace = none) ∧
    (let s := sendingWith ⟨0x81, 1, [0]⟩ [aReply 1] [aRequest, aRequest, aRequest, aRequest] (some (aReply 9))
     s.initialising = false ∧ s.link.requests.length = 4 ∧ s.link.busyPlace = some (aReply 9)) := by decide

theorem witness_RefusedFramesAndRequests : Ready base ∧ decodeRequest 0x2B [0] = .badLength ∧ decodeRequest 0x01 [0] = .badLength ∧
    decodeRequest 0x17 [6] = .badField ∧ (Instr.setLoad 1 0).request = some (1, .setLoad 0) := by decide

/-- R201 (2): SetSubstitute of P5 with and without its value, one byte short and one over, and with a presence byte beyond its values. -/
theorem test_body_lengths : bodyVerdict 0x06 [5, 0] = .fits ∧ bodyVerdict 0x06 [5, 1, 0, 0, 9] = .fits ∧
    bodyVerdict 0x06 [5, 1, 0, 0] = .badLength ∧ bodyVerdict 0x06 [5, 0, 0] = .badLength ∧ bodyVerdict 0x06 [5, 2] = .badField := by
  decide

/-! ### Witnesses: points, clock and drives -/

/-- The base state with a point. -/
def withPoint (p : Point) : State := base.modPoint 17 (fun _ => p)

def fieldPoint : Point := { Point.fresh intake with quality := .good, value := some 30000, age := 0, lastRead := some ⟨30000, 0, false⟩,
                                                    lastAttemptOk := true }

theorem witness_AReadOfAPoint :
    (fieldPoint.quality ≠ .failed ∧ fieldPoint.quality ≠ .subst ∧ fieldPoint.failCount ≤ fieldPoint.cfg.failLimit ∧
      1 ≤ fieldPoint.cfg.failLimit ∧ fieldPoint.failCount = 0) ∧
    (let p : Point := { fieldPoint with quality := .held, failCount := 2, recoveryTimer := some 7 }
     p.failCount ≤ p.cfg.failLimit ∧ p.failCount ≠ 0 ∧ p.failedRead.failCount = p.cfg.failLimit ∧ p.cfg.substitute = none) ∧
    (let p : Point := { fieldPoint with quality := .subst, failCount := 3, recoveryTimer := some 7 }
     p.failCount ≤ p.cfg.failLimit ∧ p.quality = .subst) := by and_intros <;> decide

theorem witness_ConfigurePointForms :
    (Ready base ∧ (96 : Nat) ≤ 96 ∧ PointFields.check { aPoint with point := 95, staleLimit := 0 } base.points[95].cfg = none) ∧
    (PointFields.check aPoint base.points[17].cfg = some { intake with staleLimit := 50, failLimit := 3, recoveryPeriod := 10 } ∧
      base.phase ≠ .run ∧ bindingForbidden base 17 base.points[17].cfg
        { intake with staleLimit := 50, failLimit := 3, recoveryPeriod := 10 } = false) ∧
    (let s : State := { base with phase := .run }
     Ready s ∧ s.phase = .run ∧ structuralPointChange s.points[17].cfg intake = true) ∧
    (let s := base.modLine 0 (fun l => { l with active := [⟨⟨16, .readU16, some 1, .point 17, true, 1, 0⟩, none⟩] })
     Ready s ∧ s.phase ≠ .run ∧ bindingForbidden s 17 s.points[17].cfg { intake with source := .speed, cls := .speed } = true) ∧
    (let s : State := { withPoint { fieldPoint with failCount := 2, quality := .held } with phase := .run }
     Ready s ∧ structuralPointChange intake { intake with failLimit := 2 } = false ∧
       bindingForbidden s 17 intake { intake with failLimit := 2 } = false) := by and_intros <;> decide

theorem witness_WritePointAndSetSubstitute :
    (Ready base ∧ base.points[95].cfg.source ≠ .supervisory ∧ base.points[0].cfg.source = .none) ∧
    (let s := base.modPoint 95 (fun p => { p with cfg := { p.cfg with source := .supervisory, cls := .frac } })
     Ready s ∧ s.points[95].cfg.source = .supervisory ∧ ValueClass.frac.clamp 10001 = 10000) ∧
    (Ready (withPoint { fieldPoint with quality := .failed }) ∧
      (withPoint { fieldPoint with quality := .failed }).points[17].cfg.source ≠ .none) ∧
    (withPoint { fieldPoint with quality := .subst }).points[17].quality = .subst := by and_intros <;> decide

theorem witness_FieldScaling : intake.rawLo ≠ intake.rawHi ∧ (min intake.rawLo intake.rawHi ≤ 4000 ∧
    4000 ≤ max intake.rawLo intake.rawHi) ∧ (3999 : Int) < min intake.rawLo intake.rawHi ∧
    max intake.rawLo intake.rawHi < 20001 ∧ |(20100 : Int) - 20000| ≤ intake.faultBand ∧
    (intake.faultBand : Int) < |20101 - 20000| := by and_intros <;> decide

theorem witness_PointTableTimers :
    (Running base ∧ base.ageTimer = none ∧ base.secondTimer = none ∧ base.points[17].recoveryTimer = none) ∧
    (let s : State := { withPoint { fieldPoint with failCount := 1, recoveryTimer := some 0 } with ageTimer := some 0, secondTimer := some 0 }
     Running s ∧ s.ageTimer.isSome = true ∧ s.secondTimer.isSome = true ∧ s.points[17].recoveryTimer.isSome = true ∧
       s.points[17].lastAttemptOk = true ∧ s.points[17].failCount = 1 ∧ s.points[17].quality.isFailed = false ∧
       s.points[17].cfg.source ≠ .discrete ∧ s.points[17].quality ≠ .unset) ∧
    (let p : Point := { fieldPoint with quality := .failed, failCount := 1, recoveryTimer := some 0 }
     Running (withPoint p) ∧ p.quality.isFailed = true ∧ p.lastRead = some ⟨30000, 0, false⟩) ∧
    (let s : State := { withPoint { fieldPoint with cfg := { intake with source := .discrete, cls := .level } } with ageTimer := some 0 }
     Running s ∧ s.points[17].cfg.source = .discrete ∧ s.points[17].quality.isFailed = false ∧
       1 ≤ s.points[17].cfg.staleLimit) := by and_intros <;> decide

/-- The base state with an armed, a falling back and a held supervision. -/
def supervised (v : Supervision) : State := { base with supervision := v }

theorem witness_PlantClockAndSupervisionTimers :
    (Ready base ∧ base.clockTimer = none) ∧ Running { base with clockTimer := some 0, clock := 4294967295 } ∧
    (1 ≤ base.turbine.cfg.extractionMax ∧ base.supervision.supervisionTimer = none ∧ base.supervision.holdTimer = none) ∧
    (let s := supervised ⟨.armed, some 5, some 0, some 0, some 0, none⟩
     Running s ∧ 1 ≤ s.turbine.cfg.extractionMax ∧ s.supervision.supervisionTimer.isSome = true ∧ s.supervision.state = .armed ∧
       s.supervision.fallbackHold = some 0 ∧ s.supervision.fallbackSpeed = some 0) ∧
    (let s := { supervised ⟨.fallback, some 5, some 30, some 0, none, some 0⟩ with turbine := { base.turbine with state := .loaded } }
     Running s ∧ 1 ≤ s.turbine.cfg.extractionMax ∧ s.supervision.holdTimer.isSome = true ∧ s.supervision.state = .fallback ∧
       s.turbine.state = .loaded) := by and_intros <;> decide

theorem witness_DriveRecordAndLoopLaw :
    (let d : Drive := ⟨4000, some 4000, .delivered, none, none⟩
     (4000 : Int) = d.value ∧ (4001 : Int) ≠ d.value ∧ d.delivery ≠ .failing ∧ d.delivery ≠ .unbound) ∧
    (Drive.fresh 0).delivery = .unbound ∧ (⟨0, none, .failing, some 1, some 61⟩ : Drive).lost 60 = true ∧
    (let l : Loop := ⟨0, 0, none, 3000, 3000, false⟩
     0 ≤ l.integral ∧ l.integral ≤ 10000 ∧ (0 : Int) ≤ 5400 - 160 ∧ (5400 : Int) - 160 ≤ 10000) := by and_intros <;> decide

/-! ### Witnesses: instrument lines -/

def readEntry : Entry := ⟨16, .readU16, some 1, .point 17, true, 1, 0⟩
def writeEntry : Entry := ⟨17, .writeDrive, some 2, .drive 3, false, 1, 0⟩
def probeEntry : Entry := ⟨18, .probe, none, .none, false, 2, 1⟩
def anActive : List ActiveEntry := [⟨readEntry, none⟩, ⟨writeEntry, none⟩, ⟨probeEntry, none⟩]

/-- An enabled line with three entries. -/
def aBusyLine : Line := { Line.fresh LineConfig.initial anActive [readEntry] with
  enabled := true, state := .idle, passTimer := some 0 }

/-- The base state with line L0 as given and P17 a good FIELD point. -/
def withLine (l : Line) : State := (withPoint fieldPoint).modLine 0 (fun _ => l)

theorem witness_LineBookkeeping : EntryOutcome.badRaw ≠ .ok ∧ EntryOutcome.badRaw ≠ .skipped ∧
    EntryOutcome.badRaw ≠ .notReached := by and_intros <;> decide

theorem witness_LineRequests :
    (Ready base ∧ LineFields.check { aLine with clockHold := 101 } = none) ∧
    (LineFields.check aLine = some (true, ⟨false, 10, 100, false⟩) ∧
      (base.lines[0].enabled = true ↔ base.lines[0].state ≠ .disabled)) ∧
    (let s := ((withLine aBusyLine).modWell 3 (fun w => { w with state := .running }))
     Ready s ∧ LineFields.check { aLine with enabled := 0 } = some (false, ⟨false, 10, 100, false⟩) ∧
       s.lines[0].state ≠ .disabled ∧ (s.lines[0].enabled = true ↔ s.lines[0].state ≠ .disabled) ∧
       ∃ d : Fin 15, s.lines[0].names d = true ∧ ownerActive s d = true) ∧
    (let s := withLine { aBusyLine with state := .passing, activity := .entry 1 (some 0) false }
     Ready s ∧ s.lines[0].state = .passing ∧ (∀ d : Fin 15, s.lines[0].names d = true → ownerActive s d = false)) ∧
    (let s := withLine { aBusyLine with state := .recovering, activity := .procedure 1 false }
     Ready s ∧ s.lines[0].state = .recovering) := by and_intros <;> decide

theorem witness_EntryAndScheduleChecks :
    EntryFields.check anEntry (fun _ => .field) = some ⟨16, .readU16, some 1, .point 17, true, 1, 0⟩ ∧
    EntryFields.check anEntry (fun _ => .speed) = none ∧ scheduleCheck base 0 [readEntry, readEntry] ≠ none ∧
    scheduleCheck base 0 [readEntry, writeEntry, probeEntry] = none := by and_intros <;> decide

theorem witness_ScheduleEdits :
    (let s := withLine aBusyLine
     let check := EntryFields.check anEntry (fun p => s.points[p].cfg.source)
     Ready s ∧ check = some readEntry ∧ 0 < s.lines[0].staged.length ∧ s.lines[0].staged.length ≤ 1 ∧
       s.lines[0].ready = false) ∧
    (let s := withLine { aBusyLine with staged := List.replicate 24 probeEntry }
     Ready s ∧ 24 ≤ s.lines[0].staged.length) ∧
    (let s := withLine { aBusyLine with staged := [readEntry, probeEntry], ready := true }
     Ready s ∧ s.lines[0].ready = true ∧ scheduleCheck s 0 (s.lines[0].staged.set 1 readEntry) ≠ none ∧
       scheduleCheck s 0 [] = none) := by and_intros <;> decide

theorem witness_SwapScheduleForms :
    (Ready base ∧ base.lines[2].ready = false ∧ scheduleCheck base 2 base.lines[2].staged = none ∧
      base.lines[2].state = .disabled) ∧
    (let s := withLine aBusyLine
     Ready s ∧ scheduleCheck s 0 s.lines[0].staged = none ∧ s.lines[0].state ≠ .disabled) ∧
    (Ready (withLine { aBusyLine with ready := true }) ∧ (withLine { aBusyLine with ready := true }).lines[0].ready = true) ∧
    (let s := withLine { aBusyLine with staged := [readEntry, readEntry] }
     Ready s ∧ scheduleCheck s 0 s.lines[0].staged ≠ none) := by and_intros <;> decide

theorem witness_PassTimerExpiries :
    (Running base ∧ base.lines[0].passTimer = none) ∧
    (Running (withLine aBusyLine) ∧ (withLine aBusyLine).lines[0].passTimer.isSome = true ∧
      (withLine aBusyLine).lines[0].state = .idle ∧ (withLine aBusyLine).lines[0].pending = false) ∧
    (let s := withLine { aBusyLine with state := .passing, pending := true }
     Running s ∧ s.lines[0].state = .passing ∧ s.lines[0].pending = true) ∧
    (let s := withLine { aBusyLine with state := .faulted, activity := .attempt }
     Running s ∧ s.lines[0].state = .faulted ∧ s.lines[0].activity = .attempt) ∧
    (let s := withLine { aBusyLine with state := .faulted, activity := .resting }
     Running s ∧ s.lines[0].state = .faulted ∧ s.lines[0].activity ≠ .attempt) := by and_intros <;> decide

/-- A pass that performs the entry at a position. -/
def performingAt (n : Nat) (sample : Option Int) : State :=
  withLine { aBusyLine with state := .passing, activity := .entry n sample true }

/-- The clauses by what the station answers: refused at each of its three bytes, faulty, and received. -/
theorem witness_ReadEntryEnds : Running (performingAt 0 none) ∧ readEntry.kind.isRead = true ∧
    (performingAt 0 none).lines[0].performing = some (0, readEntry, none) ∧
    (performingAt 0 none).points[17].cfg.source = .field ∧ scaleRaw fieldPoint.cfg (256 * 0x2E + 0xE1) = some (30004, false) ∧
    scaleRaw fieldPoint.cfg 0 = none ∧ (base.lines[0].performing = none) := by and_intros <;> decide

theorem witness_WriteAndProbeEntryEnds :
    (Running (performingAt 1 (some 0)) ∧ (performingAt 1 (some 0)).lines[0].performing = some (1, writeEntry, some 0) ∧
      writeEntry.kind = .writeDrive ∧ writeEntry.target = .drive 3) ∧
    (Running (performingAt 2 none) ∧ (performingAt 2 none).lines[0].performing = some (2, probeEntry, none) ∧
      probeEntry.kind = .probe) ∧ base.lines[0].performing = none := by and_intros <;> decide

/-- R34: station 16 (address bytes 0x20 and 0x21), item 1, three bytes received with ACK, ACK, NAK; the station refuses the item. -/
theorem test_read_wires :
    (⟨16, .readU16St, some 1, .none, true, 1, 0⟩ : Entry).acts false none =
      [.start, .address 0x20, .data 1, .repeatedStart, .address 0x21, .receive true, .receive true, .receive false] ∧
    transact (readEntry.acts true none) ⟨[true, true, true], [0x2E, 0xE1]⟩ =
      ⟨[.repeatedStart, .address 0x20, .data 1, .repeatedStart, .address 0x21, .receive true, .receive false],
        [0x2E, 0xE1], .complete⟩ ∧
    transact (readEntry.acts false none) ⟨[true], []⟩ = ⟨[.start, .address 0x20, .data 1], [], .dataRefused⟩ := by decide

/-- R35: station 17 (address byte 0x22), item 2, the sample 10000 = 0x2710 high byte first; a PROBE sends its address byte alone. -/
theorem test_write_wires :
    transact (writeEntry.acts true (some 10000)) ⟨[true, true, true, true], []⟩ =
      ⟨[.repeatedStart, .address 0x22, .data 2, .data 0x27, .data 0x10], [], .complete⟩ ∧
    transact (probeEntry.acts false none) ⟨[], []⟩ = ⟨[.start, .address 0x24], [], .addressRefused⟩ := by decide

/-- R38: the transaction's bytes reach the point: 0x2EE1 is 30004. -/
theorem test_read_entry_end :
    (after (.readEntryEnd 0 ⟨[true, true, true], [0x2E, 0xE1]⟩ .sent) (performingAt 0 none)).map (fun t =>
      (t.points[17].value, (t.lines[0].active[0]?).bind ActiveEntry.lastOutcome)) = some (some 30004, some .ok) := by decide

/-- R43: high at once, and the stop; freed by the ninth pulse; still low after the ninth; a clock held at the second pulse; a stop in
which the data wire does not rise. -/
theorem test_recovery_procedure :
    let low : WireReading := ⟨true, false⟩
    recoveryProcedure [] = ⟨[.release, .stop true], .freed⟩ ∧
    recoveryProcedure (List.replicate 9 low) = ⟨.release :: List.replicate 9 .pulse ++ [.stop true], .freed⟩ ∧
    recoveryProcedure (List.replicate 10 low) = ⟨.release :: List.replicate 9 .pulse, .heldData⟩ ∧
    recoveryProcedure [low, low, ⟨false, true⟩] = ⟨[.release, .pulse, .pulse], .heldClock⟩ ∧
    recoveryProcedure [⟨true, true⟩, low] = ⟨[.release, .stop true], .heldData⟩ := by decide

/-- R42: after a held clock the wires are released, and a stop follows where the clock wire rises. R50: ResetLine abandons a pass. -/
theorem test_wires_released :
    (after (.heldClock 0) (performingAt 0 none)).map (fun t => (t.lines[0].wiresUnder true, t.lines[0].wiresUnder false)) =
      some ([.release, .stop false], [.release]) ∧
    (after (.resetLine 1 0) (performingAt 0 none)).map (fun t => (t.lines[0].wires, t.lines[0].state)) =
      some ([.release, .stopIfClockHigh], .idle) := by decide

theorem witness_HeldWires :
    (Running (performingAt 0 none) ∧ (performingAt 0 none).lines[0].performing = some (0, readEntry, none)) ∧
    (let s := withLine { aBusyLine with state := .passing, activity := .closing 3 }
     Running s ∧ s.lines[0].state = .passing ∧ s.lines[0].activity = .closing 3) ∧
    (Running base ∧ base.lines[0].performing = none ∧ base.lines[0].state ≠ .passing) := by and_intros <;> decide

theorem witness_RecoveriesEnd :
    (let s := withLine { aBusyLine with state := .recovering, activity := .procedure 1 false }
     Running s ∧ s.lines[0].state = .recovering ∧ s.lines[0].activity = .procedure 1 false) ∧
    (let s := withLine { aBusyLine with state := .faulted, activity := .attempt }
     Running s ∧ s.lines[0].state = .faulted ∧ s.lines[0].activity = .attempt ∧ s.lines[0].pending = false ∧
       ∀ p : Fin 96, s.lines[0].active.countP (fun e => e.entry.reads p) ≤ 1) ∧
    base.lines[0].state ≠ .recovering ∧ base.lines[0].state ≠ .faulted := by and_intros <;> decide

/-! ### Witnesses: discrete lines and the speed unit -/

/-- The settled part with line D21 as given; D21 has no role, so nothing that settles reads it. -/
def withDiscrete (l : Discrete) : State := { settledBase with discretes := settledBase.discretes.set 21 l }

/-- A general output that is commanded 1 and reads 0. -/
def unfollowed : Discrete := { Discrete.fresh ⟨false, true, false, false, .any, 0, 50⟩ false with commanded := true }

/-- The settled part with ALARM at level 1 while it is commanded 0. -/
def alarmUnfollowed : State :=
  { settledBase with discretes := settledBase.discretes.set 20 { base.discretes[20] with level := true, mismatchTimer := some 0 } }

def general (edge : Bool) : Discrete := { Discrete.fresh ⟨false, false, false, edge, .any, 0, 50⟩ false with padLevel := false }

theorem witness_ConfigureDiscreteForms :
    (Ready settledBase ∧ DiscreteFields.check { aDiscrete with line := 24 } = none) ∧
    DiscreteFields.check aDiscrete = some (23, ⟨false, false, false, true, .any, 10, 50⟩) ∧
    settledBase.discretes[23].cfg.role = false ∧
    (settledBase.discretes[0].cfg.role = true ∧ roleInUse settledBase 0 = false ∧
      DiscreteFields.check ⟨0, 1, 1, 1, 0, 0, 10, 50⟩ = some (0, ⟨false, true, true, false, .rising, 10, 50⟩)) ∧
    (let s := settledBase.modWell 0 (fun w => { w with state := .waitStart })
     Ready s ∧ s.discretes[0].cfg.role = true ∧ roleInUse s 0 = true) := by and_intros <;> decide

theorem witness_ConfigureDiscreteForms_settled : Settled settledBase ∧
    Settled (settledBase.modWell 0 (fun w => { w with state := .waitStart })) :=
  ⟨settledBase_settled, fun _ => ⟨by unfold OutputsFollow Driven; decide, by rfl,
    fun n h => absurd (h.symm.trans (base_live_empty n)) (by decide)⟩⟩

theorem witness_DiscreteRequests :
    (Ready base ∧ base.discretes[0].cfg.role = true) ∧
    (let s := base.modDiscrete 23 (fun l => { l with cfg := { l.cfg with out := true } })
     Ready s ∧ s.discretes[23].cfg.role = false ∧ s.discretes[23].cfg.out = true ∧ s.discretes[23].level ≠ true ∧
       s.discretes[23].mismatch = false ∧ s.discretes[23].mismatchTimer = none) ∧
    (let s := base.modDiscrete 16 (fun l => { l with cfg := { l.cfg with role := false, out := true } })
     Ready s ∧ s.discretes[16].cfg.role = false ∧ s.discretes[16].cfg.out = true) := by and_intros <;> decide

/-- R53: in ROLE the direction given is not checked, and the role's is stored. -/
theorem test_role_direction :
    DiscreteFields.check ⟨0, 0, 7, 0, 0, 0, 10, 50⟩ = some (0, ⟨true, true, false, false, .rising, 10, 50⟩) ∧
      DiscreteFields.check ⟨21, 1, 7, 0, 0, 0, 10, 50⟩ = none := by decide

/-- R61, R209: an EDGE notice of D21 and D23: the set, the count 2 and the two edgeCounts, the levels, the clock. -/
theorem test_edge_frame :
    (edgeFrame ⟨Vector.ofFn (fun i => if i.val = 21 then some 1 else if i.val = 23 then some 255 else none),
      Vector.ofFn (fun i => decide (i.val = 0)), 258⟩).body = [0, 0, 0xA0, 2, 1, 255, 1, 0, 0, 0, 0, 1, 2] := by decide

theorem witness_LevelsFollowThePads :
    (Running (withDiscrete (general false)) ∧ true ≠ (general false).padLevel ∧ true ≠ (general false).level ∧
      (general false).cfg.debounce = 0) ∧
    (Running (withDiscrete (general true)) ∧ (general true).cfg.edge = true ∧ (general true).mismatch = false) ∧
    (Running base ∧ base.discretes[19].padLevel = false ∧ 0 < base.discretes[19].cfg.debounce ∧ base.discretes[19].debounceTimer = none ∧
      base.discretes[19].mismatchTimer = none) ∧
    (let s := withDiscrete { general true with debounceTimer := some 0, padLevel := true }
     Running s ∧ s.discretes[21].debounceTimer.isSome = true ∧ s.discretes[21].padLevel ≠ s.discretes[21].level) ∧
    (let s := withDiscrete { unfollowed with mismatchTimer := some 0 }
     Running s ∧ s.discretes[21].mismatchTimer.isSome = true ∧ (21 : Fin 24) ≠ alarmLine) ∧
    (let l := { unfollowed with commanded := false }
     Running (withDiscrete l) ∧ true ≠ l.padLevel ∧ true ≠ l.level ∧ l.cfg.out = true ∧ l.level = l.commanded ∧
       l.mismatch = false ∧ l.mismatchTimer = none) ∧
    (let s := alarmUnfollowed
     Running s ∧ s.discretes[20].mismatchTimer.isSome = true ∧ s.discretes[20].cfg.out = true ∧
       s.discretes[20].level ≠ s.discretes[20].commanded ∧ s.conditions.unsilenced.nonempty = false ∧
       s.conditions.live[39] = false) := by and_intros <;> decide

theorem witness_LevelsFollowThePads_settled : Settled (withDiscrete (general true)) ∧
    Settled (withDiscrete { unfollowed with mismatchTimer := some 0 }) ∧ Settled alarmUnfollowed :=
  ⟨fun _ => ⟨by unfold OutputsFollow Driven; decide, by rfl, fun n h => absurd (h.symm.trans (base_live_empty n)) (by decide)⟩,
    fun _ => ⟨by unfold OutputsFollow Driven; decide, by rfl, fun n h => absurd (h.symm.trans (base_live_empty n)) (by decide)⟩,
    fun _ => ⟨by unfold OutputsFollow Driven; decide, by rfl, fun n h => absurd (h.symm.trans (base_live_empty n)) (by decide)⟩⟩

theorem witness_SpeedUnitEvents :
    (Running base ∧ base.speedUnit.signal = .silent ∧ base.speedUnit.lossTimer = none) ∧
    (Running overspeedState ∧ overspeedState.speedUnit.signal = .measuring ∧ overspeedState.speedUnit.lastEdge = some 4950 ∧
      ((min 65535 ((5200 : TimeBase) - 4950).toNat :: overspeedState.speedUnit.periods).take 4).length = 4 ∧
      overspeedState.speedUnit.cfg.ovsLimit ≤ 3289 ∧ overspeedState.turbine.state ≠ .tripped) ∧
    (let s : State := { overspeedState with speedUnit := { overspeedState.speedUnit with periods := [1, 2], lossTimer := some 0 } }
     Running s ∧ s.speedUnit.lossTimer.isSome = true ∧
       ((min 65535 ((5200 : TimeBase) - 4950).toNat :: s.speedUnit.periods).take 4).length < 4) := by and_intros <;> decide

/-! ### Witnesses: wells -/

def wellConfig : WellConfig :=
  { WellConfig.initial with enabled := true, intakePoint := some 1, windingPoint := some 2, minSpeed := 3000, maxSpeed := 9000,
                            windTrip := 15000, windDelta := 800, windHys := 500, autoRestart := true, maxStarts := 2, tripLimit := 2 }

/-- The base state in RUN with well W3 as given, its intake at 25000 and its winding at the temperature given. -/
def withWell (winding : Int) (w : Well) : State :=
  (((({ base with phase := .run } : State).modPoint 1 (fun p => { p with
      cfg := { p.cfg with source := .field, cls := .pres }, quality := .good, value := some 25000 })).modPoint 2 (fun p =>
        { p with cfg := { p.cfg with source := .field }, quality := .good, value := some winding })).modWell 3 (fun _ => w))

def aWellIn (state : WellState) : Well := { Well.fresh wellConfig with state := state }

/-- W3 in OFF, its intake point usable at the last WP period expiry. -/
def aWellThatRead : Well := { aWellIn .off with intakeRead := some ⟨.good, some 25000⟩ }

/-- START is judged on the last reading (R15): the intake point is usable in both states, and was read only in the first. -/
theorem test_start_sees_the_last_reading :
    (ownStart 3 (withWell 0 aWellThatRead)).1.wells[3].state = .waitStart ∧
    (boundValue (withWell 0 (aWellIn .off)) wellConfig.intakePoint).isSome = true ∧
    (ownStart 3 (withWell 0 (aWellIn .off))).1.wells[3].state = .off := by and_intros <;> decide

theorem witness_ConfigureWellForms :
    (Ready base ∧ WellFields.check { aWell with minSpeed := 9001 } = none) ∧
    (∃ new, WellFields.check aWell = some (7, new, false) ∧ base.wells[7].cfg.enabled ≠ new.enabled) ∧
    (base.phase ≠ .run ∧ base.wells[7].startLog.length = 0 ∧ base.wells[7].state = .off) ∧
    (let s := withWell 0 { aWellIn .lockedOut with startLog := [⟨0, 0⟩, ⟨5, 0⟩], tripCount := 2 }
     Ready s ∧ s.phase = .run ∧ s.wells[3].startLog.length = 2 ∧ s.wells[3].state = .lockedOut) := by
  refine ⟨by and_intros <;> decide, ⟨_, rfl, by decide⟩, by and_intros <;> decide, by and_intros <;> decide⟩

theorem witness_WellCommandForms :
    (Ready base ∧ base.wells[0].state = .off ∧ base.phase ≠ .run ∧ estopActive base = false) ∧
    (let s := withWell 0 aWellThatRead
     Ready s ∧ s.phase = .run ∧ s.supervision.state = .disarmed ∧ estopActive s = false ∧ inRole s (runLine 3) = true ∧
       inRole s (feedbackLine 3) = true ∧ s.wells[3].cfg.enabled = true ∧ (viewValue s.wells[3].intakeRead).isSome = true) ∧
    (Ready (withWell 0 (aWellIn .off)) ∧ viewValue (withWell 0 (aWellIn .off)).wells[3].intakeRead = none) ∧
    (Ready (withWell 0 (aWellIn .waitStart)) ∧ Ready (withWell 0 (aWellIn .stopping)) ∧
      (withWell 0 (aWellIn .running)).wells[3].state.energised = true ∧ Ready (withWell 0 (aWellIn .running))) ∧
    (let s := withWell 0 (aWellIn .tripped)
     Ready s ∧ s.wells[3].state = .tripped ∧ estopActive s = false ∧ inRole s (runLine 3) = true ∧
       inRole s (feedbackLine 3) = true) ∧
    (Ready (withWell 0 (aWellIn .lockedOut)) ∧ (withWell 0 (aWellIn .lockedOut)).wells[3].state = .lockedOut) := by
  and_intros <;> decide

theorem witness_WellPeriod :
    (Running base ∧ base.wpTimer = none) ∧
    (Running { withWell 14999 (aWellIn .running) with wpTimer := some 0 } ∧
      (withWell 14999 (aWellIn .running)).wells[3].state.isRunning = true ∧
      (withWell 14999 (aWellIn .running)).drives[wellDrive 3].delivery ≠ .failing ∧
      boundValue (withWell 14999 (aWellIn .running)) (some 2) = some 14999 ∧ (14999 : Int) < wellConfig.windTrip) ∧
    (boundValue (withWell 15000 (aWellIn .running)) (some 2) = some 15000 ∧ wellConfig.windTrip ≤ (15000 : Int)) ∧
    (let s := withWell 0 (aWellIn .waitStart)
     Running { s with wpTimer := some 0 } ∧ s.wells[3].state = .waitStart ∧ s.wells[3].startLog.length < s.wells[3].cfg.maxStarts ∧
       feedback s 3 = false) ∧
    (let s := withWell 14499 { aWellIn .suspended with suspendCause := some .windingHot }
     s.wells[3].cfg.autoRestart = true ∧ s.wells[3].suspendCause = some .windingHot ∧
       (14499 : Int) < wellConfig.windTrip - wellConfig.windHys) ∧
    (let s := (withWell 0 (aWellIn .starting)).modDrive 3 (fun d => { d with delivery := .failing, failingFor := some 11 })
     Running { s with wpTimer := some 0 } ∧ s.wells[3].state = .starting ∧ s.drives[wellDrive 3].lost wellConfig.deliveryLimit = true) := by
  and_intros <;> decide

theorem witness_OwnerTimers :
    (Running base ∧ base.wells[3].startTimer = none ∧ base.wells[3].stopTimer = none ∧ base.wells[3].decayTimer = none ∧
      base.turbine.rollTimer = none ∧ base.turbine.breakerTimer = none) ∧
    (let s := withWell 0 { aWellIn .starting with startTimer := some 0, tripCount := 1, decayTimer := some 9 }
     Running s ∧ s.wells[3].startTimer.isSome = true ∧ s.wells[3].state = .starting ∧
       s.wells[3].tripCount + 1 = s.wells[3].cfg.tripLimit) ∧
    (let s := withWell 0 { aWellIn .stopping with stopTimer := some 0 }
     Running s ∧ s.wells[3].stopTimer.isSome = true ∧ s.wells[3].state = .stopping) ∧
    (let s := withWell 0 { aWellIn .tripped with tripCount := 1, decayTimer := some 0 }
     Running s ∧ s.wells[3].decayTimer.isSome = true) ∧
    (let s : State := { base with turbine := { base.turbine with state := .syncWait, rollTimer := some 0 } }
     Running s ∧ s.turbine.rollTimer.isSome = true) ∧
    (let s : State := { base with turbine := { base.turbine with state := .unloading, breakerTimer := some 0 } }
     Running s ∧ s.turbine.breakerTimer.isSome = true) := by and_intros <;> decide

/-! ### Witnesses: turbine and heating -/

/-- The base state in RUN with the turbine in a state, its header point at 8500 and its power at 18000. -/
def withTurbine (state : TurbineState) (f : Turbine → Turbine) : State :=
  (({ base with phase := .run, turbine := f { base.turbine with
      state := state, powerView := some 18000
      cfg := { base.turbine.cfg with headerPoint := some 3, headerMin := 6000, extractionMax := 5000, extractionMinLoad := 8000 } } } : State).modPoint
    3 (fun p => { p with cfg := { p.cfg with source := .field, cls := .pres }, quality := .good, value := some 8500 }))

theorem witness_ConfigureTurbineForms :
    (Ready base ∧ TurbineFields.check { aTurbine with ovsLimit := 3015 } = none) ∧
    (∃ new speed, TurbineFields.check aTurbine = some (new, speed, false) ∧ base.turbine.cfg.headerPoint ≠ new.headerPoint) ∧
    base.phase ≠ .run ∧
    (Ready (withTurbine .loaded id) ∧ (withTurbine .loaded id).phase = .run ∧ (withTurbine .loaded id).turbine.state = .loaded) := by
  refine ⟨by and_intros <;> decide, ⟨_, _, rfl, by decide⟩, by decide, by and_intros <;> decide⟩

theorem witness_TurbineCommandForms :
    (let s := withTurbine .stopped id
     Ready s ∧ 1 ≤ s.turbine.cfg.extractionMax ∧ s.phase = .run ∧ s.supervision.state = .disarmed ∧ estopActive s = false ∧
       inRole s stopValveLine = true ∧ inRole s breakerOpenLine = true ∧ inRole s breakerClosedLine = true ∧
       breakerClosed s = false ∧ boundValue s s.turbine.cfg.headerPoint = some 8500 ∧ s.turbine.cfg.headerMin ≤ 8500) ∧
    (Ready (withTurbine .loaded (fun u => { u with mode := .header })) ∧ Ready (withTurbine .rolling id) ∧
      Ready (withTurbine .unloading id) ∧ Ready (withTurbine .tripped id) ∧ (1 : Nat) = TurbineMode.header.code) := by
  and_intros <;> decide

theorem witness_TurbinePeriod :
    (Running base ∧ 1 ≤ base.turbine.cfg.extractionMax ∧ base.turbine.periodTimer = none) ∧
    (let s := withTurbine .loaded (fun u => { u with periodTimer := some 0 })
     Running s ∧ 1 ≤ s.turbine.cfg.extractionMax ∧ s.turbine.periodTimer.isSome = true ∧ s.drives[admissionDrive].delivery ≠ .failing ∧
       boundValue s s.turbine.cfg.headerPoint = some 8500 ∧ s.turbine.cfg.headerMin ≤ 8500) ∧
    (let s := withTurbine .rolling (fun u => { u with periodTimer := some 0, syncCount := 19 })
     Running s ∧ s.turbine.state = .rolling ∧ s.turbine.cfg.syncHold ≤ satSucc 600 s.turbine.syncCount) ∧
    (let s := withTurbine .syncWait (fun u => { u with periodTimer := some 0 })
     Running s ∧ s.turbine.state = .syncWait ∧ s.speedUnit.signal ≠ .measuring) ∧
    (let s := withTurbine .unloading (fun u => { u with periodTimer := some 0, powerSetpoint := 0 })
     Running s ∧ s.turbine.state = .unloading ∧ s.turbine.powerSetpoint = s.turbine.cfg.minLoad ∧ s.turbine.openCommanded = false) ∧
    (let s := withTurbine .tripped (fun u => { u with periodTimer := some 0, verifyCount := some 99 })
     Running s ∧ s.turbine.state = .tripped ∧ 10 * s.turbine.cfg.tripVerifyTime ≤ satSucc 6000 99) ∧
    (let s := (withTurbine .loaded (fun u => { u with periodTimer := some 0 })).modDrive 8 (fun d =>
        { d with delivery := .failing, failingFor := some 11 })
     Running s ∧ s.drives[admissionDrive].lost s.turbine.cfg.deliveryLimit = true ∧ s.turbine.state.energised = true) := by
  and_intros <;> decide

def heatingConfig : HeatingConfig :=
  { HeatingConfig.initial with outdoorPoint := some 31, supplyPoint := some 32, returnPoint := some 33, netFlowPoint := some 34,
                               brineInPoint := some 35, brineOutPoint := some 36, brineFlowPoint := some 37, supplyMax := 9800 }

/-- The base state in RUN with the heating given and its seven points usable, the supply as given. -/
def withHeating (supply : Int) (h : Heating) : State :=
  { base with
    phase := .run, heating := h
    points := Vector.ofFn (fun i => if 31 ≤ i.val ∧ i.val ≤ 37 then
      { base.points[i] with cfg := { base.points[i].cfg with source := .field }, quality := .good,
                            value := some (if i.val = 32 then supply else 8000) } else base.points[i]) }

def aHeat (state : HeatState) : Heating :=
  { Heating.fresh heatingConfig (some [(-2500, 9500), (1500, 6500)]) with state := state, target := some 8500, periodTimer := some 0 }

theorem witness_HeatingRequests :
    (Ready base ∧ 1 ≤ base.turbine.cfg.extractionMax ∧ HeatingFields.check { aHeating with shortConfirm := 0 } = none) ∧
    (∃ new, HeatingFields.check aHeating = some new ∧ base.heating.cfg.outdoorPoint ≠ new.outdoorPoint) ∧
    (base.phase ≠ .run ∧ base.heating.state = .off ∧ base.heating.curve = none) ∧
    (let s := withHeating 8420 (aHeat .off)
     Ready s ∧ s.phase = .run ∧ s.heating.cfg.complete = true ∧ s.heating.curve.isSome = true) ∧
    (Ready (withHeating 8420 (aHeat .hold)) ∧ (withHeating 8420 (aHeat .hold)).heating.state ≠ .off) := by
  refine ⟨by and_intros <;> decide, ⟨_, rfl, by decide⟩, by and_intros <;> decide, by and_intros <;> decide, by and_intros <;> decide⟩

theorem witness_TheHeatingCurve : Ready base ∧ curveOk [(-2500, 9500), (1500, 6500)] = true ∧ curveOk [(0, 0)] = false ∧
    ([(-2500, 9500), (-1000, 8500), (1500, 6500)] : List (Int × Int)).Pairwise (fun a b => a.1 < b.1) ∧
    (-1000 : Int) ≤ -1000 ∧ (-1000 : Int) < 1500 := by and_intros <;> decide

theorem witness_HeatExchangePeriod :
    (Running base ∧ 1 ≤ base.turbine.cfg.extractionMax ∧ base.heating.periodTimer = none) ∧
    (let s := withHeating 8420 (aHeat .active)
     Running s ∧ s.heating.periodTimer.isSome = true ∧ s.heating.state ≠ .off ∧ boundValue s (some 32) = some 8420 ∧
       boundValue s (some 31) = some 8000 ∧ s.drives[bypassDrive].delivery ≠ .failing ∧ s.heating.loopsPending = false) ∧
    (let s := withHeating 9800 (aHeat .active)
     Running s ∧ boundValue s (some 32) = some 9800 ∧ s.heating.cfg.supplyMax ≤ 9800) ∧
    (let s := withHeating 9300 (aHeat .cut)
     Running s ∧ s.heating.state = .cut ∧ s.heating.cfg.supplyMax - s.heating.cfg.supplyHys ≤ 9300) ∧
    (let s := { withHeating 9300 (aHeat .active) with points := base.points }
     Running s ∧ viewValue (readView s (some 32)) = none) ∧ Running (withHeating 9300 (aHeat .off)) := by
  and_intros <;> decide

/-! ### Witnesses: sites and constraints -/

def silicaConfig : SiteConfig :=
  { SiteConfig.initial with kind := .silica, tempPoint := some 6, fixedConc := 520, onset := 1100, action := .brineFloor, margin := 300,
                            station := some 0, alertDose := 100, clearDose := 10 }

/-- The base state in RUN with site S0 as given, its outlet at 11240 (section 4.3), the minute about to close. -/
def withSite (x : Site) : State :=
  ((({ base with phase := .run, smTimer := some 0, minuteCounter := 59 } : State).modPoint 6 (fun p => { p with
    cfg := { p.cfg with source := .field }, quality := .good, value := some 11240 })).modSite 0 (fun _ => x))

def aSilicaSite : Site := { Site.fresh silicaConfig with enabled := true, demand := some 0 }

/-- The floor of the worked example in section 4.3, in WATCH: 12286 + 300. -/
theorem test_site_floor : (after .smPeriodExpiry (withSite aSilicaSite)).map (fun t =>
    (t.sites[0].siteFloor, t.sites[0].ratio, t.slots[0].map Post.value, t.sites[0].cumulativeDose)) =
    some (some 12586, 1232, some 12586, 132) := by decide

theorem witness_ScalingArithmetic : (0 : Int) ≤ 520 ∧ (0 : Nat) < 1100 ∧ ((473 : Int) - 1) * 1100 < 1000 * 520 ∧
    (1000 : Int) * 520 ≤ 473 * 1100 ∧ silicaTable[6]? = some 458 ∧ silicaTable[7]? = some 563 ∧ (2000 : Int) * 0 ≤ 0 ∧
    silicaTable[12]? = some 1246 ∧ silicaTable[13]? = some 1409 ∧ (25999 : Int) < 2000 * (12 + 1) := by and_intros <;> decide

theorem witness_SiteRequests :
    (Ready base ∧ SiteFields.check { aSite with onset := 799 } = none ∧ base.sites[11].cfg.kind = .none) ∧
    (∃ new, SiteFields.check aSite = some (0, new) ∧ base.sites[0].cfg.kind ≠ new.kind ∧ base.phase ≠ .run) ∧
    (Ready (withSite aSilicaSite) ∧ (withSite aSilicaSite).sites[0].cfg.kind ≠ .none ∧
      (withSite aSilicaSite).sites[0].enabled = true ∧ (withSite aSilicaSite).phase = .run) ∧
    (let s := { withSite (Site.fresh silicaConfig) with phase := .config }
     Ready s ∧ s.sites[0].enabled = false ∧ s.sites[0].cfg.kind ≠ .none ∧ s.phase = .config ∧ (4294967295 : Nat) ≤ 4294967295) := by
  refine ⟨by and_intros <;> decide, ⟨_, rfl, by decide, by decide⟩, by and_intros <;> decide, by and_intros <;> decide⟩

theorem witness_ScalingPeriod :
    (Running base ∧ base.smTimer = none) ∧
    (let s := withSite aSilicaSite
     Running s ∧ s.smTimer.isSome = true ∧ s.sites[0].cfg.kind ≠ .none ∧ s.sites[0].enabled = true ∧ s.sites[1].cfg.kind = .none ∧
       60 ≤ s.minuteCounter + 1 ∧ silicaConfig.action.target = some .brineFloor) ∧
    (let s := withSite (Site.fresh silicaConfig)
     Running s ∧ s.sites[0].enabled = false ∧ s.sites[0].cfg.kind ≠ .none) := by and_intros <;> decide

theorem witness_PoolRequests : (Ready base ∧ targetOf 2 8 = none ∧ targetOf 0 1 = none ∧ targetOf 3 0 = some .pumpCeilAll) ∧
    (∀ i : Fin 8, base.slots[poolSlot i].map Post.target ≠ some .pumpCeilAll) ∧ base.slots[poolSlot 0] = none ∧
    (let s := { base with slots := base.slots.set 21 (some ⟨.pumpCeilAll, 6000, 0⟩) }
     Ready s ∧ s.slots[poolSlot 7].map Post.target = some .pumpCeilAll ∧
       ∀ i : Fin 8, i < 7 → s.slots[poolSlot i].map Post.target ≠ some .pumpCeilAll) ∧
    (let s := { base with slots := Vector.ofFn (fun _ => some ⟨.brineFloor, 0, 0⟩) }
     Ready s ∧ (∀ i : Fin 8, s.slots[poolSlot i].map Post.target ≠ some .pumpCeilAll) ∧ ∀ i : Fin 8, s.slots[poolSlot i] ≠ none) := by
  and_intros <;> decide

/-! ### Witnesses: conditions, supervision and phase -/

/-- The settled part with its snapshot held at number 7. -/
def heldState : State := { settledBase with conditions := { settledBase.conditions with held := true, number := 7 } }

theorem witness_ConditionRequests_settled : Settled settledBase ∧ Settled heldState :=
  ⟨settledBase_settled, fun _ => ⟨by unfold OutputsFollow Driven; decide, by rfl, fun n h => absurd (h.symm.trans (base_live_empty n)) (by decide)⟩⟩

theorem witness_ConditionRequests :
    (Ready settledBase ∧ settledBase.conditions.held = false ∧ settledBase.discretes[alarmLine].mismatch = false) ∧
    (Ready heldState ∧ heldState.conditions.held = true ∧ (6 : Nat) ≠ heldState.conditions.number ∧ heldState.conditions.number = 7 ∧
      heldState.conditions.watch[16] = true ∧ heldState.conditions.live[16] ≠ heldState.conditions.frozen[16] ∧
      heldState.conditions.live[16] = true) ∧
    ((0x3FFFFFFFFFF : MemberMask).toNat < 2 ^ 42 ∧ ¬ (0x40000000000 : MemberMask).toNat < 2 ^ 42) := by and_intros <;> decide

/-- The settled part, armed, with the expiry of its supervision timer in the queue. -/
def expiring : State :=
  { settledBase with supervision := ⟨.armed, some 5, some 0, some 0, some 0, none⟩, pending := [.supervisionTimerExpiry] }

theorem witness_ConditionsFollowEveryEvent :
    (Running expiring ∧ Settled expiring ∧ (∃ t, step expiring = .next t ∧ t.initialising = false ∧ t.conditions.live[41] = true) ∧
      expiring.link.requests = [] ∧ expiring.link.receiver.complete = false ∧
      Instr.supervisionTimerExpiry.request = none ∧ (∀ tag kind body, Instr.supervisionTimerExpiry ≠ .unknownKind tag kind body) ∧
      expiring.conditions.held = false ∧ expiring.conditions.watch[41] = true ∧ expiring.conditions.live[41] = false) ∧
    ¬ AboutConditions 0x23 ∧ ¬ AboutConditions 0x27 :=
  ⟨⟨by decide, fun _ => ⟨by unfold OutputsFollow Driven; decide, by rfl,
      fun n h => absurd (h.symm.trans (base_live_empty n)) (by decide)⟩, ⟨_, rfl, by decide, by decide⟩, by decide, by decide, rfl,
    nofun, by decide, by decide, by decide⟩, by unfold AboutConditions; decide, by unfold AboutConditions; decide⟩

/-- R188: the change of DIO_MISMATCH that SetMasks itself brings about (ALARM falls and agrees with its pad again) is judged by the
watch mask the request found, which watched it; the mask it stores watches nothing. -/
theorem test_set_masks_old_watch :
    (after (.setMasks 1 (some 0) (some 0)) { settledBase with
      discretes := settledBase.discretes.set 20 { base.discretes[20] with roleCommand := true, commanded := true, mismatch := true }
      conditions := { settledBase.conditions with live := settledBase.conditions.live.set 39 true,
                                                  frozen := settledBase.conditions.live.set 39 true,
                                                  unsilenced := MemberSet.empty.set 16 true } }).map (fun t =>
        (t.conditions.held, t.conditions.number, t.conditions.changed[39], t.conditions.watch[39])) =
      some (true, 1, true, false) := by decide

/-- R212: a fallbackSpeed of 10001 is clamped in DISARMED and refused BAD_FIELD in ARMED. -/
theorem test_arm_speed :
    (after (.armSupervision 1 60 300 10001) base).map (fun t => (t.supervision.fallbackSpeed, t.link.sending.map (fun f => f.body.head?))) =
      some (some 10000, some (some 1)) ∧
    (after (.armSupervision 1 60 300 10001) (supervised ⟨.armed, some 5, some 0, some 0, some 9, none⟩)).map
      (fun t => (t.supervision.fallbackSpeed, t.link.sending)) = some (some 0, some ⟨0xA7, 1, [4]⟩) := by decide

theorem witness_SupervisionRequests :
    (Ready base ∧ base.supervision.state = .disarmed ∧ ¬ (5 ≤ 4 ∧ 4 ≤ 600) ∧ (5 : Nat) ≤ 600 ∧ (3600 : Nat) ≤ 3600) ∧
    Ready (supervised ⟨.armed, some 5, some 0, some 0, some 9, none⟩) ∧
    Ready (supervised ⟨.fallback, some 5, some 30, some 4000, none, some 9⟩) ∧
    Ready (supervised ⟨.safeStop, some 5, some 30, some 4000, none, none⟩) ∧ clamp 0 10000 10001 = 10000 := by and_intros <;> decide

theorem witness_SupervisionStaysArmed : let s := (supervised ⟨.armed, some 5, some 0, some 0, some 9, none⟩).withFront (.powerReset false true)
    s.supervision.state ≠ .disarmed ∧ ∃ t, step s = .next t ∧ t.supervision.state = .disarmed := ⟨by decide, ⟨_, rfl, rfl⟩⟩

theorem witness_PhaseRequests :
    (Ready base ∧ base.phase = .config ∧ base.heating.state = .off ∧ base.turbine.state = .tripped ∧
      (∀ k : Fin 8, base.wells[k].state = .off)) ∧
    (Ready { base with phase := .run } ∧ ({ base with phase := .run } : State).phase = .run) ∧
    (let s := withTurbine .rolling id
     Ready s ∧ s.phase = .run ∧ ¬ (s.turbine.state = .stopped ∨ s.turbine.state = .tripped)) ∧
    (let s := base.modWell 0 (fun w => { w with cfg := { w.cfg with enabled := true } })
     Ready s ∧ s.phase = .config ∧ s.wells[0].cfg.enabled = true ∧ s.wells[0].cfg.intakePoint = none) := by and_intros <;> decide

/-- The configuration of a POWER reset passes the four stages of R210, since it binds and enables nothing. -/
theorem test_commission : (after (.commission 1) base).map (fun t => (t.phase, t.smTimer, t.link.sending)) =
    some (.run, some 1000, some ⟨0xA9, 1, [0]⟩) := by decide

/-- R210: an enabled well without an intake point is refused BAD_CONFIG. -/
theorem test_commission_refused : (after (.commission 1) (base.modWell 0 (fun w => { w with cfg := { w.cfg with enabled := true } }))).map
    (fun t => (t.phase, t.link.sending.map (fun f => f.body.head?))) = some (.config, some (some 9)) := by decide

theorem witness_ReadingChangesNothing : Ready base ∧ 80 + 16 ≤ 96 ∧ ¬ 81 + 16 ≤ 96 ∧ LineView.choices[3]? ≠ none ∧
    LineView.choices[4]? = none ∧ base.points[5].failCount ≤ 15 ∧ base.points[5].cfg.failLimit ≤ 15 := by and_intros <;> decide

/-- The record of P17 in the worked example of section 10.8; its substitute's place holds 0. -/
theorem test_point_record :
    putPointRecord { Point.fresh { PointConfig.initial with source := .field, cls := .pres } with
      quality := .good, value := some 30004, age := 3, lastAttemptOk := true } =
    [0x11, 0xA9, 0x03, 0, 3, 0, 0x75, 0x34, 0, 0x75, 0x34, 0, 0, 0] := by decide

/-! ### Witnesses: the laws -/

theorem witness_EveryStepLeavesThePartSettled : Sound settledBase ∧ MismatchLaw (withDiscrete { unfollowed with mismatch := true }) ∧
    ∃ t, step settledBase = .next t :=
  ⟨⟨settledBase_settled, by unfold LinkSound; decide, (fun n h => by cases h),
    fun n h => absurd (h.symm.trans (base_live_empty n)) (by decide)⟩, by unfold MismatchLaw; decide, ⟨_, rfl⟩⟩

theorem witness_EveryStepKeepsTheLawOfTheTable : TableLaw base ∧ ∃ t, step base = .next t := by
  refine ⟨⟨fun g => ?_, by decide⟩, ⟨_, rfl⟩⟩
  cases g with
  | brineFloor => decide
  | pumpCeilAll => decide
  | wellFloor k => revert k; decide
  | pumpCeil k => revert k; decide

theorem witness_EveryStepKeepsGrantAndDrives : GrantLaw base ∧ SafeDrives base ∧
    ∃ t, step (base.withFront (.trip 1)) = .next t := by
  refine ⟨?_, ?_, ⟨_, rfl⟩⟩
  · unfold GrantLaw; decide
  · unfold SafeDrives; decide

/-- A running well under its law, and a well locked out under its own. -/
theorem witness_EveryStepKeepsDemandAndTripCount :
    (DemandLaw (demandState 23800 8000) ∧ TripCountLaw (demandState 23800 8000) ∧
      (demandState 23800 8000).wells[3].state.energised = true) ∧
    (let s := base.modWell 4 (fun w => { w with state := .lockedOut, tripCount := w.cfg.tripLimit })
     DemandLaw s ∧ TripCountLaw s) ∧
    ∃ t, step (base.withFront (.start 1 0)) = .next t := by
  refine ⟨⟨?_, ?_, by decide⟩, ⟨?_, ?_⟩, ⟨_, rfl⟩⟩
  · unfold DemandLaw; decide
  · unfold TripCountLaw; decide
  · unfold DemandLaw; decide
  · unfold TripCountLaw; decide

theorem witness_EveryStepKeepsPointsListsAndSites : PointLaw base ∧ BindingLaw base ∧ CapacityLaw base ∧ SiteLaw base ∧
    ∃ t, step (base.withFront (.secondTimerExpiry)) = .next t := by
  refine ⟨?_, ?_, ?_, ?_, ⟨_, rfl⟩⟩
  · intro i; rw [base_point i]; decide
  · intro i j _; rw [base_point i, base_point j]; decide
  · unfold CapacityLaw; decide
  · unfold SiteLaw; decide

end Sys2Proof.Tests
end

section
/-! PROOFS. Rounding, the scaling of raw values (R4, R5), and what a read does to a point (R6, R7). -/

namespace Sys2Proof.Machine

/-! ### Rounding -/

theorem natAbs_roundRatio (a b : Int) : (roundRatio a b).natAbs = (2 * a.natAbs + b.natAbs) / (2 * b.natAbs) := by
  unfold roundRatio
  split
  · exact (Int.natAbs_neg _).trans (Int.natAbs_natCast _)
  · exact Int.natAbs_natCast _

theorem roundRatio_nonneg {a b : Int} (h : 0 ≤ a * b) : 0 ≤ roundRatio a b := by
  rw [roundRatio, if_neg h.not_gt]
  exact Int.natCast_nonneg _

theorem roundRatio_nonpos {a b : Int} (h : a * b < 0) : roundRatio a b ≤ 0 := by
  rw [roundRatio, if_pos h]
  exact neg_nonpos.mpr (Int.natCast_nonneg _)

/-- The multiple of `b` that rounding chooses lies on `a`'s side of 0. -/
theorem roundRatio_mul_same_side (a b : Int) :
    (0 ≤ a ∧ 0 ≤ roundRatio a b * b) ∨ (a ≤ 0 ∧ roundRatio a b * b ≤ 0) := by
  by_cases h : a * b < 0
  · have hr := roundRatio_nonpos h
    obtain ⟨ha, hb⟩ | ⟨ha, hb⟩ := mul_neg_iff.mp h
    · exact .inl ⟨ha.le, mul_nonneg_of_nonpos_of_nonpos hr hb.le⟩
    · exact .inr ⟨ha.le, mul_nonpos_of_nonpos_of_nonneg hr hb.le⟩
  · have hr := roundRatio_nonneg (not_lt.mp h)
    obtain ⟨ha, hb⟩ | ⟨ha, hb⟩ := mul_nonneg_iff.mp (not_lt.mp h)
    · exact .inl ⟨ha, mul_nonneg hr hb⟩
    · exact .inr ⟨ha, mul_nonpos_of_nonneg_of_nonpos hr hb⟩

/-- The quotient `(2 n + d) / (2 d)` is nearest to `n / d`, and in the middle it is the greater neighbour. -/
theorem nearest_quotient (n : Nat) {d : Nat} (hd : 0 < d) :
    2 * ((2 * n + d) / (2 * d) * d) ≤ 2 * n + d ∧ 2 * n < 2 * ((2 * n + d) / (2 * d) * d) + d := by
  have below := Nat.div_mul_le_self (2 * n + d) (2 * d)
  have above := Nat.lt_div_mul_add (a := 2 * n + d) (b := 2 * d) (by omega)
  constructor <;> linarith

/-- "Rounded" is what it says: no multiple of `b` is nearer to `a`, and of two equally near the one away from 0 is taken. -/
theorem roundRatio_nearest (a : Int) {b : Int} (hb : b ≠ 0) :
    2 * |roundRatio a b * b - a| ≤ |b| ∧ (2 * |roundRatio a b * b - a| = |b| → |a| < |roundRatio a b * b|) := by
  have side := roundRatio_mul_same_side a b
  have magnitude : (roundRatio a b * b).natAbs = (2 * a.natAbs + b.natAbs) / (2 * b.natAbs) * b.natAbs := by
    rw [Int.natAbs_mul, natAbs_roundRatio]
  have near := nearest_quotient a.natAbs (Int.natAbs_pos.mpr hb)
  rw [← magnitude] at near
  simp only [Int.abs_eq_natAbs]
  omega

/-! ### Field scaling (R4, R5) -/

theorem scaleRaw_within {c : PointConfig} {r : Int} (hlo : min c.rawLo c.rawHi ≤ r) (hhi : r ≤ max c.rawLo c.rawHi) :
    let span := c.rawHi - c.rawLo
    let eng := roundRatio (c.engLo * span + (r - c.rawLo) * (c.engHi - c.engLo)) span
    scaleRaw c r = some (c.cls.clamp eng, decide (c.cls.clamp eng ≠ eng)) := if_pos ⟨hlo, hhi⟩

/-- The end of the scaling span that a raw value outside it is nearer to. -/
def nearerEnd (c : PointConfig) (r : Int) : Int :=
  if r < min c.rawLo c.rawHi then min c.rawLo c.rawHi else max c.rawLo c.rawHi

theorem scaleRaw_outside {c : PointConfig} {r : Int} (h : r < min c.rawLo c.rawHi ∨ max c.rawLo c.rawHi < r) :
    scaleRaw c r = if |r - nearerEnd c r| ≤ c.faultBand then
      some (c.cls.clamp (if nearerEnd c r = c.rawLo then c.engLo else c.engHi), true) else none := by
  have distance : (if r < min c.rawLo c.rawHi then min c.rawLo c.rawHi - r else r - max c.rawLo c.rawHi) =
      |r - nearerEnd c r| := by
    rw [nearerEnd, Int.abs_eq_natAbs]
    split
    · omega
    · omega
  rw [scaleRaw, if_neg (by omega), distance]
  rfl

/-! ### Reads of a point (R6, R7) -/

theorem Quality.isFailed_iff (q : Quality) : q.isFailed = true ↔ q = .failed ∨ q = .subst := by
  cases q <;> decide

theorem Point.goodRead_of_failed {p : Point} (v : Int) (clamped : Bool) (h : p.quality.isFailed = true) :
    p.goodRead v clamped = { p with lastRead := some ⟨v, 0, clamped⟩, lastAttemptOk := true, clampedFlag := clamped } :=
  if_pos h

theorem Point.goodRead_of_not_failed {p : Point} (v : Int) (clamped : Bool) (h : ¬ p.quality.isFailed = true) :
    p.goodRead v clamped = { p with lastRead := some ⟨v, 0, clamped⟩, lastAttemptOk := true, clampedFlag := clamped,
                                    quality := .good, value := some v, age := 0 } :=
  if_neg h

theorem Point.failedRead_failCount {p : Point} (h : p.failCount ≤ p.cfg.failLimit) :
    p.failedRead.failCount = min p.cfg.failLimit (p.failCount + 1) := by
  unfold Point.failedRead
  dsimp only
  split <;> omega

theorem Point.failedRead_recoveryTimer_of_zero {p : Point} (h : p.failCount = 0) (hlimit : 1 ≤ p.cfg.failLimit) :
    p.failedRead.recoveryTimer = some (p.cfg.recoveryPeriod * 1000) :=
  if_pos ⟨h, by rw [if_neg (by omega), h]⟩

theorem Point.failedRead_recoveryTimer_of_ne_zero {p : Point} (h : p.failCount ≠ 0) :
    p.failedRead.recoveryTimer = p.recoveryTimer := if_neg fun both => h both.1

theorem Point.failedRead_quality_of_failed {p : Point} (h : p.quality.isFailed = true) :
    p.failedRead.quality = p.quality := if_pos h

theorem Point.failedRead_quality_at_limit {p : Point} (h : ¬ p.quality.isFailed = true)
    (hcount : p.failedRead.failCount = p.cfg.failLimit) : p.failedRead.quality = p.failedQuality :=
  (if_neg h).trans (if_pos hcount)

theorem Point.failedRead_quality_below_limit {p : Point} (h : ¬ p.quality.isFailed = true)
    (hcount : p.failedRead.failCount ≠ p.cfg.failLimit) :
    p.failedRead.quality = if p.quality = .good then .held else p.quality :=
  (if_neg h).trans (if_neg hcount)

theorem Point.failedQuality_of_substitute {p : Point} (h : p.cfg.substitute.isSome = true) : p.failedQuality = .subst :=
  if_pos h

theorem Point.failedQuality_of_no_substitute {p : Point} (h : p.cfg.substitute = none) : p.failedQuality = .failed :=
  if_neg (by rw [h]; exact Bool.false_ne_true)

end Sys2Proof.Machine

/-! ### The statements -/

open Sys2Proof Sys2Proof.Machine

/-- Settles O17: within the span by what rounding does, outside it by the distance from the nearer end. -/
theorem fieldScaling : Obligations.FieldScaling := by
  intro c r hends
  refine ⟨fun hlo hhi => ?_, fun outside => ?_⟩
  · exact ⟨_, scaleRaw_within hlo hhi, roundRatio_nearest _ (sub_ne_zero.mpr hends.symm)⟩
  · exact ⟨fun within => (scaleRaw_outside outside).trans (if_pos within),
      fun beyond => (scaleRaw_outside outside).trans (if_neg beyond.not_ge)⟩

/-- Settles O14: by whether the point is failed, and for a failed read by whether the count has reached the limit. -/
theorem aReadOfAPoint : Obligations.AReadOfAPoint := by
  refine ⟨fun p v clamped => ?_, fun p hcount hlimit => ?_⟩
  · by_cases h : p.quality.isFailed = true
    · have hq := p.quality.isFailed_iff.mp h
      rw [Point.goodRead_of_failed v clamped h]
      exact ⟨rfl, rfl, rfl, rfl, rfl, rfl, fun hf hs => (hq.elim hf hs).elim, fun _ => ⟨rfl, rfl, rfl⟩⟩
    · have hq := mt p.quality.isFailed_iff.mpr h
      rw [Point.goodRead_of_not_failed v clamped h]
      exact ⟨rfl, rfl, rfl, rfl, rfl, rfl, fun _ _ => ⟨rfl, rfl, rfl⟩, fun hf => absurd hf hq⟩
  · refine ⟨rfl, rfl, rfl, rfl, rfl, rfl, Point.failedRead_failCount hcount,
      fun h => Point.failedRead_recoveryTimer_of_zero h hlimit, Point.failedRead_recoveryTimer_of_ne_zero,
      fun h => Point.failedRead_quality_of_failed (p.quality.isFailed_iff.mpr h), fun hf hs => ?_⟩
    have h : ¬ p.quality.isFailed = true := fun h => (p.quality.isFailed_iff.mp h).elim hf hs
    refine ⟨fun full hsub => ?_, fun full hsub => ?_, fun below hgood => ?_, fun below hgood => ?_⟩
    · exact (Point.failedRead_quality_at_limit h full).trans (Point.failedQuality_of_substitute hsub)
    · exact (Point.failedRead_quality_at_limit h full).trans (Point.failedQuality_of_no_substitute hsub)
    · exact (Point.failedRead_quality_below_limit h below).trans (if_pos hgood)
    · exact (Point.failedRead_quality_below_limit h below).trans (if_neg hgood)
end

section
/-! PROOFS. Silica and calcite arithmetic (chapter 04): the two ratios (R76, R80), the solubility (R75) and the silica floor (R77). -/

namespace Sys2Proof.Machine

/-! ### Rounding half up and ceiling division -/

theorem le_roundHalfUp_iff {a b q : Int} (hb : 0 < b) : q ≤ roundHalfUp a b ↔ 2 * b * q ≤ 2 * a + b := by
  rw [roundHalfUp, Int.le_ediv_iff_mul_le (by omega), mul_comm q]

theorem roundHalfUp_le_roundHalfUp {a a' b : Int} (hb : 0 < b) (h : a ≤ a') : roundHalfUp a b ≤ roundHalfUp a' b :=
  Int.ediv_le_ediv (by omega) (by omega)

theorem roundHalfUp_nonneg {a b : Int} (ha : 0 ≤ a) (hb : 0 < b) : 0 ≤ roundHalfUp a b :=
  (le_roundHalfUp_iff hb).mpr (by omega)

theorem roundHalfUp_bounds (a : Int) {b : Int} (hb : 0 < b) :
    2 * b * roundHalfUp a b ≤ 2 * a + b ∧ 2 * a + b < 2 * b * (roundHalfUp a b + 1) :=
  ⟨(le_roundHalfUp_iff hb).mp le_rfl, not_le.mp fun h => (lt_add_one _).not_ge ((le_roundHalfUp_iff hb).mpr h)⟩

theorem ceilDiv_le_iff {a b q : Int} (hb : 0 < b) : ceilDiv a b ≤ q ↔ a ≤ q * b := by
  rw [ceilDiv, ← Int.lt_add_one_iff, Int.ediv_lt_iff_lt_mul hb, add_mul]
  omega

theorem lt_ceilDiv_iff {a b q : Int} (hb : 0 < b) : q < ceilDiv a b ↔ q * b < a := by
  rw [← not_le, ceilDiv_le_iff hb, not_le]

/-- The ceiling of a / b is the one integer that is at least a / b while its predecessor is below. -/
theorem ceilDiv_eq_of_bounds {a b q : Int} (hb : 0 < b) (below : (q - 1) * b < a) (above : a ≤ q * b) : ceilDiv a b = q :=
  le_antisymm ((ceilDiv_le_iff hb).mpr above) (Int.le_of_sub_one_lt ((lt_ceilDiv_iff hb).mpr below))

theorem clamp_zero_of_nonneg {hi v : Int} (hhi : 0 ≤ hi) (hv : 0 ≤ v) : clamp 0 hi v = min hi v :=
  max_eq_right (le_min hhi hv)

/-- The shape of both ratios (R76, R80): a value rounded half up and clamped to 9999. -/
theorem ratio_rounded {c d : Int} (hc : 0 ≤ c) (hd : 0 < d) :
    ∃ q, clamp 0 9999 (roundHalfUp (1000 * c) d) = min 9999 q ∧ 2 * d * q ≤ 2000 * c + d ∧ 2000 * c + d < 2 * d * (q + 1) := by
  have bounds := roundHalfUp_bounds (1000 * c) hd
  rw [show 2 * (1000 * c) = 2000 * c by ring] at bounds
  exact ⟨_, clamp_zero_of_nonneg (by decide) (roundHalfUp_nonneg (by omega) hd), bounds⟩

/-! ### The solubility table (section 4.3) -/

theorem silicaAt_lt_silicaAt : ∀ j < 14, ∀ i < j, silicaAt i < silicaAt j := by decide

/-- Two neighbouring values of the table are the ends of one of its 13 segments. -/
theorem silicaTable_segment {i : Nat} {lo hi : Int} (hlo : silicaTable[i]? = some lo) (hhi : silicaTable[i + 1]? = some hi) :
    i < 13 ∧ lo = silicaAt i ∧ hi = silicaAt (i + 1) := by
  have inside : i + 1 < 14 := (List.getElem?_eq_some_iff.mp hhi).1
  refine ⟨by omega, ?_, ?_⟩ <;> simp only [silicaAt, List.getD_eq_getElem?_getD, hlo, hhi, Option.getD_some]

/-! ### The solubility (R75) -/

theorem solubility_of_neg {x : Int} (h : x < 0) : solubility x = 70 := if_pos h

theorem solubility_of_ge {x : Int} (h : 26000 ≤ x) : solubility x = 1409 := by
  rw [solubility, if_neg (by omega), if_pos h]

/-- The interpolation between two neighbouring values of the table. -/
def interpolated (i : Nat) (x : Int) : Int :=
  silicaAt i + roundHalfUp ((silicaAt (i + 1) - silicaAt i) * (x - 2000 * i)) 2000

theorem interpolated_mono {i : Nat} (hi : i < 13) {x y : Int} (h : x ≤ y) : interpolated i x ≤ interpolated i y := by
  have rising := silicaAt_lt_silicaAt (i + 1) (by omega) i (by omega)
  exact add_le_add_right (roundHalfUp_le_roundHalfUp (by decide) (mul_le_mul_of_nonneg_left (by omega) (by omega))) _

theorem interpolated_start (i : Nat) : interpolated i (2000 * i) = silicaAt i := by
  rw [interpolated, sub_self, mul_zero]
  exact add_zero _

theorem interpolated_end (i : Nat) : interpolated i (2000 * (i + 1)) = silicaAt (i + 1) := by
  rw [interpolated, roundHalfUp]
  omega

theorem solubility_of_segment {i : Nat} {x : Int} (hi : i < 13) (hlo : 2000 * (i : Int) ≤ x) (hhi : x < 2000 * (i + 1)) :
    solubility x = interpolated i x := by
  have index : (x / 2000).toNat = i := by omega
  rw [solubility, if_neg (by omega), if_neg (by omega), index, interpolated]

/-- The interpolation meets the next one at the end it shares with it, so it gives the solubility there too. -/
theorem solubility_of_closed_segment {i : Nat} {x : Int} (hi : i < 13) (hlo : 2000 * (i : Int) ≤ x)
    (hhi : x ≤ 2000 * (i + 1)) : solubility x = interpolated i x := by
  obtain inside | rfl := hhi.lt_or_eq
  · exact solubility_of_segment hi hlo inside
  · rw [interpolated_end]
    obtain last | next : i = 12 ∨ i + 1 < 13 := by omega
    · subst last
      exact solubility_of_ge (by decide)
    · rw [← interpolated_start (i + 1)]
      exact solubility_of_segment next (by omega) (by omega)

/-- One TEMP unit never leaves the range below the table, a closed segment of it, or the range above it. -/
theorem solubility_le_succ (x : Int) : solubility x ≤ solubility (x + 1) := by
  obtain below | atZero | inside | above : x < -1 ∨ x = -1 ∨ (0 ≤ x ∧ x < 26000) ∨ 26000 ≤ x := by omega
  · rw [solubility_of_neg (by omega), solubility_of_neg (by omega)]
  · subst atZero
    decide
  · obtain ⟨i, hi, hlo, hhi⟩ : ∃ i : Nat, i < 13 ∧ 2000 * (i : Int) ≤ x ∧ x < 2000 * (i + 1) :=
      ⟨(x / 2000).toNat, by omega, by omega, by omega⟩
    rw [solubility_of_closed_segment hi hlo hhi.le, solubility_of_closed_segment hi (by omega) (by omega)]
    exact interpolated_mono hi (by omega)
  · rw [solubility_of_ge above, solubility_of_ge (by omega)]

theorem solubility_mono : Monotone solubility := monotone_int_of_le_succ solubility_le_succ

theorem le_solubility (x : Int) : 70 ≤ solubility x :=
  calc 70 = solubility (min x (-1)) := (solubility_of_neg (by omega)).symm
    _ ≤ solubility x := solubility_mono (min_le_left _ _)

theorem solubility_le (x : Int) : solubility x ≤ 1409 :=
  calc solubility x ≤ solubility (max x 26000) := solubility_mono (le_max_left _ _)
    _ = 1409 := solubility_of_ge (le_max_right _ _)

/-! ### The silica floor (R77) -/

/-- The first index at which the table reaches the required solubility is that of the segment the requirement lies in. -/
theorem findIdx?_silicaTable {j : Nat} {need : Int} (hj : j < 13) (hlo : silicaAt j < need) (hhi : need ≤ silicaAt (j + 1)) :
    (silicaTable.drop 1).findIdx? (fun v => decide (need ≤ v)) = some j := by
  have entry (i : Nat) (h : i < (silicaTable.drop 1).length) : (silicaTable.drop 1)[i] = silicaAt (i + 1) := by
    rw [List.getElem_drop, ← List.getD_eq_getElem _ 1409, add_comm 1 i, silicaAt]
  have length : (silicaTable.drop 1).length = 13 := rfl
  refine List.findIdx?_eq_some_iff_getElem.mpr ⟨hj.trans_eq length.symm, ?_, fun i hij => ?_⟩
  · rw [entry]
    exact decide_eq_true hhi
  · rw [entry, decide_eq_true_iff, not_le]
    obtain before | last : i + 1 < j ∨ i + 1 = j := by omega
    · exact (silicaAt_lt_silicaAt j (by omega) _ before).trans hlo
    · exact last ▸ hlo

theorem silicaFloor_of_low {c : Int} {onset : Nat} (h : ceilDiv (1000 * c) onset ≤ 70) : silicaFloor c onset = (0, false) :=
  if_pos h

theorem silicaFloor_of_high {c : Int} {onset : Nat} (h : 1409 < ceilDiv (1000 * c) onset) :
    silicaFloor c onset = (26000, true) := by
  rw [silicaFloor, if_neg (by omega), if_pos h]

theorem silicaFloor_of_segment {c : Int} {onset j : Nat} (hj : j < 13) (hlow : 70 < ceilDiv (1000 * c) onset)
    (hhigh : ceilDiv (1000 * c) onset ≤ 1409) (hlo : silicaAt j < ceilDiv (1000 * c) onset)
    (hhi : ceilDiv (1000 * c) onset ≤ silicaAt (j + 1)) :
    silicaFloor c onset =
      (2000 * j + ceilDiv ((ceilDiv (1000 * c) onset - silicaAt j) * 2000) (silicaAt (j + 1) - silicaAt j), false) := by
  rw [silicaFloor, if_neg (by omega), if_neg (by omega), findIdx?_silicaTable hj hlo hhi, Option.getD_some]

/-- A temperature far enough into a segment for the requirement has the solubility required. -/
theorem le_interpolated {j : Nat} {need x : Int}
    (h : (need - silicaAt j) * 2000 ≤ (x - 2000 * j) * (silicaAt (j + 1) - silicaAt j)) : need ≤ interpolated j x := by
  rw [mul_comm (x - 2000 * j)] at h
  exact sub_le_iff_le_add'.mp ((le_roundHalfUp_iff (by decide)).mpr (by omega))

/-- The division within a segment: the offset it gives lies in the segment, is the least that suffices, and the solubility there
is at least the one required. -/
theorem segment_offset {j : Nat} {need : Int} (hj : j < 13) (hlo : silicaAt j < need) (hhi : need ≤ silicaAt (j + 1)) :
    let gap := silicaAt (j + 1) - silicaAt j
    let x := 2000 * j + ceilDiv ((need - silicaAt j) * 2000) gap
    need ≤ solubility x ∧ (x - 2000 * j - 1) * gap < (need - silicaAt j) * 2000 ∧
      (need - silicaAt j) * 2000 ≤ (x - 2000 * j) * gap := by
  intro gap x
  have gap_pos : 0 < gap := by omega
  have offset : x - 2000 * j = ceilDiv ((need - silicaAt j) * 2000) gap := add_sub_cancel_left _ _
  have enough : (need - silicaAt j) * 2000 ≤ (x - 2000 * j) * gap := (ceilDiv_le_iff gap_pos).mp offset.ge
  have least : (x - 2000 * j - 1) * gap < (need - silicaAt j) * 2000 := (lt_ceilDiv_iff gap_pos).mp (by omega)
  have started : 0 < x - 2000 * j := offset ▸ (lt_ceilDiv_iff gap_pos).mpr (by omega)
  have within_segment : x - 2000 * j ≤ 2000 := offset ▸ (ceilDiv_le_iff gap_pos).mpr (by omega)
  refine ⟨?_, least, enough⟩
  rw [solubility_of_closed_segment hj (by omega) (by omega)]
  exact le_interpolated enough

end Sys2Proof.Machine

/-! ### The statement -/

open Sys2Proof.Machine

/-- Settles O45: the solubility by its three ranges and by its steps of one TEMP unit, the ratios by what rounding half up does,
and the floor by the segment in which the required solubility lies. -/
theorem scalingArithmetic : Obligations.ScalingArithmetic := by
  refine ⟨rfl, fun x => ⟨solubility_of_neg, solubility_of_ge, ?_⟩,
    fun x y => ⟨le_solubility x, solubility_le x, fun h => solubility_mono h⟩,
    fun c x hc => ratio_rounded hc (by linarith [le_solubility x]),
    fun flash p hflash _ => ⟨fun hp => if_pos hp, fun hp => ?_⟩, ?_⟩
  · intro i lo hi hlo hhi hfrom hto
    obtain ⟨inside, rfl, rfl⟩ := silicaTable_segment hlo hhi
    exact ⟨_, solubility_of_segment inside hfrom hto, roundHalfUp_bounds _ (by decide)⟩
  · rw [calciteRatio, if_neg hp.ne']
    exact ratio_rounded hflash hp
  · intro c need onset _ honset below above
    have required : ceilDiv (1000 * c) onset = need := ceilDiv_eq_of_bounds (by omega) below above
    subst required
    refine ⟨silicaFloor_of_low, silicaFloor_of_high, fun hlow hhigh j lo hi hlo hhi hover hunder => ?_⟩
    obtain ⟨inside, rfl, rfl⟩ := silicaTable_segment hlo hhi
    exact ⟨_, silicaFloor_of_segment inside hlow hhigh hover hunder, segment_offset inside hover hunder⟩
end

section
/-! PROOFS. The frame check (R197): the check register as a linear map of its 16 bits, the Check bytes of a frame, and the frame
that fails its check. -/

namespace Sys2Proof.Machine

/-! ### One bit of the check register -/

theorem crcBit_eq (r : CheckRegister) : crcBit r = (r <<< 1) ^^^ (if r.msb then 0x1021#16 else 0#16) := by
  unfold crcBit
  split
  · rfl
  · rw [BitVec.xor_zero]

theorem crcBit_of_msb_true {r : CheckRegister} (h : r.msb = true) : crcBit r = (r <<< 1) ^^^ 0x1021#16 := if_pos h

theorem crcBit_of_msb_false {r : CheckRegister} (h : r.msb = false) : crcBit r = r <<< 1 :=
  if_neg (by rw [h]; exact Bool.false_ne_true)

@[simp] theorem crcBit_zero : crcBit 0 = 0 := rfl

theorem crcBit_xor (a b : CheckRegister) : crcBit (a ^^^ b) = crcBit a ^^^ crcBit b := by
  have feedback : (if (a ^^^ b).msb then 0x1021#16 else 0#16) =
      (if a.msb then 0x1021#16 else 0#16) ^^^ (if b.msb then 0x1021#16 else 0#16) := by
    rw [BitVec.msb_xor]
    cases a.msb <;> cases b.msb <;> rfl
  rw [crcBit_eq, crcBit_eq a, crcBit_eq b, feedback, BitVec.shiftLeft_xor_distrib]
  ac_rfl

/-- Nothing is lost in a bit: a bit shifted out leaves the polynomial behind, whose lowest bit is set. -/
theorem crcBit_eq_zero_iff {r : CheckRegister} : crcBit r = 0 ↔ r = 0 := by
  refine ⟨fun h => ?_, fun h => h ▸ crcBit_zero⟩
  cases hm : r.msb with
  | true =>
    have lowest : (crcBit r).getLsbD 0 = true := by simp [crcBit_of_msb_true hm]
    rw [h] at lowest
    exact absurd lowest (by decide)
  | false =>
    have small : 2 * r.toNat < 2 ^ 16 := BitVec.msb_eq_false_iff_two_mul_lt.mp hm
    have doubled : r.toNat <<< 1 % 2 ^ 16 = 0 := by
      rw [← BitVec.toNat_shiftLeft, ← crcBit_of_msb_false hm, h]
      rfl
    rw [Nat.shiftLeft_eq, Nat.mod_eq_of_lt (by omega)] at doubled
    exact BitVec.eq_of_toNat_eq (show r.toNat = 0 by omega)

/-! ### Several bits of the check register -/

theorem repeat_crcBit_xor (n : Nat) (a b : CheckRegister) :
    Nat.repeat crcBit n (a ^^^ b) = Nat.repeat crcBit n a ^^^ Nat.repeat crcBit n b := by
  induction n with
  | zero => rfl
  | succ n ih => simp only [Nat.repeat, ih, crcBit_xor]

theorem repeat_crcBit_eq_zero_iff {n : Nat} {r : CheckRegister} : Nat.repeat crcBit n r = 0 ↔ r = 0 := by
  induction n with
  | zero => rfl
  | succ n ih => rw [Nat.repeat, crcBit_eq_zero_iff, ih]

/-- A byte in the low half of the register reaches the high half without meeting the polynomial. -/
theorem repeat_crcBit_byte (b : Byte) {n : Nat} (hn : n ≤ 8) :
    Nat.repeat crcBit n (b.setWidth 16) = b.setWidth 16 <<< n := by
  induction n with
  | zero => rw [Nat.repeat, BitVec.shiftLeft_zero]
  | succ n ih =>
    have top : (b.setWidth 16 <<< n).msb = false := by
      simp [BitVec.msb_eq_getLsbD_last, BitVec.getLsbD_of_ge b (15 - n) (by omega)]
    rw [Nat.repeat, ih (by omega), crcBit_of_msb_false top, BitVec.shiftLeft_add]

/-! ### Bytes -/

theorem crcByte_eq (r : CheckRegister) (b : Byte) : crcByte r b = Nat.repeat crcBit 8 (r ^^^ (b.setWidth 16 <<< 8)) := rfl

theorem crcOf_append_byte (bytes : List Byte) (b : Byte) :
    crcOf (bytes ++ [b]) = Nat.repeat crcBit 8 (crcOf bytes ^^^ (b.setWidth 16 <<< 8)) := by
  rw [crcOf, List.foldl_append]
  exact crcByte_eq (crcOf bytes) b

/-- A word of two bytes is the first of them taken into the register, then the second in its low half. -/
theorem append_eq_xor (high low : Byte) : high ++ low = (high.setWidth 16 <<< 8) ^^^ low.setWidth 16 := by
  refine BitVec.eq_of_getLsbD_eq fun i (hi : i < 16) => BitVec.getLsbD_append.trans ?_
  by_cases inLow : i < 8
  · simp [inLow, hi]
  · simp [inLow, hi, BitVec.getLsbD_of_ge low i (by omega)]

/-- The check value R197 names: the register over the nine digits. -/
theorem crcOf_digits : crcOf [0x31, 0x32, 0x33, 0x34, 0x35, 0x36, 0x37, 0x38, 0x39] = 0x29B1#16 := by
  simp [crcOf, crcByte, crcBit_of_msb_true, crcBit_of_msb_false, BitVec.msb_eq_decide]

/-- Two bytes are taken as the one word they make, high byte first. -/
theorem crcOf_append_word (bytes : List Byte) (high low : Byte) :
    crcOf (bytes ++ [high, low]) = Nat.repeat crcBit 8 (Nat.repeat crcBit 8 (crcOf bytes ^^^ (high ++ low))) := by
  have both : bytes ++ [high, low] = bytes ++ [high] ++ [low] := by rw [List.append_assoc]; rfl
  rw [both, crcOf_append_byte, crcOf_append_byte, ← repeat_crcBit_byte low le_rfl, ← repeat_crcBit_xor, append_eq_xor,
    BitVec.xor_assoc]

/-- The register over a frame and its Check bytes ends at 0 exactly where they are the register over the frame. -/
theorem crcOf_append_eq_zero_iff (bytes : List Byte) (high low : Byte) :
    crcOf (bytes ++ [high, low]) = 0 ↔ crcOf bytes = high ++ low := by
  rw [crcOf_append_word, repeat_crcBit_eq_zero_iff, repeat_crcBit_eq_zero_iff]
  exact BitVec.xor_eq_zero_iff

/-! ### Frames -/

/-- A word is sent as its two bytes, high byte first (R209). -/
theorem putWord_toNat (r : CheckRegister) : ∃ high low : Byte, putWord r.toNat = [high, low] ∧ high ++ low = r := by
  refine ⟨r.extractLsb' 8 8, r.extractLsb' 0 8, ?_,
    (BitVec.extractLsb'_append_extractLsb'_eq_extractLsb' rfl).trans BitVec.extractLsb'_eq_self⟩
  simp [putWord, Wire.putNat, BitVec.extractLsb', Nat.shiftRight_eq_div_pow]

theorem lengthByte_of_le {body : List Byte} (h : body.length ≤ 240) : lengthByte body = BitVec.ofNat 8 (body.length + 2) :=
  if_pos h

/-- The state after a whole frame is discarded: the receiver hunts again and the frame is counted. -/
def discardHeld (s : State) : State := discardFrame (s.modLink fun l => { l with receiver := l.receiver.hunt })

theorem judgeHeld_of_check_failed {s : State} (hwhole : s.link.receiver.complete = true)
    (hfail : crcOf s.link.receiver.bytes ≠ 0) : judgeHeld s = discardHeld s := by
  rw [judgeHeld, if_pos hwhole, judge, if_neg hfail, discardHeld]

theorem discardHeld_only (s : State) : Only [.receiver, .discards] s (discardHeld s) := by
  intro p hp
  cases p
  case receiver => simp at hp
  case discards => simp at hp
  all_goals rfl

/-- FRAME_JUDGED of a frame that fails its check (R197). -/
theorem frameJudged_discards {s : State} (hrun : Running s) (hwhole : s.link.receiver.complete = true)
    (hfail : crcOf s.link.receiver.bytes ≠ 0) :
    Happens .frameJudged s [.receiver, .discards] (fun t =>
      t.link.receiver = s.link.receiver.hunt ∧ t.link.discardCount = satSucc 65535 s.link.discardCount) := by
  have judged := judgeHeld_of_check_failed hwhole hfail
  obtain ⟨t, ends, settled, frame⟩ := event_completes judgeHeld hrun (judged ▸ discardHeld_only s) (by decide) (by decide)
    (by decide) (by decide)
  rw [judged] at settled
  exact ⟨t, ends, ⟨settled .receiver (by decide), settled .discards (by decide)⟩, frame⟩

end Sys2Proof.Machine

/-! ### The statement -/

open Sys2Proof Sys2Proof.Machine

/-- Settles O9: the Check bytes by the linearity of the register, the failed frame by the frame of its discarding. -/
theorem theCheckIsTheSpecs : Obligations.TheCheckIsTheSpecs := by
  refine ⟨rfl, crcOf_append_byte, crcBit_eq, crcOf_digits, crcOf_append_eq_zero_iff, fun f => ?_,
    fun s length kind tag rest hrun hwhole _ hfail => frameJudged_discards hrun hwhole hfail⟩
  obtain ⟨high, low, sent, check⟩ := putWord_toNat (crcOf (lengthByte f.body :: f.kind :: f.tag :: f.body))
  exact ⟨lengthByte f.body, high, low, lengthByte_of_le, by rw [← sent]; rfl, check⟩
end

section
/-! PROOFS. The frame of every request's owner and of every event of the field: which parts of the state it can change. -/

namespace Sys2Proof.Machine

-- One after the other: see Laws/Frames.lean.
set_option Elab.async false

/-- The parts of the state that the owner of a request can change. -/
def owned : Request → List Part
  | .setClock _ => [.clock]
  | .configurePoint _ | .writePoint _ _ | .setSubstitute _ _ => [.points]
  | .configureLine _ | .editEntry _ _ _ | .insertEntry _ _ _ | .removeEntry _ _ | .clearStaged _ | .resetLine _ => [.lines]
  | .swapSchedule _ => [.lines, .drives]
  | .configureDiscrete _ => [.discretes, .points, .wells, .turbine, .drives, .constraints]
  | .setDiscrete _ _ | .readDiscrete | .clearEdges _ => [.discretes]
  | .configureWell _ => [.wells, .drives, .constraints]
  | .start _ | .setTarget _ _ | .wellResetTrip _ | .unlock _ => [.wells]
  | .stop _ => [.wells, .drives]
  | .configureTurbine _ => [.speedUnit, .turbine, .drives, .constraints]
  | .roll | .unload => [.turbine, .drives]
  | .setMode _ | .setLoad _ => [.turbine]
  | .trip | .turbineResetTrip => [.turbine, .drives, .constraints]
  | .configureHeating _ => [.heating, .constraints]
  | .setCurve _ | .heatingOn => [.heating]
  | .heatingOff => [.heating, .turbine, .drives]
  | .configureSite _ | .siteEnable _ | .markCleaned _ | .restoreDose _ _ => [.sites]
  | .siteDisable _ => [.sites, .constraints]
  | .postLimit _ _ _ | .withdrawLimit _ _ => [.constraints]
  | .releaseSnapshot _ => [.conditions]
  | .setMasks _ _ | .silence => [.conditions, .discretes]
  | .armSupervision _ _ _ | .resume => [.supervision, .constraints]
  | .commission => [.phase, .monitor]
  | .decommission => [.phase, .monitor, .sites, .constraints, .drives]
  | .softReset => [.resetPending]
  | .identify | .readPoints _ _ | .readLine _ _ | .readWell _ | .readTurbine | .readHeating | .readSite _ _
  | .readConstraints _ | .readConditions => []

/-! ### Owners of requests -/

theorem ownSetClock_only (n : Nat) (s : State) : Only [.clock] s (ownSetClock n s).1 := by
  unfold ownSetClock
  split
  · exact Only.refl _ s
  · intro p hp; cases p <;> first | rfl | simp at hp

theorem ownConfigurePoint_only (q : PointFields) (s : State) : Only [.points] s (ownConfigurePoint q s).1 := by
  unfold ownConfigurePoint
  repeat' split
  all_goals first | exact Only.refl _ s | exact s.modPoint_only _ _

theorem ownWritePoint_only (p : Nat) (v : Int) (s : State) : Only [.points] s (ownWritePoint p v s).1 := by
  unfold ownWritePoint
  repeat' split
  all_goals first | exact Only.refl _ s | exact s.modPoint_only _ _

theorem ownSetSubstitute_only (p : Nat) (v : Option Int) (s : State) : Only [.points] s (ownSetSubstitute p v s).1 := by
  unfold ownSetSubstitute
  repeat' split
  all_goals first | exact Only.refl _ s | exact s.modPoint_only _ _

theorem ownReadPoints_fst (first count : Nat) (s : State) : (ownReadPoints first count s).1 = s := by
  unfold ownReadPoints; split <;> rfl

theorem ownConfigureLine_only (q : LineFields) (s : State) : Only [.lines] s (ownConfigureLine q s).1 := by
  unfold ownConfigureLine
  repeat' split
  all_goals first | exact Only.refl _ s | exact s.modLine_only _ _

theorem applyEdit_only (i : Fin 3) (l : List Entry) (c : List Byte) (s : State) : Only [.lines] s (applyEdit i l c s).1 := by
  unfold applyEdit
  dsimp only
  repeat' split
  all_goals first | exact Only.refl _ s | exact s.modLine_only _ _

theorem ownEditEntry_only (l p : Nat) (q : EntryFields) (s : State) : Only [.lines] s (ownEditEntry l p q s).1 := by
  unfold ownEditEntry
  dsimp only
  repeat' split
  all_goals first | exact Only.refl _ s | exact applyEdit_only _ _ _ s

theorem ownInsertEntry_only (l p : Nat) (q : EntryFields) (s : State) : Only [.lines] s (ownInsertEntry l p q s).1 := by
  unfold ownInsertEntry
  dsimp only
  repeat' split
  all_goals first | exact Only.refl _ s | exact applyEdit_only _ _ _ s

theorem ownRemoveEntry_only (l p : Nat) (s : State) : Only [.lines] s (ownRemoveEntry l p s).1 := by
  unfold ownRemoveEntry
  dsimp only
  repeat' split
  all_goals first | exact Only.refl _ s | exact applyEdit_only _ _ _ s

theorem ownClearStaged_only (l : Nat) (s : State) : Only [.lines] s (ownClearStaged l s).1 := by
  unfold ownClearStaged
  split
  · exact Only.refl _ s
  · exact applyEdit_only _ _ _ s

theorem ownSwapSchedule_only (l : Nat) (s : State) : Only [.lines, .drives] s (ownSwapSchedule l s).1 := by
  unfold ownSwapSchedule
  split
  · exact Only.refl _ s
  · rename_i i _
    split
    · exact Only.refl _ s
    · split
      · exact Only.refl _ s
      · split
        · exact swapLine_only i s
        · exact (s.modLine_only i _).mono (by decide)

theorem ownResetLine_only (l : Nat) (s : State) : Only [.lines] s (ownResetLine l s).1 := by
  unfold ownResetLine
  split
  · exact Only.refl _ s
  · exact s.modLine_only _ _

theorem ownReadLine_fst (l v : Nat) (s : State) : (ownReadLine l v s).1 = s := by
  unfold ownReadLine; split <;> rfl

theorem ownConfigureDiscrete_only (q : DiscreteFields) (s : State) :
    Only [.discretes, .points, .wells, .turbine, .drives, .constraints] s (ownConfigureDiscrete q s).1 := by
  unfold ownConfigureDiscrete
  repeat' split
  all_goals first | exact Only.refl _ s | exact storeDiscrete_only _ _ s

theorem ownSetDiscrete_only (l v : Nat) (s : State) : Only [.discretes] s (ownSetDiscrete l v s).1 := by
  unfold ownSetDiscrete
  dsimp only
  repeat' split
  all_goals first | exact Only.refl _ s | exact s.modDiscrete_only _ _

theorem setDiscretes_only (s : State) (v : Vector Discrete 24) : Only [.discretes] s { s with discretes := v } := by
  intro p hp; cases p <;> first | rfl | simp at hp

theorem ownReadDiscrete_only (s : State) : Only [.discretes] s (ownReadDiscrete s).1 := setDiscretes_only s _

theorem ownClearEdges_only (m : LineMask) (s : State) : Only [.discretes] s (ownClearEdges m s).1 := setDiscretes_only s _

theorem ownConfigureWell_only (q : WellFields) (s : State) :
    Only [.wells, .drives, .constraints] s (ownConfigureWell q s).1 := by
  unfold ownConfigureWell
  dsimp only
  repeat' split
  all_goals first | exact Only.refl _ s | exact storeWell_only _ _ s

theorem ownStart_only (w : Nat) (s : State) : Only [.wells] s (ownStart w s).1 := by
  unfold ownStart
  dsimp only
  repeat' split
  all_goals first | exact Only.refl _ s | exact s.modWell_only _ _

theorem ownStop_only (w : Nat) (s : State) : Only [.wells, .drives] s (ownStop w s).1 := by
  unfold ownStop
  split
  · exact Only.refl _ s
  · exact stopWell_only _ s

theorem ownSetTarget_only (w : Nat) (v : Int) (s : State) : Only [.wells] s (ownSetTarget w v s).1 := by
  unfold ownSetTarget
  split
  · exact Only.refl _ s
  · exact s.modWell_only _ _

theorem ownWellResetTrip_only (w : Nat) (s : State) : Only [.wells] s (ownWellResetTrip w s).1 := by
  unfold ownWellResetTrip
  repeat' split
  all_goals first | exact Only.refl _ s | exact s.modWell_only _ _

theorem ownUnlock_only (w : Nat) (s : State) : Only [.wells] s (ownUnlock w s).1 := by
  unfold ownUnlock
  repeat' split
  all_goals first | exact Only.refl _ s | exact s.modWell_only _ _

theorem ownReadWell_fst (w : Nat) (s : State) : (ownReadWell w s).1 = s := by
  unfold ownReadWell; split <;> rfl

theorem ownConfigureTurbine_only (q : TurbineFields) (s : State) :
    Only [.speedUnit, .turbine, .drives, .constraints] s (ownConfigureTurbine q s).1 := by
  unfold ownConfigureTurbine
  repeat' split
  all_goals first | exact Only.refl _ s | exact storeTurbine_only _ _ s

theorem ownRoll_only (s : State) : Only [.turbine, .drives] s (ownRoll s).1 := by
  unfold ownRoll
  repeat' split
  all_goals first | exact Only.refl _ s | exact passTurbine_only _ s

theorem ownSetMode_only (m : Nat) (s : State) : Only [.turbine] s (ownSetMode m s).1 := by
  unfold ownSetMode
  split
  · exact Only.refl _ s
  · exact s.modTurbine_only _

theorem ownTurbineResetTrip_only (s : State) : Only [.turbine, .drives, .constraints] s (ownTurbineResetTrip s).1 := by
  unfold ownTurbineResetTrip
  split
  · exact Only.refl _ s
  · exact (passTurbine_only _ s).seq (withdraw_only _ _)

theorem ownTrip_only (s : State) : Only [.turbine, .drives, .constraints] s (ownTrip s).1 :=
  tripOrLater_only .supervisoryTrip none s

theorem ownConfigureHeating_only (q : HeatingFields) (s : State) :
    Only [.heating, .constraints] s (ownConfigureHeating q s).1 := by
  unfold ownConfigureHeating
  repeat' split
  all_goals first | exact Only.refl _ s | exact storeHeating_only _ s

theorem ownSetCurve_only (c : List (Int × Int)) (s : State) : Only [.heating] s (ownSetCurve c s).1 := by
  unfold ownSetCurve
  split
  · exact s.modHeating_only _
  · exact Only.refl _ s

theorem ownHeatingOn_only (s : State) : Only [.heating] s (ownHeatingOn s).1 := by
  unfold ownHeatingOn
  repeat' split
  all_goals first | exact Only.refl _ s | exact s.modHeating_only _

theorem ownHeatingOff_only (s : State) : Only [.heating, .turbine, .drives] s (ownHeatingOff s).1 := by
  unfold ownHeatingOff
  split
  · exact Only.refl _ s
  · exact turnHeatingOff_only s

theorem ownConfigureSite_only (q : SiteFields) (s : State) : Only [.sites] s (ownConfigureSite q s).1 := by
  unfold ownConfigureSite
  repeat' split
  all_goals first | exact Only.refl _ s | exact s.modSite_only _ _

theorem ownSiteEnable_only (i : Nat) (s : State) : Only [.sites] s (ownSiteEnable i s).1 := by
  unfold ownSiteEnable
  repeat' split
  all_goals first | exact Only.refl _ s | exact s.modSite_only _ _

theorem ownSiteDisable_only (i : Nat) (s : State) : Only [.sites, .constraints] s (ownSiteDisable i s).1 := by
  unfold ownSiteDisable
  repeat' split
  all_goals first | exact Only.refl _ s | exact disableSite_only _ s

theorem ownMarkCleaned_only (i : Nat) (s : State) : Only [.sites] s (ownMarkCleaned i s).1 := by
  unfold ownMarkCleaned
  repeat' split
  all_goals first | exact Only.refl _ s | exact s.modSite_only _ _

theorem ownRestoreDose_only (i v : Nat) (s : State) : Only [.sites] s (ownRestoreDose i v s).1 := by
  unfold ownRestoreDose
  repeat' split
  all_goals first | exact Only.refl _ s | exact s.modSite_only _ _

theorem ownReadSite_fst (i : Nat) (v : SiteView) (s : State) : (ownReadSite i v s).1 = s := by
  unfold ownReadSite
  repeat' split
  all_goals rfl

theorem ownPostLimit_only (k w : Nat) (v : Int) (s : State) : Only [.constraints] s (ownPostLimit k w v s).1 := by
  unfold ownPostLimit
  repeat' split
  all_goals first | exact Only.refl _ s | exact post_only _ _ _ s

theorem ownWithdrawLimit_only (k w : Nat) (s : State) : Only [.constraints] s (ownWithdrawLimit k w s).1 := by
  unfold ownWithdrawLimit
  repeat' split
  all_goals first | exact Only.refl _ s | exact withdraw_only _ s

theorem ownReadConstraints_fst (v : Nat) (s : State) : (ownReadConstraints v s).1 = s := by
  unfold ownReadConstraints; split <;> rfl

theorem ownReleaseSnapshot_only (n : Nat) (s : State) : Only [.conditions] s (ownReleaseSnapshot n s).1 := by
  unfold ownReleaseSnapshot
  repeat' split
  all_goals first | exact Only.refl _ s | exact releaseHeld_only s

theorem storeHorn_only (h : Option MemberMask) (m : MemberSet) (s : State) :
    Only [.conditions, .discretes] s (storeHorn h m s) := (s.modConditions_only _).seq (settleAlarm_only _)

theorem ownSetMasks_only (w h : Option MemberMask) (s : State) : Only [.conditions, .discretes] s (ownSetMasks w h s).1 := by
  unfold ownSetMasks
  split
  · exact ((storeHorn_only _ _ s).trans (settleConditions_only _)).also (State.modConditions_only _ _)
  · exact Only.refl _ s

theorem ownSilence_only (s : State) : Only [.conditions, .discretes] s (ownSilence s).1 :=
  (s.modConditions_only _).seq (settleAlarm_only _)

theorem ownArmSupervision_only (p h : Nat) (v : Int) (s : State) :
    Only [.supervision, .constraints] s (ownArmSupervision p h v s).1 := by
  have store (f : Supervision → Supervision) : Only [.supervision, .constraints] s (s.modSupervision f) :=
    (s.modSupervision_only f).mono (by decide)
  unfold ownArmSupervision armAnswer
  dsimp only
  repeat' split
  all_goals first | exact Only.refl _ s | exact store _ | exact (s.modSupervision_only _).seq (post_only _ _ _ _)

theorem ownResume_only (s : State) : Only [.supervision, .constraints] s (ownResume s).1 :=
  Only.ite (resumeSupervision_only s) (Only.refl _ s)

theorem setRun_only (s : State) : Only [.phase, .monitor] s { startMonitor s with phase := .run } := by
  intro p hp; cases p <;> first | rfl | simp at hp

theorem ownCommission_only (s : State) : Only [.phase, .monitor] s (ownCommission s).1 := by
  unfold ownCommission
  repeat' split
  all_goals first | exact Only.refl _ s | exact setRun_only s

theorem setConfig_only (s : State) : Only [.phase] s { s with phase := .config } := by
  intro p hp; cases p <;> first | rfl | simp at hp

theorem ownDecommission_only (s : State) :
    Only [.phase, .monitor, .sites, .constraints, .drives] s (ownDecommission s).1 := by
  unfold ownDecommission
  split
  · exact Only.refl _ s
  · split
    · exact Only.refl _ s
    · exact (setConfig_only s).seq (stopMonitor_only _)

theorem setResetPending_only (s : State) (b : Bool) :
    Only [.resetPending] s (s.modLink (fun l => { l with softResetPending := b })) := by
  intro p hp; cases p <;> first | rfl | simp at hp

theorem ownSoftReset_only (s : State) : Only [.resetPending] s (ownSoftReset s).1 := by
  unfold ownSoftReset
  split
  · exact Only.refl _ s
  · exact setResetPending_only s true

/-- The owner of a request changes no part but those it owns. -/
theorem applyRequest_only (r : Request) (s : State) : Only (owned r) s (applyRequest r s).1 := by
  have same {t : State} (h : t = s) : Only [] s t := by rw [h]; exact Only.refl _ s
  cases r with
  | identify => exact Only.refl _ s
  | setClock n => exact ownSetClock_only n s
  | configurePoint q => exact ownConfigurePoint_only q s
  | readPoints a b => exact same (ownReadPoints_fst a b s)
  | writePoint p v => exact ownWritePoint_only p v s
  | setSubstitute p v => exact ownSetSubstitute_only p v s
  | configureLine q => exact ownConfigureLine_only q s
  | editEntry l p q => exact ownEditEntry_only l p q s
  | insertEntry l p q => exact ownInsertEntry_only l p q s
  | removeEntry l p => exact ownRemoveEntry_only l p s
  | clearStaged l => exact ownClearStaged_only l s
  | swapSchedule l => exact ownSwapSchedule_only l s
  | resetLine l => exact ownResetLine_only l s
  | readLine l v => exact same (ownReadLine_fst l v s)
  | configureDiscrete q => exact ownConfigureDiscrete_only q s
  | setDiscrete l v => exact ownSetDiscrete_only l v s
  | readDiscrete => exact ownReadDiscrete_only s
  | clearEdges m => exact ownClearEdges_only m s
  | configureWell q => exact ownConfigureWell_only q s
  | start w => exact ownStart_only w s
  | stop w => exact ownStop_only w s
  | setTarget w v => exact ownSetTarget_only w v s
  | wellResetTrip w => exact ownWellResetTrip_only w s
  | unlock w => exact ownUnlock_only w s
  | readWell w => exact same (ownReadWell_fst w s)
  | configureTurbine q => exact ownConfigureTurbine_only q s
  | roll => exact ownRoll_only s
  | setMode m => exact ownSetMode_only m s
  | setLoad v => exact s.modTurbine_only _
  | unload => exact unloadTurbine_only s
  | trip => exact ownTrip_only s
  | turbineResetTrip => exact ownTurbineResetTrip_only s
  | readTurbine => exact Only.refl _ s
  | configureHeating q => exact ownConfigureHeating_only q s
  | setCurve c => exact ownSetCurve_only c s
  | heatingOn => exact ownHeatingOn_only s
  | heatingOff => exact ownHeatingOff_only s
  | readHeating => exact Only.refl _ s
  | configureSite q => exact ownConfigureSite_only q s
  | siteEnable i => exact ownSiteEnable_only i s
  | siteDisable i => exact ownSiteDisable_only i s
  | markCleaned i => exact ownMarkCleaned_only i s
  | restoreDose i v => exact ownRestoreDose_only i v s
  | readSite i v => exact same (ownReadSite_fst i v s)
  | postLimit k w v => exact ownPostLimit_only k w v s
  | withdrawLimit k w => exact ownWithdrawLimit_only k w s
  | readConstraints v => exact same (ownReadConstraints_fst v s)
  | readConditions => exact Only.refl _ s
  | releaseSnapshot n => exact ownReleaseSnapshot_only n s
  | setMasks w h => exact ownSetMasks_only w h s
  | silence => exact ownSilence_only s
  | armSupervision p h v => exact ownArmSupervision_only p h v s
  | resume => exact ownResume_only s
  | commission => exact ownCommission_only s
  | decommission => exact ownDecommission_only s
  | softReset => exact ownSoftReset_only s

/-! ### Events of the field -/

/-- What an event of the field or of a timer does before the end of the event; none for resets, start-up, the link's own events and
requests. -/
def fieldWork : Instr → Option (State → State)
  | .ageTimerExpiry => some ageTimerExpiry
  | .secondTimerExpiry => some secondTimerExpiry
  | .recoveryTimerExpiry p => some (recoveryTimerExpiry p)
  | .plantClockTick => some plantClockTick
  | .passTimerExpiry i => some (passTimerExpiry i)
  | .readEntryEnd i x c => some (readEntryEnd i x c)
  | .writeDriveEntryEnd i x c => some (writeDriveEntryEnd i x c)
  | .probeEnd i x c => some (probeEnd i x c)
  | .heldClock i => some (heldClock i)
  | .heldDataWire i => some (heldDataWire i)
  | .recoveryProcedureEnd i w => some (recoveryProcedureEnd i w)
  | .recoveryAttemptEnd i w => some (recoveryAttemptEnd i w)
  | .padChange i h => some (padChange i h)
  | .debounceExpiry i => some (debounceExpiry i)
  | .mismatchExpiry i => some (mismatchExpiry i)
  | .toothEdge o => some (toothEdge o)
  | .lossTimerExpiry => some lossTimerExpiry
  | .smPeriodExpiry => some smPeriodExpiry
  | .wpPeriodExpiry => some wpPeriodExpiry
  | .startTimerExpiry k => some (startTimerExpiry k)
  | .stopTimerExpiry k => some (stopTimerExpiry k)
  | .tripDecayExpiry k => some (tripDecayExpiry k)
  | .tgPeriodExpiry => some tgPeriodExpiry
  | .rollTimerExpiry => some rollTimerExpiry
  | .breakerTimerExpiry => some breakerTimerExpiry
  | .hxPeriodExpiry => some hxPeriodExpiry
  | .supervisionTimerExpiry => some supervisionTimerExpiry
  | .holdTimerExpiry => some holdTimerExpiry
  | _ => none

/-- The parts that such an event can change before its end. -/
def touched : Instr → List Part
  | .ageTimerExpiry => [.points, .tableTimers]
  | .secondTimerExpiry => [.drives, .tableTimers]
  | .recoveryTimerExpiry _ => [.points]
  | .plantClockTick => [.clock]
  | .passTimerExpiry _ | .writeDriveEntryEnd _ _ _ | .probeEnd _ _ _ | .recoveryProcedureEnd _ _ => [.lines, .drives]
  | .readEntryEnd _ _ _ | .heldClock _ | .heldDataWire _ | .recoveryAttemptEnd _ _ => [.points, .lines, .drives]
  | .padChange _ _ | .debounceExpiry _ => [.discretes, .notices, .points, .wells, .turbine, .drives, .constraints]
  | .mismatchExpiry _ => [.discretes]
  | .toothEdge _ | .lossTimerExpiry => [.speedUnit, .points, .turbine, .drives, .constraints]
  | .smPeriodExpiry => [.sites, .constraints, .drives, .monitor]
  | .wpPeriodExpiry => [.wells, .wpTimer, .drives]
  | .startTimerExpiry _ | .stopTimerExpiry _ => [.wells, .drives]
  | .tripDecayExpiry _ => [.wells]
  | .tgPeriodExpiry | .rollTimerExpiry | .breakerTimerExpiry => [.turbine, .drives, .constraints]
  | .hxPeriodExpiry => [.heating, .turbine, .drives]
  | .supervisionTimerExpiry => [.supervision, .constraints]
  | .holdTimerExpiry => [.supervision, .wells, .turbine, .drives]
  | _ => []

theorem fieldWork_only {c : Instr} {f : State → State} (h : fieldWork c = some f) (s : State) : Only (touched c) s (f s) := by
  cases c
  case ageTimerExpiry => cases h; exact ageTimerExpiry_only s
  case secondTimerExpiry => cases h; exact secondTimerExpiry_only s
  case recoveryTimerExpiry p => cases h; exact recoveryTimerExpiry_only p s
  case plantClockTick => cases h; exact plantClockTick_only s
  case passTimerExpiry i => cases h; exact passTimerExpiry_only i s
  case readEntryEnd i x c => cases h; exact readEntryEnd_only i x c s
  case writeDriveEntryEnd i x c => cases h; exact writeDriveEntryEnd_only i x c s
  case probeEnd i x c => cases h; exact probeEnd_only i x c s
  case heldClock i => cases h; exact heldClock_only i s
  case heldDataWire i => cases h; exact heldDataWire_only i s
  case recoveryProcedureEnd i w => cases h; exact recoveryProcedureEnd_only i w s
  case recoveryAttemptEnd i w => cases h; exact recoveryAttemptEnd_only i w s
  case padChange i b => cases h; exact padChange_only i b s
  case debounceExpiry i => cases h; exact debounceExpiry_only i s
  case mismatchExpiry i => cases h; exact mismatchExpiry_only i s
  case toothEdge o => cases h; exact toothEdge_only o s
  case lossTimerExpiry => cases h; exact lossTimerExpiry_only s
  case smPeriodExpiry => cases h; exact smPeriodExpiry_only s
  case wpPeriodExpiry => cases h; exact wpPeriodExpiry_only s
  case startTimerExpiry k => cases h; exact startTimerExpiry_only k s
  case stopTimerExpiry k => cases h; exact stopTimerExpiry_only k s
  case tripDecayExpiry k => cases h; exact tripDecayExpiry_only k s
  case tgPeriodExpiry => cases h; exact tgPeriodExpiry_only s
  case rollTimerExpiry => cases h; exact rollTimerExpiry_only s
  case breakerTimerExpiry => cases h; exact breakerTimerExpiry_only s
  case hxPeriodExpiry => cases h; exact hxPeriodExpiry_only s
  case supervisionTimerExpiry => cases h; exact supervisionTimerExpiry_only s
  case holdTimerExpiry => cases h; exact holdTimerExpiry_only s
  all_goals cases h

end Sys2Proof.Machine
end

section
/-! PROOFS. What a step is made of, said once: a property that the link, the end of an event, the owners of requests, the events of
the field and the passing of time keep is kept by every step but a reset (`Steady.step`). -/

namespace Sys2Proof.Machine

-- One after the other: see Laws/Frames.lean.
set_option Elab.async false

/-! ### Properties of some parts of the state -/

/-- The two states hold the parts named to the letter. -/
def Agree (ps : List Part) (s t : State) : Prop := ∀ p ∈ ps, Exact p s t

/-- No part named on the left is named on the right. -/
abbrev Apart (qs ps : List Part) : Prop := ∀ p ∈ ps, p ∉ qs

theorem Only.agree {qs ps : List Part} {s t : State} (h : Only qs s t) (ha : Apart qs ps) : Agree ps s t :=
  fun p hp => h p (ha p hp)

/-- A property that depends on the parts named alone. -/
def On (ps : List Part) (P : State → Prop) : Prop := ∀ s t, Agree ps s t → P s → P t

theorem On.only {ps qs : List Part} {P : State → Prop} (h : On ps P) (ha : Apart qs ps) {s t : State} (ho : Only qs s t)
    (hs : P s) : P t := h s t (ho.agree ha) hs

/-- The parts that only the link and the queue of commands have, with those of the condition unit. -/
def linkParts : List Part :=
  [.conditions, .receiver, .requests, .notices, .outgoing, .linkRate, .discards, .resetPending, .queue]

theorem State.modLink_only (s : State) (f : Link → Link) : Only linkParts s (s.modLink f) := by
  intro p hp; cases p <;> first | rfl | simp [linkParts] at hp

theorem State.setPending_only (s : State) (q : List Instr) : Only [.queue] s { s with pending := q } := by
  intro p hp; cases p <;> first | rfl | simp at hp

/-- The owner of a request leaves the queues of the link. -/
theorem applyRequest_link (r : Request) (s : State) : (applyRequest r s).1.link.requests = s.link.requests ∧
    (applyRequest r s).1.link.replies = s.link.replies := by
  have h := applyRequest_only r s
  have apart : Part.requests ∉ owned r ∧ Part.outgoing ∉ owned r := by cases r <;> simp [owned]
  have hq := h .requests apart.1
  have ho := h .outgoing apart.2
  simp only [Exact, Prod.mk.injEq] at hq ho
  exact ⟨hq.1, ho.1⟩

theorem settleRequest_replies (p : Parsed) (s : State) : (settleRequest p s).1.link.replies = s.link.replies := by
  cases p with
  | ok r => exact (applyRequest_link r s).2
  | _ => rfl

/-! ### Start-up -/

/-- The part as internal initialisation ends, its reset cause fixed. -/
def State.begun (s : State) : State :=
  { s with resetCause := causeOf s, initialising := false, powerApplied := false, resetHeldLow := false }

/-- START_UP before its STARTED notice is begun (R65, R193, R216). -/
def started (s : State) : State := queueStarted (formLive (settleOutputs (sampleDiscretes (startTimers s.begun))))

theorem startUp_eq {s : State} (h : s.initialising = true) : startUp s = transmit (started s) := by
  unfold startUp; rw [if_pos h]; rfl

theorem startUp_running {s : State} (h : s.initialising = false) : startUp s = s := by
  unfold startUp; rw [h]; rfl

theorem State.begun_only (s : State) : Only [.phase] s s.begun := by
  intro p hp; cases p <;> first | rfl | simp at hp

theorem startTimers_only (s : State) : Only [.clock, .tableTimers, .wpTimer, .turbine, .heating] s (startTimers s) := by
  intro p hp; cases p <;> first | rfl | simp at hp

theorem sampleDiscretes_only (s : State) : Only [.discretes] s (sampleDiscretes s) := setDiscretes_only s _

theorem formLive_only (s : State) : Only [.conditions] s (formLive s) := s.modConditions_only _

theorem queueStarted_only (s : State) : Only [.notices] s (queueStarted s) := by
  intro p hp; cases p <;> first | rfl | simp at hp

theorem finishStop_only (i : Fin 3) (s : State) : Only [.lines, .drives] s (finishStop i s) := by
  unfold finishStop
  split
  · exact ((s.modLine_only i _).mono (by decide)).trans (endPass_only _ _ _)
  · exact Only.refl _ s

theorem finishStops_only (s : State) : Only [.lines, .drives] s (forEach 3 finishStop s) :=
  Only.forEach 3 finishStop finishStop_only s

/-! ### Steps -/

/-- A reset of u. -/
def ResetOf (u t : State) : Prop :=
  (∃ baud1 baud0, t = powerReset baud1 baud0 u ∨ t = pinReset baud1 baud0 u) ∨ t = softResetEffect u

/-- What the link does to itself (R196 to R204), with what it finds then. -/
inductive LinkMove (s : State) : (Link → Link) → Prop
  | receives (g : Receiver → Receiver) : LinkMove s (fun l => { l with receiver := g l.receiver })
  | discards : LinkMove s (fun l => { l with discardCount := satSucc 65535 l.discardCount })
  | queues (q : QueuedRequest) (h : s.link.requests.length < 4) : LinkMove s (fun l => { l with requests := l.requests ++ [q] })
  | takes (q : QueuedRequest) (rest : List QueuedRequest) (h : s.link.requests = q :: rest) :
      LinkMove s (fun l => { l with requests := rest })
  | places (f : Frame) (h : s.link.replies.length < 4) :
      LinkMove s (fun l => { l with replies := l.replies ++ [⟨f, l.placings⟩], placings := l.placings + 1 })
  | busy (f : Frame) :
      LinkMove s (fun l =>
        match l.busyPlace with
        | some _ => { l with busyLostCount := satSucc 65535 l.busyLostCount }
        | none =>
          { l with busyPlace := some ⟨f, l.placings⟩, placings := l.placings + 1, busyCount := satSucc 65535 l.busyCount })
  | ends : LinkMove s (fun l => { l with sending := none })
  | beginsReply (f : Frame) : LinkMove s (fun l => { l with sending := some f, replies := l.replies.drop 1 })
  | beginsBusy (f : Frame) : LinkMove s (fun l => { l with sending := some f, busyPlace := none })
  | beginsStarted (f : Frame) : LinkMove s (fun l => { l with sending := some f, started := none })
  | beginsCondition (f : Frame) : LinkMove s (fun l => { l with sending := some f, condition := none })
  | beginsEdge (f : Frame) : LinkMove s (fun l => { l with sending := some f, edge := none })

/-- A property that everything a step is made of keeps, resets apart. -/
structure Steady (P : State → Prop) : Prop where
  queue : ∀ s q, P s → P { s with pending := q }
  link : ∀ s f, LinkMove s f → P s → P (s.modLink f)
  refresh : ∀ s, P s → P (refreshSupervision s)
  settle : ∀ s, P s → P (settle s)
  edges : ∀ s, P s → P (queueEdgeNotice s)
  request : ∀ r s, P s → P (applyRequest r s).1
  field : ∀ c f s, fieldWork c = some f → P s → P (f s)
  time : ∀ s, P s → P (countDown (forEach 3 finishStop s))
  start : ∀ s, s.initialising = true → P s → P (started s)

namespace Steady

variable {P : State → Prop} (h : Steady P) {s : State}
include h

theorem settleRequest (p : Parsed) (hs : P s) : P (settleRequest p s).1 := by
  cases p with
  | ok r => exact h.request r s hs
  | _ => exact hs

theorem answerRequest (kind tag : Byte) (p : Parsed) (hr : s.link.replies.length < 4) (hs : P s) : P (answerRequest kind tag p s) := by
  have room : (Machine.settleRequest p s).1.link.replies.length < 4 := by rw [settleRequest_replies]; exact hr
  exact h.link _ _ (.places _ room) (h.settleRequest p hs)

theorem answerBusy (kind tag : Byte) (hs : P s) : P (answerBusy kind tag s) := h.link _ _ (.busy _) hs

theorem discardFrame (hs : P s) : P (discardFrame s) := h.link _ _ .discards hs

theorem takeRequests (n : Nat) (hs : P s) : P (takeRequests n s) := by
  induction n generalizing s with
  | zero => exact hs
  | succ n ih =>
    unfold Machine.takeRequests
    split
    · exact hs
    · rename_i hq
      split
      · rename_i room
        rw [Bool.and_eq_true, decide_eq_true_eq] at room
        exact ih (h.answerRequest _ _ _ room.1 (h.link _ _ (.takes _ _ hq) hs))
      · exact hs

theorem offerRequest (kind tag : Byte) (body : List Byte) (hs : P s) : P (offerRequest kind tag body s) := by
  unfold Machine.offerRequest
  split
  · rename_i room; exact h.takeRequests 4 (h.link _ _ (.queues _ room) hs)
  · exact h.answerBusy kind tag hs

theorem goodFrame (kind tag : Byte) (body : List Byte) (hs : P s) : P (goodFrame kind tag body s) := by
  unfold Machine.goodFrame
  split
  · exact h.offerRequest _ _ _ (h.refresh _ hs)
  · exact h.discardFrame hs

theorem arriveRequest (tag : Byte) (r : Request) (hs : P s) : P (arriveRequest tag r s) := by
  unfold Machine.arriveRequest
  dsimp only
  split
  · rename_i now
    simp only [takenAtOnce, Bool.and_eq_true, decide_eq_true_eq] at now
    exact h.answerRequest _ _ _ now.1.2 (h.refresh _ hs)
  · exact h.offerRequest _ _ _ (h.refresh _ hs)

theorem judgeHeld (hs : P s) : P (judgeHeld s) := by
  unfold Machine.judgeHeld judge
  have hh := h.link s _ (.receives Receiver.hunt) hs
  repeat' split
  · exact h.goodFrame _ _ _ hh
  · exact h.discardFrame hh
  · exact h.discardFrame hh
  · exact hs

theorem abandonFrame (hs : P s) : P (abandonFrame s) := by
  unfold Machine.abandonFrame
  split
  · exact hs
  · exact h.discardFrame (h.link _ _ (.receives Receiver.hunt) hs)

theorem gap (hs : P s) : P (gap s) := by
  unfold Machine.gap
  dsimp only
  split
  · exact h.abandonFrame (h.judgeHeld hs)
  · exact h.judgeHeld hs

theorem framingError (hs : P s) : P (framingError s) := by
  unfold Machine.framingError
  dsimp only
  split
  · exact h.judgeHeld hs
  · exact h.abandonFrame (h.judgeHeld hs)

theorem characterReceived (b : Byte) (hs : P s) : P (characterReceived b s) := by
  unfold Machine.characterReceived
  dsimp only
  split
  · exact h.judgeHeld hs
  · exact h.link _ _ (.receives _) (h.judgeHeld hs)

theorem beginChoice (c : Choice) (hs : P s) : P (beginChoice c s) := by
  unfold Machine.beginChoice
  split
  · exact h.takeRequests 4 (h.link _ _ (.beginsReply _) hs)
  · exact h.link _ _ (.beginsBusy _) hs
  · exact h.link _ _ (.beginsStarted _) hs
  · exact h.link _ _ (.beginsCondition _) hs
  · rename_i f
    have begun := h.link _ _ (.beginsEdge f) hs
    unfold followEdges
    split
    · exact h.edges _ begun
    · exact begun

theorem transmit (hs : P s) : P (transmit s) := by
  unfold Machine.transmit
  split
  · exact h.settle _ (h.beginChoice _ hs)
  · exact hs

theorem finish (hs : P s) : P (finish s) := h.transmit (h.settle s hs)

theorem event {t : State} {f : State → State} (hf : P s → P (f s)) (he : event f s = .next t) (hs : P s) : P t := by
  cases he
  split
  · exact hs
  · exact h.finish (hf hs)

theorem passTime (hs : P s) : P (passTime s) := by
  unfold Machine.passTime
  split
  · exact hs
  · split
    · exact h.queue _ _ hs
    · exact h.time _ hs

theorem startUp (hs : P s) : P (startUp s) := by
  cases hi : s.initialising with
  | true => rw [startUp_eq hi]; exact h.transmit (h.start s hi hs)
  | false => rw [startUp_running hi]; exact hs

end Steady

theorem exec_fieldWork {c : Instr} {f : State → State} (h : fieldWork c = some f) (s : State) :
    exec c s = event f s ∨ ∃ i b, c = .padChange i b ∧ f = padChange i b := by
  cases c
  case padChange i b => cases h; exact Or.inr ⟨i, b, rfl, rfl⟩
  all_goals first | (cases h; done) | (cases h; exact Or.inl rfl)

theorem exec_request {c : Instr} {tag : Byte} {r : Request} (h : c.request = some (tag, r)) (s : State) :
    exec c s = onRequest tag r s := by
  cases c
  all_goals first | (cases h; done) | (cases h; rfl)

/-- Every command is a reset, start-up, an event of the link, the end of a transmission, an event of the field or a request. -/
theorem cases_work (c : Instr) :
    (∃ a b, c = .powerReset a b ∨ c = .pinReset a b) ∨ c = .startUp ∨ c = .transmissionEnd ∨
      (∃ f, fieldWork c = some f) ∨ (∃ tag r, c.request = some (tag, r)) ∨
      ∃ f, (∀ s, exec c s = event f s) ∧ ∀ P, Steady P → ∀ s, P s → P (f s) := by
  cases c
  case powerReset a b => exact .inl ⟨a, b, .inl rfl⟩
  case pinReset a b => exact .inl ⟨a, b, .inr rfl⟩
  case startUp => exact .inr (.inl rfl)
  case transmissionEnd => exact .inr (.inr (.inl rfl))
  case frameJudged => exact .inr (.inr (.inr (.inr (.inr ⟨_, fun _ => rfl, fun _ h _ => h.judgeHeld⟩))))
  case gap => exact .inr (.inr (.inr (.inr (.inr ⟨_, fun _ => rfl, fun _ h _ => h.gap⟩))))
  case framingError => exact .inr (.inr (.inr (.inr (.inr ⟨_, fun _ => rfl, fun _ h _ => h.framingError⟩))))
  case lineBreak =>
    exact .inr (.inr (.inr (.inr (.inr ⟨_, fun _ => rfl, fun _ h _ hs =>
      h.link _ _ (.receives (fun r => { r with inBreak := true })) (h.abandonFrame (h.judgeHeld hs))⟩))))
  case unknownKind => exact .inr (.inr (.inr (.inr (.inr ⟨_, fun _ => rfl, fun _ h _ => h.goodFrame _ _ _⟩))))
  case characterReceived => exact .inr (.inr (.inr (.inr (.inr ⟨_, fun _ => rfl, fun _ h _ => h.characterReceived _⟩))))
  case returnToMark => exact .inr (.inr (.inr (.inr (.inr ⟨_, fun _ => rfl, fun _ h _ =>
      h.link _ _ (.receives (fun r => { r with inBreak := false }))⟩))))
  all_goals first | exact .inr (.inr (.inr (.inl ⟨_, rfl⟩))) | exact .inr (.inr (.inr (.inr (.inl ⟨_, _, rfl⟩))))

/-- A steady property holds after every command, unless the command was a reset. -/
theorem Steady.exec {P : State → Prop} (h : Steady P) {c : Instr} {s t : State} (hs : P s) (he : exec c s = .next t) :
    P t ∨ ResetOf s t := by
  rcases cases_work c with ⟨a, b, rfl | rfl⟩ | rfl | rfl | ⟨f, hf⟩ | ⟨tag, r, hr⟩ | ⟨f, hf, hk⟩
  · cases he; exact .inr (.inl ⟨a, b, .inl rfl⟩)
  · cases he; exact .inr (.inl ⟨a, b, .inr rfl⟩)
  · cases he; exact .inl (h.startUp hs)
  · cases he
    split
    · exact .inl hs
    · unfold transmissionEnd
      split
      · exact .inl hs
      · split
        · exact .inr (.inr rfl)
        · exact .inl (h.finish (h.link _ _ .ends hs))
  · rcases exec_fieldWork hf s with e | ⟨i, b, rfl, rfl⟩
    · exact .inl (h.event (h.field c f s hf) (e.symm.trans he) hs)
    · cases he
      left
      split
      · exact h.field _ _ s hf hs
      · exact h.finish (h.field _ _ s hf hs)
  · exact .inl (h.event (h.arriveRequest tag r) ((exec_request hr s).symm.trans he) hs)
  · exact .inl (h.event (hk P h s) ((hf s).symm.trans he) hs)

/-- A steady property holds after every step, unless the step was a reset of a state that has it. -/
theorem Steady.step {P : State → Prop} (h : Steady P) {s t : State} (hs : P s) (he : step s = .next t) :
    P t ∨ ∃ u, P u ∧ ResetOf u t := by
  unfold Machine.step at he
  split at he
  · cases he; exact .inl (h.passTime hs)
  · exact (h.exec (h.queue _ _ hs) he).imp id fun hr => ⟨_, h.queue _ _ hs, hr⟩

/-- Every step keeps a steady property that POWER and PIN resets bring about and SOFT resets keep. -/
theorem Steady.kept {P : State → Prop} (h : Steady P)
    (hard : ∀ pins baud1 baud0 power pin cause queue, P (State.afterHardReset pins baud1 baud0 power pin cause queue))
    (soft : ∀ s, P s → P (softResetEffect s)) : Kept P := by
  intro s t hs he
  rcases h.step hs he with ht | ⟨u, hu, ⟨a, b, rfl | rfl⟩ | rfl⟩
  · exact ht
  · exact hard _ _ _ _ _ _ _
  · exact hard _ _ _ _ _ _ _
  · exact soft u hu

/-- A property of parts that the link and the condition unit do not have: what is left to show for it to be steady is what touches
its parts. -/
theorem On.steady {ps : List Part} {P : State → Prop} (on : On ps P) (hl : Apart linkParts ps := by decide)
    (refresh : Apart [.supervision] ps ∨ ∀ s, P s → P (refreshSupervision s) := by exact .inl (by decide))
    (outputs : Apart [.discretes] ps ∨
      (∀ d c s, roleIsOutput d = true → P s → P (commandRole d c s)) ∧ ∀ s, P s → P (queueEdgeNotice s) := by
        exact .inl (by decide))
    (request : ∀ r s, ¬ Apart (owned r) ps → P s → P (applyRequest r s).1)
    (field : ∀ c f s, fieldWork c = some f → ¬ Apart (touched c) ps → P s → P (f s))
    (time : ∀ s, P s → P (countDown (forEach 3 finishStop s)))
    (start : ∀ s, s.initialising = true → P s → P (sampleDiscretes (startTimers s.begun))) : Steady P := by
  have link (s : State) (f) (hs : P s) : P (s.modLink f) := on.only hl (s.modLink_only f) hs
  have cond (s : State) (f) (hs : P s) : P (s.modConditions f) :=
    on.only (fun p hp hc => hl p hp (by simp at hc; simp [linkParts, hc])) (s.modConditions_only f) hs
  have frozen (s : State) (hs : P s) : P (freeze s) :=
    on.only (fun p hp hc => hl p hp (by simp at hc; simp [linkParts, hc])) (freeze_only s) hs
  have role (d c s) (hd : roleIsOutput d = true) (hs : P s) : P (commandRole d c s) := by
    rcases outputs with ha | ⟨ho, -⟩
    · exact on.only ha (commandRole_only d c s) hs
    · exact ho d c s hd hs
  have outs (s : State) (hs : P s) : P (settleOutputs s) := by
    refine role _ _ _ (by decide) (role _ _ _ (by decide) ?_)
    exact forEach_keeps P 8 _ (fun k a => role _ _ a (runLine_isOutput k)) s hs
  have live (s : State) (hs : P s) : P (takeUpLive s) := role _ _ _ (by decide) (cond _ _ hs)
  exact {
    queue := fun s q => on.only (fun p hp hc => hl p hp (by simp at hc; simp [linkParts, hc])) (s.setPending_only q)
    link := fun s f _ => link s f
    refresh := fun s hs => refresh.elim (fun ha => on.only ha (refreshSupervision_only s) hs) (fun k => k s hs)
    settle := fun s hs => by
      unfold Machine.settle settleConditions
      dsimp only
      split
      · exact frozen _ (live _ (live _ (outs s hs)))
      · exact live _ (live _ (outs s hs))
    edges := fun s hs => by
      rcases outputs with ha | ⟨-, ho⟩
      · refine on.only (fun p hp hc => ?_) (queueEdgeNotice_only s) hs
        simp only [List.mem_cons, List.not_mem_nil, or_false] at hc
        rcases hc with rfl | rfl
        · exact ha _ hp (by simp)
        · exact hl _ hp (by simp [linkParts])
      · exact ho s hs
    request := fun r s hs => by
      by_cases ha : Apart (owned r) ps
      · exact on.only ha (applyRequest_only r s) hs
      · exact request r s ha hs
    field := fun c f s hc hs => by
      by_cases ha : Apart (touched c) ps
      · exact on.only ha (fieldWork_only hc s) hs
      · exact field c f s hc ha hs
    time := time
    start := fun s hi hs => by
      unfold started queueStarted formLive
      exact link _ _ (cond _ _ (outs _ (start s hi hs))) }

end Sys2Proof.Machine
end

section
/-! PROOFS. Supervision stays armed (section 11.2). -/

namespace Sys2Proof.Machine

-- One after the other: see Laws/Frames.lean.
set_option Elab.async false

/-- Supervision has been armed. -/
def Armed (s : State) : Prop := s.supervision.state ≠ .disarmed

theorem Only.armed {qs : List Part} {s t : State} (h : Only qs s t) (ha : Part.supervision ∉ qs := by decide) (hs : Armed s) :
    Armed t := by
  have e : t.supervision = s.supervision := h .supervision ha
  unfold Armed
  rw [e]; exact hs

theorem ownArmSupervision_armed (p h : Nat) (v : Int) (s : State) (hs : Armed s) : Armed (ownArmSupervision p h v s).1 := by
  have stored (f : Supervision → Supervision) (hf : (f s.supervision).state = s.supervision.state) : Armed (s.modSupervision f) :=
    fun h => hs (hf.symm.trans h)
  unfold ownArmSupervision armAnswer
  dsimp only
  split
  · split
    · exact nofun
    · exact hs
  · repeat' split
    · exact hs
    · exact stored _ rfl
    · exact hs
  · repeat' split
    all_goals first | exact hs | exact stored _ rfl | exact (post_only _ _ _ _).armed (by decide) (stored _ rfl)

theorem ownResume_armed (s : State) (hs : Armed s) : Armed (ownResume s).1 := by
  show Armed (if _ then _ else _)
  split
  · exact (withdraw_only _ _).armed (by decide) nofun
  · exact hs

theorem supervisionTimerExpiry_armed (s : State) (hs : Armed s) : Armed (supervisionTimerExpiry s) := by
  unfold supervisionTimerExpiry
  repeat' split
  all_goals first | exact hs | exact (post_only _ _ _ _).armed (by decide) nofun

theorem holdTimerExpiry_armed (s : State) (hs : Armed s) : Armed (holdTimerExpiry s) := by
  have entered : Armed (s.modSupervision (fun v => { v with state := .safeStop, holdTimer := none })) := nofun
  unfold holdTimerExpiry
  split
  · exact hs
  · split
    · exact (unloadIfLoaded_only _).armed (by decide) ((stopAllWells_only _).armed (by decide) entered)
    · exact hs

theorem countDown_armed (s : State) (hs : Armed s) : Armed (countDown s) := hs

theorem armed_steady : Steady Armed :=
  On.steady (ps := [.supervision])
    (on := fun s t h hs => by
      have e : t.supervision = s.supervision := h .supervision (by decide)
      unfold Armed
      rw [e]; exact hs)
    (refresh := .inr fun s hs => by unfold Armed; rw [refreshSupervision_state]; exact hs)
    (request := fun r s ha hs => by
      cases r with
      | armSupervision p h v => exact ownArmSupervision_armed p h v s hs
      | resume => exact ownResume_armed s hs
      | _ => exact absurd (by dsimp only [owned]; decide) ha)
    (field := fun c f s hc ha hs => by
      cases c with
      | supervisionTimerExpiry => cases hc; exact supervisionTimerExpiry_armed s hs
      | holdTimerExpiry => cases hc; exact holdTimerExpiry_armed s hs
      | _ => exact absurd (by dsimp only [touched]; decide) ha)
    (time := fun s hs => countDown_armed _ ((finishStops_only s).armed (by decide) hs))
    (start := fun s _ hs => hs)

end Sys2Proof.Machine

open Sys2Proof Sys2Proof.Machine

/-- Settles O53: everything a step is made of keeps supervision armed, and a reset leaves the part in internal initialisation. -/
theorem supervisionStaysArmed : Obligations.SupervisionStaysArmed := by
  intro s t hs he hd
  rcases armed_steady.step hs he with ht | ⟨u, -, ⟨a, b, rfl | rfl⟩ | rfl⟩
  · exact absurd hd ht
  · rfl
  · rfl
  · rfl

end

section
/-! PROOFS. What the three resets leave (section 11.4): every bank of the part is fresh, on its default configuration or on the one it
kept. -/

namespace Sys2Proof.Machine

-- One after the other: see Laws/Frames.lean.
set_option Elab.async false

/-! ### A part whose banks are fresh -/

section Fresh

variable {t : State}

theorem FieldReset.of_fresh (hi : t.initialising = true) (hp : ∀ i : Fin 96, ∃ c, t.points[i] = Point.fresh c)
    (hv : ∀ d : Fin 15, ∃ x, t.drives[d] = { Drive.fresh (safeValue d) with delivery := x })
    (hl : ∀ i : Fin 3, ∃ c a l, t.lines[i] = Line.fresh c a l)
    (hd : ∀ d : Fin 24, ∃ c p, t.discretes[d] = Discrete.fresh c p) : FieldReset t := by
  refine ⟨fun i => ?_, fun d => ?_, fun i => ?_, fun d => ?_⟩
  · obtain ⟨c, e⟩ := hp i
    rw [e]
    exact ⟨rfl, rfl, rfl, rfl, rfl, rfl, rfl, rfl⟩
  · obtain ⟨x, e⟩ := hv d
    rw [e]
    exact ⟨rfl, rfl, rfl, rfl⟩
  · obtain ⟨c, a, l, e⟩ := hl i
    rw [e]
    refine ⟨rfl, rfl, rfl, rfl, rfl, rfl, rfl, rfl, rfl, rfl, rfl, rfl, rfl, rfl, fun x hx => ?_⟩
    obtain ⟨y, -, rfl⟩ := List.mem_map.mp hx
    rfl
  · obtain ⟨c, p, e⟩ := hd d
    have released : padDriven t d = none := by simp [padDriven, hi]
    rw [e]
    exact ⟨rfl, rfl, rfl, rfl, rfl, rfl, rfl, rfl, released⟩

theorem defaultsFrom_index (b : Int) (f : Fin 8 → Int) (g : Target) : defaultsFrom b f g.index =
    match g with
    | .brineFloor => b
    | .wellFloor k => f k
    | .pumpCeil _ => 10000
    | .pumpCeilAll => 10000 := by
  cases g with
  | brineFloor => rfl
  | pumpCeilAll => rfl
  | wellFloor k => revert k; simp [Fin.forall_fin_succ, defaultsFrom, Target.index]
  | pumpCeil k => simp [defaultsFrom, Target.index]

theorem TableReset.of_fresh (hu : ∃ c, t.speedUnit = SpeedUnit.fresh c) (hs : ∀ i : Fin 12, ∃ c, t.sites[i] = Site.fresh c)
    (hm : t.smTimer = none ∧ t.minuteCounter = 0) (hk : t.slots = Vector.ofFn (fun _ => none))
    (hb : t.bounds = Vector.ofFn (fun g =>
      ⟨defaultsFrom t.heating.cfg.brineFloorDefault (fun k => t.wells[k].cfg.ownFloor) g, none⟩))
    (hc : t.combined = Vector.ofFn (fun _ => ⟨10000, none⟩)) : TableReset t := by
  obtain ⟨c, hu⟩ := hu
  unfold TableReset
  rw [hu, hk, hb, hc]
  refine ⟨rfl, rfl, rfl, rfl, rfl, rfl, fun i => ?_, hm.1, hm.2, fun k => by simp, fun g => ?_, fun k => by simp⟩
  · obtain ⟨c, e⟩ := hs i
    rw [e]
    exact ⟨rfl, rfl, rfl, rfl, rfl, rfl, rfl, rfl, rfl, rfl, rfl, rfl, rfl, rfl⟩
  · rw [Fin.getElem_fin, Vector.getElem_ofFn, Fin.eta, defaultsFrom_index]
    cases g <;> rfl

theorem PlantReset.of_fresh (hw : ∀ k : Fin 8, ∃ c, t.wells[k] = Well.fresh c) (ht : ∃ c, t.turbine = Turbine.fresh c)
    (hh : ∃ c v, t.heating = Heating.fresh c v) : PlantReset t := by
  obtain ⟨c, ht⟩ := ht
  obtain ⟨d, v, hh⟩ := hh
  unfold PlantReset
  rw [ht, hh]
  refine ⟨fun k => ?_, ?_⟩
  · obtain ⟨c, e⟩ := hw k
    rw [e]
    exact ⟨rfl, rfl, rfl, rfl, rfl, rfl, rfl, rfl, rfl, rfl, rfl, rfl, rfl, rfl⟩
  · and_intros <;> rfl

end Fresh

/-! ### The three resets -/

theorem hardReset_dynamic (pins : Fin 24 → Bool) (baud1 baud0 power pin : Bool) (cause : ResetCause) (queue : List Instr) :
    DynamicReset (State.afterHardReset pins baud1 baud0 power pin cause queue) :=
  ⟨.of_fresh rfl (fun i => ⟨_, by simp [State.afterHardReset, State.afterReset]; rfl⟩)
      (fun i => ⟨.unbound, by simp [State.afterHardReset, State.afterReset]; rfl⟩)
      (fun i => ⟨_, _, _, by simp [State.afterHardReset, State.afterReset]; rfl⟩)
      (fun i => ⟨_, _, by simp [State.afterHardReset, State.afterReset]; rfl⟩),
    .of_fresh ⟨_, rfl⟩ (fun i => ⟨_, by simp [State.afterHardReset, State.afterReset]; rfl⟩) ⟨rfl, rfl⟩ rfl rfl rfl,
    .of_fresh (fun k => ⟨_, by simp [State.afterHardReset, State.afterReset]; rfl⟩) ⟨_, rfl⟩ ⟨_, _, rfl⟩,
    by unfold HostReset; and_intros <;> rfl⟩

theorem softReset_dynamic (s : State) : DynamicReset (softResetEffect s) :=
  ⟨.of_fresh rfl (fun i => ⟨_, modifyAll_get s.points i (fun _ p => Point.fresh p.cfg)⟩)
      (fun i => ⟨if driveBound s i then .pending else .unbound, by simp [softResetEffect, State.afterReset, keptDrive]⟩)
      (fun i => ⟨_, _, _, modifyAll_get s.lines i (fun _ l => Line.fresh l.cfg l.active l.staged)⟩)
      (fun i => ⟨_, _, modifyAll_get s.discretes i (fun _ l => Discrete.fresh l.cfg l.pin)⟩),
    .of_fresh ⟨_, rfl⟩ (fun i => ⟨_, modifyAll_get s.sites i (fun _ x => Site.fresh x.cfg)⟩) ⟨rfl, rfl⟩ rfl rfl rfl,
    .of_fresh (fun k => ⟨_, modifyAll_get s.wells k (fun _ w => Well.fresh w.cfg)⟩) ⟨_, rfl⟩ ⟨_, _, rfl⟩,
    by unfold HostReset; and_intros <;> rfl⟩

theorem DiscreteConfig.initial_eq (d : Fin 24) : DiscreteConfig.initial d =
    { role := decide (d.val ≤ 20), out := decide (d.val < 8 ∨ d.val = 16 ∨ d.val = 17 ∨ d.val = 20), inverted := false,
      edge := false, edgeKind := .rising, debounce := 10, mismatchTime := 50 } := by
  revert d
  decide

theorem hardReset_default (pins : Fin 24 → Bool) (baud1 baud0 power pin : Bool) (cause : ResetCause) (queue : List Instr) :
    DefaultConfiguration (State.afterHardReset pins baud1 baud0 power pin cause queue) := by
  refine ⟨⟨fun i => ?_, fun d => ?_, fun i => ?_, fun d => ?_, rfl⟩, ⟨fun i => ?_, fun k => ?_, rfl, rfl, rfl⟩, fun n => ?_,
    fun n => ?_⟩
  · simp [State.afterHardReset, State.afterReset]; rfl
  · simp [State.afterHardReset, State.afterReset]; rfl
  · simp [State.afterHardReset, State.afterReset]; exact ⟨rfl, rfl, rfl⟩
  · simp only [State.afterHardReset, State.afterReset, Fin.getElem_fin, Vector.getElem_ofFn, Discrete.fresh, Fin.eta]
    exact DiscreteConfig.initial_eq d
  · simp [State.afterHardReset, State.afterReset]; rfl
  · simp [State.afterHardReset, State.afterReset]; rfl
  · show MemberSet.all[n] = true
    simp [MemberSet.all]
  · show MemberSet.hornInitial[n] = true ↔ _
    simp only [MemberSet.hornInitial, Fin.getElem_fin, Vector.getElem_ofFn, Bool.or_eq_true, Bool.and_eq_true, decide_eq_true_eq,
      beq_iff_eq]
    omega

theorem softReset_kept (s : State) : ConfigurationKept s (softResetEffect s) := by
  have points (i : Fin 96) : (softResetEffect s).points[i] = Point.fresh s.points[i].cfg :=
    modifyAll_get s.points i (fun _ p => Point.fresh p.cfg)
  have lines (i : Fin 3) : (softResetEffect s).lines[i] = Line.fresh s.lines[i].cfg s.lines[i].active s.lines[i].staged :=
    modifyAll_get s.lines i (fun _ l => Line.fresh l.cfg l.active l.staged)
  have discretes (i : Fin 24) : (softResetEffect s).discretes[i] = Discrete.fresh s.discretes[i].cfg s.discretes[i].pin :=
    modifyAll_get s.discretes i (fun _ l => Discrete.fresh l.cfg l.pin)
  have sites (i : Fin 12) : (softResetEffect s).sites[i] = Site.fresh s.sites[i].cfg :=
    modifyAll_get s.sites i (fun _ x => Site.fresh x.cfg)
  have wells (k : Fin 8) : (softResetEffect s).wells[k] = Well.fresh s.wells[k].cfg :=
    modifyAll_get s.wells k (fun _ w => Well.fresh w.cfg)
  refine ⟨fun i => by rw [points]; rfl, fun d => ?_, fun i => ?_, fun i => by rw [discretes]; rfl, rfl, fun i => by rw [sites]; rfl,
    fun k => by rw [wells]; rfl, rfl, rfl, rfl, rfl, rfl, rfl, rfl⟩
  · simp [softResetEffect, State.afterReset, keptDrive]
  · rw [lines]
    refine ⟨rfl, ?_, rfl⟩
    simp [Line.fresh]

end Sys2Proof.Machine
end

section

open Sys2Proof Sys2Proof.Machine

-- One after the other: see Laws/Frames.lean.
set_option Elab.async false

/-- Settles O4: a POWER or PIN reset and the SOFT reset at the end of an accepted SoftReset's reply, bank by bank. -/
theorem theThreeResets : Obligations.TheThreeResets := by
  have pin (pins : Fin 24 → Bool) (baud1 baud0 power pin : Bool) (cause : ResetCause) (queue : List Instr) (d : Fin 24) :
      (State.afterHardReset pins baud1 baud0 power pin cause queue).discretes[d].pin = pins d := by
    simp [State.afterHardReset, State.afterReset]; rfl
  refine ⟨fun baud1 baud0 s => ⟨⟨_, rfl, hardReset_dynamic _ _ _ _ _ _ _, hardReset_default _ _ _ _ _ _ _, rfl, rfl, rfl, rfl,
    pin _ _ _ _ _ _ _, rfl⟩, ⟨_, rfl, hardReset_dynamic _ _ _ _ _ _ _, hardReset_default _ _ _ _ _ _ _, rfl, rfl, rfl, rfl,
    pin _ _ _ _ _ _ _, rfl⟩⟩, fun s f hi hs hp hk hb => ?_⟩
  have taken : transmissionEnd s = softResetEffect s := by
    unfold transmissionEnd
    rw [hs]
    simp [hp, Frame.acceptsSoftReset, hk, hb]
  have ends : exec .transmissionEnd s = .next (softResetEffect s) := by
    show Host.Outcome.next (if s.initialising then s else transmissionEnd s) = _
    rw [hi, ← taken]; rfl
  refine ⟨_, ends, softReset_dynamic s, softReset_kept s, rfl, rfl, fun d => ?_, rfl⟩
  have e : (softResetEffect s).discretes[d] = Discrete.fresh s.discretes[d].cfg s.discretes[d].pin :=
    modifyAll_get s.discretes d (fun _ l => Discrete.fresh l.cfg l.pin)
  rw [e]; rfl

end

section
/-! PROOFS. What operations do to points, drives and lines, as moves of one record: every change of a point is a run of `PointMove`s,
no operation of a line changes the value of a drive, and the lists of a line stay within their places. -/

namespace Sys2Proof.Machine

-- One after the other: see Laws/Frames.lean.
set_option Elab.async false

open Relation

/-! ### One record of a bank after an update -/

theorem State.modPoint_at (s : State) (i j : Fin 96) (f : Point → Point) :
    (s.modPoint i f).points[j] = if i = j then f s.points[i] else s.points[j] := modifyAt_get _ i j f

theorem State.modDrive_at (s : State) (i j : Fin 15) (f : Drive → Drive) :
    (s.modDrive i f).drives[j] = if i = j then f s.drives[i] else s.drives[j] := modifyAt_get _ i j f

theorem State.modLine_at (s : State) (i j : Fin 3) (f : Line → Line) :
    (s.modLine i f).lines[j] = if i = j then f s.lines[i] else s.lines[j] := modifyAt_get _ i j f

theorem State.modDiscrete_at (s : State) (i j : Fin 24) (f : Discrete → Discrete) :
    (s.modDiscrete i f).discretes[j] = if i = j then f s.discretes[i] else s.discretes[j] := modifyAt_get _ i j f

theorem State.modSite_at (s : State) (i j : Fin 12) (f : Site → Site) :
    (s.modSite i f).sites[j] = if i = j then f s.sites[i] else s.sites[j] := modifyAt_get _ i j f

theorem State.modWell_at (s : State) (i j : Fin 8) (f : Well → Well) :
    (s.modWell i f).wells[j] = if i = j then f s.wells[i] else s.wells[j] := modifyAt_get _ i j f

/-! ### Moves of a point -/

/-- What an event can do to a point whose configured source stands (R6 to R11). -/
inductive PointMove : Point → Point → Prop
  | good (v : Int) (clamped : Bool) (p : Point) : PointMove p (p.goodRead v clamped)
  | failed (p : Point) : PointMove p p.failedRead
  | aged (level : Bool) (p : Point) : PointMove p (agePoint level p)
  | recovered (p : Point) (h : p.recoveryTimer.isSome = true) : PointMove p p.recoveryExpiry
  | substituted (v : Option Int) (p : Point) : PointMove p (p.setSubstitute v)
  | ticked (p : Point) : PointMove p { p with recoveryTimer := p.recoveryTimer.tick }

/-- Every point has gone through a run of moves. -/
def PointsMove (s t : State) : Prop := ∀ i : Fin 96, ReflTransGen PointMove s.points[i] t.points[i]

theorem PointsMove.refl (s : State) : PointsMove s s := fun _ => .refl

theorem PointsMove.trans {a b c : State} (h : PointsMove a b) (k : PointsMove b c) : PointsMove a c :=
  fun i => (h i).trans (k i)

theorem PointsMove.of_eq {s t : State} (h : t.points = s.points) : PointsMove s t := fun i => by rw [h]

theorem modPoint_moves (s : State) (i : Fin 96) (f : Point → Point) (h : PointMove s.points[i] (f s.points[i])) :
    PointsMove s (s.modPoint i f) := by
  intro j
  rw [s.modPoint_at]
  split
  · rename_i hj; exact hj ▸ .single h
  · exact .refl

theorem setPoints_moves {s t : State} {f : Fin 96 → Point → Point} (ht : t.points = modifyAll s.points f)
    (h : ∀ i p, PointMove p (f i p)) : PointsMove s t := by
  intro i
  rw [ht, modifyAll_get]
  exact .single (h i _)

/-- A property of one point that every move keeps is kept of all points. -/
theorem PointsMove.keeps {Q : Point → Prop} (hQ : ∀ p q, PointMove p q → Q p → Q q) {s t : State} (h : PointsMove s t)
    (hs : ∀ i : Fin 96, Q s.points[i]) : ∀ i : Fin 96, Q t.points[i] := fun i => by
  have run {p q : Point} (hm : ReflTransGen PointMove p q) (hp : Q p) : Q q := by
    induction hm with
    | refl => exact hp
    | tail _ hm ih => exact hQ _ _ hm ih
  exact run (h i) (hs i)

/-! ### Operations on points -/

theorem ageTimerExpiry_moves (s : State) : PointsMove s (ageTimerExpiry s) := by
  unfold ageTimerExpiry
  split
  · exact .refl s
  · exact setPoints_moves (f := fun _ p => agePoint s.discretes[p.cfg.line].level p) rfl (fun _ p => .aged _ p)

theorem recoveryTimerExpiry_moves (i : Fin 96) (s : State) : PointsMove s (recoveryTimerExpiry i s) := by
  unfold recoveryTimerExpiry
  split
  · exact .refl s
  · rename_i h
    exact modPoint_moves s i _ (.recovered _ (by rw [h]; rfl))

theorem ownWritePoint_moves (p : Nat) (v : Int) (s : State) : PointsMove s (ownWritePoint p v s).1 := by
  unfold ownWritePoint
  repeat' split
  all_goals first | exact .refl s | exact modPoint_moves s _ _ (.good _ _ _)

theorem ownSetSubstitute_moves (p : Nat) (v : Option Int) (s : State) : PointsMove s (ownSetSubstitute p v s).1 := by
  unfold ownSetSubstitute
  repeat' split
  all_goals first | exact .refl s | exact modPoint_moves s _ _ (.substituted _ _)

/-! ### The lists of a line -/

/-- The lists of a line lie within their places (section 2.3, R41). -/
def LineFits (l : Line) : Prop := l.active.length ≤ 24 ∧ l.staged.length ≤ 24 ∧ l.log.length ≤ 16

@[simp] theorem Line.mark_active_length (a b : Nat) (o : EntryOutcome) (l : Line) :
    (l.mark a b o).active.length = l.active.length := by simp [Line.mark]

theorem LineFits.of_eq {l m : Line} (h : LineFits l) (ha : m.active.length = l.active.length) (hs : m.staged = l.staged)
    (hl : m.log = l.log) : LineFits m := by
  unfold LineFits at *
  rw [ha, hs, hl]; exact h

theorem LineFits.mark {l : Line} (h : LineFits l) (a b : Nat) (o : EntryOutcome) : LineFits (l.mark a b o) :=
  h.of_eq (l.mark_active_length a b o) rfl rfl

theorem LineFits.record {l : Line} (h : LineFits l) (r : ResultRecord) : LineFits (l.record r) := by
  obtain ⟨ha, hs, -⟩ := h
  refine ⟨ha, hs, ?_⟩
  simp only [Line.record, List.length_drop, List.length_append, List.length_cons, List.length_nil]
  omega

theorem LineFits.settle {l : Line} (h : LineFits l) (clock n : Nat) (o : EntryOutcome) : LineFits (l.settle clock n o) := by
  unfold Line.settle
  dsimp only
  split
  · exact (h.mark _ _ _).record _
  · exact h.mark _ _ _

theorem LineFits.closeOut {l : Line} (h : LineFits l) (n : Nat) (st : LineState) : LineFits (l.closeOut n st) :=
  (h.mark n l.active.length .notReached).of_eq rfl rfl rfl

theorem LineFits.swap {l : Line} (h : LineFits l) : LineFits l.swap := by
  obtain ⟨-, hs, hl⟩ := h
  exact ⟨by simpa [Line.swap] using hs, hs, hl⟩

theorem LineFits.does {l : Line} (h : LineFits l) (a : List WireAct) : LineFits (l.does a) := h.of_eq rfl rfl rfl

theorem LineFits.abort {l : Line} (h : LineFits l) (clock : Nat) (st : LineState) : LineFits (l.abort clock st) := by
  have settled (n : Nat) : LineFits ((l.settle clock n .aborted).does abandonActs) :=
    (h.settle clock n _).does _
  have done : LineFits (l.does abandonActs) := h.does _
  unfold Line.abort
  dsimp only
  split
  · exact ((settled _).closeOut _ st).of_eq rfl rfl rfl
  · exact (done.closeOut _ st).of_eq rfl rfl rfl
  · exact (done.closeOut _ st).of_eq rfl rfl rfl
  · exact done.of_eq rfl rfl rfl
  · exact h.of_eq rfl rfl rfl

theorem LineFits.configure {l : Line} (h : LineFits l) (clock : Nat) (en : Bool) (cfg : LineConfig) :
    LineFits (l.configure clock en cfg) := by
  have stored : LineFits { l with cfg := cfg } := h.of_eq rfl rfl rfl
  unfold Line.configure
  dsimp only
  repeat' split
  all_goals first | exact stored | exact stored.of_eq rfl rfl rfl | exact (stored.abort _ _).of_eq rfl rfl rfl

/-! ### What the operations of a line do -/

/-- What an operation of a line can do beside its line: the points move, no drive's value changes, and the lists of the lines stay
within their places. -/
structure LineWork (s t : State) : Prop where
  points : PointsMove s t
  values : ∀ d : Fin 15, t.drives[d].value = s.drives[d].value
  fits : (∀ i : Fin 3, LineFits s.lines[i]) → ∀ i : Fin 3, LineFits t.lines[i]

namespace LineWork

theorem refl (s : State) : LineWork s s := ⟨.refl s, fun _ => rfl, fun h => h⟩

theorem trans {a b c : State} (h : LineWork a b) (k : LineWork b c) : LineWork a c :=
  ⟨h.points.trans k.points, fun d => (k.values d).trans (h.values d), fun hs => k.fits (h.fits hs)⟩

theorem ite {a b c : State} {p : Prop} [Decidable p] (h : LineWork a b) (k : LineWork a c) :
    LineWork a (if p then b else c) := by split <;> assumption

theorem modLine (s : State) (i : Fin 3) (f : Line → Line) (h : LineFits s.lines[i] → LineFits (f s.lines[i])) :
    LineWork s (s.modLine i f) := by
  refine ⟨.of_eq rfl, fun _ => rfl, fun hs j => ?_⟩
  rw [s.modLine_at]
  split
  · exact h (hs i)
  · exact hs j

/-- An update of a line that leaves its schedules and its log. -/
theorem modLine_eq (s : State) (i : Fin 3) (f : Line → Line) (ha : ∀ l, (f l).active.length = l.active.length := by intro; rfl)
    (hs : ∀ l, (f l).staged = l.staged := by intro; rfl) (hl : ∀ l, (f l).log = l.log := by intro; rfl) :
    LineWork s (s.modLine i f) := modLine s i f (fun h => h.of_eq (ha _) (hs _) (hl _))

theorem modPoint (s : State) (i : Fin 96) (f : Point → Point) (h : PointMove s.points[i] (f s.points[i])) :
    LineWork s (s.modPoint i f) := ⟨modPoint_moves s i f h, fun _ => rfl, fun h => h⟩

theorem modDrive (s : State) (i : Fin 15) (f : Drive → Drive) (h : ∀ d, (f d).value = d.value) : LineWork s (s.modDrive i f) := by
  refine ⟨.of_eq rfl, fun d => ?_, fun h => h⟩
  rw [s.modDrive_at]
  split
  · rename_i hd; rw [h, hd]
  · rfl

end LineWork

theorem Drive.failure_value (n : Nat) (d : Drive) : (d.failure n).value = d.value := by
  unfold Drive.failure; split <;> rfl

theorem Drive.rebind_value (b : Bool) (d : Drive) : (d.rebind b).value = d.value := by
  unfold Drive.rebind; repeat' split
  all_goals rfl

theorem failRead_work (e : Entry) (s : State) : LineWork s (failRead e s) := by
  unfold failRead
  split
  · exact .ite (.modPoint s _ _ (.failed _)) (.refl s)
  · exact .refl s
  · exact .refl s

theorem failDrive_work (e : Entry) (s : State) : LineWork s (failDrive e s) := by
  unfold failDrive
  split
  · exact .ite (.modDrive s _ _ (Drive.failure_value _)) (.refl s)
  · exact .refl s
  · exact .refl s

theorem failEntry_work (e : Entry) (s : State) : LineWork s (failEntry e s) := (failRead_work e s).trans (failDrive_work e _)

theorem rebindDrives_work (s : State) : LineWork s (rebindDrives s) := by
  refine ⟨.of_eq rfl, fun d => ?_, fun h => h⟩
  simp [rebindDrives, Drive.rebind_value]

theorem swapLine_work (i : Fin 3) (s : State) : LineWork s (swapLine i s) :=
  (LineWork.modLine s i _ LineFits.swap).trans (rebindDrives_work _)

theorem goOn_work (i : Fin 3) (n : Nat) (r : Bool) (s : State) : LineWork s (goOn i n r s).1 := by
  unfold goOn
  dsimp only
  split
  · exact .modLine s i _ (fun h => (h.mark _ _ _).of_eq rfl rfl rfl)
  · exact .modLine s i _ (fun h => h.mark _ _ _)

theorem openPass_work (i : Fin 3) (s : State) : LineWork s (openPass i s).1 := by
  unfold openPass
  dsimp only
  exact ((LineWork.ite (swapLine_work i s) (.refl s)).trans (.modLine_eq _ i _)).trans (goOn_work i 0 false _)

theorem startPass_work (i : Fin 3) (fuel : Nat) (s : State) : LineWork s (startPass i fuel s) := by
  induction fuel generalizing s with
  | zero => exact .refl s
  | succ fuel ih =>
    have h := openPass_work i s
    unfold startPass
    rcases he : openPass i s with ⟨u, _ | _⟩ <;> rw [he] at h
    · have k := h.trans (.modLine u i (fun l => l.closeOut l.active.length .idle) (fun h => h.closeOut _ _))
      exact .ite ((k.trans (.modLine_eq _ i _)).trans (ih _)) k
    · exact h

theorem endPass_work (i : Fin 3) (n : Nat) (s : State) : LineWork s (endPass i n s) := by
  unfold endPass
  have k := LineWork.modLine s i (fun l => l.closeOut n .idle) (fun h => h.closeOut _ _)
  exact .ite ((k.trans (.modLine_eq _ i _)).trans (startPass_work i 2 _)) k

theorem faultPass_work (i : Fin 3) (n : Nat) (c : FaultCause) (s : State) : LineWork s (faultPass i n c s) :=
  .modLine s i _ (fun h => (h.closeOut n .faulted).of_eq rfl rfl rfl)

theorem sendStop_work (i : Fin 3) (n : Nat) (c : ClosingStop) (s : State) : LineWork s (sendStop i n c s) := by
  unfold sendStop
  cases c
  · exact (LineWork.modLine_eq s i Line.addStop).trans (endPass_work i n _)
  · exact .modLine_eq s i _

theorem afterEntry_work (i : Fin 3) (n : Nat) (stop : Bool) (c : ClosingStop) (s : State) :
    LineWork s (afterEntry i n stop c s) := by
  unfold afterEntry
  split
  · exact sendStop_work i _ c s
  · have h := goOn_work i (n + 1) true s
    rcases he : goOn i (n + 1) true s with ⟨u, _ | _⟩ <;> rw [he] at h
    · exact h.trans (sendStop_work i _ c u)
    · exact h

theorem settleEntry_work (i : Fin 3) (n : Nat) (e : Entry) (o : EntryOutcome) (a : List WireAct) (c : ClosingStop) (s : State) :
    LineWork s (settleEntry i n e o a c s) :=
  (LineWork.modLine s i (fun l => (l.settle s.clock n o).does a) (fun h => (h.settle _ _ _).does _)).trans
    (afterEntry_work i n _ c _)

theorem readVerdict_work (e : Entry) (raw : Int) (s : State) : LineWork s (readVerdict e raw s).1 := by
  unfold readVerdict
  split
  · split
    · split
      · exact .modPoint s _ _ (.good _ _ _)
      · exact .modPoint s _ _ (.failed _)
    · exact .refl s
  · exact .refl s
  · exact .refl s

theorem readOutcome_work (e : Entry) (x : Transaction) (s : State) : LineWork s (readOutcome e x s).1 := by
  unfold readOutcome
  split
  · exact failRead_work e s
  · exact failRead_work e s
  · split
    · exact failRead_work e s
    · exact readVerdict_work e _ s

theorem readEntryEnd_work (i : Fin 3) (r : StationAnswers) (c : ClosingStop) (s : State) : LineWork s (readEntryEnd i r c s) := by
  unfold readEntryEnd
  split
  · split
    · exact (readOutcome_work _ _ s).trans (settleEntry_work i _ _ _ _ c _)
    · exact .refl s
  · exact .refl s

theorem writeOutcome_work (e : Entry) (v : Option Int) (x : Transaction) (s : State) : LineWork s (writeOutcome e v x s).1 := by
  unfold writeOutcome
  split
  · exact failDrive_work e s
  · exact failDrive_work e s
  · split
    · exact .modDrive s _ _ (fun _ => rfl)
    · exact .refl s

theorem writeDriveEntryEnd_work (i : Fin 3) (r : StationAnswers) (c : ClosingStop) (s : State) :
    LineWork s (writeDriveEntryEnd i r c s) := by
  unfold writeDriveEntryEnd
  split
  · split
    · exact (writeOutcome_work _ _ _ s).trans (settleEntry_work i _ _ _ _ c _)
    · exact .refl s
  · exact .refl s

theorem probeEnd_work (i : Fin 3) (a : StationAnswers) (c : ClosingStop) (s : State) : LineWork s (probeEnd i a c s) := by
  unfold probeEnd
  split
  · exact .ite (settleEntry_work i _ _ _ _ c s) (.refl s)
  · exact .refl s

theorem heldClock_work (i : Fin 3) (s : State) : LineWork s (heldClock i s) := by
  unfold heldClock
  split
  · rename_i n e _ _
    exact ((failEntry_work e s).trans (.modLine _ i (fun l => (l.settle s.clock n .heldClock).does heldClockActs)
      (fun h => (h.settle _ _ _).does _))).trans (endPass_work i _ _)
  · split
    · exact (LineWork.modLine s i (fun l => (l.record ⟨none, .heldClock, s.clock⟩).does heldClockActs)
        (fun h => (h.record _).does _)).trans (endPass_work i _ _)
    · exact .refl s

theorem recoverOrFault_work (i : Fin 3) (n : Nat) (b : Bool) (s : State) : LineWork s (recoverOrFault i n b s) :=
  .ite (.modLine_eq s i _) ((LineWork.modLine_eq s i (Line.does [.release])).trans (faultPass_work i n _ _))

theorem heldDataWire_work (i : Fin 3) (s : State) : LineWork s (heldDataWire i s) := by
  unfold heldDataWire
  split
  · rename_i n e _ _
    exact ((failEntry_work e s).trans (.modLine _ i (Line.settle s.clock n .heldData) (fun h => h.settle _ _ _))).trans
      (recoverOrFault_work i _ _ _)
  · split
    · exact (LineWork.modLine s i (Line.record ⟨none, .heldData, s.clock⟩) (fun h => h.record _)).trans
        (recoverOrFault_work i _ _ _)
    · exact .refl s

theorem afterRecovery_work (i : Fin 3) (n : Nat) (b : Bool) (s : State) : LineWork s (afterRecovery i n b s) := by
  unfold afterRecovery
  dsimp only
  split
  · exact endPass_work i n s
  · have h := (LineWork.modLine_eq s i (fun l => { l with state := .passing })).trans (goOn_work i n false _)
    rcases he : goOn i n false (s.modLine i (fun l => { l with state := .passing })) with ⟨u, _ | _⟩ <;> rw [he] at h
    · exact h.trans (endPass_work i _ u)
    · exact h

theorem recoveryProcedureEnd_work (i : Fin 3) (r : List WireReading) (s : State) : LineWork s (recoveryProcedureEnd i r s) := by
  unfold recoveryProcedureEnd
  split
  · refine (LineWork.modLine_eq s i (Line.does (recoveryProcedure r).done)).trans ?_
    dsimp only
    split
    · exact afterRecovery_work i _ _ _
    · exact faultPass_work i _ _ _
    · exact faultPass_work i _ _ _
  · exact .refl s

theorem attemptFailed_work (i : Fin 3) (c : FaultCause) (s : State) : LineWork s (attemptFailed i c s) := by
  refine LineWork.trans (b := s.lines[i].active.foldl (fun s e => failEntry e.entry s) s) ?_ (.modLine_eq _ i _)
  generalize s.lines[i].active = l
  induction l generalizing s with
  | nil => exact .refl s
  | cons e rest ih => exact (failEntry_work e.entry s).trans (ih _)

theorem recoveryAttemptEnd_work (i : Fin 3) (r : List WireReading) (s : State) : LineWork s (recoveryAttemptEnd i r s) := by
  unfold recoveryAttemptEnd
  split
  · refine (LineWork.modLine_eq s i (Line.does (recoveryProcedure r).done)).trans ?_
    dsimp only
    split
    · exact (LineWork.modLine_eq _ i _).trans (startPass_work i 2 _)
    · exact attemptFailed_work i _ _
    · exact attemptFailed_work i _ _
  · exact .refl s

theorem passTimerExpiry_work (i : Fin 3) (s : State) : LineWork s (passTimerExpiry i s) := by
  unfold passTimerExpiry
  split
  · exact .refl s
  · have k := LineWork.modLine_eq s i (fun l => { l with passTimer := some (l.cfg.passInterval * 10) })
    have count (l : Line) (h : LineFits l) : LineFits (if l.pending then l.overrunOne else { l with pending := true }) := by
      split <;> exact h.of_eq rfl rfl rfl
    dsimp only
    split
    · exact k
    · exact k.trans (startPass_work i 2 _)
    · exact k.trans (.modLine _ i _ (count _))
    · exact k.trans (.modLine _ i _ (count _))
    · exact k.trans (.modLine _ i _ (fun h => by split <;> exact h.of_eq rfl rfl rfl))

theorem finishStop_work (i : Fin 3) (s : State) : LineWork s (finishStop i s) := by
  unfold finishStop
  split
  · exact (LineWork.modLine_eq s i _).trans (endPass_work i _ _)
  · exact .refl s

theorem finishStops_work (s : State) : LineWork s (forEach 3 finishStop s) :=
  forEach_rel LineWork .refl (fun _ _ _ => .trans) 3 finishStop finishStop_work s

theorem ownResetLine_work (l : Nat) (s : State) : LineWork s (ownResetLine l s).1 := by
  unfold ownResetLine
  split
  · exact .refl s
  · exact .modLine s _ _ (fun h => h.abort _ _)

theorem ownConfigureLine_work (q : LineFields) (s : State) : LineWork s (ownConfigureLine q s).1 := by
  unfold ownConfigureLine
  repeat' split
  all_goals first | exact .refl s | exact .modLine s _ _ (fun h => h.configure _ _ _)

theorem ownSwapSchedule_work (l : Nat) (s : State) : LineWork s (ownSwapSchedule l s).1 := by
  unfold ownSwapSchedule
  split
  · exact .refl s
  · rename_i i _
    split
    · exact .refl s
    · split
      · exact .refl s
      · split
        · exact swapLine_work i s
        · exact .modLine_eq s i _

theorem applyEdit_work (i : Fin 3) (edited : List Entry) (c : List Byte) (s : State)
    (h : s.lines[i].staged.length ≤ 24 → edited.length ≤ 24) : LineWork s (applyEdit i edited c s).1 := by
  have stored : LineWork s (s.modLine i (fun l => { l with staged := edited })) :=
    .modLine s i _ (fun ⟨ha, hs, hl⟩ => ⟨ha, h hs, hl⟩)
  unfold applyEdit
  dsimp only
  repeat' split
  all_goals first | exact .refl s | exact stored

theorem ownEditEntry_work (l p : Nat) (q : EntryFields) (s : State) : LineWork s (ownEditEntry l p q s).1 := by
  unfold ownEditEntry
  dsimp only
  repeat' split
  all_goals first | exact .refl s | exact applyEdit_work _ _ _ s (by simp)

theorem ownInsertEntry_work (l p : Nat) (q : EntryFields) (s : State) : LineWork s (ownInsertEntry l p q s).1 := by
  unfold ownInsertEntry
  dsimp only
  split
  · split
    · split
      · exact .refl s
      · exact applyEdit_work _ _ _ s (fun _ => by
          simp only [List.length_append, List.length_take, List.length_cons, List.length_drop]; omega)
    · exact .refl s
  · exact .refl s

theorem ownRemoveEntry_work (l p : Nat) (s : State) : LineWork s (ownRemoveEntry l p s).1 := by
  unfold ownRemoveEntry
  dsimp only
  split
  · exact .refl s
  · split
    · exact applyEdit_work _ _ _ s (fun h => (List.length_eraseIdx_le _ _).trans h)
    · exact .refl s

theorem ownClearStaged_work (l : Nat) (s : State) : LineWork s (ownClearStaged l s).1 := by
  unfold ownClearStaged
  split
  · exact .refl s
  · exact applyEdit_work _ _ _ s (by simp)

end Sys2Proof.Machine
end

section
/-! PROOFS. What the part's operations can do, said once (`Moves`): each point, each well with its demand, the governor with its two
drives and the heat exchange unit with the bypass go through moves of a few kinds, and the law of the constraint table is kept. The laws
that every step keeps follow from the moves. -/

namespace Sys2Proof.Machine

-- One after the other: see Laws/Frames.lean.
set_option Elab.async false

open Relation

/-! ### Moves of a well -/

/-- A change of a well that leaves its configuration, its state, what it counts and the view of its ceiling. -/
def Well.Alike (w w' : Well) : Prop :=
  w'.cfg = w.cfg ∧ w'.state = w.state ∧ w'.startLog = w.startLog ∧ w'.tripCount = w.tripCount ∧ w'.decayTimer = w.decayTimer ∧
    w'.ceilingView = w.ceilingView

/-- What an event can do to a well and its demand, a new configuration and the bound views apart (sections 6.4 to 6.9). -/
inductive WellMove : Well × Int → Well × Int → Prop
  | quiet (w w' : Well) (v : Int) (h : w.Alike w') : WellMove (w, v) (w', v)
  | ticked (w w' : Well) (v : Int) (h : w.Alike { w' with decayTimer := w.decayTimer })
      (ht : w'.decayTimer = w.decayTimer.tick) : WellMove (w, v) (w', v)
  | grown (w : Well) (v : Int) : WellMove (w, v) (w.growOld, v)
  | turned (w w' : Well) (v : Int) (h : w.Alike { w' with state := w.state }) (hw : w.state.energised = false)
      (hw' : w'.state.energised = false) (hl : w.state ≠ .lockedOut) (hl' : w'.state ≠ .lockedOut) : WellMove (w, v) (w', v)
  | starting (clock : Nat) (w : Well) (v : Int) (h : w.state = .waitStart ∨ w.state = .suspended)
      (hr : w.logHasRoom = true) : WellMove (w, v) (w.enterStarting clock, w.cfg.minSpeed)
  | confirmed (w : Well) (v : Int) (h : w.state = .starting) :
      WellMove (w, v) ({ w with state := .running, startTimer := none }, v)
  | ran (w : Well) (st : WellState) (v : Int) (h : w.state.isRunning = true) (hst : st.isRunning = true) :
      WellMove (w, v) ({ w with state := st }, ({ w with state := st } : Well).nextDemand v)
  | stopping (goal : StopTo) (cause : Option SuspendCause) (closed : Bool) (w : Well) (v : Int) (h : w.state.energised = true) :
      WellMove (w, v) (w.enterStopping goal cause closed, 0)
  | completed (w : Well) (v : Int) (h : w.state = .stopping) : WellMove (w, v) (w.completeStop, v)
  | tripped (clock : Nat) (cause : WellTripCause) (w : Well) (v : Int) (h : w.state.atRest = false) :
      WellMove (w, v) (w.trip clock cause, 0)
  | decayed (w : Well) (v : Int) (h : w.decayTimer.isSome = true) : WellMove (w, v) (w.decay, v)
  | unlocked (w : Well) (v : Int) (h : w.state = .lockedOut) :
      WellMove (w, v) ({ w with state := .off, tripCount := 0, decayTimer := none }, v)
  | targeted (c : Int) (w : Well) (v : Int) : WellMove (w, v) ({ w with cfg := { w.cfg with target := c } }, v)

/-! ### Moves of the governor -/

/-- What an event can do to the governor and the values of DV8 and DV9 (chapter 07). -/
inductive TurbineMove : Turbine × Int × Int → Turbine × Int × Int → Prop
  | quiet (t t' : Turbine) (a e : Int) (hs : t'.state = t.state) (hg : t'.grant = t.grant)
      (hm : t'.cfg.extractionMax = t.cfg.extractionMax) : TurbineMove (t, a, e) (t', a, e)
  | admitted (t : Turbine) (a e v : Int) (h : t.state.energised = true) : TurbineMove (t, a, e) (t, v, e)
  | rested (t : Turbine) (a e : Int) (h : t.state.energised = true) : TurbineMove (t, a, e) (t, 0, 0)
  | passed (t t' : Turbine) (a e : Int) (hr : t'.grant.request = t.grant.request ∨ 0 ≤ t'.grant.request)
      (hm : t'.cfg.extractionMax = t.cfg.extractionMax ∨ 1 ≤ t'.cfg.extractionMax)
      (hs : t'.state.energised = false → t.state.energised = false ∨ (a = 0 ∧ e = 0)) :
      TurbineMove (t, a, e)
        (t'.settleGrant, a, if t'.state.energised then t'.settleGrant.grant.valveDemand else e)
  | tripped (clock : Nat) (cause : TurbineTripCause) (value : Option Int) (t : Turbine) (a e : Int) :
      TurbineMove (t, a, e) (t.trip clock cause value, 0, 0)

/-- The governor with the values of its drives. -/
def State.governor (s : State) : Turbine × Int × Int :=
  (s.turbine, s.drives[admissionDrive].value, s.drives[extractionDrive].value)

/-- What an event can do to the heat exchange unit and the value of DV10: the configuration stands, and the unit is off with full
bypass, or as it was off before (R165). -/
def HeatMove (h h' : Heating × Int) : Prop :=
  h'.1.cfg = h.1.cfg ∧ (h'.1.state = .off → h'.2 = 10000 ∨ (h.1.state = .off ∧ h'.2 = h.2))

/-- The heat exchange unit with the value of its drive. -/
def State.exchange (s : State) : Heating × Int := (s.heating, s.drives[bypassDrive].value)

theorem HeatMove.refl (h : Heating × Int) : HeatMove h h := ⟨rfl, fun ho => .inr ⟨ho, rfl⟩⟩

theorem HeatMove.trans {a b c : Heating × Int} (h : HeatMove a b) (k : HeatMove b c) : HeatMove a c := by
  refine ⟨k.1.trans h.1, fun ho => ?_⟩
  rcases k.2 ho with hv | ⟨hb, hv⟩
  · exact .inl hv
  · rcases h.2 hb with hu | ⟨ha, hu⟩
    · exact .inl (hv.trans hu)
    · exact .inr ⟨ha, hv.trans hu⟩

/-! ### Moves of the part -/

/-- What an operation of the part can do to points, wells, governor, heat exchange unit and dosing drives, to the lists that have
places, and to the constraint table. -/
structure Moves (s t : State) : Prop where
  points : PointsMove s t
  wells : ∀ k : Fin 8, ReflTransGen WellMove (s.wells[k], demandOf s k) (t.wells[k], demandOf t k)
  turbine : ReflTransGen TurbineMove s.governor t.governor
  heating : HeatMove s.exchange t.exchange
  dosing : ∀ j : Fin 4, t.drives[dosingDrive j].value = s.drives[dosingDrive j].value
  phase : t.phase = s.phase ∧ t.smTimer.isSome = s.smTimer.isSome
  lines : (∀ i : Fin 3, LineFits s.lines[i]) → ∀ i : Fin 3, LineFits t.lines[i]
  periods : s.speedUnit.periods.length ≤ 4 → t.speedUnit.periods.length ≤ 4
  table : TableLaw s → TableLaw t

namespace Moves

theorem refl (s : State) : Moves s s :=
  ⟨.refl s, fun _ => .refl, .refl, .refl _, fun _ => rfl, ⟨rfl, rfl⟩, fun h => h, fun h => h, fun h => h⟩

theorem trans {a b c : State} (h : Moves a b) (k : Moves b c) : Moves a c where
  points := h.points.trans k.points
  wells i := (h.wells i).trans (k.wells i)
  turbine := h.turbine.trans k.turbine
  heating := h.heating.trans k.heating
  dosing j := (k.dosing j).trans (h.dosing j)
  phase := ⟨k.phase.1.trans h.phase.1, k.phase.2.trans h.phase.2⟩
  lines hs := k.lines (h.lines hs)
  periods hs := k.periods (h.periods hs)
  table hs := k.table (h.table hs)

theorem ite {a b c : State} {p : Prop} [Decidable p] (h : Moves a b) (k : Moves a c) : Moves a (if p then b else c) := by
  split <;> assumption

theorem forEach (n : Nat) (f : Fin n → State → State) (h : ∀ i a, Moves a (f i a)) (s : State) :
    Moves s (Machine.forEach n f s) := forEach_rel Moves refl (fun _ _ _ => trans) n f h s

end Moves

/-! ### The law of the constraint table -/

/-- Table and defaults stand, so its law stands. -/
theorem TableLaw.of_eq {s t : State} (hs : t.slots = s.slots) (hb : t.bounds = s.bounds) (hc : t.combined = s.combined)
    (hd : ∀ g, targetDefault t g = targetDefault s g) (h : TableLaw s) : TableLaw t := by
  refine ⟨fun g => ?_, fun k => ?_⟩
  · rw [hb, h.1 g]; unfold boundOf; rw [hs, hd g]
  · rw [hc, h.2 k]; unfold combinedOf; rw [hs, hb]

theorem Target.index_inj {g g' : Target} (h : g.index = g'.index) : g = g' := by
  cases g <;> cases g' <;>
    simp only [Target.index, Fin.ext_iff, Fin.coe_ofNat_eq_mod, Target.wellFloor.injEq, Target.pumpCeil.injEq, reduceCtorEq] at h ⊢ <;>
    omega

section Recompute

variable (g : Target) (s : State)

@[simp] theorem recompute_slots : (recompute g s).slots = s.slots := by cases g <;> rfl
@[simp] theorem recompute_wells : (recompute g s).wells = s.wells := by cases g <;> rfl
@[simp] theorem recompute_heating : (recompute g s).heating = s.heating := by cases g <;> rfl
@[simp] theorem recompute_clock : (recompute g s).clock = s.clock := by cases g <;> rfl

theorem targetDefault_eq {t : State} (hw : ∀ k : Fin 8, t.wells[k].cfg.ownFloor = s.wells[k].cfg.ownFloor)
    (hh : t.heating.cfg.brineFloorDefault = s.heating.cfg.brineFloorDefault) (g : Target) :
    targetDefault t g = targetDefault s g := by
  cases g <;> simp only [targetDefault] <;> first | exact hh | exact hw _

theorem boundOf_recompute (g' : Target) : boundOf (recompute g s) g' = boundOf s g' := by
  unfold boundOf
  rw [recompute_slots, targetDefault_eq s (fun k => by rw [recompute_wells]) (by rw [recompute_heating])]

theorem recompute_bounds_eq : (recompute g s).bounds = s.bounds.set g.index.val (boundOf s g) := by cases g <;> rfl

theorem recompute_bounds (g' : Target) :
    (recompute g s).bounds[g'.index] = if g' = g then boundOf s g else s.bounds[g'.index] := by
  rw [recompute_bounds_eq]
  by_cases h : g' = g
  · subst h; simp
  · have : g.index.val ≠ g'.index.val := fun e => h (Target.index_inj (Fin.ext e.symm))
    simp [h, Vector.getElem_set_ne _ _ this]

/-- The combined ceilings that a recomputation touches are those of its bounds; the others stand (R102). -/
theorem recompute_combined (k : Fin 8) :
    (recompute g s).combined[k] =
      if g = .pumpCeil k ∨ g = .pumpCeilAll then combinedOf (recompute g s) k else s.combined[k] := by
  cases g with
  | brineFloor => simp [recompute, recomputeCombined]
  | wellFloor j => simp [recompute, recomputeCombined]
  | pumpCeilAll => simp [recompute, recomputeCombined]; rfl
  | pumpCeil j =>
    by_cases h : j = k
    · subst h; simp [recompute, recomputeCombined]; rfl
    · have : j.val ≠ k.val := fun e => h (Fin.ext e)
      simp [recompute, recomputeCombined, h, Vector.getElem_set_ne _ _ this]

end Recompute

/-- What is posted for a target follows the slots that name it. -/
theorem postedFor_eq {v w : Vector (Option Post) 22} {k : Fin 22} {g : Target} (ho : ∀ j : Fin 22, j ≠ k → w[j] = v[j])
    (hv : ¬ v[k].map Post.target = some g) (hw : ¬ w[k].map Post.target = some g) (j : Fin 22) :
    postedFor w g j = postedFor v g j := by
  have none (u : Option Post) (h : ¬ u.map Post.target = some g) :
      u.bind (fun p => if p.target = g then some p.value else none) = Option.none := by
    cases u with
    | none => rfl
    | some p => simpa using h
  unfold postedFor
  by_cases hj : j = k
  · subst hj; rw [none _ hv, none _ hw]
  · rw [ho j hj]

theorem boundOf_eq {s t : State} {g : Target} (h : ∀ j, postedFor t.slots g j = postedFor s.slots g j)
    (hd : targetDefault t g = targetDefault s g) : boundOf t g = boundOf s g := by
  unfold boundOf effectiveBound bindingSlot
  rw [hd, funext h]

/-- A slot set, and the bounds of the targets it named before or names now recomputed, is a post or a withdrawal (R98 to R102). -/
theorem Posted.tableLaw {s t : State} {k : Fin 22} {p : Option Post} (h : Posted s t k p)
    (hd : ∀ g, targetDefault t g = targetDefault s g) (hs : TableLaw s) : TableLaw t := by
  obtain ⟨hk, ho, hb, hc⟩ := h
  have same {g : Target} (hg : ¬ (s.slots[k].map Post.target = some g ∨ p.map Post.target = some g)) (j : Fin 22) :
      postedFor t.slots g j = postedFor s.slots g j :=
    postedFor_eq ho (fun e => hg (.inl e)) (fun e => hg (.inr (hk ▸ e))) j
  have bound (g : Target) : t.bounds[g.index] = boundOf t g := by
    by_cases hg : s.slots[k].map Post.target = some g ∨ p.map Post.target = some g
    · exact (hb g).1 hg
    · rw [(hb g).2 hg, hs.1 g, boundOf_eq (same hg) (hd g)]
  refine ⟨bound, fun w => ?_⟩
  by_cases hw : (s.slots[k].map Post.target = some (.pumpCeil w) ∨ p.map Post.target = some (.pumpCeil w)) ∨
      (s.slots[k].map Post.target = some .pumpCeilAll ∨ p.map Post.target = some .pumpCeilAll)
  · exact (hc w).1 hw
  · obtain ⟨h1, h2⟩ := not_or.mp hw
    rw [(hc w).2 h1 h2, hs.2 w]
    unfold combinedOf
    rw [(hb _).2 h1, (hb _).2 h2, funext (same h1), funext (same h2)]

theorem combinedOf_recompute {g : Target} {k : Fin 8} (h : g ≠ .pumpCeil k) (h' : g ≠ .pumpCeilAll) (s : State) :
    combinedOf (recompute g s) k = combinedOf s k := by
  unfold combinedOf
  rw [recompute_bounds, recompute_bounds, if_neg h.symm, if_neg h'.symm, recompute_slots]

/-- The targets of a list recomputed in order. -/
def recomputeAll (gs : List Target) (s : State) : State := gs.foldl (fun s g => recompute g s) s

theorem recomputeAll_spec (gs : List Target) (s : State) :
    let t := recomputeAll gs s
    t.slots = s.slots ∧ (∀ g, boundOf t g = boundOf s g) ∧
      (∀ g : Target, (g ∈ gs → t.bounds[g.index] = boundOf t g) ∧ (g ∉ gs → t.bounds[g.index] = s.bounds[g.index])) ∧
      ∀ w : Fin 8, (.pumpCeil w ∈ gs ∨ .pumpCeilAll ∈ gs → t.combined[w] = combinedOf t w) ∧
        (.pumpCeil w ∉ gs → .pumpCeilAll ∉ gs → t.combined[w] = s.combined[w]) := by
  induction gs using List.reverseRecOn with
  | nil => exact ⟨rfl, fun _ => rfl, fun _ => ⟨nofun, fun _ => rfl⟩, fun _ => ⟨nofun, fun _ _ => rfl⟩⟩
  | append_singleton gs a ih =>
    obtain ⟨hs, hb, ht, hc⟩ := ih
    have e : recomputeAll (gs ++ [a]) s = recompute a (recomputeAll gs s) := by simp [recomputeAll]
    dsimp only
    rw [e]
    refine ⟨by simp [hs], fun g => by rw [boundOf_recompute, hb], fun g => ?_, fun w => ?_⟩
    · rw [recompute_bounds, boundOf_recompute]
      by_cases hg : g = a
      · subst hg; simp
      · simpa [hg] using ht g
    · rw [recompute_combined]
      by_cases hw : a = .pumpCeil w ∨ a = .pumpCeilAll
      · rw [if_pos hw]
        refine ⟨fun _ => rfl, fun h1 h2 => ?_⟩
        rcases hw with rfl | rfl
        · simp at h1
        · simp at h2
      · obtain ⟨h1, h2⟩ := not_or.mp hw
        rw [if_neg hw, combinedOf_recompute h1 h2]
        simpa [Ne.symm h1, Ne.symm h2] using hc w

/-- A slot set and the targets that it named before or names now recomputed. -/
theorem posted_of_recomputeAll {s : State} {k : Fin 22} {p : Option Post} {gs : List Target}
    (h : ∀ g, g ∈ gs ↔ s.slots[k].map Post.target = some g ∨ p.map Post.target = some g) :
    Posted s (recomputeAll gs { s with slots := s.slots.set k.val p }) k p := by
  obtain ⟨hs, -, hb, hc⟩ := recomputeAll_spec gs { s with slots := s.slots.set k.val p }
  refine ⟨by rw [hs]; simp, fun j hj => ?_, fun g => ?_, fun w => ?_⟩
  · rw [hs]
    have : k.val ≠ j.val := fun e => hj (Fin.ext e.symm)
    simp [Vector.getElem_set_ne _ _ this]
  · dsimp only
    rw [← h g]; exact hb g
  · dsimp only
    rw [← h, ← h]; exact hc w

/-- A post into a slot (R98). -/
theorem post_posted (k : Fin 22) (g : Target) (v : Int) (s : State) :
    Posted s (post k g v s) k (some ⟨g, g.cls.clamp v, s.clock⟩) := by
  unfold post
  dsimp only
  cases hk : s.slots[k] with
  | none => exact posted_of_recomputeAll (gs := [g]) (by simp [hk, eq_comm])
  | some p =>
    dsimp only
    split
    · rename_i hp
      exact posted_of_recomputeAll (gs := [g]) (by simp [hk, hp, eq_comm])
    · exact posted_of_recomputeAll (gs := [g, p.target]) (by
        intro a; simp only [hk, List.mem_cons, List.not_mem_nil, or_false, Option.map_some, Option.some.injEq]
        rw [or_comm, eq_comm, @eq_comm _ a g])

/-- A withdrawal of a slot (R99). -/
theorem withdraw_posted (k : Fin 22) (s : State) : Posted s (withdraw k s) k none := by
  unfold withdraw
  cases hk : s.slots[k] with
  | none =>
    exact ⟨hk, fun _ _ => rfl, fun _ => ⟨by simp [hk], fun _ => rfl⟩, fun _ => ⟨by simp [hk], fun _ _ => rfl⟩⟩
  | some p => exact posted_of_recomputeAll (gs := [p.target]) (by simp [hk, eq_comm])

end Sys2Proof.Machine
end

section
/-! PROOFS. Every operation of the part is made of moves: the operations of wells, governor, heat exchange unit, lines and discrete
lines, one lemma each. -/

namespace Sys2Proof.Machine

-- One after the other: see Laws/Frames.lean.
set_option Elab.async false

open Relation

/-! ### Drives -/

@[simp] theorem Drive.write_value (v : Int) (d : Drive) : (d.write v).value = v := by
  unfold Drive.write
  split
  · rename_i h; exact h.symm
  · rfl

theorem writeDrive_at (i j : Fin 15) (v : Int) (s : State) :
    (writeDrive i v s).drives[j] = if i = j then s.drives[i].write v else s.drives[j] := s.modDrive_at i j _

theorem writeDrive_value (i j : Fin 15) (v : Int) (s : State) :
    (writeDrive i v s).drives[j].value = if i = j then v else s.drives[j].value := by
  rw [writeDrive_at]
  split
  · simp
  · rfl

theorem wellDrive_ne {k : Fin 8} {d : Fin 15} (h : 8 ≤ d.val) : wellDrive k ≠ d := by
  intro e
  have := congrArg Fin.val e
  simp only [wellDrive] at this
  omega

theorem wellDrive_inj {k j : Fin 8} : wellDrive k = wellDrive j ↔ k = j := by
  simp [wellDrive, Fin.ext_iff]

theorem demandOf_writeDemand (k j : Fin 8) (v : Int) (s : State) :
    demandOf (writeDemand k v s) j = if k = j then v else demandOf s j := by
  unfold demandOf writeDemand
  rw [writeDrive_value]
  simp only [wellDrive_inj]

/-! ### Operations that leave the moving parts -/

/-- The parts of which the moves speak. -/
def movedParts : List Part :=
  [.phase, .points, .drives, .lines, .speedUnit, .monitor, .constraints, .wells, .turbine, .heating]

theorem WellMove.ownFloor {x y : Well × Int} (h : WellMove x y) : y.1.cfg.ownFloor = x.1.cfg.ownFloor := by
  cases h with
  | quiet w w' v h => exact congrArg WellConfig.ownFloor h.1
  | ticked w w' v h => exact congrArg WellConfig.ownFloor h.1
  | turned w w' v h => exact congrArg WellConfig.ownFloor h.1
  | stopping goal cause closed w v h =>
    cases closed with
    | false => cases goal <;> rfl
    | true => cases goal <;> rfl
  | completed w v h => simp only [Well.completeStop]; split <;> rfl
  | _ => rfl

theorem wellMoves_ownFloor {x y : Well × Int} (h : ReflTransGen WellMove x y) : y.1.cfg.ownFloor = x.1.cfg.ownFloor := by
  induction h with
  | refl => rfl
  | tail _ hm ih => exact hm.ownFloor.trans ih

/-- The values of drives stand where no drive changes. -/
theorem Only.values {qs : List Part} {s t : State} (h : Only qs s t) (hd : Part.drives ∉ qs := by decide) (d : Fin 15)
    (_ : d ∉ ([] : List (Fin 15))) : t.drives[d].value = s.drives[d].value := by
  have e : t.drives = s.drives := h .drives hd
  rw [e]

/-- An operation that changes the parts qs and writes the drives ds: what is left to show are the moves of what it touches. -/
theorem Only.moves {qs : List Part} {s t : State} (h : Only qs s t) (ds : List (Fin 15))
    (values : ∀ d, d ∉ ds → t.drives[d].value = s.drives[d].value)
    (points : Part.points ∉ qs ∨ PointsMove s t := by exact .inl (by decide))
    (wells : (Part.wells ∉ qs ∧ ∀ k, wellDrive k ∉ ds) ∨
      ∀ k : Fin 8, ReflTransGen WellMove (s.wells[k], demandOf s k) (t.wells[k], demandOf t k) := by exact .inl (by decide))
    (turbine : (Part.turbine ∉ qs ∧ admissionDrive ∉ ds ∧ extractionDrive ∉ ds) ∨
      ReflTransGen TurbineMove s.governor t.governor := by exact .inl (by decide))
    (heating : (Part.heating ∉ qs ∧ bypassDrive ∉ ds) ∨ HeatMove s.exchange t.exchange := by exact .inl (by decide))
    (dosing : ∀ j, dosingDrive j ∉ ds := by decide)
    (phase : (Part.phase ∉ qs ∧ Part.monitor ∉ qs) ∨ (t.phase = s.phase ∧ t.smTimer.isSome = s.smTimer.isSome) := by
      exact .inl (by decide))
    (lines : Part.lines ∉ qs ∨ ((∀ i : Fin 3, LineFits s.lines[i]) → ∀ i : Fin 3, LineFits t.lines[i]) := by
      exact .inl (by decide))
    (periods : Part.speedUnit ∉ qs ∨ (s.speedUnit.periods.length ≤ 4 → t.speedUnit.periods.length ≤ 4) := by
      exact .inl (by decide))
    (table : Part.constraints ∉ qs ∨ (TableLaw s → TableLaw t) := by exact .inl (by decide)) : Moves s t := by
  have hp : PointsMove s t := points.elim (fun ha => .of_eq (h .points ha)) id
  have hw (k : Fin 8) : ReflTransGen WellMove (s.wells[k], demandOf s k) (t.wells[k], demandOf t k) := by
    rcases wells with ⟨ha, hd⟩ | hm
    · have e : t.wells = s.wells := h .wells ha
      unfold demandOf
      rw [e, values _ (hd k)]
    · exact hm k
  have ht : ReflTransGen TurbineMove s.governor t.governor := by
    rcases turbine with ⟨ha, hd, he⟩ | hm
    · have e : t.turbine = s.turbine := h .turbine ha
      unfold State.governor
      rw [e, values _ hd, values _ he]
    · exact hm
  have hh : HeatMove s.exchange t.exchange := by
    rcases heating with ⟨ha, hd⟩ | hm
    · have e : t.heating = s.heating := h .heating ha
      unfold State.exchange
      rw [e, values _ hd]
      exact .refl _
    · exact hm
  have hf : t.phase = s.phase ∧ t.smTimer.isSome = s.smTimer.isSome := by
    rcases phase with ⟨ha, hb⟩ | hm
    · have e := h .phase ha
      have m := h .monitor hb
      simp only [Exact, Prod.mk.injEq] at e m
      exact ⟨e.2.2.2.2, congrArg Option.isSome m.1⟩
    · exact hm
  have hl : (∀ i : Fin 3, LineFits s.lines[i]) → ∀ i : Fin 3, LineFits t.lines[i] := by
    rcases lines with ha | hm
    · have e : t.lines = s.lines := h .lines ha
      rw [e]; exact id
    · exact hm
  have hu : s.speedUnit.periods.length ≤ 4 → t.speedUnit.periods.length ≤ 4 := by
    rcases periods with ha | hm
    · have e : t.speedUnit = s.speedUnit := h .speedUnit ha
      rw [e]; exact id
    · exact hm
  have hc : TableLaw s → TableLaw t := by
    rcases table with ha | hm
    · have e := h .constraints ha
      simp only [Exact, Prod.mk.injEq] at e
      exact TableLaw.of_eq e.1 e.2.1 e.2.2
        (targetDefault_eq s (fun k => wellMoves_ownFloor (hw k)) (congrArg HeatingConfig.brineFloorDefault hh.1))
    · exact hm
  exact ⟨hp, hw, ht, hh, fun j => values _ (dosing j), hf, hl, hu, hc⟩

namespace Moves

/-- An operation that leaves the moving parts. -/
theorem of_only {qs : List Part} {s t : State} (h : Only qs s t) (ha : Apart qs movedParts := by decide) : Moves s t := by
  have out (p : Part) (hp : p ∈ movedParts) : p ∉ qs := fun hq => ha p hp hq
  exact h.moves [] (h.values (out _ (by decide))) (.inl (out _ (by decide))) (.inl ⟨out _ (by decide), by decide⟩)
    (.inl ⟨out _ (by decide), by decide⟩) (.inl ⟨out _ (by decide), by decide⟩) (by decide)
    (.inl ⟨out _ (by decide), out _ (by decide)⟩) (.inl (out _ (by decide))) (.inl (out _ (by decide))) (.inl (out _ (by decide)))

theorem modPoint (s : State) (i : Fin 96) (f : Point → Point) (h : PointMove s.points[i] (f s.points[i])) :
    Moves s (s.modPoint i f) :=
  have only := s.modPoint_only i f
  only.moves [] only.values (points := .inr (modPoint_moves s i f h))

theorem modSpeed (s : State) (f : SpeedUnit → SpeedUnit) (h : s.speedUnit.periods.length ≤ 4 → (f s.speedUnit).periods.length ≤ 4) :
    Moves s (s.modSpeed f) :=
  have only := s.modSpeed_only f
  only.moves [] only.values (periods := .inr h)

/-- A post or a withdrawal. -/
theorem of_posted {s t : State} (h : Only [.constraints] s t) {k : Fin 22} {p : Option Post} (hp : Posted s t k p) : Moves s t := by
  have hw : t.wells = s.wells := h .wells (by decide)
  have hh : t.heating = s.heating := h .heating (by decide)
  exact h.moves [] h.values (table := .inr (hp.tableLaw (targetDefault_eq s (fun k => by rw [hw]) (by rw [hh]))))

theorem post (k : Fin 22) (g : Target) (v : Int) (s : State) : Moves s (post k g v s) :=
  of_posted (post_only k g v s) (post_posted k g v s)

theorem withdraw (k : Fin 22) (s : State) : Moves s (withdraw k s) := of_posted (withdraw_only k s) (withdraw_posted k s)

/-- An operation of the lines. -/
theorem of_lineWork {s t : State} (h : Only [.points, .lines, .drives] s t) (k : LineWork s t) : Moves s t :=
  h.moves [] (fun d _ => k.values d) (points := .inr k.points) (lines := .inr k.fits)

/-- An operation of the wells: each well goes through moves, and no drive but theirs is written. -/
theorem of_wells {s t : State} (h : Only [.wells, .drives] s t)
    (hm : ∀ k : Fin 8, ReflTransGen WellMove (s.wells[k], demandOf s k) (t.wells[k], demandOf t k))
    (hd : ∀ d : Fin 15, 8 ≤ d.val → t.drives[d].value = s.drives[d].value) : Moves s t :=
  have others : ∀ d : Fin 15, d ∉ [0, 1, 2, 3, 4, 5, 6, 7] → 8 ≤ d.val := by decide
  h.moves [0, 1, 2, 3, 4, 5, 6, 7] (fun d hn => hd d (others d hn)) (wells := .inr hm)

/-- A move of one well. -/
theorem modWell (s : State) (k : Fin 8) (f : Well → Well) (h : WellMove (s.wells[k], demandOf s k) (f s.wells[k], demandOf s k)) :
    Moves s (s.modWell k f) := by
  refine of_wells ((s.modWell_only k f).mono (by decide)) (fun j => ?_) (fun _ _ => rfl)
  rw [s.modWell_at]
  split
  · rename_i hj; exact hj ▸ .single h
  · exact .refl

/-- A move of one well with its demand. -/
theorem modWell_writeDemand (s : State) (k : Fin 8) (f : Well → Well) (v : Int)
    (h : WellMove (s.wells[k], demandOf s k) (f s.wells[k], v)) : Moves s (writeDemand k v (s.modWell k f)) := by
  refine of_wells (modWell_writeDemand_only k f v s) (fun j => ?_) (fun d hd => ?_)
  · have e : (writeDemand k v (s.modWell k f)).wells[j] = if k = j then f s.wells[k] else s.wells[j] := s.modWell_at k j f
    rw [e, demandOf_writeDemand]
    split
    · rename_i hj; exact hj ▸ .single h
    · exact .refl
  · unfold writeDemand
    rw [writeDrive_value, if_neg (wellDrive_ne hd)]; rfl

/-- An operation of the governor: it goes through moves with its drives, and no other drive is written. -/
theorem of_turbine {s t : State} (h : Only [.turbine, .drives] s t) (hm : ReflTransGen TurbineMove s.governor t.governor)
    (hd : ∀ d : Fin 15, d ≠ admissionDrive → d ≠ extractionDrive → t.drives[d].value = s.drives[d].value) : Moves s t :=
  h.moves [admissionDrive, extractionDrive]
    (fun d hn => hd d (fun e => hn (by simp [e])) (fun e => hn (by simp [e]))) (turbine := .inr hm)

/-- A change of the governor that leaves its state, the grant and extractionMax. -/
theorem modTurbine (s : State) (f : Turbine → Turbine) (hs : (f s.turbine).state = s.turbine.state)
    (hg : (f s.turbine).grant = s.turbine.grant) (hm : (f s.turbine).cfg.extractionMax = s.turbine.cfg.extractionMax) :
    Moves s (s.modTurbine f) :=
  of_turbine ((s.modTurbine_only f).mono (by decide)) (.single (.quiet _ _ _ _ hs hg hm)) (fun _ _ _ => rfl)

theorem writeAdmission (v : Int) (s : State) (h : s.turbine.state.energised = true) : Moves s (writeAdmission v s) := by
  refine of_turbine ((writeDrive_only _ v s).mono (by decide)) (.single ?_) (fun d ha _ => ?_)
  · have e : (writeDrive admissionDrive v s).governor = (s.turbine, v, s.drives[extractionDrive].value) := by
      unfold State.governor
      rw [writeDrive_value, writeDrive_value]; rfl
    unfold Machine.writeAdmission
    rw [e]
    exact .admitted _ _ _ v h
  · unfold Machine.writeAdmission
    rw [writeDrive_value, if_neg ha.symm]

end Moves

theorem restDrives_value (d : Fin 15) (s : State) :
    (restDrives s).drives[d].value = if d = admissionDrive ∨ d = extractionDrive then 0 else s.drives[d].value := by
  unfold restDrives
  rw [writeDrive_value, writeDrive_value]
  simp only [@eq_comm _ d]
  by_cases ha : admissionDrive = d <;> by_cases he : extractionDrive = d <;> simp [ha, he]

theorem restDrives_governor (s : State) : (restDrives s).governor = (s.turbine, 0, 0) := by
  unfold State.governor
  rw [restDrives_value, restDrives_value]; rfl

theorem recomputeGrant_turbine (s : State) : (recomputeGrant s).turbine = s.turbine.settleGrant := by
  unfold recomputeGrant
  dsimp only
  split <;> rfl

theorem recomputeGrant_value (d : Fin 15) (s : State) :
    (recomputeGrant s).drives[d].value =
      if d = extractionDrive ∧ s.turbine.state.energised = true then s.turbine.settleGrant.grant.valveDemand
      else s.drives[d].value := by
  unfold recomputeGrant
  dsimp only
  by_cases he : s.turbine.state.energised = true
  · have : (s.modTurbine Turbine.settleGrant).turbine.state.energised = true := he
    rw [if_pos this, writeDrive_value]
    simp only [he, and_true, @eq_comm _ d]; rfl
  · have : ¬ (s.modTurbine Turbine.settleGrant).turbine.state.energised = true := he
    rw [if_neg this, if_neg (fun h => he h.2)]; rfl

namespace Moves

theorem restDrives (s : State) (h : s.turbine.state.energised = true) : Moves s (restDrives s) := by
  refine of_turbine ((restDrives_only s).mono (by decide)) (.single ?_) (fun d ha he => ?_)
  · rw [restDrives_governor]; exact .rested _ _ _ h
  · rw [restDrives_value, if_neg (by simp [ha, he])]

/-- A passage of the governor that is no trip. -/
theorem passTurbine (f : Turbine → Turbine) (s : State)
    (hr : (f s.turbine).grant.request = s.turbine.grant.request ∨ 0 ≤ (f s.turbine).grant.request)
    (hm : (f s.turbine).cfg.extractionMax = s.turbine.cfg.extractionMax ∨ 1 ≤ (f s.turbine).cfg.extractionMax)
    (hs : (f s.turbine).state.energised = false →
      s.turbine.state.energised = false ∨ (s.drives[admissionDrive].value = 0 ∧ s.drives[extractionDrive].value = 0)) :
    Moves s (passTurbine f s) := by
  refine of_turbine (passTurbine_only f s) (.single ?_) (fun d _ he => ?_)
  · have e : (Machine.passTurbine f s).governor = ((f s.turbine).settleGrant, s.drives[admissionDrive].value,
        if (f s.turbine).state.energised then (f s.turbine).settleGrant.grant.valveDemand else s.drives[extractionDrive].value) := by
      unfold State.governor Machine.passTurbine
      rw [recomputeGrant_turbine, recomputeGrant_value, recomputeGrant_value]
      simp [admissionDrive, extractionDrive]
    rw [e]
    exact .passed _ _ _ _ hr hm hs
  · unfold Machine.passTurbine
    rw [recomputeGrant_value, if_neg (fun h => he h.1)]; rfl

theorem recomputeGrant (s : State) : Moves s (recomputeGrant s) :=
  passTurbine (fun t => t) s (.inl rfl) (.inl rfl) .inl

theorem writeRequest (v : Int) (hv : 0 ≤ v) (s : State) : Moves s (writeRequest v s) :=
  passTurbine (fun t => { t with grant := { t.grant with request := v } }) s (.inr hv) (.inl rfl) .inl

theorem tripTurbine (c : TurbineTripCause) (v : Option Int) (s : State) : Moves s (tripTurbine c v s) := by
  unfold Machine.tripTurbine postRunback
  refine trans (of_turbine ((s.modTurbine_only _).seq (restDrives_only _)) (.single ?_) (fun d ha he => ?_)) (post _ _ _ _)
  · rw [restDrives_governor]; exact .tripped _ _ _ _ _ _
  · rw [restDrives_value, if_neg (by simp [ha, he])]; rfl

theorem tripOrLater (c : TurbineTripCause) (v : Option Int) (s : State) : Moves s (tripOrLater c v s) := by
  unfold Machine.tripOrLater
  exact .ite ((modTurbine s _ rfl rfl rfl).trans (post _ _ _ _)) (tripTurbine c v s)

end Moves

/-! ### Wells -/

theorem enterStarting_moves (k : Fin 8) (s : State) (h : s.wells[k].state = .waitStart ∨ s.wells[k].state = .suspended)
    (hr : s.wells[k].logHasRoom = true) : Moves s (enterStarting k s) :=
  .modWell_writeDemand s k _ _ (.starting _ _ _ h hr)

theorem enterStopping_moves (k : Fin 8) (g : StopTo) (c : Option SuspendCause) (s : State)
    (h : s.wells[k].state.energised = true) : Moves s (enterStopping k g c s) :=
  .modWell_writeDemand s k _ _ (.stopping _ _ _ _ _ h)

theorem tripWell_moves (k : Fin 8) (c : WellTripCause) (s : State) (h : s.wells[k].state.atRest = false) :
    Moves s (tripWell k c s) := .modWell_writeDemand s k _ _ (.tripped _ _ _ _ h)

/-- A change of a well that leaves what the moves speak of. -/
theorem modWell_quiet (k : Fin 8) (f : Well → Well) (s : State) (h : s.wells[k].Alike (f s.wells[k])) : Moves s (s.modWell k f) :=
  .modWell s k f (.quiet _ _ _ h)

theorem estopWells_moves (s : State) : Moves s (estopWells s) := by
  refine Moves.forEach 8 _ (fun k s => ?_) s
  split
  · exact .refl s
  · rename_i h; exact tripWell_moves k .estop s (by simpa using h)

theorem WellState.atRest_of_isRunning {st : WellState} (h : st.isRunning = true) : st.atRest = false := by
  cases st <;> first | rfl | cases h

theorem WellState.energised_of_isRunning {st : WellState} (h : st.isRunning = true) : st.energised = true := by
  cases st <;> first | rfl | cases h

theorem feedbackChanged_moves (k : Fin 8) (b : Bool) (s : State) : Moves s (feedbackChanged k b s) := by
  unfold feedbackChanged
  dsimp only
  split
  · split
    · rename_i h; exact .modWell s k _ (.confirmed _ _ h)
    · exact .refl s
  · split
    · rename_i h; exact tripWell_moves k _ s (WellState.atRest_of_isRunning h)
    · split
      · rename_i h; exact .modWell s k _ (.completed _ _ h)
      · exact .refl s

theorem startTimerExpiry_moves (k : Fin 8) (s : State) : Moves s (startTimerExpiry k s) := by
  unfold startTimerExpiry
  split
  · exact .refl s
  · have q := modWell_quiet k (fun w => { w with startTimer := none }) s ⟨rfl, rfl, rfl, rfl, rfl, rfl⟩
    dsimp only
    split
    · rename_i h; exact q.trans (tripWell_moves k _ _ (by rw [h]; rfl))
    · exact q

theorem stopTimerExpiry_moves (k : Fin 8) (s : State) : Moves s (stopTimerExpiry k s) := by
  unfold stopTimerExpiry
  split
  · exact .refl s
  · have q := modWell_quiet k (fun w => { w with stopTimer := none }) s ⟨rfl, rfl, rfl, rfl, rfl, rfl⟩
    dsimp only
    split
    · rename_i h; exact q.trans (tripWell_moves k _ _ (by rw [h]; rfl))
    · exact q

theorem tripDecayExpiry_moves (k : Fin 8) (s : State) : Moves s (tripDecayExpiry k s) := by
  unfold tripDecayExpiry
  split
  · exact .refl s
  · rename_i h; exact .modWell s k _ (.decayed _ _ (by rw [h]; rfl))

theorem startConditionUnmet_room {s : State} {k : Fin 8} (h : startConditionUnmet s k = none) :
    s.wells[k].logHasRoom = true := by
  cases hr : s.wells[k].logHasRoom with
  | true => rfl
  | false =>
    unfold startConditionUnmet at h
    rw [hr] at h
    split at h
    · cases h
    · split at h <;> cases h

theorem startOrWait_moves (k : Fin 8) (s : State) (h : s.wells[k].state = .waitStart ∨ s.wells[k].state = .suspended) :
    Moves s (startOrWait k s) := by
  unfold startOrWait
  split
  · rename_i hc; exact enterStarting_moves k s h (startConditionUnmet_room hc)
  · exact modWell_quiet k _ s ⟨rfl, rfl, rfl, rfl, rfl, rfl⟩

theorem settleFloor_moves (k : Fin 8) (s : State) (h : s.wells[k].state.energised = true) : Moves s (settleFloor k s) := by
  unfold settleFloor
  dsimp only
  split
  · exact modWell_quiet k _ s ⟨rfl, rfl, rfl, rfl, rfl, rfl⟩
  · exact .refl s
  · exact .ite (enterStopping_moves k _ _ s h) (modWell_quiet k _ s ⟨rfl, rfl, rfl, rfl, rfl, rfl⟩)

/-- A stage settled and the demand that follows from it. -/
theorem runStage_moves (k : Fin 8) (st : WellState) (s : State) (h : s.wells[k].state.isRunning = true)
    (hst : st.isRunning = true) : Moves s (runDemand k (s.modWell k (fun w => { w with state := st }))) := by
  unfold runDemand
  have e : (s.modWell k (fun w => { w with state := st })).wells[k] = { s.wells[k] with state := st } := by
    rw [s.modWell_at, if_pos rfl]
  refine Moves.trans (.modWell_writeDemand s k _ _ ?_) (settleFloor_moves k _ ?_)
  · rw [e]; exact .ran _ st _ h hst
  · have : (writeDemand k ((s.modWell k (fun w => { w with state := st })).wells[k].nextDemand
        (demandOf (s.modWell k (fun w => { w with state := st })) k)) (s.modWell k (fun w => { w with state := st }))).wells[k] =
        { s.wells[k] with state := st } := e
    rw [this]; exact WellState.energised_of_isRunning hst

theorem WellConfig.stage_isRunning (c : WellConfig) (tw : Int) {st : WellState} (h : st.isRunning = true) :
    (c.stage tw st).isRunning = true := by
  unfold WellConfig.stage
  repeat' split
  all_goals first | rfl | exact h

theorem runWell_moves (k : Fin 8) (s : State) (h : s.wells[k].state.isRunning = true) : Moves s (runWell k s) := by
  unfold runWell
  dsimp only
  split
  · exact runStage_moves k .throttle1 s h rfl
  · rename_i tw _
    split
    · exact enterStopping_moves k _ _ s (WellState.energised_of_isRunning h)
    · have e : s.modWell k (fun w => { w with state := w.cfg.stage tw w.state }) =
          s.modWell k (fun w => { w with state := s.wells[k].cfg.stage tw s.wells[k].state }) := rfl
      rw [e]
      exact runStage_moves k _ s h (WellConfig.stage_isRunning _ tw h)

theorem testRestart_moves (k : Fin 8) (s : State) (h : s.wells[k].state = .suspended) : Moves s (testRestart k s) := by
  unfold testRestart
  dsimp only
  exact .ite (modWell_quiet k _ s ⟨rfl, rfl, rfl, rfl, rfl, rfl⟩)
    (.ite (modWell_quiet k _ s ⟨rfl, rfl, rfl, rfl, rfl, rfl⟩) (startOrWait_moves k s (.inr h)))

theorem wellWork_moves (k : Fin 8) (s : State) : Moves s (wellWork k s) := by
  have runs (h : s.wells[k].state.isRunning = true) :
      Moves s (if wellDriveLost s k then tripWell k .driveLost s else runWell k s) :=
    .ite (tripWell_moves k _ s (WellState.atRest_of_isRunning h)) (runWell_moves k s h)
  unfold wellWork
  split
  · rename_i h; exact startOrWait_moves k s (.inl h)
  · rename_i h; exact testRestart_moves k s h
  · rename_i h; exact .ite (tripWell_moves k _ s (by rw [h]; rfl)) (.refl s)
  · rename_i h; exact runs (by rw [h]; rfl)
  · rename_i h; exact runs (by rw [h]; rfl)
  · rename_i h; exact runs (by rw [h]; rfl)
  all_goals exact .refl s

theorem stopWell_moves (k : Fin 8) (s : State) : Moves s (stopWell k s) := by
  unfold stopWell
  split
  · exact .refl s
  · exact .refl s
  · exact .refl s
  · rename_i h
    exact .modWell s k _ (.turned _ _ _ ⟨rfl, rfl, rfl, rfl, rfl, rfl⟩ (by rw [h]; rfl) rfl (by rw [h]; nofun) nofun)
  · rename_i h; exact enterStopping_moves k _ _ s (by rw [h]; rfl)
  · rename_i h; exact enterStopping_moves k _ _ s (by rw [h]; rfl)
  · rename_i h; exact enterStopping_moves k _ _ s (by rw [h]; rfl)
  · rename_i h; exact enterStopping_moves k _ _ s (by rw [h]; rfl)
  · exact modWell_quiet k _ s ⟨rfl, rfl, rfl, rfl, rfl, rfl⟩
  · rename_i h
    exact .modWell s k _ (.turned _ _ _ ⟨rfl, rfl, rfl, rfl, rfl, rfl⟩ (by rw [h]; rfl) rfl (by rw [h]; nofun) nofun)

theorem stopAllWells_moves (s : State) : Moves s (stopAllWells s) :=
  Moves.forEach 8 _ (fun k s => .ite (.refl s) (stopWell_moves k s)) s

theorem ownStart_moves (w : Nat) (s : State) : Moves s (ownStart w s).1 := by
  unfold ownStart
  split
  · exact .refl s
  · rename_i k _
    dsimp only
    split
    · rename_i h
      split
      · exact .refl s
      · refine .modWell s k _ (.turned _ _ _ ⟨rfl, rfl, rfl, rfl, rfl, rfl⟩ ?_ rfl ?_ nofun)
        · rcases h with h | h <;> rw [h] <;> rfl
        · rcases h with h | h <;> rw [h] <;> nofun
    · exact .refl s

theorem ownStop_moves (w : Nat) (s : State) : Moves s (ownStop w s).1 := by
  unfold ownStop
  split
  · exact .refl s
  · exact stopWell_moves _ s

theorem ownSetTarget_moves (w : Nat) (v : Int) (s : State) : Moves s (ownSetTarget w v s).1 := by
  unfold ownSetTarget
  split
  · exact .refl s
  · exact .modWell s _ _ (.targeted _ _ _)

theorem ownWellResetTrip_moves (w : Nat) (s : State) : Moves s (ownWellResetTrip w s).1 := by
  unfold ownWellResetTrip
  split
  · exact .refl s
  · split
    · rename_i h
      split
      · exact .refl s
      · exact .modWell s _ _ (.turned _ _ _ ⟨rfl, rfl, rfl, rfl, rfl, rfl⟩ (by rw [h]; rfl) rfl (by rw [h]; nofun) nofun)
    · exact .refl s

theorem ownUnlock_moves (w : Nat) (s : State) : Moves s (ownUnlock w s).1 := by
  unfold ownUnlock
  split
  · exact .refl s
  · split
    · rename_i h
      split
      · exact .refl s
      · exact .modWell s _ _ (.unlocked _ _ h)
    · exact .refl s

/-! ### Turbine and speed unit -/

theorem rejectLoad_moves (s : State) (h : s.turbine.state.energised = true) : Moves s (rejectLoad s) := by
  have e : rejectLoad s = passTurbine Turbine.reject (writeAdmission s.turbine.reject.speedLoop.output s) := rfl
  rw [e]
  exact (Moves.writeAdmission _ s h).trans (.passTurbine _ _ (.inl rfl) (.inl rfl) nofun)

theorem stopTurbine_moves (s : State) (h : s.turbine.state.energised = true) : Moves s (stopTurbine s) := by
  unfold stopTurbine
  refine (Moves.restDrives s h).trans (.passTurbine _ _ (.inl rfl) (.inl rfl) (fun _ => .inr ?_))
  rw [restDrives_value, restDrives_value]; exact ⟨rfl, rfl⟩

theorem enterLoaded_moves (s : State) : Moves s (passTurbine Turbine.enterLoaded s) :=
  .passTurbine _ _ (.inl rfl) (.inl rfl) nofun

theorem breakerChanged_moves (b : Bool) (s : State) : Moves s (breakerChanged b s) := by
  unfold breakerChanged
  split
  · exact enterLoaded_moves s
  · exact enterLoaded_moves s
  · rename_i h; exact rejectLoad_moves s (by rw [h]; rfl)
  · rename_i h; exact stopTurbine_moves s (by rw [h]; rfl)
  · exact .refl s

theorem estopTurbine_moves (s : State) : Moves s (estopTurbine s) := by
  unfold estopTurbine
  exact .ite (.tripTurbine _ _ s) (.refl s)

theorem speedLost_moves (s : State) : Moves s (speedLost s) := by
  unfold speedLost
  dsimp only
  repeat' split
  all_goals first | exact .tripTurbine _ _ s | exact .refl s

theorem atSpeedPoint_all (f : Point → Point) (h : ∀ p, PointMove p (f p)) (s : State) : Moves s (atSpeedPoint f s) := by
  unfold atSpeedPoint
  split
  · exact .modPoint s _ f (h _)
  · exact .refl s

theorem speedComputed_all (v : Int) (s : State) : Moves s (speedComputed v s) := by
  unfold speedComputed
  dsimp only
  refine (atSpeedPoint_all (Point.goodRead v false) (.good _ _) s).trans ?_
  generalize atSpeedPoint (Point.goodRead v false) s = u
  have k : Moves u (if u.turbine.state.energised = true then u.modTurbine (fun t => { t with speedAcquired := true }) else u) :=
    .ite (.modTurbine u _ rfl rfl rfl) (.refl u)
  generalize (if u.turbine.state.energised = true then u.modTurbine (fun t => { t with speedAcquired := true }) else u) = x at k ⊢
  exact .ite (k.trans (.tripOrLater _ _ x)) k

theorem SpeedUnit.edge_periods (stamp : TimeBase) (u : SpeedUnit) : (u.edge stamp).periods.length ≤ 4 := by
  have later (last : TimeBase) : (u.laterEdge last stamp).periods.length ≤ 4 := by
    unfold SpeedUnit.laterEdge
    dsimp only
    split <;> exact (List.length_take_le _ _)
  unfold SpeedUnit.edge
  split
  · exact later _
  · exact later _
  · exact Nat.zero_le 4

theorem SpeedUnit.forget_periods (u : SpeedUnit) : u.forget.periods = [] := by
  unfold SpeedUnit.forget
  split <;> rfl

theorem SpeedUnit.configure_periods (c : SpeedConfig) (u : SpeedUnit) (h : u.periods.length ≤ 4) :
    (u.configure c).periods.length ≤ 4 := by
  unfold SpeedUnit.configure
  split
  · exact h
  · rw [SpeedUnit.forget_periods]; exact Nat.zero_le 4

theorem toothEdge_all (o : TimeBase) (s : State) : Moves s (toothEdge o s) := by
  unfold toothEdge
  have h := Moves.modSpeed s (SpeedUnit.edge (s.speedUnit.timeBase + o)) (fun _ => SpeedUnit.edge_periods _ _)
  dsimp only
  split
  · split
    · exact h.trans (speedComputed_all _ _)
    · exact h
  · exact h

theorem lossTimerExpiry_all (s : State) : Moves s (lossTimerExpiry s) := by
  unfold lossTimerExpiry
  split
  · exact .refl s
  · exact ((Moves.modSpeed s SpeedUnit.lose (fun _ => Nat.zero_le 4)).trans (atSpeedPoint_all _ .failed _)).trans (speedLost_moves _)

theorem rollTimerExpiry_moves (s : State) : Moves s (rollTimerExpiry s) := by
  unfold rollTimerExpiry
  split
  · exact .refl s
  · have h := Moves.modTurbine s (fun t => { t with rollTimer := none }) rfl rfl rfl
    exact .ite (h.trans (.tripTurbine _ _ _)) h

theorem breakerTimerExpiry_moves (s : State) : Moves s (breakerTimerExpiry s) := by
  unfold breakerTimerExpiry
  split
  · exact .refl s
  · have h := Moves.modTurbine s (fun t => { t with breakerTimer := none }) rfl rfl rfl
    exact .ite (h.trans (.tripTurbine _ _ _)) h

theorem Turbine.runSpeedLoop_keeps (a : Int) (t : Turbine) : (t.runSpeedLoop a).state = t.state ∧
    (t.runSpeedLoop a).grant = t.grant ∧ (t.runSpeedLoop a).cfg = t.cfg := by
  unfold Turbine.runSpeedLoop
  dsimp only
  split <;> exact ⟨rfl, rfl, rfl⟩

theorem Turbine.runPowerLoop_keeps (a : Int) (t : Turbine) : (t.runPowerLoop a).1.state = t.state ∧
    (t.runPowerLoop a).1.grant = t.grant ∧ (t.runPowerLoop a).1.cfg = t.cfg := by
  unfold Turbine.runPowerLoop
  dsimp only
  repeat' split
  all_goals exact ⟨rfl, rfl, rfl⟩

theorem Turbine.runHeaderLoop_keeps (a : Int) (t : Turbine) : (t.runHeaderLoop a).1.state = t.state ∧
    (t.runHeaderLoop a).1.grant = t.grant ∧ (t.runHeaderLoop a).1.cfg = t.cfg := by
  unfold Turbine.runHeaderLoop
  dsimp only
  repeat' split
  all_goals exact ⟨rfl, rfl, rfl⟩

/-- The governor changed without a passage, and DV8 written. -/
theorem modTurbine_writeAdmission_moves (f : Turbine → Turbine) (v : Int) (s : State) (h : s.turbine.state.energised = true)
    (hs : (f s.turbine).state = s.turbine.state) (hg : (f s.turbine).grant = s.turbine.grant)
    (hc : (f s.turbine).cfg = s.turbine.cfg) : Moves s (writeAdmission v (s.modTurbine f)) :=
  (Moves.modTurbine s f hs hg (by rw [hc])).trans
    (.writeAdmission v _ (by
      have : (s.modTurbine f).turbine.state = s.turbine.state := hs
      rw [this]; exact h))

theorem rollingWork_moves (s : State) (h : s.turbine.state.energised = true) : Moves s (rollingWork s) := by
  unfold rollingWork
  dsimp only
  obtain ⟨hs, hg, hc⟩ := s.turbine.rampSpeed.runSpeedLoop_keeps s.drives[admissionDrive].value
  have q := modTurbine_writeAdmission_moves (fun t => t.rampSpeed.runSpeedLoop s.drives[admissionDrive].value)
    ((s.turbine.rampSpeed.runSpeedLoop s.drives[admissionDrive].value).speedLoop.output) s h hs hg hc
  split
  · split
    · exact q.trans (.passTurbine _ _ (.inl rfl) (.inl rfl) nofun)
    · exact q.trans (.modTurbine _ _ rfl rfl rfl)
  · exact q.trans (.modTurbine _ _ rfl rfl rfl)

theorem syncWaitWork_moves (s : State) (h : s.turbine.state.energised = true) : Moves s (syncWaitWork s) := by
  unfold syncWaitWork
  dsimp only
  obtain ⟨hs, hg, hc⟩ := ({ s.turbine with speedSetpoint := s.turbine.cfg.syncSpeed } : Turbine).runSpeedLoop_keeps
    s.drives[admissionDrive].value
  have q := modTurbine_writeAdmission_moves
    (fun t => ({ t with speedSetpoint := t.cfg.syncSpeed } : Turbine).runSpeedLoop s.drives[admissionDrive].value)
    ((({ s.turbine with speedSetpoint := s.turbine.cfg.syncSpeed } : Turbine).runSpeedLoop
      s.drives[admissionDrive].value).speedLoop.output) s h hs hg hc
  split
  · exact q
  · exact q.trans (.passTurbine _ _ (.inl rfl) (.inl rfl) nofun)

theorem powerWork_moves (s : State) (h : s.turbine.state.energised = true) : Moves s (powerWork s) := by
  obtain ⟨hs, hg, hc⟩ := s.turbine.runPowerLoop_keeps s.drives[admissionDrive].value
  exact .ite (modTurbine_writeAdmission_moves _ _ s h hs hg hc) (.modTurbine s _ hs hg (congrArg _ hc))

theorem headerWork_moves (s : State) (h : s.turbine.state.energised = true) : Moves s (headerWork s) := by
  obtain ⟨hs, hg, hc⟩ := s.turbine.runHeaderLoop_keeps s.drives[admissionDrive].value
  exact .ite (modTurbine_writeAdmission_moves _ _ s h hs hg hc) (.modTurbine s _ hs hg (congrArg _ hc))

theorem settleHeader_moves (s : State) : Moves s (settleHeader s) := by
  unfold settleHeader
  dsimp only
  repeat' split
  all_goals first | exact .refl s | exact .tripTurbine _ _ s | exact .modTurbine s _ rfl rfl rfl

theorem rampPower_moves (g : Int) (s : State) : Moves s (rampPower g s) := .modTurbine s _ rfl rfl rfl

theorem loadedWork_moves (s : State) (h : s.turbine.state.energised = true) : Moves s (loadedWork s) := by
  unfold loadedWork
  split
  · exact ((rampPower_moves _ s).trans (powerWork_moves _ h)).trans (settleHeader_moves _)
  · exact (headerWork_moves s h).trans (settleHeader_moves _)

theorem unloadingWork_moves (s : State) (h : s.turbine.state.energised = true) : Moves s (unloadingWork s) := by
  unfold unloadingWork
  dsimp only
  have q := (rampPower_moves s.turbine.cfg.minLoad s).trans (powerWork_moves _ h)
  exact .ite (q.trans (.modTurbine _ _ rfl rfl rfl)) q

theorem Turbine.verify_keeps (t : Turbine) : t.verify.state = t.state ∧ t.verify.grant = t.grant ∧ t.verify.cfg = t.cfg := by
  unfold Turbine.verify
  dsimp only
  repeat' split
  all_goals exact ⟨rfl, rfl, rfl⟩

theorem turbineWork_moves (s : State) : Moves s (turbineWork s) := by
  unfold turbineWork
  split
  · rename_i h; exact rollingWork_moves s (by rw [h]; rfl)
  · rename_i h; exact syncWaitWork_moves s (by rw [h]; rfl)
  · rename_i h; exact loadedWork_moves s (by rw [h]; rfl)
  · rename_i h; exact unloadingWork_moves s (by rw [h]; rfl)
  · obtain ⟨hs, hg, hc⟩ := s.turbine.verify_keeps
    exact .modTurbine s _ hs hg (congrArg _ hc)
  · exact .refl s

theorem turbinePeriod_moves (s : State) : Moves s (turbinePeriod s) := by
  unfold turbinePeriod
  dsimp only
  have h : Moves s (readTurbineInputs s) := by unfold readTurbineInputs; exact .modTurbine s _ rfl rfl rfl
  split
  · exact h.trans (.tripTurbine _ _ _)
  · have k := h.trans (turbineWork_moves (readTurbineInputs s))
    exact .ite k (k.trans (.recomputeGrant _))

theorem tgPeriodExpiry_moves (s : State) : Moves s (tgPeriodExpiry s) := by
  unfold tgPeriodExpiry
  split
  · exact .refl s
  · exact (Moves.modTurbine s _ rfl rfl rfl).trans (turbinePeriod_moves _)

theorem Turbine.startUnload_keeps (t : Turbine) : t.startUnload.grant = t.grant ∧ t.startUnload.cfg = t.cfg ∧
    t.startUnload.state = .unloading := by
  unfold Turbine.startUnload
  split <;> exact ⟨rfl, rfl, rfl⟩

theorem unloadTurbine_moves (s : State) : Moves s (unloadTurbine s) := by
  unfold unloadTurbine
  split
  · obtain ⟨hg, hc, hs⟩ := s.turbine.startUnload_keeps
    exact .passTurbine _ s (.inl (by rw [hg])) (.inl (by rw [hc])) (fun h => by rw [hs] at h; cases h)
  · rename_i h; exact stopTurbine_moves s (by rw [h]; rfl)
  · rename_i h; exact stopTurbine_moves s (by rw [h]; rfl)
  all_goals exact .refl s

theorem unloadIfLoaded_moves (s : State) : Moves s (unloadIfLoaded s) := by
  unfold unloadIfLoaded
  exact .ite (unloadTurbine_moves s) (.refl s)

theorem ownRoll_moves (s : State) : Moves s (ownRoll s).1 := by
  unfold ownRoll
  split
  · split
    · exact .refl s
    · exact .passTurbine (Turbine.startRoll s.speedUnit.signal) s (.inl rfl) (.inl rfl) nofun
  · exact .refl s

theorem Turbine.setMode_keeps (m : TurbineMode) (t : Turbine) : (t.setMode m).state = t.state ∧ (t.setMode m).grant = t.grant ∧
    (t.setMode m).cfg = t.cfg := by
  unfold Turbine.setMode
  split <;> exact ⟨rfl, rfl, rfl⟩

theorem ownSetMode_moves (m : Nat) (s : State) : Moves s (ownSetMode m s).1 := by
  unfold ownSetMode
  split
  · exact .refl s
  · rename_i m _
    obtain ⟨hs, hg, hc⟩ := s.turbine.setMode_keeps m
    exact .modTurbine s _ hs hg (congrArg _ hc)

theorem ownTurbineResetTrip_moves (s : State) : Moves s (ownTurbineResetTrip s).1 := by
  unfold ownTurbineResetTrip
  split
  · exact .refl s
  · rename_i h
    have ht : s.turbine.state = .tripped := by
      by_contra hn; exact h (.inl hn)
    exact (Moves.passTurbine _ s (.inl rfl) (.inl rfl) (fun _ => .inl (by rw [ht]; rfl))).trans (.withdraw _ _)

theorem Turbine.takeLoadRange_keeps (old : TurbineConfig) (t : Turbine) : (t.takeLoadRange old).state = t.state ∧
    (t.takeLoadRange old).grant = t.grant ∧ (t.takeLoadRange old).cfg = t.cfg := by
  unfold Turbine.takeLoadRange
  repeat' split
  all_goals exact ⟨rfl, rfl, rfl⟩

theorem storeTurbine_moves (new : TurbineConfig) (speed : SpeedConfig) (h : 1 ≤ new.extractionMax) (s : State) :
    Moves s (storeTurbine new speed s) := by
  unfold storeTurbine
  dsimp only
  have hu := Moves.modSpeed s (SpeedUnit.configure speed) (SpeedUnit.configure_periods speed _)
  obtain ⟨hs, hg, hc⟩ := ({ s.turbine with cfg := new } : Turbine).takeLoadRange_keeps s.turbine.cfg
  have k : Moves s
      (if s.turbine.cfg.extractionMax = new.extractionMax ∧ s.turbine.cfg.extractionMinLoad = new.extractionMinLoad then
        (s.modSpeed (SpeedUnit.configure speed)).modTurbine (fun t => ({ t with cfg := new } : Turbine).takeLoadRange s.turbine.cfg)
       else recomputeGrant ((s.modSpeed (SpeedUnit.configure speed)).modTurbine
        (fun t => ({ t with cfg := new } : Turbine).takeLoadRange s.turbine.cfg))) := by
    split
    · rename_i he
      refine hu.trans (.modTurbine _ _ hs hg ?_)
      exact (congrArg TurbineConfig.extractionMax hc).trans he.1.symm
    · refine hu.trans (.passTurbine _ _ (.inl (congrArg GrantRecord.request hg)) (.inr ?_) (fun he => .inl ?_))
      · have : (({ s.turbine with cfg := new } : Turbine).takeLoadRange s.turbine.cfg).cfg.extractionMax = new.extractionMax :=
          congrArg TurbineConfig.extractionMax hc
        exact this ▸ h
      · exact (congrArg TurbineState.energised hs).symm.trans he
  exact .ite (k.trans (.post _ _ _ _)) k

end Sys2Proof.Machine
end

section
/-! PROOFS. The moves of discrete lines, heat exchange unit, supervision and requests, and what every event of the field and every
request comes to. -/

namespace Sys2Proof.Machine

-- One after the other: see Laws/Frames.lean.
set_option Elab.async false

open Relation

/-! ### Discrete lines -/

namespace Moves

theorem modDiscrete (s : State) (i : Fin 24) (f : Discrete → Discrete) : Moves s (s.modDiscrete i f) :=
  of_only (s.modDiscrete_only i f)

end Moves

theorem readLinePoint_all (i : Fin 24) (s : State) : Moves s (readLinePoint i s) := by
  unfold readLinePoint
  split
  · exact .modPoint s _ _ (.good _ _ _)
  · exact .refl s

theorem roleChanged_moves (i : Fin 24) (b : Bool) (s : State) : Moves s (roleChanged i b s) := by
  unfold roleChanged estopEvent
  split
  · exact feedbackChanged_moves _ b s
  · exact .ite (breakerChanged_moves b s) (.ite (.ite ((estopWells_moves s).trans (estopTurbine_moves _)) (.refl s)) (.refl s))

theorem deliverRole_moves (i : Fin 24) (b : Bool) (s : State) : Moves s (deliverRole i b s) := by
  unfold deliverRole
  exact .ite (.refl s) (roleChanged_moves i _ s)

theorem examineEdge_moves (i : Fin 24) (b : Bool) (s : State) : Moves s (examineEdge i b s) :=
  .of_only (examineEdge_only i b s)

theorem takeLevel_all (i : Fin 24) (b : Bool) (s : State) : Moves s (takeLevel i b s) := by
  unfold takeLevel
  dsimp only
  have h := Moves.modDiscrete s i (fun l => { l with debounceTimer := none })
  split
  · exact h
  · exact (((h.trans (.modDiscrete _ i _)).trans (readLinePoint_all i _)).trans (deliverRole_moves i _ _)).trans
      (examineEdge_moves i b _)

theorem padChange_all (i : Fin 24) (b : Bool) (s : State) : Moves s (padChange i b s) := by
  unfold padChange
  dsimp only
  have h := Moves.modDiscrete s i (fun l => { l with pin := b })
  split
  · exact h
  · split
    · exact h
    · have k := h.trans (.modDiscrete _ i (fun l =>
        { l with padLevel := b != (s.modDiscrete i (fun l => { l with pin := b })).discretes[i].cfg.inverted }))
      exact .ite (k.trans (takeLevel_all i _ _)) (k.trans (.modDiscrete _ i _))

theorem debounceExpiry_all (i : Fin 24) (s : State) : Moves s (debounceExpiry i s) := by
  unfold debounceExpiry
  split
  · exact .refl s
  · exact takeLevel_all i _ s

theorem storeDiscrete_all (i : Fin 24) (new : DiscreteConfig) (s : State) : Moves s (storeDiscrete i new s) := by
  unfold storeDiscrete
  dsimp only
  have h := Moves.modDiscrete s i (Discrete.configure new)
  exact Moves.trans (.ite h (h.trans (readLinePoint_all i _))) (deliverRole_moves i _ _)

theorem ownConfigureDiscrete_all (q : DiscreteFields) (s : State) : Moves s (ownConfigureDiscrete q s).1 := by
  unfold ownConfigureDiscrete
  split
  · exact .refl s
  · split
    · exact .refl s
    · exact storeDiscrete_all _ _ s

/-! ### Heat exchange unit -/

namespace Moves

/-- An operation of the heat exchange unit: it moves with its drive, and no other drive is written. -/
theorem of_heating {s t : State} (h : Only [.heating, .drives] s t) (hm : HeatMove s.exchange t.exchange)
    (hd : ∀ d : Fin 15, d ≠ bypassDrive → t.drives[d].value = s.drives[d].value) : Moves s t :=
  h.moves [bypassDrive] (fun d hn => hd d (fun e => hn (by simp [e]))) (heating := .inr hm)

/-- A change of the unit that does not turn it off. -/
theorem modHeating (s : State) (f : Heating → Heating) (hc : (f s.heating).cfg = s.heating.cfg)
    (ho : (f s.heating).state = .off → s.heating.state = .off) : Moves s (s.modHeating f) :=
  of_heating ((s.modHeating_only f).mono (by decide)) ⟨hc, fun h => .inr ⟨ho h, rfl⟩⟩ (fun _ _ => rfl)

theorem writeOpening (v : Int) (s : State) (h : s.heating.state ≠ .off ∨ v = 0) : Moves s (writeOpening v s) := by
  refine of_heating ((writeDrive_only _ _ s).mono (by decide)) ⟨rfl, fun ho => ?_⟩ (fun d hd => ?_)
  · rcases h with h | rfl
    · exact absurd ho h
    · exact .inl ((writeDrive_value _ _ _ s).trans (if_pos rfl))
  · unfold Machine.writeOpening
    rw [writeDrive_value, if_neg hd.symm]

end Moves

theorem writeRequest_heating (v : Int) (s : State) : (writeRequest v s).heating = s.heating :=
  writeRequest_only v s .heating (by decide)

theorem writeRequest_bypass (v : Int) (s : State) : (writeRequest v s).drives[bypassDrive].value = s.drives[bypassDrive].value := by
  unfold writeRequest
  rw [recomputeGrant_value, if_neg (fun h => absurd h.1 (by decide))]; rfl

theorem enterCut_moves (s : State) : Moves s (enterCut s) := by
  unfold enterCut
  refine ((Moves.writeOpening 0 s (.inr rfl)).trans (.writeRequest 0 (by decide) _)).trans (.modHeating _ _ ?_ nofun)
  rfl

theorem turnHeatingOff_moves (s : State) : Moves s (turnHeatingOff s) := by
  unfold turnHeatingOff
  refine ((Moves.writeOpening 0 s (.inr rfl)).trans (.writeRequest 0 (by decide) _)).trans
    (.of_heating ((State.modHeating_only _ _).mono (by decide)) ⟨rfl, fun _ => .inl ?_⟩ (fun _ _ => rfl))
  have h : (writeRequest 0 (writeOpening 0 s)).drives[bypassDrive].value = 10000 := by
    rw [writeRequest_bypass]; exact (writeDrive_value _ _ _ s).trans (if_pos rfl)
  exact h

theorem enterActive_moves (s : State) : Moves s (enterActive s) := .modHeating s _ rfl nofun

theorem enterHold_moves (r : HoldReason) (s : State) : Moves s (enterHold r s) := .modHeating s _ rfl nofun

theorem settleHeating_moves (s : State) : Moves s (settleHeating s) := by
  unfold settleHeating
  dsimp only
  split
  · exact .refl s
  all_goals split
  · exact enterHold_moves _ s
  · exact .ite (enterCut_moves s) (.refl s)
  · exact enterHold_moves _ s
  · exact .ite (enterActive_moves s) (.refl s)
  · exact enterHold_moves _ s
  · exact .ite (enterCut_moves s) (enterActive_moves s)

theorem Heating.requestNow_nonneg (h : Heating) : 0 ≤ h.requestNow := by
  unfold Heating.requestNow clamp; omega

theorem Heating.formTarget_keeps (h : Heating) : h.formTarget.cfg = h.cfg ∧ h.formTarget.state = h.state := by
  unfold Heating.formTarget; split <;> exact ⟨rfl, rfl⟩

theorem Heating.control_keeps (v : Int) (b : Bool) (h : Heating) : (h.control v b).cfg = h.cfg ∧ (h.control v b).state = h.state := by
  unfold Heating.control Heating.runLoops
  repeat' split
  all_goals exact ⟨rfl, rfl⟩

theorem allocate_moves (s : State) : Moves s (allocate s) := by
  unfold allocate
  exact (Moves.writeRequest _ s.heating.requestNow_nonneg s).trans (.modHeating _ _ rfl (fun h => h))

theorem allocate_state (s : State) : (allocate s).heating.state = s.heating.state := by
  unfold allocate
  have h : (writeRequest s.heating.requestNow s).heating.state = s.heating.state := by rw [writeRequest_heating]
  exact h

theorem runBypass_moves (s : State) (h : s.heating.state ≠ .off) : Moves s (runBypass s) := by
  unfold runBypass
  obtain ⟨hc, hs⟩ := s.heating.control_keeps (openingOf s) (decide (s.drives[bypassDrive].delivery = .failing))
  exact (Moves.modHeating s _ hc (fun ho => hs.symm.trans ho)).trans (.writeOpening _ _ (.inl (fun ho => h (hs.symm.trans ho))))

theorem heatingWork_moves (s : State) : Moves s (heatingWork s) := by
  obtain ⟨hc, hs⟩ := s.heating.formTarget_keeps
  have formed : Moves s (s.modHeating Heating.formTarget) := .modHeating s _ hc (fun ho => hs.symm.trans ho)
  unfold heatingWork
  split
  · rename_i h
    refine (formed.trans (allocate_moves _)).trans (runBypass_moves _ ?_)
    rw [allocate_state]
    have e : (s.modHeating Heating.formTarget).heating.state = .active := hs.trans h
    rw [e]; nofun
  · exact formed
  · exact .refl s
  · exact .refl s

theorem hxPeriodExpiry_moves (s : State) : Moves s (hxPeriodExpiry s) := by
  unfold hxPeriodExpiry
  split
  · exact .refl s
  · refine Moves.trans ?_ (heatingWork_moves _)
    refine Moves.trans ?_ (settleHeating_moves _)
    unfold readHeatingInputs
    exact (Moves.modHeating s _ rfl (fun h => h)).trans (.modHeating _ _ rfl (fun h => h))

theorem ownHeatingOn_moves (s : State) : Moves s (ownHeatingOn s).1 := by
  have on : Moves s (s.modHeating (fun h => { h with state := .active, targetHeld := false, loopsPending := true })) :=
    .modHeating s _ rfl nofun
  unfold ownHeatingOn
  repeat' split
  all_goals first | exact .refl s | exact on

theorem ownHeatingOff_moves (s : State) : Moves s (ownHeatingOff s).1 := by
  unfold ownHeatingOff
  split
  · exact .refl s
  · exact turnHeatingOff_moves s

theorem ownSetCurve_moves (c : List (Int × Int)) (s : State) : Moves s (ownSetCurve c s).1 := by
  have stored : Moves s (s.modHeating (fun h => { h with curve := some c })) := .modHeating s _ rfl (fun h => h)
  unfold ownSetCurve
  split
  · exact stored
  · exact .refl s

/-! ### Turbine requests -/

@[simp] theorem require_eq_some (c : Bool) (u : Unit) : require c = some u ↔ c = true := by
  unfold require; split <;> simp_all

theorem within_iff {lo hi v : Int} : within lo hi v = true ↔ lo ≤ v ∧ v ≤ hi := by simp [within]

theorem withinNat_iff {lo hi v : Nat} : withinNat lo hi v = true ↔ lo ≤ v ∧ v ≤ hi := by simp [withinNat]

theorem TurbineFields.check_extractionMax {q : TurbineFields} {c : TurbineConfig} {u : SpeedConfig} {b : Bool}
    (h : TurbineFields.check q = some (c, u, b)) : 1 ≤ c.extractionMax := by
  simp only [TurbineFields.check, bind, Option.bind_eq_some_iff, require_eq_some, Bool.and_eq_true, Option.some.injEq,
    Prod.mk.injEq] at h
  obtain ⟨_, -, _, -, _, -, _, -, _, ranges, _, -, rfl, -⟩ := h
  have extraction : within 1 100000 q.extractionMax = true := by simp only [ranges]
  exact (within_iff.mp extraction).1

theorem ownConfigureTurbine_moves (q : TurbineFields) (s : State) : Moves s (ownConfigureTurbine q s).1 := by
  unfold ownConfigureTurbine
  split
  · exact .refl s
  · rename_i h
    split
    · exact .refl s
    · exact storeTurbine_moves _ _ (TurbineFields.check_extractionMax h) s

/-! ### Supervision -/

namespace Moves

theorem modSupervision (s : State) (f : Supervision → Supervision) : Moves s (s.modSupervision f) := of_only (s.modSupervision_only f)

end Moves

theorem supervisionTimerExpiry_moves (s : State) : Moves s (supervisionTimerExpiry s) := by
  unfold supervisionTimerExpiry
  split
  · exact .refl s
  · exact .ite ((Moves.modSupervision s _).trans (.post _ _ _ _)) (.refl s)

theorem holdTimerExpiry_moves (s : State) : Moves s (holdTimerExpiry s) := by
  unfold holdTimerExpiry
  split
  · exact .refl s
  · exact .ite (((Moves.modSupervision s _).trans (stopAllWells_moves _)).trans (unloadIfLoaded_moves _)) (.refl s)

theorem armAnswer_fst (c : Bool) (p h : Nat) (v : Int) (s : State) : (armAnswer c p h v s).1 = s := rfl

theorem ownArmSupervision_moves (p h : Nat) (v : Int) (s : State) : Moves s (ownArmSupervision p h v s).1 := by
  have stored (f : Supervision → Supervision) : Moves s (s.modSupervision f) := .modSupervision s f
  have posted (f : Supervision → Supervision) (k g w) : Moves s (post k g w (s.modSupervision f)) :=
    (stored f).trans (.post k g w _)
  unfold ownArmSupervision
  dsimp only
  split
  · split
    · rw [armAnswer_fst]; exact stored _
    · exact .refl s
  · split
    · exact .refl s
    · split
      · rw [armAnswer_fst]; exact stored _
      · exact .refl s
  · split
    · exact .refl s
    · split
      · exact .ite (posted _ _ _ _) (stored _)
      · exact .refl s

theorem ownResume_moves (s : State) : Moves s (ownResume s).1 :=
  .ite ((Moves.modSupervision s _).trans (.withdraw _ _)) (.refl s)

/-! ### Pools and sites -/

theorem ownPostLimit_moves (k w : Nat) (v : Int) (s : State) : Moves s (ownPostLimit k w v s).1 := by
  unfold ownPostLimit
  repeat' split
  all_goals first | exact .refl s | exact .post _ _ _ s

theorem ownWithdrawLimit_moves (k w : Nat) (s : State) : Moves s (ownWithdrawLimit k w s).1 := by
  unfold ownWithdrawLimit
  repeat' split
  all_goals first | exact .refl s | exact .withdraw _ s

theorem disableSite_moves (i : Fin 12) (s : State) : Moves s (disableSite i s) := by
  unfold disableSite
  exact (Moves.of_only (s.modSite_only i _)).trans (.withdraw _ _)

theorem ownSiteDisable_moves (i : Nat) (s : State) : Moves s (ownSiteDisable i s).1 := by
  unfold ownSiteDisable
  repeat' split
  all_goals first | exact .refl s | exact disableSite_moves _ s

end Sys2Proof.Machine
end

section
/-! PROOFS. Every event of the field and every request is made of moves, but for the periods of wells and sites and for the requests
that reshape the part; so a property that moves keep is steady once those keep it. -/

namespace Sys2Proof.Machine

-- One after the other: see Laws/Frames.lean.
set_option Elab.async false

open Relation

/-! ### Events -/

theorem secondTimerExpiry_moves (s : State) : Moves s (secondTimerExpiry s) := by
  refine (secondTimerExpiry_only s).moves [] (fun d _ => ?_)
  unfold secondTimerExpiry
  split
  · rfl
  · show (modifyAll s.drives _)[d].value = _
    rw [modifyAll_get]
    split <;> rfl

theorem ageTimerExpiry_all (s : State) : Moves s (ageTimerExpiry s) :=
  have only := ageTimerExpiry_only s
  only.moves [] only.values (points := .inr (ageTimerExpiry_moves s))

theorem recoveryTimerExpiry_all (i : Fin 96) (s : State) : Moves s (recoveryTimerExpiry i s) :=
  have only := recoveryTimerExpiry_only i s
  only.moves [] only.values (points := .inr (recoveryTimerExpiry_moves i s))

/-- Every event of the field but the periods of wells and sites is made of moves. -/
theorem fieldWork_moves {c : Instr} {f : State → State} (h : fieldWork c = some f) (hs : c ≠ .smPeriodExpiry)
    (hw : c ≠ .wpPeriodExpiry) (s : State) : Moves s (f s) := by
  have lines {t : State} {qs : List Part} (ho : Only qs s t) (k : LineWork s t)
      (hq : ∀ p ∈ qs, p ∈ [Part.points, .lines, .drives] := by decide) : Moves s t := .of_lineWork (ho.mono hq) k
  cases c with
  | ageTimerExpiry => cases h; exact ageTimerExpiry_all s
  | secondTimerExpiry => cases h; exact secondTimerExpiry_moves s
  | recoveryTimerExpiry p => cases h; exact recoveryTimerExpiry_all p s
  | plantClockTick => cases h; exact .of_only (plantClockTick_only s)
  | passTimerExpiry i => cases h; exact lines (passTimerExpiry_only i s) (passTimerExpiry_work i s)
  | readEntryEnd i x c => cases h; exact lines (readEntryEnd_only i x c s) (readEntryEnd_work i x c s)
  | writeDriveEntryEnd i x c => cases h; exact lines (writeDriveEntryEnd_only i x c s) (writeDriveEntryEnd_work i x c s)
  | probeEnd i x c => cases h; exact lines (probeEnd_only i x c s) (probeEnd_work i x c s)
  | heldClock i => cases h; exact lines (heldClock_only i s) (heldClock_work i s)
  | heldDataWire i => cases h; exact lines (heldDataWire_only i s) (heldDataWire_work i s)
  | recoveryProcedureEnd i w => cases h; exact lines (recoveryProcedureEnd_only i w s) (recoveryProcedureEnd_work i w s)
  | recoveryAttemptEnd i w => cases h; exact lines (recoveryAttemptEnd_only i w s) (recoveryAttemptEnd_work i w s)
  | padChange i b => cases h; exact padChange_all i b s
  | debounceExpiry i => cases h; exact debounceExpiry_all i s
  | mismatchExpiry i => cases h; exact .of_only (mismatchExpiry_only i s)
  | toothEdge o => cases h; exact toothEdge_all o s
  | lossTimerExpiry => cases h; exact lossTimerExpiry_all s
  | smPeriodExpiry => exact absurd rfl hs
  | wpPeriodExpiry => exact absurd rfl hw
  | startTimerExpiry k => cases h; exact startTimerExpiry_moves k s
  | stopTimerExpiry k => cases h; exact stopTimerExpiry_moves k s
  | tripDecayExpiry k => cases h; exact tripDecayExpiry_moves k s
  | tgPeriodExpiry => cases h; exact tgPeriodExpiry_moves s
  | rollTimerExpiry => cases h; exact rollTimerExpiry_moves s
  | breakerTimerExpiry => cases h; exact breakerTimerExpiry_moves s
  | hxPeriodExpiry => cases h; exact hxPeriodExpiry_moves s
  | supervisionTimerExpiry => cases h; exact supervisionTimerExpiry_moves s
  | holdTimerExpiry => cases h; exact holdTimerExpiry_moves s
  | _ => cases h

/-! ### Requests -/

theorem ownSetLoad_moves (v : Int) (s : State) : Moves s (ownSetLoad v s).1 :=
  .modTurbine s (fun t => { t with cfg := { t.cfg with loadTarget := clamp t.cfg.minLoad t.cfg.maxLoad v } }) rfl rfl rfl

/-- The requests that configure points, wells or heating anew or change the phase. -/
def reshapes : Request → Bool
  | .configurePoint _ | .configureWell _ | .configureHeating _ | .commission | .decommission => true
  | _ => false

/-- Every other request is made of moves. -/
theorem applyRequest_moves (r : Request) (h : reshapes r = false) (s : State) : Moves s (applyRequest r s).1 := by
  have same {t : State} (h : t = s) : Moves s t := h ▸ .refl s
  have points {t : State} (ho : Only [.points] s t) (k : PointsMove s t) : Moves s t := ho.moves [] ho.values (points := .inr k)
  have lines {t : State} {qs : List Part} (ho : Only qs s t) (k : LineWork s t)
      (hq : ∀ p ∈ qs, p ∈ [Part.points, .lines, .drives] := by decide) : Moves s t := .of_lineWork (ho.mono hq) k
  cases r with
  | configurePoint q | configureWell q | configureHeating q | commission | decommission => cases h
  | identify => exact .refl s
  | setClock n => exact .of_only (ownSetClock_only n s)
  | readPoints a b => exact same (ownReadPoints_fst a b s)
  | writePoint p v => exact points (ownWritePoint_only p v s) (ownWritePoint_moves p v s)
  | setSubstitute p v => exact points (ownSetSubstitute_only p v s) (ownSetSubstitute_moves p v s)
  | configureLine q => exact lines (ownConfigureLine_only q s) (ownConfigureLine_work q s)
  | editEntry l p q => exact lines (ownEditEntry_only l p q s) (ownEditEntry_work l p q s)
  | insertEntry l p q => exact lines (ownInsertEntry_only l p q s) (ownInsertEntry_work l p q s)
  | removeEntry l p => exact lines (ownRemoveEntry_only l p s) (ownRemoveEntry_work l p s)
  | clearStaged l => exact lines (ownClearStaged_only l s) (ownClearStaged_work l s)
  | swapSchedule l => exact lines (ownSwapSchedule_only l s) (ownSwapSchedule_work l s)
  | resetLine l => exact lines (ownResetLine_only l s) (ownResetLine_work l s)
  | readLine l v => exact same (ownReadLine_fst l v s)
  | configureDiscrete q => exact ownConfigureDiscrete_all q s
  | setDiscrete l v => exact .of_only (ownSetDiscrete_only l v s)
  | readDiscrete => exact .of_only (ownReadDiscrete_only s)
  | clearEdges m => exact .of_only (ownClearEdges_only m s)
  | start w => exact ownStart_moves w s
  | stop w => exact ownStop_moves w s
  | setTarget w v => exact ownSetTarget_moves w v s
  | wellResetTrip w => exact ownWellResetTrip_moves w s
  | unlock w => exact ownUnlock_moves w s
  | readWell w => exact same (ownReadWell_fst w s)
  | configureTurbine q => exact ownConfigureTurbine_moves q s
  | roll => exact ownRoll_moves s
  | setMode m => exact ownSetMode_moves m s
  | setLoad v => exact ownSetLoad_moves v s
  | unload => exact unloadTurbine_moves s
  | trip => exact .tripOrLater _ _ s
  | turbineResetTrip => exact ownTurbineResetTrip_moves s
  | readTurbine => exact .refl s
  | setCurve c => exact ownSetCurve_moves c s
  | heatingOn => exact ownHeatingOn_moves s
  | heatingOff => exact ownHeatingOff_moves s
  | readHeating => exact .refl s
  | configureSite q => exact .of_only (ownConfigureSite_only q s)
  | siteEnable i => exact .of_only (ownSiteEnable_only i s)
  | siteDisable i => exact ownSiteDisable_moves i s
  | markCleaned i => exact .of_only (ownMarkCleaned_only i s)
  | restoreDose i v => exact .of_only (ownRestoreDose_only i v s)
  | readSite i v => exact same (ownReadSite_fst i v s)
  | postLimit k w v => exact ownPostLimit_moves k w v s
  | withdrawLimit k w => exact ownWithdrawLimit_moves k w s
  | readConstraints v => exact same (ownReadConstraints_fst v s)
  | readConditions => exact .refl s
  | releaseSnapshot n => exact .of_only (ownReleaseSnapshot_only n s)
  | setMasks w n => exact .of_only (ownSetMasks_only w n s)
  | silence => exact .of_only (ownSilence_only s)
  | armSupervision p n v => exact ownArmSupervision_moves p n v s
  | resume => exact ownResume_moves s
  | softReset => exact .of_only (ownSoftReset_only s)

/-! ### Time and start-up -/

theorem countDown_only (s : State) : Only [.clock, .tableTimers, .monitor, .wpTimer, .points, .lines, .discretes, .speedUnit, .wells,
    .turbine, .heating, .supervision, .receiver] s (countDown s) := by
  intro p hp; cases p <;> first | exact absurd (by decide) hp | rfl

theorem countDown_points (s : State) : PointsMove s (countDown s) := by
  unfold countDown
  exact setPoints_moves (f := fun _ p => { p with recoveryTimer := p.recoveryTimer.tick }) rfl (fun _ p => .ticked p)

theorem countDown_well (s : State) (k : Fin 8) : (countDown s).wells[k] =
    { s.wells[k] with
      startTimer := s.wells[k].startTimer.tick
      stopTimer := s.wells[k].stopTimer.tick
      decayTimer := s.wells[k].decayTimer.tick } := by
  unfold countDown
  exact modifyAll_get s.wells k (fun _ w =>
    { w with startTimer := w.startTimer.tick, stopTimer := w.stopTimer.tick, decayTimer := w.decayTimer.tick })

theorem countDown_line (s : State) (i : Fin 3) :
    (countDown s).lines[i] = { s.lines[i] with passTimer := s.lines[i].passTimer.tick } := by
  unfold countDown
  exact modifyAll_get s.lines i (fun _ l => { l with passTimer := l.passTimer.tick })

theorem countDown_moves (s : State) : Moves s (countDown s) := by
  have only := countDown_only s
  have wells (k : Fin 8) : WellMove (s.wells[k], demandOf s k) ((countDown s).wells[k], demandOf (countDown s) k) := by
    rw [countDown_well]
    exact .ticked _ _ _ ⟨rfl, rfl, rfl, rfl, rfl, rfl⟩ rfl
  have turbine : TurbineMove s.governor (countDown s).governor := .quiet _ _ _ _ rfl rfl rfl
  have lines (h : ∀ i : Fin 3, LineFits s.lines[i]) (i : Fin 3) : LineFits (countDown s).lines[i] := by
    rw [countDown_line]
    exact (h i).of_eq rfl rfl rfl
  have monitor : (countDown s).smTimer.isSome = s.smTimer.isSome := Option.isSome_map ..
  exact only.moves [] only.values (points := .inr (countDown_points s)) (wells := .inr (fun k => .single (wells k)))
    (turbine := .inr (.single turbine)) (heating := .inr ⟨rfl, fun h => .inr ⟨h, rfl⟩⟩) (phase := .inr ⟨rfl, monitor⟩)
    (lines := .inr lines) (periods := .inr (fun h => by unfold countDown; exact h))

theorem passing_moves (s : State) : Moves s (countDown (forEach 3 finishStop s)) :=
  (Moves.of_lineWork ((finishStops_only s).mono (by decide)) (finishStops_work s)).trans (countDown_moves _)

theorem startTimers_begun_moves (s : State) : Moves s (sampleDiscretes (startTimers s.begun)) := by
  have only : Only [.phase, .clock, .tableTimers, .wpTimer, .turbine, .heating, .discretes] s
      (sampleDiscretes (startTimers s.begun)) :=
    (s.begun_only.seq (rs := [.phase, .clock, .tableTimers, .wpTimer, .turbine, .heating]) (startTimers_only _)).seq
      (sampleDiscretes_only _)
  exact only.moves [] only.values (turbine := .inr (.single (.quiet _ _ _ _ rfl rfl rfl)))
    (heating := .inr ⟨rfl, fun h => .inr ⟨h, rfl⟩⟩) (phase := .inr ⟨rfl, rfl⟩)

/-- What moves keep is steady, once the periods of wells and sites and the requests that reshape the part keep it. -/
theorem Moves.steady {ps : List Part} {P : State → Prop} (on : On ps P) (keep : ∀ s t, Moves s t → P s → P t)
    (wells : ∀ s, P s → P (wpPeriodExpiry s)) (sites : ∀ s, P s → P (smPeriodExpiry s))
    (reshape : ∀ r s, reshapes r = true → ¬ Apart (owned r) ps → P s → P (applyRequest r s).1)
    (hl : Apart (.discretes :: .supervision :: linkParts) ps := by decide) : Steady P :=
  on.steady (fun p hp hc => hl p hp (by simp [hc]))
    (.inl (fun p hp hc => hl p hp (by simp only [List.mem_singleton] at hc; simp [hc])))
    (.inl (fun p hp hc => hl p hp (by simp only [List.mem_singleton] at hc; simp [hc])))
    (fun r s ha hs => by
      cases hr : reshapes r with
      | false => exact keep _ _ (applyRequest_moves r hr s) hs
      | true => exact reshape r s hr ha hs)
    (fun c f s hc _ hs => by
      by_cases h1 : c = .smPeriodExpiry
      · subst h1; cases hc; exact sites s hs
      · by_cases h2 : c = .wpPeriodExpiry
        · subst h2; cases hc; exact wells s hs
        · exact keep _ _ (fieldWork_moves hc h1 h2 s) hs)
    (fun s hs => keep _ _ (passing_moves s) hs) (fun s _ hs => keep _ _ (startTimers_begun_moves s) hs)

end Sys2Proof.Machine
end

section
/-! PROOFS. The periods of wells and sites and the requests that reshape the part, as far as they are made of moves; and the laws of
table, grant, drives, speed demand and trip count. -/

namespace Sys2Proof.Machine

-- One after the other: see Laws/Frames.lean.
set_option Elab.async false

open Relation

/-! ### Periods -/

theorem setWpTimer_moves (s : State) (t : Timer) : Moves s { s with wpTimer := t } :=
  .of_only (qs := [.wpTimer]) (by intro p hp; cases p <;> first | exact absurd (by decide) hp | rfl)

theorem growOld_moves (k : Fin 8) (s : State) : Moves s (s.modWell k Well.growOld) := .modWell s k _ (.grown _ _)

/-- The WP period keeps what moves keep and what the reading of a well's inputs keeps. -/
theorem wpPeriodExpiry_keeps {P : State → Prop} (keep : ∀ s t, Moves s t → P s → P t)
    (views : ∀ k s, P s → P (readWellInputs k s)) (s : State) (hs : P s) : P (wpPeriodExpiry s) := by
  unfold wpPeriodExpiry
  split
  · exact hs
  · refine forEach_keeps P 8 wellPeriod (fun k a ha => ?_) _ (keep _ _ (setWpTimer_moves s _) hs)
    exact keep _ _ ((growOld_moves k _).trans (wellWork_moves k _)) (views k a ha)

theorem postSite_moves (i : Fin 12) (s : State) : Moves s (postSite i s) := by
  unfold postSite
  split
  · exact .post _ _ _ s
  · exact .refl s

theorem sitePeriod_moves (closing : Bool) (i : Fin 12) (s : State) : Moves s (sitePeriod closing i s) := by
  have modSite (f : Site → Site) : Moves s (s.modSite i f) := .of_only (s.modSite_only i f)
  unfold sitePeriod siteWork
  split
  · exact .refl s
  · split
    · exact (modSite _).trans (postSite_moves i _)
    · exact .ite (modSite _) (.refl s)

/-- The SM period but for the dosing drives. -/
theorem sitePeriods_moves (closing : Bool) (n : Nat) (s : State) (h : s.smTimer.isSome = true) :
    Moves s (forEach 12 (sitePeriod closing) { s with smTimer := some 1000, minuteCounter := n }) := by
  have only : Only [.monitor] s { s with smTimer := some 1000, minuteCounter := n } := by
    intro p hp; cases p <;> first | exact absurd (by decide) hp | rfl
  exact (only.moves [] only.values (phase := .inr ⟨rfl, h.symm⟩)).trans (.forEach 12 _ (sitePeriod_moves closing) _)

/-- The SM period keeps what moves keep and what the dosing drives keep. -/
theorem smPeriodExpiry_keeps {P : State → Prop} (keep : ∀ s t, Moves s t → P s → P t)
    (dosing : ∀ s, s.smTimer.isSome = true → P s → P (setDosing s)) (s : State) (hs : P s) : P (smPeriodExpiry s) := by
  unfold smPeriodExpiry
  split
  · exact hs
  · rename_i h
    have hm := sitePeriods_moves (decide (60 ≤ s.minuteCounter + 1)) (if decide (60 ≤ s.minuteCounter + 1) = true then 0
      else s.minuteCounter + 1) s (by rw [h]; rfl)
    exact dosing _ (hm.phase.2.trans (by rw [h]; rfl)) (keep _ _ hm hs)

/-! ### Decommission -/

/-- Decommission before the dosing drives are written. -/
theorem withdrawSites_moves (s : State) : Moves s (forEach 12 (fun i s => withdraw (siteSlot i) s) s) :=
  .forEach 12 _ (fun i s => .withdraw (siteSlot i) s) s

/-! ### The law of the table -/

theorem TableLaw.on : On [.constraints, .wells, .heating] TableLaw := by
  intro s t h hs
  have hc := h .constraints (by decide)
  have hw : t.wells = s.wells := h .wells (by decide)
  have hh : t.heating = s.heating := h .heating (by decide)
  simp only [Exact, Prod.mk.injEq] at hc
  exact TableLaw.of_eq hc.1 hc.2.1 hc.2.2 (targetDefault_eq s (fun k => by rw [hw]) (by rw [hh])) hs

/-- The law but for the bound of one target and the combined ceilings it touches. -/
theorem TableLaw.recompute {s t : State} {g : Target} (hs : TableLaw s) (hsl : t.slots = s.slots) (hb : t.bounds = s.bounds)
    (hc : t.combined = s.combined) (hd : ∀ g', g' ≠ g → targetDefault t g' = targetDefault s g') : TableLaw (recompute g t) := by
  have bound (g' : Target) : (Machine.recompute g t).bounds[g'.index] = boundOf (Machine.recompute g t) g' := by
    rw [recompute_bounds, boundOf_recompute]
    split
    · rename_i e; rw [e]
    · rename_i e
      rw [hb, hs.1 g', boundOf_eq (fun j => by rw [hsl]) (hd g' e)]
  refine ⟨bound, fun k => ?_⟩
  rw [recompute_combined]
  split
  · rfl
  · rename_i e
    obtain ⟨h1, h2⟩ := not_or.mp e
    rw [combinedOf_recompute h1 h2, hc, hs.2 k]
    unfold combinedOf
    rw [hsl, hb]

theorem Well.takeTripLimit_cfg (w : Well) : w.takeTripLimit.cfg = w.cfg := by
  unfold Well.takeTripLimit
  repeat' split
  all_goals rfl

/-- Storing a well's configuration (R97). -/
theorem storeWell_table (k : Fin 8) (new : WellConfig) (s : State) (hs : TableLaw s) : TableLaw (storeWell k new s) := by
  obtain ⟨u, hu, floors, only⟩ : ∃ u, storeWell k new s =
      (if s.wells[k].cfg.ownFloor = new.ownFloor then u else recompute (.wellFloor k) u) ∧
      (∀ j : Fin 8, u.wells[j].cfg = if k = j then new else s.wells[j].cfg) ∧ Only [.wells, .drives] s u := by
    refine ⟨_, rfl, fun j => ?_, ((s.modWell_only k _).seq (takeSpeedRange_only k _ _))⟩
    have stored : (takeSpeedRange k s.wells[k].cfg (s.modWell k (fun w => ({ w with cfg := new } : Well).takeTripLimit))).wells =
        (s.modWell k (fun w => ({ w with cfg := new } : Well).takeTripLimit)).wells := takeSpeedRange_only k _ _ .wells (by decide)
    rw [stored, s.modWell_at]
    split
    · rw [Well.takeTripLimit_cfg]
    · rfl
  have hc := only .constraints (by decide)
  have hh : u.heating = s.heating := only .heating (by decide)
  simp only [Exact, Prod.mk.injEq] at hc
  rw [hu]
  split
  · rename_i e
    refine TableLaw.of_eq hc.1 hc.2.1 hc.2.2 (targetDefault_eq s (fun j => ?_) (by rw [hh])) hs
    rw [floors]
    split
    · rename_i hj; rw [← hj, e]
    · rfl
  · refine hs.recompute hc.1 hc.2.1 hc.2.2 (fun g hg => ?_)
    cases g with
    | wellFloor j =>
      have hj : k ≠ j := fun e => hg (by rw [e])
      show u.wells[j].cfg.ownFloor = s.wells[j].cfg.ownFloor
      rw [floors, if_neg hj]
    | brineFloor => show u.heating.cfg.brineFloorDefault = _; rw [hh]; rfl
    | _ => rfl

theorem storeHeating_table (new : HeatingConfig) (s : State) (hs : TableLaw s) : TableLaw (storeHeating new s) := by
  unfold storeHeating
  dsimp only
  split
  · rename_i e
    exact TableLaw.of_eq (s := s) rfl rfl rfl (targetDefault_eq s (fun _ => rfl) e.symm) hs
  · refine hs.recompute rfl rfl rfl (fun g' hg => ?_)
    cases g' with
    | brineFloor => exact absurd rfl hg
    | _ => rfl

theorem ownConfigureWell_table (q : WellFields) (s : State) (hs : TableLaw s) : TableLaw (ownConfigureWell q s).1 := by
  unfold ownConfigureWell
  dsimp only
  repeat' split
  all_goals first | exact hs | exact storeWell_table _ _ s hs

theorem ownConfigureHeating_table (q : HeatingFields) (s : State) (hs : TableLaw s) : TableLaw (ownConfigureHeating q s).1 := by
  unfold ownConfigureHeating
  repeat' split
  all_goals first | exact hs | exact storeHeating_table _ s hs

theorem setDosingSafe_only (s : State) : Only [.drives] s (forEach 4 (fun j s => writeDrive (dosingDrive j) 0 s) s) :=
  Only.forEach 4 _ (fun _ s => writeDrive_only _ _ s) s

theorem ownDecommission_table (s : State) (hs : TableLaw s) : TableLaw (ownDecommission s).1 := by
  have stopped (u : State) (hu : TableLaw u) : TableLaw (stopMonitor u) :=
    TableLaw.on.only (by decide) (setDosingSafe_only _) ((withdrawSites_moves _).table hu)
  unfold ownDecommission
  split
  · exact hs
  · split
    · exact hs
    · exact stopped _ hs

theorem TableLaw.of_reset {s : State} (h : TableReset s) : TableLaw s := by
  obtain ⟨-, -, -, -, -, -, -, -, -, slots, bounds, combined⟩ := h
  have unposted (g : Target) (j : Fin 22) : postedFor s.slots g j = none := by
    unfold postedFor
    rw [slots]; rfl
  have unfound : (indexes 22).find? (fun _ => false) = none := List.find?_eq_none.mpr (by simp)
  refine ⟨fun g => ?_, fun k => ?_⟩
  · rw [bounds]
    simp [boundOf, effectiveBound, bindingSlot, firstIndex, funext (unposted g), unfound]
  · rw [combined]
    simp [combinedOf, bounds, targetDefault, firstIndex, unposted, unfound]

theorem readWellInputs_cfg (k j : Fin 8) (s : State) : (readWellInputs k s).wells[j].cfg = s.wells[j].cfg := by
  unfold readWellInputs
  rw [State.modWell_at]
  split
  · rename_i h; rw [h]
  · rfl

theorem readWellInputs_table (k : Fin 8) (s : State) (hs : TableLaw s) : TableLaw (readWellInputs k s) :=
  TableLaw.of_eq (s := s) rfl rfl rfl
    (targetDefault_eq s (fun j => congrArg WellConfig.ownFloor (readWellInputs_cfg k j s)) rfl) hs

theorem tableLaw_steady : Steady TableLaw :=
  Moves.steady TableLaw.on (fun _ _ h => h.table)
    (wpPeriodExpiry_keeps (fun _ _ h => h.table) readWellInputs_table)
    (smPeriodExpiry_keeps (fun _ _ h => h.table) fun s _ => TableLaw.on.only (by decide) (setDosing_only s))
    (fun r s hr ha hs => by
      cases r with
      | configureWell q => exact ownConfigureWell_table q s hs
      | configureHeating q => exact ownConfigureHeating_table q s hs
      | decommission => exact ownDecommission_table s hs
      | configurePoint q => exact absurd (by dsimp only [owned]; decide) ha
      | commission => exact absurd (by dsimp only [owned]; decide) ha
      | _ => cases hr)

theorem tableLaw_kept : Kept TableLaw :=
  tableLaw_steady.kept (fun _ _ _ _ _ _ _ => .of_reset (hardReset_dynamic _ _ _ _ _ _ _).2.1)
    (fun s _ => .of_reset (softReset_dynamic s).2.1)

end Sys2Proof.Machine
end

section
/-! PROOFS. The laws of the grant, of the safe values of drives, of the speed demand and of the trip count, one move at a time. -/

namespace Sys2Proof.Machine

-- One after the other: see Laws/Frames.lean.
set_option Elab.async false

open Relation

/-- What every move keeps, a run of moves keeps. -/
theorem moves_keep {α : Type} {R : α → α → Prop} {Q : α → Prop} (h : ∀ x y, R x y → Q x → Q y) {x y : α}
    (hm : ReflTransGen R x y) (hx : Q x) : Q y := by
  induction hm with
  | refl => exact hx
  | tail _ hm ih => exact h _ _ hm ih

/-! ### The grant (R156) -/

/-- The law of the grant, of the governor alone. -/
def GrantOk (t : Turbine) : Prop :=
  0 ≤ t.grant.request ∧ 1 ≤ t.cfg.extractionMax ∧ 0 ≤ t.grant.grant ∧ t.grant.grant ≤ t.grant.request ∧
    t.grant.grant ≤ t.cfg.extractionMax ∧ (t.state ≠ .loaded → t.grant.grant = 0)

theorem GrantOk.settled (t : Turbine) (hr : 0 ≤ t.grant.request) (hm : 1 ≤ t.cfg.extractionMax) : GrantOk t.settleGrant := by
  have he : t.settleGrant.grant.grant = grantOf t := rfl
  unfold GrantOk
  rw [he]
  refine ⟨hr, hm, ?_⟩
  show 0 ≤ grantOf t ∧ grantOf t ≤ t.grant.request ∧ grantOf t ≤ t.cfg.extractionMax ∧ (t.state ≠ .loaded → grantOf t = 0)
  unfold grantOf
  split
  · rename_i h
    exact ⟨by omega, by omega, by omega, fun hn => absurd h.1 hn⟩
  · exact ⟨by omega, by omega, by omega, fun _ => rfl⟩

theorem TurbineMove.grantOk {x y : Turbine × Int × Int} (h : TurbineMove x y) (hx : GrantOk x.1) : GrantOk y.1 := by
  obtain ⟨request, limit, low, within, below, closed⟩ := hx
  cases h with
  | quiet t t' a e hs hg hm =>
    unfold GrantOk
    dsimp only
    rw [hs, hg, hm]
    exact ⟨request, limit, low, within, below, closed⟩
  | admitted t a e v h => exact ⟨request, limit, low, within, below, closed⟩
  | rested t a e h => exact ⟨request, limit, low, within, below, closed⟩
  | passed t t' a e hr hm hs =>
    exact .settled t' (hr.elim (fun e => e ▸ request) id) (hm.elim (fun e => e ▸ limit) id)
  | tripped clock cause value t a e => exact ⟨request, limit, le_refl 0, request, by dsimp [Turbine.trip] at limit ⊢; omega, fun _ => rfl⟩

theorem grantLaw_on : On [.turbine] GrantLaw := by
  intro s t h hs
  have e : t.turbine = s.turbine := h .turbine (by decide)
  unfold GrantLaw
  rw [e]; exact hs

theorem Moves.grantLaw {s t : State} (h : Moves s t) (hs : GrantLaw s) : GrantLaw t :=
  moves_keep (Q := fun x : Turbine × Int × Int => GrantOk x.1) (fun _ _ => TurbineMove.grantOk) h.turbine
    (show GrantOk s.governor.1 from hs)

theorem grantLaw_steady : Steady GrantLaw :=
  Moves.steady grantLaw_on (fun _ _ => Moves.grantLaw)
    (fun s => grantLaw_on.only (by decide) (wpPeriodExpiry_only s)) (fun s => grantLaw_on.only (by decide) (smPeriodExpiry_only s))
    (fun r s hr ha hs => by
      cases r with
      | configurePoint | configureWell | configureHeating | commission | decommission =>
        exact absurd (by dsimp only [owned]; decide) ha
      | _ => cases hr)

/-- The law after a reset, where the extraction limit is in its range. -/
theorem GrantLaw.of_reset {s : State} (h : PlantReset s) (hm : 1 ≤ s.turbine.cfg.extractionMax) : GrantLaw s := by
  obtain ⟨-, -, -, -, -, -, -, -, -, -, -, -, -, -, -, -, -, -, grant, -⟩ := h
  unfold GrantLaw
  rw [grant]
  exact ⟨le_refl 0, hm, le_refl 0, le_refl 0, by dsimp only; omega, fun _ => rfl⟩

theorem grantLaw_kept : Kept GrantLaw :=
  grantLaw_steady.kept (fun _ _ _ _ _ _ _ => .of_reset (hardReset_dynamic _ _ _ _ _ _ _).2.2.1 (le_refl (1 : Int)))
    (fun s hs => .of_reset (softReset_dynamic s).2.2.1 hs.2.1)

/-! ### Drives at their safe values (R19) -/

/-- The safe values of the drives, owner by owner. -/
theorem safeDrives_iff (s : State) : SafeDrives s ↔ (s.smTimer.isSome = true → s.phase = .run) ∧
    (∀ k : Fin 8, s.wells[k].state.energised = false → demandOf s k = 0) ∧
    (s.turbine.state.energised = false → s.drives[admissionDrive].value = 0 ∧ s.drives[extractionDrive].value = 0) ∧
    (s.heating.state = .off → s.drives[bypassDrive].value = 10000) ∧
    (s.phase = .config → ∀ j : Fin 4, s.drives[dosingDrive j].value = 0) := by
  have well (k : Fin 8) : ownerActive s (wellDrive k) = s.wells[k].state.energised := by
    simp [ownerActive, wellDrive]
  have dosing (j : Fin 4) : ownerActive s (dosingDrive j) = decide (s.phase = .run) := by
    have h1 : ¬ 11 + j.val < 8 := by omega
    have h2 : ¬ 11 + j.val < 10 := by omega
    have h3 : ¬ 11 + j.val = 10 := by omega
    simp [ownerActive, dosingDrive, h1, h2, h3]
  have wellSafe (k : Fin 8) : safeValue (wellDrive k) = 0 := by revert k; decide
  have dosingSafe (j : Fin 4) : safeValue (dosingDrive j) = 0 := by revert j; decide
  have cases (d : Fin 15) : (∃ k, d = wellDrive k) ∨ d = admissionDrive ∨ d = extractionDrive ∨ d = bypassDrive ∨
      ∃ j, d = dosingDrive j := by revert d; decide
  refine and_congr_right fun _ => ⟨fun h => ⟨fun k hk => ?_, fun ht => ⟨?_, ?_⟩, fun hh => ?_, fun hp j => ?_⟩, ?_⟩
  · exact (h _ ((well k).trans hk)).trans (wellSafe k)
  · exact h admissionDrive ht
  · exact h extractionDrive ht
  · exact h bypassDrive (by simp [ownerActive, bypassDrive, hh])
  · exact (h _ ((dosing j).trans (by simp [hp]))).trans (dosingSafe j)
  · rintro ⟨hw, ht, hh, hd⟩ d hn
    rcases cases d with ⟨k, rfl⟩ | rfl | rfl | rfl | ⟨j, rfl⟩
    · exact (hw k ((well k).symm.trans hn)).trans (wellSafe k).symm
    · exact (ht hn).1
    · exact (ht hn).2
    · exact hh (by simpa [ownerActive, bypassDrive] using hn)
    · rw [dosing] at hn
      have config : s.phase = .config := by
        cases hp : s.phase with
        | config => rfl
        | run => simp [hp] at hn
      exact (hd config j).trans (dosingSafe j).symm

/-- A de-energised well's demand is at its safe value. -/
def SafeWell (x : Well × Int) : Prop := x.1.state.energised = false → x.2 = 0

/-- The drives of a de-energised turbine are at their safe values. -/
def SafeTurbine (x : Turbine × Int × Int) : Prop := x.1.state.energised = false → x.2.1 = 0 ∧ x.2.2 = 0

theorem Well.enterStopping_energised (goal : StopTo) (cause : Option SuspendCause) (closed : Bool) (w : Well) :
    (w.enterStopping goal cause closed).state.energised = false := by
  cases closed <;> cases goal <;> rfl

theorem Well.completeStop_energised (w : Well) : w.completeStop.state.energised = false := by
  unfold Well.completeStop
  split <;> rfl

theorem Well.trip_energised (clock : Nat) (cause : WellTripCause) (w : Well) : (w.trip clock cause).state.energised = false := by
  unfold Well.trip
  dsimp only
  split <;> rfl

theorem WellMove.safe {x y : Well × Int} (h : WellMove x y) (hx : SafeWell x) : SafeWell y := by
  intro hy
  cases h with
  | quiet w w' v h => exact hx (h.2.1 ▸ hy)
  | ticked w w' v h => exact hx ((congrArg WellState.energised h.2.1).symm.trans hy)
  | grown w v => exact hx hy
  | turned w w' v h hw => exact hx hw
  | starting clock w v h => cases hy
  | confirmed w v h => cases hy
  | ran w st v h hst => exact absurd ((WellState.energised_of_isRunning hst).symm.trans hy) nofun
  | stopping goal cause closed w v h => rfl
  | completed w v h => exact hx (by dsimp only; rw [h]; rfl)
  | tripped clock cause w v h => rfl
  | decayed w v h => exact hx hy
  | unlocked w v h => exact hx (by dsimp only; rw [h]; rfl)
  | targeted c w v => exact hx hy

theorem TurbineMove.safe {x y : Turbine × Int × Int} (h : TurbineMove x y) (hx : SafeTurbine x) : SafeTurbine y := by
  intro hy
  cases h with
  | quiet t t' a e hs => exact hx (hs ▸ hy)
  | admitted t a e v h => exact absurd (h.symm.trans hy) nofun
  | rested t a e h => exact ⟨rfl, rfl⟩
  | passed t t' a e hr hm hs =>
    have off : t'.state.energised = false := hy
    dsimp only
    rw [off]
    exact (hs off).elim hx id
  | tripped => exact ⟨rfl, rfl⟩

theorem Moves.safeDrives {s t : State} (h : Moves s t) (hs : SafeDrives s) : SafeDrives t := by
  rw [safeDrives_iff] at hs ⊢
  obtain ⟨timer, wells, turbine, heating, dosing⟩ := hs
  refine ⟨fun hm => h.phase.1.trans (timer (h.phase.2 ▸ hm)), fun k => ?_, ?_, fun hh => ?_, fun hp j => ?_⟩
  · exact moves_keep (Q := SafeWell) (fun _ _ => WellMove.safe) (h.wells k) (wells k)
  · exact moves_keep (Q := SafeTurbine) (fun _ _ => TurbineMove.safe) h.turbine turbine
  · exact (h.heating.2 hh).elim id (fun ⟨ho, he⟩ => he.trans (heating ho))
  · exact (h.dosing j).trans (dosing (h.phase.1 ▸ hp) j)

end Sys2Proof.Machine
end

section
/-! PROOFS. Drives, speed demand and trip count through the requests that reshape the part and through the periods of wells and sites. -/

namespace Sys2Proof.Machine

-- One after the other: see Laws/Frames.lean.
set_option Elab.async false

open Relation

/-! ### ConfigureWell -/

theorem Well.takeTripLimit_state (w : Well) : w.takeTripLimit.state = w.state := by
  unfold Well.takeTripLimit
  repeat' split
  all_goals rfl

/-- The well as a new configuration leaves it. -/
def Well.configured (new : WellConfig) (w : Well) : Well := ({ w with cfg := new } : Well).takeTripLimit

theorem Well.configured_cfg (new : WellConfig) (w : Well) : (w.configured new).cfg = new := Well.takeTripLimit_cfg _

theorem Well.configured_state (new : WellConfig) (w : Well) : (w.configured new).state = w.state := Well.takeTripLimit_state _

theorem storeWell_eq (k : Fin 8) (new : WellConfig) (s : State) : storeWell k new s =
    if s.wells[k].cfg.ownFloor = new.ownFloor then takeSpeedRange k s.wells[k].cfg (s.modWell k (Well.configured new))
    else recompute (.wellFloor k) (takeSpeedRange k s.wells[k].cfg (s.modWell k (Well.configured new))) := rfl

theorem storeWell_wells (k j : Fin 8) (new : WellConfig) (s : State) :
    (storeWell k new s).wells[j] = if k = j then s.wells[k].configured new else s.wells[j] := by
  have e : (storeWell k new s).wells = (s.modWell k (Well.configured new)).wells := by
    rw [storeWell_eq]
    split
    · exact takeSpeedRange_only k _ _ .wells (by decide)
    · rw [recompute_wells]; exact takeSpeedRange_only k _ _ .wells (by decide)
  rw [e]
  exact s.modWell_at k j _

/-- A new speed range applies at once to an energised well (R110). -/
theorem storeWell_drives (k : Fin 8) (new : WellConfig) (s : State) (d : Fin 15) : (storeWell k new s).drives[d] =
    if wellDrive k = d ∧ (s.wells[k].cfg.minSpeed ≠ new.minSpeed ∨ s.wells[k].cfg.maxSpeed ≠ new.maxSpeed) ∧
        s.wells[k].state.energised = true then
      s.drives[d].write (clamp new.minSpeed (s.wells[k].configured new).effectiveCeiling (demandOf s k))
    else s.drives[d] := by
  have e : (storeWell k new s).drives = (takeSpeedRange k s.wells[k].cfg (s.modWell k (Well.configured new))).drives := by
    rw [storeWell_eq]
    split
    · rfl
    · exact recompute_only _ _ .drives (by decide)
  have hw : (s.modWell k (Well.configured new)).wells[k] = s.wells[k].configured new := by rw [s.modWell_at, if_pos rfl]
  rw [e]
  unfold takeSpeedRange
  dsimp only
  rw [hw, Well.configured_cfg, Well.configured_state]
  by_cases hr : (s.wells[k].cfg.minSpeed ≠ new.minSpeed ∨ s.wells[k].cfg.maxSpeed ≠ new.maxSpeed) ∧ s.wells[k].state.energised = true
  · rw [if_pos hr]
    unfold writeDemand
    rw [writeDrive_at]
    by_cases hd : wellDrive k = d
    · rw [if_pos hd, if_pos ⟨hd, hr⟩, ← hd]; rfl
    · rw [if_neg hd, if_neg (fun h => hd h.1)]; rfl
  · rw [if_neg hr, if_neg (fun h => hr h.2)]; rfl

theorem storeWell_demand (k j : Fin 8) (new : WellConfig) (s : State) : demandOf (storeWell k new s) j =
    if k = j ∧ (s.wells[k].cfg.minSpeed ≠ new.minSpeed ∨ s.wells[k].cfg.maxSpeed ≠ new.maxSpeed) ∧
        s.wells[k].state.energised = true then
      clamp new.minSpeed (s.wells[k].configured new).effectiveCeiling (demandOf s k)
    else demandOf s j := by
  unfold demandOf
  rw [storeWell_drives]
  simp only [wellDrive_inj]
  split
  · exact Drive.write_value _ _
  · rfl

theorem storeWell_value {d : Fin 15} (hd : 8 ≤ d.val) (k : Fin 8) (new : WellConfig) (s : State) :
    (storeWell k new s).drives[d].value = s.drives[d].value := by
  rw [storeWell_drives, if_neg (fun h => wellDrive_ne hd h.1)]

/-- A property of the part that storing a checked configuration keeps is kept by ConfigureWell. -/
theorem ownConfigureWell_keeps {P : State → Prop} (q : WellFields) (s : State) (hs : P s)
    (store : ∀ k new c, WellFields.check q = some (k, new, c) → s.wells[k].startLog.length ≤ new.maxStarts → P (storeWell k new s)) :
    P (ownConfigureWell q s).1 := by
  unfold ownConfigureWell
  split
  · exact hs
  · rename_i h
    dsimp only
    split
    · exact hs
    · split
      · exact hs
      · split
        · exact hs
        · rename_i hl _
          exact store _ _ _ h (by omega)

/-- The ranges that the laws ask of a checked configuration. -/
theorem WellFields.check_ranges {q : WellFields} {k : Fin 8} {c : WellConfig} {b : Bool} (h : WellFields.check q = some (k, c, b)) :
    0 ≤ c.minSpeed ∧ c.minSpeed ≤ c.maxSpeed ∧ c.maxSpeed ≤ 10000 ∧ 1 ≤ c.tripLimit := by
  simp only [WellFields.check, bind, Option.bind_eq_some_iff, require_eq_some, Bool.and_eq_true, Option.some.injEq,
    Prod.mk.injEq] at h
  obtain ⟨_, -, _, -, _, -, _, -, _, -, _, -, _, ranges, -, rfl, -⟩ := h
  have low : ValueClass.frac.has q.minSpeed = true := by simp only [ranges]
  have high : within q.minSpeed 10000 q.maxSpeed = true := by simp only [ranges]
  have limit : withinNat 1 15 q.tripLimit = true := by simp only [ranges]
  exact ⟨(within_iff.mp low).1, (within_iff.mp high).1, (within_iff.mp high).2, (withinNat_iff.mp limit).1⟩

/-! ### The dosing drives -/

theorem dosingDrives_value (v : State → Fin 4 → Int) (s : State) {d : Fin 15} (hd : d.val < 11) :
    (forEach 4 (fun j s => writeDrive (dosingDrive j) (v s j) s) s).drives[d].value = s.drives[d].value :=
  forEach_rel (fun a b : State => b.drives[d].value = a.drives[d].value) (fun _ => rfl) (fun _ _ _ h k => Eq.trans k h) 4
    (fun j s => writeDrive (dosingDrive j) (v s j) s) (fun j a => by
      have h : dosingDrive j ≠ d := fun e => by
        have := congrArg Fin.val e
        simp only [dosingDrive] at this
        omega
      rw [writeDrive_value, if_neg h]) s

theorem setDosing_value (s : State) {d : Fin 15} (hd : d.val < 11) : (setDosing s).drives[d].value = s.drives[d].value :=
  dosingDrives_value stationDemand s hd

/-- Decommission leaves the dosing drives at 0. -/
theorem dosingDrives_rest (j : Fin 4) (s : State) :
    (forEach 4 (fun j s => writeDrive (dosingDrive j) 0 s) s).drives[dosingDrive j].value = 0 := by
  have unrolled : forEach 4 (fun j s => writeDrive (dosingDrive j) 0 s) s =
      writeDrive (dosingDrive 3) 0 (writeDrive (dosingDrive 2) 0 (writeDrive (dosingDrive 1) 0 (writeDrive (dosingDrive 0) 0 s))) := rfl
  rw [unrolled]
  simp only [writeDrive_value]
  match j with
  | 0 => rfl
  | 1 => rfl
  | 2 => rfl
  | 3 => rfl

/-! ### Safe values -/

theorem safeDrives_on : On [.phase, .monitor, .wells, .drives, .turbine, .heating] SafeDrives := by
  intro s t h hs
  have hf := h .phase (by decide)
  have hm := h .monitor (by decide)
  have hw : t.wells = s.wells := h .wells (by decide)
  have hd : t.drives = s.drives := h .drives (by decide)
  have ht : t.turbine = s.turbine := h .turbine (by decide)
  have hh : t.heating = s.heating := h .heating (by decide)
  simp only [Exact, Prod.mk.injEq] at hf hm
  unfold SafeDrives ownerActive at *
  rw [hm.1, hf.2.2.2.2, hw, hd, ht, hh]
  exact hs

theorem readWellInputs_state (k j : Fin 8) (s : State) : (readWellInputs k s).wells[j].state = s.wells[j].state := by
  unfold readWellInputs
  rw [State.modWell_at]
  split
  · rename_i h; rw [h]
  · rfl

theorem readWellInputs_safe (k : Fin 8) (s : State) (hs : SafeDrives s) : SafeDrives (readWellInputs k s) := by
  rw [safeDrives_iff] at hs ⊢
  obtain ⟨timer, wells, others⟩ := hs
  exact ⟨timer, fun j hj => wells j (readWellInputs_state k j s ▸ hj), others⟩

theorem setDosing_safe (s : State) (hm : s.smTimer.isSome = true) (hs : SafeDrives s) : SafeDrives (setDosing s) := by
  have only := setDosing_only s
  have hw : (setDosing s).wells = s.wells := only .wells (by decide)
  have ht : (setDosing s).turbine = s.turbine := only .turbine (by decide)
  have hh : (setDosing s).heating = s.heating := only .heating (by decide)
  have hf := only .phase (by decide)
  have hn := only .monitor (by decide)
  simp only [Exact, Prod.mk.injEq] at hf hn
  rw [safeDrives_iff] at hs ⊢
  obtain ⟨timer, wells, turbine, heating, -⟩ := hs
  unfold demandOf at *
  rw [hw, ht, hh, hn.1, hf.2.2.2.2, setDosing_value s (by decide), setDosing_value s (by decide), setDosing_value s (by decide)]
  refine ⟨timer, fun k hk => ?_, turbine, heating, fun hp => absurd (timer hm) (by rw [hp]; nofun)⟩
  rw [setDosing_value s (by simp only [wellDrive]; omega)]
  exact wells k hk

theorem storeWell_safe (k : Fin 8) (new : WellConfig) (s : State) (hs : SafeDrives s) : SafeDrives (storeWell k new s) := by
  have only := storeWell_only k new s
  have ht : (storeWell k new s).turbine = s.turbine := only .turbine (by decide)
  have hh : (storeWell k new s).heating = s.heating := only .heating (by decide)
  have hf := only .phase (by decide)
  have hn := only .monitor (by decide)
  simp only [Exact, Prod.mk.injEq] at hf hn
  rw [safeDrives_iff] at hs ⊢
  obtain ⟨timer, wells, turbine, heating, dosing⟩ := hs
  rw [ht, hh, hn.1, hf.2.2.2.2, storeWell_value (by decide), storeWell_value (by decide), storeWell_value (by decide)]
  refine ⟨timer, fun j hj => ?_, turbine, heating, fun hp j => ?_⟩
  · have rests : s.wells[j].state.energised = false := by
      rw [storeWell_wells] at hj
      split at hj
      · rename_i h
        rw [Well.configured_state] at hj
        exact h ▸ hj
      · exact hj
    rw [storeWell_demand, if_neg]
    · exact wells j rests
    · rintro ⟨rfl, -, he⟩
      exact absurd (he.symm.trans rests) nofun
  · rw [storeWell_value (by simp only [dosingDrive]; omega)]
    exact dosing hp j

theorem ownConfigureHeating_safe (q : HeatingFields) (s : State) (hs : SafeDrives s) : SafeDrives (ownConfigureHeating q s).1 := by
  have stored (new : HeatingConfig) : SafeDrives (s.modHeating (fun h => { h with cfg := new })) := hs
  unfold ownConfigureHeating
  split
  · exact hs
  · split
    · exact hs
    · unfold storeHeating
      dsimp only
      split
      · exact stored _
      · exact safeDrives_on.only (by decide) (recompute_only _ _) (stored _)

theorem ownCommission_safe (s : State) (hs : SafeDrives s) : SafeDrives (ownCommission s).1 := by
  unfold ownCommission
  split
  · exact hs
  · split
    · exact hs
    · show SafeDrives { startMonitor s with phase := .run }
      rw [safeDrives_iff] at hs ⊢
      obtain ⟨-, wells, turbine, heating, -⟩ := hs
      exact ⟨fun _ => rfl, wells, turbine, heating, nofun⟩

theorem withdrawSites_only (s : State) : Only [.constraints] s (forEach 12 (fun i s => withdraw (siteSlot i) s) s) :=
  Only.forEach 12 _ (fun i s => withdraw_only (siteSlot i) s) s

/-- Beside its own part the monitor's stop writes the dosing drives to 0 and leaves every other drive. -/
theorem stopMonitor_value (s : State) (d : Fin 15) (hd : d.val < 11) : (stopMonitor s).drives[d].value = s.drives[d].value := by
  have e (u : State) : (forEach 12 (fun i s => withdraw (siteSlot i) s) u).drives = u.drives :=
    withdrawSites_only u .drives (by decide)
  unfold stopMonitor
  dsimp only
  rw [dosingDrives_value (fun _ _ => 0) _ hd, e]

theorem stopMonitor_monitor (s : State) : (stopMonitor s).smTimer = none ∧ (stopMonitor s).minuteCounter = 0 := by
  have h : Only [.constraints, .drives]
      { s with
        smTimer := none
        minuteCounter := 0
        sites := modifyAll s.sites (fun _ x => { x with minuteDose := 0, minuteCover := 0 }) } (stopMonitor s) :=
    (withdrawSites_only _).seq (setDosingSafe_only _)
  have hm := h .monitor (by decide)
  simp only [Exact, Prod.mk.injEq] at hm
  exact hm

theorem ownDecommission_safe (s : State) (hs : SafeDrives s) : SafeDrives (ownDecommission s).1 := by
  have stopped : SafeDrives (stopMonitor { s with phase := .config }) := by
    have only := stopMonitor_only { s with phase := .config }
    have hw : (stopMonitor { s with phase := .config }).wells = s.wells := only .wells (by decide)
    have ht : (stopMonitor { s with phase := .config }).turbine = s.turbine := only .turbine (by decide)
    have hh : (stopMonitor { s with phase := .config }).heating = s.heating := only .heating (by decide)
    rw [safeDrives_iff] at hs ⊢
    obtain ⟨-, wells, turbine, heating, -⟩ := hs
    unfold demandOf at *
    rw [hw, ht, hh, (stopMonitor_monitor _).1, stopMonitor_value _ _ (by decide), stopMonitor_value _ _ (by decide),
      stopMonitor_value _ _ (by decide)]
    refine ⟨nofun, fun k hk => ?_, turbine, heating, fun _ j => dosingDrives_rest j _⟩
    rw [stopMonitor_value _ _ (by simp only [wellDrive]; omega)]
    exact wells k hk
  unfold ownDecommission
  split
  · exact hs
  · split
    · exact hs
    · exact stopped

theorem safeDrives_steady : Steady SafeDrives :=
  Moves.steady safeDrives_on (fun _ _ => Moves.safeDrives)
    (wpPeriodExpiry_keeps (fun _ _ => Moves.safeDrives) readWellInputs_safe)
    (smPeriodExpiry_keeps (fun _ _ => Moves.safeDrives) setDosing_safe)
    (fun r s hr ha hs => by
      cases r with
      | configureWell q => exact ownConfigureWell_keeps q s hs (fun k new _ _ _ => storeWell_safe k new s hs)
      | configureHeating q => exact ownConfigureHeating_safe q s hs
      | commission => exact ownCommission_safe s hs
      | decommission => exact ownDecommission_safe s hs
      | configurePoint q => exact absurd (by dsimp only [owned]; decide) ha
      | _ => cases hr)

theorem SafeDrives.of_reset {s : State} (hf : FieldReset s) (ht : TableReset s) : SafeDrives s := by
  obtain ⟨-, drives, -⟩ := hf
  obtain ⟨-, -, -, -, -, -, -, timer, -⟩ := ht
  exact ⟨fun h => absurd (timer ▸ h) nofun, fun d _ => (drives d).1⟩

theorem safeDrives_kept : Kept SafeDrives :=
  safeDrives_steady.kept
    (fun _ _ _ _ _ _ _ => .of_reset (hardReset_dynamic _ _ _ _ _ _ _).1 (hardReset_dynamic _ _ _ _ _ _ _).2.1)
    (fun s _ => .of_reset (softReset_dynamic s).1 (softReset_dynamic s).2.1)

end Sys2Proof.Machine
end

section
/-! PROOFS. The laws of the trip count and of the speed demand. -/

namespace Sys2Proof.Machine

-- One after the other: see Laws/Frames.lean.
set_option Elab.async false

open Relation

/-! ### The trip count (R131, R132) -/

/-- The law of the trip count, of one well. -/
def TripsOk (w : Well) : Prop :=
  (w.decayTimer.isSome = true ↔ 0 < w.tripCount ∧ w.state ≠ .lockedOut) ∧ 1 ≤ w.cfg.tripLimit ∧
    (w.state ≠ .lockedOut → w.tripCount < w.cfg.tripLimit) ∧ (w.state = .lockedOut → w.tripCount = w.cfg.tripLimit)

/-- The law speaks of limit, count, decay timer and of whether the well is locked out. -/
theorem TripsOk.of_eq {w w' : Well} (h : TripsOk w) (hc : w'.cfg.tripLimit = w.cfg.tripLimit) (hn : w'.tripCount = w.tripCount)
    (ht : w'.decayTimer.isSome = w.decayTimer.isSome) (hs : w'.state = .lockedOut ↔ w.state = .lockedOut) : TripsOk w' := by
  unfold TripsOk at *
  rw [hc, hn, ht, Ne, hs]
  exact h

theorem TripsOk.trip {w : Well} (h : TripsOk w) (hl : w.state ≠ .lockedOut) (clock : Nat) (cause : WellTripCause) :
    TripsOk (w.trip clock cause) := by
  obtain ⟨timer, limit, below, -⟩ := h
  have room := below hl
  unfold TripsOk Well.trip
  dsimp only
  by_cases hk : w.tripCount + 1 = w.cfg.tripLimit
  · simp only [hk, decide_true, if_true]
    exact ⟨by simp, limit, by simp, by simp⟩
  · simp only [hk, decide_false, Bool.false_eq_true, if_false]
    refine ⟨⟨fun _ => ⟨by omega, nofun⟩, fun _ => ?_⟩, limit, fun _ => by omega, nofun⟩
    split
    · trivial
    · exact timer.mpr ⟨by omega, hl⟩

theorem TripsOk.decay {w : Well} (h : TripsOk w) (ht : w.decayTimer.isSome = true) : TripsOk w.decay := by
  obtain ⟨timer, limit, below, -⟩ := h
  obtain ⟨some, hl⟩ := timer.mp ht
  have room := below hl
  unfold TripsOk Well.decay
  dsimp only
  refine ⟨?_, limit, fun _ => by omega, fun e => absurd e hl⟩
  by_cases h0 : w.tripCount - 1 = 0
  · simp [h0]
  · simp only [h0, if_false, Option.isSome_some, true_iff]
    exact ⟨by omega, hl⟩

theorem Well.completeStop_keeps (w : Well) : w.completeStop.cfg = w.cfg ∧ w.completeStop.tripCount = w.tripCount ∧
    w.completeStop.decayTimer = w.decayTimer ∧ w.completeStop.startLog = w.startLog ∧ w.completeStop.state ≠ .lockedOut := by
  unfold Well.completeStop
  split <;> exact ⟨rfl, rfl, rfl, rfl, nofun⟩

theorem Well.enterStopping_keeps (goal : StopTo) (cause : Option SuspendCause) (closed : Bool) (w : Well) :
    (w.enterStopping goal cause closed).cfg = w.cfg ∧ (w.enterStopping goal cause closed).tripCount = w.tripCount ∧
      (w.enterStopping goal cause closed).decayTimer = w.decayTimer ∧ (w.enterStopping goal cause closed).startLog = w.startLog ∧
      (w.enterStopping goal cause closed).state ≠ .lockedOut := by
  cases closed <;> cases goal <;> exact ⟨rfl, rfl, rfl, rfl, nofun⟩

theorem WellMove.tripsOk {x y : Well × Int} (h : WellMove x y) (hx : TripsOk x.1) : TripsOk y.1 := by
  cases h with
  | quiet w w' v h =>
    obtain ⟨hc, hs, -, hn, ht, -⟩ := h
    exact hx.of_eq (by rw [hc]) hn (by rw [ht]) (by rw [hs])
  | ticked w w' v h ht =>
    obtain ⟨hc, hs, -, hn, -, -⟩ := h
    exact hx.of_eq (congrArg WellConfig.tripLimit hc) hn (by rw [ht]; exact Option.isSome_map ..)
      (iff_of_eq (congrArg (· = WellState.lockedOut) hs))
  | grown w v => exact hx
  | turned w w' v h _ _ hl hl' =>
    obtain ⟨hc, -, -, hn, ht, -⟩ := h
    exact hx.of_eq (congrArg WellConfig.tripLimit hc) hn (congrArg Option.isSome ht) (iff_of_false hl' hl)
  | starting clock w v h => exact hx.of_eq rfl rfl rfl (iff_of_false nofun (by rcases h with h | h <;> rw [h] <;> nofun))
  | confirmed w v h => exact hx.of_eq rfl rfl rfl (iff_of_false nofun (by rw [h]; nofun))
  | ran w st v h hst =>
    exact hx.of_eq rfl rfl rfl (iff_of_false (fun e => by dsimp only at e; rw [e] at hst; cases hst) (fun e => by rw [e] at h; cases h))
  | stopping goal cause closed w v h =>
    obtain ⟨hc, hn, ht, -, hl⟩ := w.enterStopping_keeps goal cause closed
    exact hx.of_eq (congrArg WellConfig.tripLimit hc) hn (congrArg Option.isSome ht)
      (iff_of_false hl (fun e => by rw [e] at h; cases h))
  | completed w v h =>
    obtain ⟨hc, hn, ht, -, hl⟩ := w.completeStop_keeps
    exact hx.of_eq (congrArg WellConfig.tripLimit hc) hn (congrArg Option.isSome ht) (iff_of_false hl (by rw [h]; nofun))
  | tripped clock cause w v h => exact hx.trip (fun e => by rw [e] at h; cases h) clock cause
  | decayed w v h => exact hx.decay h
  | unlocked w v h =>
    obtain ⟨-, limit, -, -⟩ := hx
    exact ⟨by simp, limit, fun _ => limit, nofun⟩
  | targeted c w v => exact hx

theorem tripCountLaw_on : On [.wells] TripCountLaw := by
  intro s t h hs
  have e : t.wells = s.wells := h .wells (by decide)
  unfold TripCountLaw
  rw [e]; exact hs

theorem Moves.tripCountLaw {s t : State} (h : Moves s t) (hs : TripCountLaw s) : TripCountLaw t := fun k =>
  moves_keep (Q := fun x : Well × Int => TripsOk x.1) (fun _ _ => WellMove.tripsOk) (h.wells k) (hs k)

theorem readWellInputs_trips (k : Fin 8) (s : State) (hs : TripCountLaw s) : TripCountLaw (readWellInputs k s) := by
  intro j
  unfold readWellInputs
  rw [State.modWell_at]
  split
  · exact hs k
  · exact hs j

theorem TripsOk.configured {w : Well} (h : TripsOk w) (new : WellConfig) (hl : 1 ≤ new.tripLimit) : TripsOk (w.configured new) := by
  obtain ⟨timer, -, below, -⟩ := h
  unfold Well.configured Well.takeTripLimit
  dsimp only
  split
  · rename_i e
    exact ⟨iff_of_false (fun ht => (timer.mp ht).2 e) (fun h => h.2 e), hl, fun hn => absurd e hn, fun _ => rfl⟩
  · rename_i e
    split
    · rename_i reached
      refine ⟨?_, hl, fun _ => by dsimp only; omega, fun h => absurd h e⟩
      by_cases h0 : new.tripLimit - 1 = 0
      · simp [h0]
      · have counts : w.decayTimer.isSome = true := timer.mpr ⟨by omega, e⟩
        simp only [h0, if_false, counts, true_iff]
        exact ⟨by omega, e⟩
    · exact ⟨timer, hl, fun _ => by dsimp only; omega, fun h => absurd h e⟩

theorem storeWell_trips (k : Fin 8) (new : WellConfig) (hl : 1 ≤ new.tripLimit) (s : State) (hs : TripCountLaw s) :
    TripCountLaw (storeWell k new s) := by
  intro j
  rw [storeWell_wells]
  split
  · exact TripsOk.configured (hs k) new hl
  · exact hs j

theorem tripCountLaw_steady : Steady TripCountLaw :=
  Moves.steady tripCountLaw_on (fun _ _ => Moves.tripCountLaw)
    (wpPeriodExpiry_keeps (fun _ _ => Moves.tripCountLaw) readWellInputs_trips)
    (fun s => tripCountLaw_on.only (by decide) (smPeriodExpiry_only s))
    (fun r s hr ha hs => by
      cases r with
      | configureWell q =>
        refine ownConfigureWell_keeps q s hs (fun k new _ hc _ => ?_)
        obtain ⟨-, -, -, limit⟩ := WellFields.check_ranges hc
        exact storeWell_trips k new limit s hs
      | configurePoint | configureHeating | commission | decommission => exact absurd (by dsimp only [owned]; decide) ha
      | _ => cases hr)

theorem TripCountLaw.of_reset {s : State} (h : PlantReset s) (hl : ∀ k : Fin 8, 1 ≤ s.wells[k].cfg.tripLimit) : TripCountLaw s := by
  obtain ⟨wells, -⟩ := h
  intro k
  obtain ⟨state, -, -, -, -, -, -, count, -, -, -, decay, -⟩ := wells k
  dsimp only
  rw [state, count, decay]
  exact ⟨iff_of_false nofun (fun h => absurd h.1 (by omega)), hl k, fun _ => hl k, nofun⟩

theorem tripCountLaw_kept : Kept TripCountLaw := by
  refine tripCountLaw_steady.kept (fun a b c d e f g => .of_reset (hardReset_dynamic _ _ _ _ _ _ _).2.2.1 (fun k => ?_))
    (fun s hs => .of_reset (softReset_dynamic s).2.2.1 (fun k => ?_))
  · obtain ⟨-, ⟨-, wells, -⟩, -⟩ := hardReset_default a b c d e f g
    rw [wells]; decide
  · obtain ⟨-, -, -, -, -, -, wells, -⟩ := softReset_kept s
    rw [wells]
    obtain ⟨-, limit, -⟩ := hs k
    exact limit

end Sys2Proof.Machine
end

section
/-! PROOFS. The law of the speed demand (R110, R123, R124). -/

namespace Sys2Proof.Machine

-- One after the other: see Laws/Frames.lean.
set_option Elab.async false

open Relation

/-! ### The law of one well -/

/-- The ranges of the speed fields (section 6.1). -/
def SpeedRange (c : WellConfig) : Prop := 0 ≤ c.minSpeed ∧ c.minSpeed ≤ c.maxSpeed ∧ c.maxSpeed ≤ 10000

/-- What the law asks of the demand of an energised well. -/
def DemandWithin (w : Well) (v : Int) : Prop :=
  w.cfg.minSpeed ≤ v ∧ v ≤ w.cfg.maxSpeed ∧ v ≤ max w.cfg.minSpeed w.ceilingView.value ∧ ∀ cap ∈ w.cfg.stageCap w.state, v ≤ cap

/-- The law of one well and its demand. -/
def DemandOk (x : Well × Int) : Prop :=
  SpeedRange x.1.cfg ∧ (x.1.state.energised = true → DemandWithin x.1 x.2) ∧ (x.1.state.energised = false → x.2 = 0)

theorem demandLaw_iff (s : State) : DemandLaw s ↔ ∀ k : Fin 8, DemandOk (s.wells[k], demandOf s k) := by
  refine forall_congr' fun k => ?_
  unfold DemandOk SpeedRange DemandWithin
  cases he : s.wells[k].state.energised <;> simp only [and_assoc, he, if_true, Bool.false_eq_true, if_false, forall_const,
    IsEmpty.forall_iff, true_and, and_true, Bool.true_eq_false]

theorem DemandOk.rests {w : Well} {v : Int} (hr : SpeedRange w.cfg) (he : w.state.energised = false) (hv : v = 0) :
    DemandOk (w, v) := ⟨hr, fun h => absurd (h.symm.trans he) nofun, fun _ => hv⟩

theorem DemandOk.runs {w : Well} {v : Int} (hr : SpeedRange w.cfg) (he : w.state.energised = true) (hv : DemandWithin w v) :
    DemandOk (w, v) := ⟨hr, fun _ => hv, fun h => absurd (he.symm.trans h) nofun⟩

/-- The law speaks of configuration, state and ceiling view. -/
theorem DemandOk.of_eq {w w' : Well} {v : Int} (h : DemandOk (w, v)) (hc : w'.cfg = w.cfg) (hs : w'.state = w.state)
    (hv : w'.ceilingView = w.ceilingView) : DemandOk (w', v) := by
  unfold DemandOk DemandWithin at *
  dsimp only at *
  rw [hc, hs, hv]
  exact h

/-- The least speed is allowed in STARTING and in every running state. -/
theorem demandWithin_minSpeed {w : Well} (hr : SpeedRange w.cfg) : DemandWithin w w.cfg.minSpeed := by
  obtain ⟨low, range, high⟩ := hr
  refine ⟨le_refl _, range, le_max_left _ _, fun cap hc => ?_⟩
  have half := Int.ediv_nonneg (a := w.cfg.maxSpeed - w.cfg.minSpeed) (b := 2) (by omega) (by omega)
  cases hs : w.state <;> rw [hs] at hc <;> cases hc <;> omega

theorem stageCap_min {c : WellConfig} (hr : SpeedRange c) (st : WellState) : c.minSpeed ≤ (c.stageCap st).getD c.maxSpeed ∧
    (c.stageCap st).getD c.maxSpeed ≤ c.maxSpeed := by
  obtain ⟨low, range, high⟩ := hr
  cases st <;> simp only [WellConfig.stageCap, Option.getD_some, Option.getD_none] <;> omega

/-- A demand between the least speed and the effective ceiling is within what the law asks (R123). -/
theorem demandWithin_of_ceiling {w : Well} {v : Int} (hr : SpeedRange w.cfg) (hl : w.cfg.minSpeed ≤ v) (hu : v ≤ w.effectiveCeiling) :
    DemandWithin w v := by
  obtain ⟨capLow, capHigh⟩ := stageCap_min hr w.state
  obtain ⟨low, range, high⟩ := hr
  unfold Well.effectiveCeiling at hu
  refine ⟨hl, by omega, by omega, fun cap hc => ?_⟩
  have e : (w.cfg.stageCap w.state).getD w.cfg.maxSpeed = cap := by rw [Option.mem_def.mp hc]; rfl
  omega

theorem Well.minSpeed_le_ceiling (w : Well) : w.cfg.minSpeed ≤ w.effectiveCeiling := le_max_left _ _

theorem truncDiv_nonneg {a b : Int} (ha : 0 ≤ a) (hb : 0 ≤ b) : 0 ≤ truncDiv a b := Int.tdiv_nonneg ha hb

/-- The base demand lies between the least speed and the effective ceiling (R123, R128). -/
theorem Well.base_within (w : Well) : w.cfg.minSpeed ≤ w.base ∧ w.base ≤ w.effectiveCeiling := by
  have hc := w.minSpeed_le_ceiling
  have hb : w.cfg.minSpeed ≤ clamp w.cfg.minSpeed w.effectiveCeiling w.cfg.target ∧
      clamp w.cfg.minSpeed w.effectiveCeiling w.cfg.target ≤ w.effectiveCeiling := by unfold clamp; omega
  unfold Well.base
  split
  · exact ⟨le_refl _, hc⟩
  · rename_i p _
    dsimp only
    split
    · have cut : 0 ≤ truncDiv ((w.intakeView.value + w.cfg.floorBand - p) * w.cfg.floorGain) 100 :=
        truncDiv_nonneg (mul_nonneg (by omega) (by omega)) (by decide)
      omega
    · exact hb

/-- The ramp ends between the least speed and the effective ceiling (R124). -/
theorem Well.nextDemand_within (w : Well) (v : Int) (hv : w.cfg.minSpeed ≤ v) :
    w.cfg.minSpeed ≤ w.nextDemand v ∧ w.nextDemand v ≤ w.effectiveCeiling := by
  obtain ⟨low, high⟩ := w.base_within
  unfold Well.nextDemand WellConfig.rampStep
  split <;> omega

theorem DemandOk.ran {w : Well} {st : WellState} {v : Int} (hr : SpeedRange w.cfg) (hv : w.cfg.minSpeed ≤ v) (hst : st.isRunning = true) :
    DemandOk ({ w with state := st }, ({ w with state := st } : Well).nextDemand v) := by
  obtain ⟨low, high⟩ := Well.nextDemand_within { w with state := st } v hv
  exact .runs hr (WellState.energised_of_isRunning hst) (demandWithin_of_ceiling hr low high)

theorem WellMove.demandOk {x y : Well × Int} (h : WellMove x y) (hx : DemandOk x) : DemandOk y := by
  have range := hx.1
  cases h with
  | quiet w w' v h => exact hx.of_eq h.1 h.2.1 h.2.2.2.2.2
  | ticked w w' v h ht => exact hx.of_eq h.1 h.2.1 h.2.2.2.2.2
  | grown w v => exact hx
  | turned w w' v h hw hw' =>
    obtain ⟨hc, -⟩ := h
    have hc : w'.cfg = w.cfg := hc
    exact .rests (by rw [hc]; exact range) hw' (hx.2.2 hw)
  | starting clock w v h => exact .runs range rfl (demandWithin_minSpeed (w := w.enterStarting clock) range)
  | confirmed w v h =>
    obtain ⟨low, high, ceiling, -⟩ := hx.2.1 (by dsimp only; rw [h]; rfl)
    exact .runs range rfl ⟨low, high, ceiling, fun cap hc => by cases hc; exact high⟩
  | ran w st v h hst =>
    obtain ⟨low, -⟩ := hx.2.1 (WellState.energised_of_isRunning h)
    exact .ran range low hst
  | stopping goal cause closed w v h =>
    refine .rests ?_ (w.enterStopping_energised goal cause closed) rfl
    rw [(w.enterStopping_keeps goal cause closed).1]; exact range
  | completed w v h =>
    refine .rests ?_ w.completeStop_energised (hx.2.2 (by dsimp only; rw [h]; rfl))
    rw [w.completeStop_keeps.1]; exact range
  | tripped clock cause w v h => exact .rests range (w.trip_energised clock cause) rfl
  | decayed w v h => exact hx
  | unlocked w v h => exact .rests range rfl (hx.2.2 (by dsimp only; rw [h]; rfl))
  | targeted c w v => exact hx

theorem Moves.demandLaw {s t : State} (h : Moves s t) (hs : DemandLaw s) : DemandLaw t := by
  rw [demandLaw_iff] at *
  exact fun k => moves_keep (Q := DemandOk) (fun _ _ => WellMove.demandOk) (h.wells k) (hs k)

theorem demandLaw_on : On [.wells, .drives] DemandLaw := by
  intro s t h hs
  have hw : t.wells = s.wells := h .wells (by decide)
  have hd : t.drives = s.drives := h .drives (by decide)
  unfold DemandLaw demandOf at *
  rw [hw, hd]; exact hs

/-! ### The WP period -/

/-- What a new ceiling view leaves of the law: the demand of a well that does not run is allowed under every ceiling, that of a running
one is at least the least speed. -/
theorem DemandOk.anyCeiling {w w' : Well} {v : Int} (h : DemandOk (w, v)) (hc : w'.cfg = w.cfg) (hs : w'.state = w.state) :
    (w'.state.isRunning = false → DemandOk (w', v)) ∧ (w'.state.isRunning = true → w'.cfg.minSpeed ≤ v) := by
  obtain ⟨range, runs, rests⟩ := h
  rw [← hc] at range
  refine ⟨fun hn => ?_, fun hr => ?_⟩
  · cases he : w'.state.energised with
    | false => exact .rests range he (rests (hs ▸ he))
    | true =>
      have starts : w'.state = .starting := by
        cases hst : w'.state <;> rw [hst] at he hn <;> first | rfl | exact absurd he (by decide) | exact absurd hn (by decide)
      obtain ⟨low, -, -, cap⟩ := runs (hs ▸ he)
      have least : v = w'.cfg.minSpeed := by
        refine le_antisymm (cap _ ?_) (hc ▸ low)
        dsimp only
        rw [← hs, starts, hc]; rfl
      rw [least]
      exact .runs range he (demandWithin_minSpeed range)
  · obtain ⟨low, -⟩ := runs (hs ▸ WellState.energised_of_isRunning hr)
    exact hc ▸ low

/-- A stage settled brings the demand within the law, whatever the ceiling view was before. -/
theorem runStage_demand (k : Fin 8) (st : WellState) (s : State) (hr : SpeedRange s.wells[k].cfg)
    (hv : s.wells[k].cfg.minSpeed ≤ demandOf s k) (hst : st.isRunning = true) :
    let t := runDemand k (s.modWell k (fun w => { w with state := st }))
    DemandOk (t.wells[k], demandOf t k) := by
  have e : (s.modWell k (fun w => { w with state := st })).wells[k] = { s.wells[k] with state := st } := by
    rw [s.modWell_at, if_pos rfl]
  unfold runDemand
  dsimp only
  generalize hu : writeDemand k ((s.modWell k (fun w => { w with state := st })).wells[k].nextDemand
    (demandOf (s.modWell k (fun w => { w with state := st })) k)) (s.modWell k (fun w => { w with state := st })) = u
  have hw : u.wells[k] = { s.wells[k] with state := st } := by rw [← hu]; exact e
  have hd : demandOf u k = ({ s.wells[k] with state := st } : Well).nextDemand (demandOf s k) := by
    rw [← hu, demandOf_writeDemand, if_pos rfl, e]; rfl
  have settled : DemandOk (u.wells[k], demandOf u k) := by
    rw [hw, hd]; exact .ran hr hv hst
  have energised : u.wells[k].state.energised = true := by rw [hw]; exact WellState.energised_of_isRunning hst
  exact moves_keep (Q := DemandOk) (fun _ _ => WellMove.demandOk) ((settleFloor_moves k u energised).wells k) settled

theorem rest_demand (k : Fin 8) (f : Well → Well) (s : State) (hr : SpeedRange s.wells[k].cfg) (hc : (f s.wells[k]).cfg = s.wells[k].cfg)
    (hf : (f s.wells[k]).state.energised = false) :
    DemandOk ((writeDemand k 0 (s.modWell k f)).wells[k], demandOf (writeDemand k 0 (s.modWell k f)) k) := by
  have e : (writeDemand k 0 (s.modWell k f)).wells[k] = f s.wells[k] := (s.modWell_at k k f).trans (if_pos rfl)
  rw [e, demandOf_writeDemand, if_pos rfl]
  exact .rests (hc ▸ hr) hf rfl

theorem wellWork_demand (k : Fin 8) (s : State) (hr : SpeedRange s.wells[k].cfg)
    (hn : s.wells[k].state.isRunning = false → DemandOk (s.wells[k], demandOf s k))
    (hv : s.wells[k].state.isRunning = true → s.wells[k].cfg.minSpeed ≤ demandOf s k) :
    DemandOk ((wellWork k s).wells[k], demandOf (wellWork k s) k) := by
  cases hrun : s.wells[k].state.isRunning with
  | false => exact moves_keep (Q := DemandOk) (fun _ _ => WellMove.demandOk) ((wellWork_moves k s).wells k) (hn hrun)
  | true =>
    have least := hv hrun
    have e : wellWork k s = if wellDriveLost s k then tripWell k .driveLost s else runWell k s := by
      unfold wellWork
      split <;> first | rfl | (rename_i h; rw [h] at hrun; cases hrun)
    rw [e]
    split
    · exact rest_demand k _ s hr rfl (Well.trip_energised _ _ _)
    · unfold runWell
      dsimp only
      split
      · exact runStage_demand k .throttle1 s hr least rfl
      · rename_i tw _
        split
        · exact rest_demand k _ s hr (Well.enterStopping_keeps _ _ _ _).1 (Well.enterStopping_energised _ _ _ _)
        · exact runStage_demand k (s.wells[k].cfg.stage tw s.wells[k].state) s hr least (WellConfig.stage_isRunning _ tw hrun)

theorem wellPeriod_demand (k : Fin 8) (s : State) (hs : DemandLaw s) : DemandLaw (wellPeriod k s) := by
  rw [demandLaw_iff] at *
  intro j
  by_cases h : k = j
  · subst h
    have e : ((readWellInputs k s).modWell k Well.growOld).wells[k] = (readWellInputs k s).wells[k].growOld := by
      rw [State.modWell_at, if_pos rfl]
    have hc : ((readWellInputs k s).modWell k Well.growOld).wells[k].cfg = s.wells[k].cfg := by
      rw [e]; exact readWellInputs_cfg k k s
    have hst : ((readWellInputs k s).modWell k Well.growOld).wells[k].state = s.wells[k].state := by
      rw [e]; exact readWellInputs_state k k s
    obtain ⟨rests, runs⟩ := (hs k).anyCeiling hc hst
    exact wellWork_demand k _ (hc ▸ (hs k).1) rests runs
  · have e : (readWellInputs k s).wells[j] = s.wells[j] := by
      unfold readWellInputs
      rw [State.modWell_at, if_neg h]
    have before : DemandOk ((readWellInputs k s).wells[j], demandOf (readWellInputs k s) j) := by
      rw [e]; exact hs j
    exact moves_keep (Q := DemandOk) (fun _ _ => WellMove.demandOk) (((growOld_moves k _).trans (wellWork_moves k _)).wells j) before

theorem wpPeriodExpiry_demand (s : State) (hs : DemandLaw s) : DemandLaw (wpPeriodExpiry s) := by
  unfold wpPeriodExpiry
  split
  · exact hs
  · exact forEach_keeps DemandLaw 8 wellPeriod (fun k a => wellPeriod_demand k a) _ hs

/-! ### Requests and resets -/

theorem WellConfig.stageCap_congr {c d : WellConfig} (hmin : c.minSpeed = d.minSpeed) (hmax : c.maxSpeed = d.maxSpeed)
    (st : WellState) : c.stageCap st = d.stageCap st := by
  cases st <;> simp only [WellConfig.stageCap, hmin, hmax]

theorem Well.configured_ceilingView (new : WellConfig) (w : Well) : (w.configured new).ceilingView = w.ceilingView := by
  unfold Well.configured Well.takeTripLimit
  repeat' split
  all_goals rfl

theorem ownDecommission_demand (s : State) (hs : DemandLaw s) : DemandLaw (ownDecommission s).1 := by
  have stopped : DemandLaw (stopMonitor { s with phase := .config }) := by
    have hw : (stopMonitor { s with phase := .config }).wells = s.wells := stopMonitor_only _ .wells (by decide)
    rw [demandLaw_iff] at *
    unfold demandOf at *
    intro k
    rw [hw, stopMonitor_value _ _ (by simp only [wellDrive]; omega)]
    exact hs k
  unfold ownDecommission
  split
  · exact hs
  · split
    · exact hs
    · exact stopped

/-- A new configuration of a well, with the clamp of R110. -/
theorem storeWell_demandLaw (k : Fin 8) (new : WellConfig) (hr : SpeedRange new) (s : State) (hs : DemandLaw s) :
    DemandLaw (storeWell k new s) := by
  rw [demandLaw_iff] at *
  intro j
  rw [storeWell_wells, storeWell_demand]
  by_cases h : k = j
  · subst h
    have hc := Well.configured_cfg new s.wells[k]
    have hst := Well.configured_state new s.wells[k]
    have range : SpeedRange (s.wells[k].configured new).cfg := by rw [hc]; exact hr
    rw [if_pos rfl]
    cases he : s.wells[k].state.energised with
    | false =>
      rw [if_neg (fun h => absurd h.2.2 nofun)]
      exact .rests range (hst ▸ he) ((hs k).2.2 he)
    | true =>
      refine .runs range (hst ▸ he) ?_
      split
      · have low := Well.minSpeed_le_ceiling (s.wells[k].configured new)
        rw [hc] at low
        exact demandWithin_of_ceiling range (by rw [hc]; unfold clamp; omega) (by unfold clamp; omega)
      · rename_i same
        have unchanged : s.wells[k].cfg.minSpeed = new.minSpeed ∧ s.wells[k].cfg.maxSpeed = new.maxSpeed := by
          by_contra hn
          exact same ⟨rfl, not_and_or.mp hn, rfl⟩
        obtain ⟨hmin, hmax⟩ := unchanged
        obtain ⟨low, high, ceiling, cap⟩ := (hs k).2.1 he
        unfold DemandWithin
        rw [hc, hst, Well.configured_ceilingView, ← hmin, ← hmax, ← WellConfig.stageCap_congr hmin hmax]
        exact ⟨low, high, ceiling, cap⟩
  · rw [if_neg h, if_neg (fun hj => h hj.1)]
    exact hs j

theorem demandLaw_steady : Steady DemandLaw :=
  Moves.steady demandLaw_on (fun _ _ => Moves.demandLaw) wpPeriodExpiry_demand
    (smPeriodExpiry_keeps (fun _ _ => Moves.demandLaw) fun s _ hs => by
      have hw : (setDosing s).wells = s.wells := setDosing_only s .wells (by decide)
      rw [demandLaw_iff] at *
      unfold demandOf at *
      intro k
      rw [hw, setDosing_value s (by simp only [wellDrive]; omega)]
      exact hs k)
    (fun r s hr ha hs => by
      cases r with
      | configureWell q =>
        refine ownConfigureWell_keeps q s hs (fun k new _ hc _ => ?_)
        obtain ⟨low, range, high, -⟩ := WellFields.check_ranges hc
        exact storeWell_demandLaw k new ⟨low, range, high⟩ s hs
      | decommission => exact ownDecommission_demand s hs
      | configurePoint | configureHeating | commission => exact absurd (by dsimp only [owned]; decide) ha
      | _ => cases hr)

theorem DemandLaw.of_reset {s : State} (hf : FieldReset s) (hp : PlantReset s) (hr : ∀ k : Fin 8, SpeedRange s.wells[k].cfg) :
    DemandLaw s := by
  obtain ⟨-, drives, -⟩ := hf
  obtain ⟨wells, -⟩ := hp
  rw [demandLaw_iff]
  intro k
  have safe : safeValue (wellDrive k) = 0 := by revert k; decide
  refine .rests (hr k) (by rw [(wells k).1]; rfl) ((drives (wellDrive k)).1.trans safe)

theorem demandLaw_kept : Kept DemandLaw := by
  refine demandLaw_steady.kept
    (fun a b c d e f g => .of_reset (hardReset_dynamic a b c d e f g).1 (hardReset_dynamic a b c d e f g).2.2.1 (fun k => ?_))
    (fun s hs => .of_reset (softReset_dynamic s).1 (softReset_dynamic s).2.2.1 (fun k => ?_))
  · obtain ⟨-, ⟨-, wells, -⟩, -⟩ := hardReset_default a b c d e f g
    rw [wells]; exact ⟨le_refl _, by decide, le_refl _⟩
  · obtain ⟨-, -, -, -, -, -, wells, -⟩ := softReset_kept s
    rw [wells]
    exact ((demandLaw_iff s).mp hs k).1

end Sys2Proof.Machine
end

section

open Sys2Proof Sys2Proof.Machine

-- One after the other: see Laws/Frames.lean.
set_option Elab.async false

/-- Settles O57: posts and withdrawals recompute the targets they name, and a new default its own. -/
theorem everyStepKeepsTheLawOfTheTable : Obligations.EveryStepKeepsTheLawOfTheTable := tableLaw_kept

/-- Settles O58, move by move of the governor, the wells and the heat exchange unit. -/
theorem everyStepKeepsGrantAndDrives : Obligations.EveryStepKeepsGrantAndDrives := ⟨grantLaw_kept, safeDrives_kept⟩

/-- Settles O59, move by move of a well; a new ceiling view is followed by the demand in the same period. -/
theorem everyStepKeepsDemandAndTripCount : Obligations.EveryStepKeepsDemandAndTripCount := ⟨demandLaw_kept, tripCountLaw_kept⟩

end

section
/-! PROOFS. The laws of points and of their bindings. -/

namespace Sys2Proof.Machine

-- One after the other: see Laws/Frames.lean.
set_option Elab.async false

open Relation

/-! ### Quality and counters (R3, R6 to R11) -/

/-- The law of one point. -/
def PointOk (p : Point) : Prop :=
  1 ≤ p.cfg.failLimit ∧ p.failCount ≤ p.cfg.failLimit ∧ (p.recoveryTimer.isSome = true ↔ 0 < p.failCount) ∧
  (p.quality.isFailed = true → 0 < p.failCount) ∧ (p.quality.isFailed = false → p.failCount < p.cfg.failLimit) ∧
  (p.quality = .subst → p.cfg.substitute.isSome = true) ∧ (p.quality = .failed → p.cfg.substitute = none) ∧
  (p.lastAttemptOk = true → p.lastRead.isSome = true) ∧ (p.quality = .good ∨ p.quality = .held → p.value.isSome = true)

/-- The law after a change that leaves configuration, counter, timer and quality. -/
theorem PointOk.of_eq {p q : Point} (h : PointOk p) (hc : q.cfg = p.cfg) (hn : q.failCount = p.failCount)
    (ht : q.recoveryTimer.isSome = p.recoveryTimer.isSome) (hq : q.quality = p.quality)
    (ha : q.lastAttemptOk = true → q.lastRead.isSome = true) (hv : p.value.isSome = true → q.value.isSome = true) : PointOk q := by
  obtain ⟨limit, within, timer, failed, sound, subst, bare, attempt, value⟩ := h
  unfold PointOk
  rw [hc, hn, ht, hq]
  exact ⟨limit, within, timer, failed, sound, subst, bare, ha, fun h => hv (value h)⟩

/-- A point that is not failed takes a quality that is not failed. -/
theorem PointOk.of_quality {p q : Point} (h : PointOk p) (hc : q.cfg = p.cfg) (hn : q.failCount = p.failCount)
    (ht : q.recoveryTimer = p.recoveryTimer) (hp : p.failCount < p.cfg.failLimit) (hq : q.quality.isFailed = false)
    (ha : q.lastAttemptOk = true → q.lastRead.isSome = true) (hv : q.quality = .good ∨ q.quality = .held → q.value.isSome = true) :
    PointOk q := by
  obtain ⟨limit, within, timer, -⟩ := h
  unfold PointOk
  rw [hc, hn, ht]
  refine ⟨limit, within, timer, fun e => absurd (e.symm.trans hq) nofun, fun _ => hp, fun e => ?_, fun e => ?_, ha, hv⟩
  · rw [e] at hq; cases hq
  · rw [e] at hq; cases hq

theorem PointOk.goodRead {p : Point} (h : PointOk p) (v : Int) (clamped : Bool) : PointOk (p.goodRead v clamped) := by
  unfold Point.goodRead
  dsimp only
  split
  · exact h.of_eq rfl rfl rfl rfl (fun _ => rfl) id
  · rename_i hq
    exact h.of_quality rfl rfl rfl (h.2.2.2.2.1 (by simpa using hq)) rfl (fun _ => rfl) (fun _ => rfl)

theorem PointOk.failedRead {p : Point} (h : PointOk p) : PointOk p.failedRead := by
  obtain ⟨limit, within, timer, failed, sound, subst, bare, -, value⟩ := h
  unfold Point.failedRead PointOk
  dsimp only
  cases hf : p.quality.isFailed with
  | true =>
    have counts := failed hf
    have started : ¬ (p.failCount = 0 ∧ (if p.failCount = p.cfg.failLimit then p.failCount else p.failCount + 1) = 1) := by omega
    rw [if_neg started]
    simp only [if_true]
    refine ⟨limit, ?_, ?_, fun _ => ?_, fun h => absurd (hf.symm.trans h) nofun, subst, bare, nofun, value⟩
    · split <;> omega
    · exact iff_of_true (timer.mpr counts) (by split <;> omega)
    · split <;> omega
  | false =>
    have room := sound hf
    have step : (if p.failCount = p.cfg.failLimit then p.failCount else p.failCount + 1) = p.failCount + 1 := if_neg (by omega)
    have running : (if p.failCount = 0 ∧ p.failCount + 1 = 1 then some (p.cfg.recoveryPeriod * 1000) else p.recoveryTimer).isSome =
        true := by
      split
      · rfl
      · exact timer.mpr (by omega)
    rw [step, running]
    simp only [Bool.false_eq_true, if_false]
    refine ⟨limit, by omega, iff_of_true trivial (by omega), fun _ => by omega, ?_⟩
    by_cases hl : p.failCount + 1 = p.cfg.failLimit
    · simp only [hl, if_true]
      unfold Point.failedQuality
      cases hs : p.cfg.substitute <;> simp [Quality.isFailed]
    · simp only [hl, if_false]
      split
      · rename_i hg
        exact ⟨fun _ => by omega, nofun, nofun, nofun, fun _ => value (.inl hg)⟩
      · exact ⟨fun _ => by omega, subst, bare, nofun, value⟩

theorem PointOk.growOld {p : Point} (h : PointOk p) : PointOk p.growOld := by
  have attempt := h.2.2.2.2.2.2.2.1
  have aged : p.lastAttemptOk = true → (p.lastRead.map (fun r => ({ r with age := satSucc 65535 r.age } : LastRead))).isSome = true :=
    fun ha => by rw [Option.isSome_map]; exact attempt ha
  unfold Point.growOld
  dsimp only
  split
  · split
    · rename_i hq
      have sound : p.quality.isFailed = false := by rcases hq.1 with e | e <;> rw [e] <;> rfl
      exact h.of_quality rfl rfl rfl (h.2.2.2.2.1 sound) rfl aged (fun e => by rcases e with e | e <;> cases e)
    · exact h.of_eq rfl rfl rfl rfl aged id
  · exact h.of_eq rfl rfl rfl rfl aged id

theorem PointOk.agePoint {p : Point} (h : PointOk p) (level : Bool) : PointOk (agePoint level p) := by
  have read {p : Point} (h : PointOk p) : PointOk (if p.cfg.source = .discrete then p.goodRead level.toInt false else p) := by
    split
    · exact h.goodRead _ _
    · exact h
  unfold Machine.agePoint
  dsimp only
  split
  · exact (read h).growOld
  · exact read h.growOld

theorem PointOk.recoveryExpiry {p : Point} (h : PointOk p) (ht : p.recoveryTimer.isSome = true) : PointOk p.recoveryExpiry := by
  have again : PointOk { p with recoveryTimer := some (p.cfg.recoveryPeriod * 1000) } :=
    h.of_eq rfl rfl ht.symm rfl h.2.2.2.2.2.2.2.1 id
  obtain ⟨limit, within, timer, failed, sound, subst, bare, attempt, value⟩ := h
  have counts := timer.mp ht
  unfold Point.recoveryExpiry
  dsimp only
  split
  · rename_i ok
    split
    · rename_i zero
      unfold Point.recover
      dsimp only
      obtain ⟨r, hr⟩ := Option.isSome_iff_exists.mp (attempt ok)
      split
      · rw [hr]
        dsimp only
        unfold PointOk
        dsimp only
        rw [zero]
        refine ⟨limit, by omega, by simp, ?_, fun _ => by omega, ?_, ?_, fun _ => rfl, fun _ => rfl⟩
        · split <;> nofun
        · split <;> nofun
        · split <;> nofun
      · rename_i hq
        have hq : p.quality.isFailed = false := by simpa using hq
        unfold PointOk
        dsimp only
        rw [zero]
        exact ⟨limit, by omega, by simp, fun e => absurd (e.symm.trans hq) nofun, fun _ => by omega, subst, bare, attempt, value⟩
    · exact ⟨limit, by dsimp only; omega, iff_of_true rfl (by dsimp only; omega), fun _ => by dsimp only; omega,
        fun hq => by have := sound hq; dsimp only; omega, subst, bare, attempt, value⟩
  · exact again

theorem PointOk.setSubstitute {p : Point} (h : PointOk p) (v : Option Int) : PointOk (p.setSubstitute v) := by
  obtain ⟨limit, within, timer, failed, sound, subst, bare, attempt, value⟩ := h
  unfold PointOk Point.setSubstitute
  dsimp only
  refine ⟨limit, within, timer, ?_⟩
  cases hq : p.quality <;> rw [hq] at failed sound value <;> cases v <;>
    simp_all [Quality.isFailed]

theorem PointMove.pointOk {p q : Point} (h : PointMove p q) (hp : PointOk p) : PointOk q := by
  cases h with
  | good v clamped => exact hp.goodRead v clamped
  | failed => exact hp.failedRead
  | aged level => exact hp.agePoint level
  | recovered _ ht => exact hp.recoveryExpiry ht
  | substituted v => exact hp.setSubstitute v
  | ticked => exact hp.of_eq rfl rfl (Option.isSome_map ..) rfl hp.2.2.2.2.2.2.2.1 id

/-! ### ConfigurePoint (R1 to R3) -/

theorem Point.takeFailLimit_cfg (old : Nat) (p : Point) : (p.takeFailLimit old).cfg = p.cfg := by
  unfold Point.takeFailLimit
  repeat' split
  all_goals rfl

theorem Point.configure_binding (new : PointConfig) (p : Point) : (p.configure new).cfg.source = new.source ∧
    (p.configure new).cfg.line = new.line := by
  have stored : (if p.cfg.cls = new.cls then new else { new with substitute := none }).source = new.source ∧
      (if p.cfg.cls = new.cls then new else { new with substitute := none }).line = new.line := by
    split <;> exact ⟨rfl, rfl⟩
  unfold Point.configure
  dsimp only
  split
  · exact stored
  · rw [Point.takeFailLimit_cfg]
    exact stored

theorem PointOk.fresh {c : PointConfig} (h : 1 ≤ c.failLimit) : PointOk (Point.fresh c) :=
  ⟨h, Nat.zero_le _, iff_of_false nofun (lt_irrefl 0), nofun, fun _ => h, nofun, nofun, nofun, nofun⟩

theorem PointOk.takeFailLimit {p : Point} (h : PointOk p) {new : PointConfig} (hl : 1 ≤ new.failLimit)
    (hs : new.substitute = p.cfg.substitute) : PointOk (({ p with cfg := new } : Point).takeFailLimit p.cfg.failLimit) := by
  obtain ⟨limit, within, timer, failed, sound, subst, bare, attempt, value⟩ := h
  rw [← hs] at subst bare
  unfold Point.takeFailLimit
  dsimp only
  split
  · rename_i e
    exact ⟨hl, e ▸ within, timer, failed, e ▸ sound, subst, bare, attempt, value⟩
  · split
    · rename_i hq
      exact ⟨hl, le_refl _, iff_of_true (timer.mpr (failed hq)) hl, fun _ => hl, fun h => absurd (hq.symm.trans h) nofun, subst,
        bare, attempt, value⟩
    · split
      · rename_i reached
        refine ⟨hl, le_refl _, iff_of_true (timer.mpr (by omega)) hl, fun _ => hl, ?_⟩
        unfold Point.failedQuality
        cases he : new.substitute with
        | none => exact ⟨nofun, nofun, fun _ => rfl, attempt, nofun⟩
        | some v => exact ⟨nofun, fun _ => rfl, nofun, attempt, nofun⟩
      · rename_i hq reached
        exact ⟨hl, by dsimp only; omega, timer, failed, fun _ => by dsimp only; omega, subst, bare, attempt, value⟩

theorem PointOk.configure {p : Point} (h : PointOk p) {new : PointConfig} (hl : 1 ≤ new.failLimit)
    (hs : new.substitute = p.cfg.substitute) : PointOk (p.configure new) := by
  unfold Point.configure
  dsimp only
  split
  · exact .fresh (by split <;> exact hl)
  · rename_i same
    have cls : p.cfg.cls = new.cls := by
      by_contra hn
      exact same (by simp [structuralPointChange, hn])
    rw [if_pos cls]
    exact h.takeFailLimit hl hs

/-- What a checked configuration keeps and holds to. -/
theorem PointFields.check_keeps {q : PointFields} {old new : PointConfig} (h : PointFields.check q old = some new)
    (hl : 1 ≤ old.failLimit) : 1 ≤ new.failLimit ∧ new.substitute = old.substitute := by
  simp only [PointFields.check, bind, Option.bind_eq_some_iff, require_eq_some, Bool.and_eq_true] at h
  obtain ⟨source, -, cls, -, _, ⟨⟨-, limit⟩, -⟩, h⟩ := h
  have limit := (withinNat_iff.mp limit).1
  cases source with
  | none => cases h; exact ⟨hl, rfl⟩
  | supervisory => cases h; exact ⟨limit, rfl⟩
  | field =>
    simp only [Option.bind_eq_some_iff] at h
    obtain ⟨_, -, h⟩ := h
    cases h; exact ⟨limit, rfl⟩
  | discrete =>
    simp only [Option.bind_eq_some_iff] at h
    obtain ⟨_, -, _, -, h⟩ := h
    cases h; exact ⟨limit, rfl⟩
  | speed =>
    simp only [Option.bind_eq_some_iff] at h
    obtain ⟨_, -, h⟩ := h
    cases h; exact ⟨limit, rfl⟩


theorem ownConfigurePoint_keeps {P : State → Prop} (q : PointFields) (s : State) (hs : P s)
    (store : ∀ i new, PointFields.check q s.points[i].cfg = some new → bindingForbidden s i s.points[i].cfg new = false →
      P (s.modPoint i (Point.configure new))) : P (ownConfigurePoint q s).1 := by
  unfold ownConfigurePoint
  split
  · exact hs
  · split
    · exact hs
    · rename_i hc
      split
      · exact hs
      · split
        · exact hs
        · rename_i hb
          exact store _ _ hc (by simpa using hb)

/-! ### The law of the points -/

theorem pointLaw_on : On [.points] PointLaw := by
  intro s t h hs
  have e : t.points = s.points := h .points (by decide)
  unfold PointLaw
  rw [e]; exact hs

theorem Moves.pointLaw {s t : State} (h : Moves s t) (hs : PointLaw s) : PointLaw t :=
  h.points.keeps (fun _ _ hm => hm.pointOk) hs

theorem pointLaw_steady : Steady PointLaw :=
  Moves.steady pointLaw_on (fun _ _ => Moves.pointLaw) (fun s => pointLaw_on.only (by decide) (wpPeriodExpiry_only s))
    (fun s => pointLaw_on.only (by decide) (smPeriodExpiry_only s))
    (fun r s hr ha hs => by
      cases r with
      | configurePoint q =>
        refine ownConfigurePoint_keeps q s hs (fun i new hc _ j => ?_)
        obtain ⟨limit, subst⟩ := PointFields.check_keeps hc (hs i).1
        rw [s.modPoint_at]
        split
        · exact PointOk.configure (hs i) limit subst
        · exact hs j
      | configureWell | configureHeating | commission | decommission => exact absurd (by dsimp only [owned]; decide) ha
      | _ => cases hr)

theorem PointLaw.of_reset {s : State} (h : FieldReset s) (hl : ∀ i : Fin 96, 1 ≤ s.points[i].cfg.failLimit) : PointLaw s := by
  obtain ⟨points, -⟩ := h
  intro i
  obtain ⟨quality, -, -, count, last, ok, -, timer⟩ := points i
  dsimp only
  rw [quality, count, ok, timer]
  exact ⟨hl i, Nat.zero_le _, iff_of_false nofun (lt_irrefl 0), nofun, fun _ => hl i, nofun, nofun, nofun, nofun⟩

theorem pointLaw_kept : Kept PointLaw := by
  refine pointLaw_steady.kept (fun a b c d e f g => .of_reset (hardReset_dynamic a b c d e f g).1 (fun i => ?_))
    (fun s hs => .of_reset (softReset_dynamic s).1 (fun i => ?_))
  · obtain ⟨⟨points, -⟩, -⟩ := hardReset_default a b c d e f g
    rw [points]; decide
  · obtain ⟨points, -⟩ := softReset_kept s
    rw [points]
    exact (hs i).1

/-! ### The law of the bindings (R2) -/

theorem bindingLaw_on : On [.points] BindingLaw := by
  intro s t h hs
  have e : t.points = s.points := h .points (by decide)
  unfold BindingLaw
  rw [e]; exact hs

/-- The law speaks of sources and lines. -/
theorem BindingLaw.of_eq {s t : State} (h : ∀ i : Fin 96, t.points[i].cfg.source = s.points[i].cfg.source ∧
    t.points[i].cfg.line = s.points[i].cfg.line) (hs : BindingLaw s) : BindingLaw t := by
  intro i j hij
  obtain ⟨hi, li⟩ := h i
  obtain ⟨hj, lj⟩ := h j
  rw [hi, li, hj, lj]
  exact hs i j hij

theorem Point.growOld_cfg (p : Point) : p.growOld.cfg = p.cfg := by
  unfold Point.growOld
  dsimp only
  repeat' split
  all_goals rfl

theorem Point.goodRead_cfg (v : Int) (c : Bool) (p : Point) : (p.goodRead v c).cfg = p.cfg := by
  unfold Point.goodRead
  dsimp only
  split <;> rfl

theorem agePoint_cfg (level : Bool) (p : Point) : (agePoint level p).cfg = p.cfg := by
  have read (p : Point) : (if p.cfg.source = .discrete then p.goodRead level.toInt false else p).cfg = p.cfg := by
    split
    · exact Point.goodRead_cfg _ _ p
    · rfl
  unfold agePoint
  dsimp only
  split
  · rw [Point.growOld_cfg, read]
  · rw [read, Point.growOld_cfg]

theorem Point.recoveryExpiry_cfg (p : Point) : p.recoveryExpiry.cfg = p.cfg := by
  unfold Point.recoveryExpiry Point.recover
  dsimp only
  repeat' split
  all_goals rfl

theorem PointMove.binding {p q : Point} (h : PointMove p q) : q.cfg.source = p.cfg.source ∧ q.cfg.line = p.cfg.line := by
  cases h with
  | good v c => rw [Point.goodRead_cfg]; exact ⟨rfl, rfl⟩
  | failed => exact ⟨rfl, rfl⟩
  | aged level => rw [agePoint_cfg]; exact ⟨rfl, rfl⟩
  | recovered => rw [Point.recoveryExpiry_cfg]; exact ⟨rfl, rfl⟩
  | substituted v => exact ⟨rfl, rfl⟩
  | ticked => exact ⟨rfl, rfl⟩

theorem Moves.bindingLaw {s t : State} (h : Moves s t) (hs : BindingLaw s) : BindingLaw t := by
  refine BindingLaw.of_eq (fun i => ?_) hs
  exact moves_keep (Q := fun p : Point => p.cfg.source = s.points[i].cfg.source ∧ p.cfg.line = s.points[i].cfg.line)
    (fun _ _ hm hx => ⟨hm.binding.1.trans hx.1, hm.binding.2.trans hx.2⟩) (h.points i) ⟨rfl, rfl⟩

/-- What R2 admits (R1 step 3). -/
theorem bindingForbidden_spec {s : State} {i : Fin 96} {old new : PointConfig} (h : bindingForbidden s i old new = false) {j : Fin 96}
    (hj : j ≠ i) : (new.source = .discrete → s.points[j].cfg.source = .discrete → s.points[j].cfg.line ≠ new.line) ∧
      (new.source = .speed → s.points[j].cfg.source ≠ .speed) := by
  simp only [bindingForbidden, Bool.or_eq_false_iff, Bool.and_eq_false_iff, decide_eq_false_iff_not, List.any_eq_false,
    Bool.and_eq_true, decide_eq_true_eq, not_and] at h
  obtain ⟨⟨discrete, speed⟩, -⟩ := h
  refine ⟨fun hs => ?_, fun hs => ?_⟩
  · exact fun hd => (discrete.resolve_left (fun hn => hn hs)) j (mem_indexes j) ⟨hj, hd⟩
  · exact (speed.resolve_left (fun hn => hn hs)) j (mem_indexes j) hj

theorem storePoint_bindings {s : State} {i : Fin 96} {new : PointConfig} (h : bindingForbidden s i s.points[i].cfg new = false)
    (hs : BindingLaw s) : BindingLaw (s.modPoint i (Point.configure new)) := by
  have stored : (s.modPoint i (Point.configure new)).points[i].cfg.source = new.source ∧
      (s.modPoint i (Point.configure new)).points[i].cfg.line = new.line := by
    rw [s.modPoint_at, if_pos rfl]; exact s.points[i].configure_binding new
  have other {j : Fin 96} (hj : j ≠ i) : (s.modPoint i (Point.configure new)).points[j] = s.points[j] := by
    rw [s.modPoint_at, if_neg hj.symm]
  intro a b hab
  by_cases ha : a = i
  · have hb : b ≠ i := fun e => hab (ha.trans e.symm)
    obtain ⟨discrete, speed⟩ := bindingForbidden_spec h hb
    rw [ha, stored.1, stored.2, other hb]
    exact ⟨fun h1 h2 e => discrete h1 h2 e.symm, fun e => speed e.1 e.2⟩
  · rw [other ha]
    by_cases hb : b = i
    · obtain ⟨discrete, speed⟩ := bindingForbidden_spec h ha
      rw [hb, stored.1, stored.2]
      exact ⟨fun h1 h2 => discrete h2 h1, fun e => speed e.2 e.1⟩
    · rw [other hb]
      exact hs a b hab

theorem bindingLaw_steady : Steady BindingLaw :=
  Moves.steady bindingLaw_on (fun _ _ => Moves.bindingLaw) (fun s => bindingLaw_on.only (by decide) (wpPeriodExpiry_only s))
    (fun s => bindingLaw_on.only (by decide) (smPeriodExpiry_only s))
    (fun r s hr ha hs => by
      cases r with
      | configurePoint q => exact ownConfigurePoint_keeps q s hs (fun _ _ _ hb => storePoint_bindings hb hs)
      | configureWell | configureHeating | commission | decommission => exact absurd (by dsimp only [owned]; decide) ha
      | _ => cases hr)

theorem bindingLaw_kept : Kept BindingLaw := by
  refine bindingLaw_steady.kept (fun a b c d e f g i j _ => ?_) (fun s hs => ?_)
  · obtain ⟨⟨points, -⟩, -⟩ := hardReset_default a b c d e f g
    rw [points, points]
    exact ⟨nofun, fun h => nomatch h.1⟩
  · obtain ⟨points, -⟩ := softReset_kept s
    exact BindingLaw.of_eq (fun i => by rw [points]; exact ⟨rfl, rfl⟩) hs

end Sys2Proof.Machine
end

section
/-! PROOFS. The law of the sites, and the places of every list. -/

namespace Sys2Proof.Machine

-- One after the other: see Laws/Frames.lean.
set_option Elab.async false

open Relation

/-! ### The dynamic fields of a site (R71, R85, R88 to R91, R94) -/

/-- The law of one site. -/
def SiteOk (x : Site) : Prop :=
  x.ring.length ≤ 60 ∧ x.hourlyDose = ringDose x.ring ∧ (x.alertAge.isSome = true ↔ x.level = .alert) ∧
    (x.enabled = true → x.cfg.kind ≠ .none ∧ x.demand.isSome = true) ∧
    (x.enabled = false → x.level = .normal ∧ x.demand = none ∧ x.inputsLost = false ∧ x.minuteDose = 0 ∧ x.minuteCover = 0)

/-- The law of an enabled site, apart from its demand. -/
def SiteRuns (x : Site) : Prop :=
  x.ring.length ≤ 60 ∧ x.hourlyDose = ringDose x.ring ∧ (x.alertAge.isSome = true ↔ x.level = .alert)

theorem SiteRuns.closeMinute {x : Site} (h : SiteRuns x) (clock : Nat) : SiteRuns (x.closeMinute clock) := by
  obtain ⟨-, -, alert⟩ := h
  refine ⟨?_, rfl, alert⟩
  simp only [Site.closeMinute, List.length_drop, List.length_append, List.length_cons, List.length_nil]
  omega

theorem SiteRuns.compute {x : Site} (h : SiteRuns x) (r : Option Reckoning) : SiteRuns (x.compute r) := by
  unfold Site.compute
  split <;> exact h

theorem SiteRuns.ageAlert {x : Site} (h : SiteRuns x) : SiteRuns x.ageAlert := by
  obtain ⟨ring, dose, alert⟩ := h
  unfold Site.ageAlert
  dsimp only
  split
  · rename_i hl
    split
    · exact ⟨ring, dose, iff_of_false nofun nofun⟩
    · exact ⟨ring, dose, iff_of_true rfl hl⟩
  · exact ⟨ring, dose, alert⟩

theorem SiteRuns.testDose {x : Site} (h : SiteRuns x) : SiteRuns x.testDose := by
  obtain ⟨ring, dose, alert⟩ := h
  unfold Site.testDose
  repeat' split
  all_goals first
    | exact ⟨ring, dose, alert⟩
    | exact ⟨ring, dose, iff_of_true rfl rfl⟩
    | exact ⟨ring, dose, iff_of_false nofun nofun⟩

theorem SiteRuns.watchLevel {x : Site} (h : SiteRuns x) : SiteRuns x.watchLevel := by
  obtain ⟨ring, dose, alert⟩ := h
  have quiet (hl : x.level ≠ .alert) (b : Prop) [Decidable b] :
      SiteRuns { x with level := if b then .watch else .normal } :=
    ⟨ring, dose, iff_of_false (fun e => hl (alert.mp e)) (by dsimp only; split <;> nofun)⟩
  unfold Site.watchLevel
  split
  · rename_i hl; exact quiet (by rw [hl]; nofun) _
  · rename_i hl; exact quiet (by rw [hl]; nofun) _
  · exact ⟨ring, dose, alert⟩
  · exact ⟨ring, dose, alert⟩

theorem SiteRuns.settleLevel {x : Site} (h : SiteRuns x) (closing : Bool) : SiteRuns (x.settleLevel closing) := by
  unfold Site.settleLevel
  dsimp only
  split
  · exact h.ageAlert.testDose.watchLevel
  · exact h.ageAlert.watchLevel

theorem SiteRuns.formFloor {x : Site} (h : SiteRuns x) (r : Option Reckoning) (lost : Bool) : SiteRuns (x.formFloor r lost) := by
  unfold Site.formFloor
  split <;> exact h

/-- What the work of an enabled site leaves (R74). -/
def Site.keeps (x y : Site) : Prop := y.enabled = x.enabled ∧ y.cfg = x.cfg ∧ (x.demand.isSome = true → y.demand.isSome = true)

theorem Site.keeps_trans {x y z : Site} (h : x.keeps y) (k : y.keeps z) : x.keeps z :=
  ⟨k.1.trans h.1, k.2.1.trans h.2.1, fun hd => k.2.2 (h.2.2 hd)⟩

theorem Site.compute_keeps (r : Option Reckoning) (x : Site) : x.keeps (x.compute r) := by
  unfold Site.compute
  split <;> exact ⟨rfl, rfl, id⟩

theorem Site.closeMinute_keeps (clock : Nat) (x : Site) : x.keeps (x.closeMinute clock) := ⟨rfl, rfl, id⟩

theorem Site.settleLevel_keeps (closing : Bool) (x : Site) : x.keeps (x.settleLevel closing) := by
  have age (x : Site) : x.keeps x.ageAlert := by
    unfold Site.ageAlert
    dsimp only
    repeat' split
    all_goals exact ⟨rfl, rfl, id⟩
  have test (x : Site) : x.keeps x.testDose := by
    unfold Site.testDose
    repeat' split
    all_goals exact ⟨rfl, rfl, id⟩
  have watch (x : Site) : x.keeps x.watchLevel := by
    unfold Site.watchLevel
    split <;> exact ⟨rfl, rfl, id⟩
  unfold Site.settleLevel
  dsimp only
  split
  · exact Site.keeps_trans (Site.keeps_trans (age x) (test _)) (watch _)
  · exact Site.keeps_trans (age x) (watch _)

theorem Site.formFloor_keeps (r : Option Reckoning) (lost : Bool) (x : Site) : x.keeps (x.formFloor r lost) := by
  unfold Site.formFloor
  split
  · exact ⟨rfl, rfl, id⟩
  · exact ⟨rfl, rfl, fun _ => rfl⟩

theorem SiteOk.runs {x : Site} (h : SiteOk x) : SiteRuns x := ⟨h.1, h.2.1, h.2.2.1⟩

theorem SiteOk.of_runs {x y : Site} (h : SiteOk x) (he : x.enabled = true) (hy : SiteRuns y) (hk : x.keeps y) : SiteOk y := by
  obtain ⟨-, -, -, on, -⟩ := h
  obtain ⟨kind, demand⟩ := on he
  obtain ⟨enabled, cfg, stays⟩ := hk
  exact ⟨hy.1, hy.2.1, hy.2.2, fun _ => ⟨by rw [cfg]; exact kind, stays demand⟩,
    fun hn => absurd (he.symm.trans (enabled.symm.trans hn)) nofun⟩

theorem siteLaw_on : On [.sites] SiteLaw := by
  intro s t h hs
  have e : t.sites = s.sites := h .sites (by decide)
  unfold SiteLaw
  rw [e]; exact hs

/-- An update of one site. -/
theorem SiteLaw.modSite {s : State} (hs : SiteLaw s) (i : Fin 12) (f : Site → Site) (h : SiteOk (f s.sites[i])) :
    SiteLaw (s.modSite i f) := by
  intro j
  rw [s.modSite_at]
  split
  · exact h
  · exact hs j

theorem sitePeriod_law (closing : Bool) (i : Fin 12) (s : State) (hs : SiteLaw s) : SiteLaw (sitePeriod closing i s) := by
  have ok : SiteOk s.sites[i] := hs i
  unfold sitePeriod
  split
  · exact hs
  · split
    · rename_i he
      unfold siteWork
      refine siteLaw_on.only (by decide) (postSite_only i _) (hs.modSite i _ ?_)
      have computed := ok.runs.compute (reckon s s.sites[i].cfg)
      have kept := Site.compute_keeps (reckon s s.sites[i].cfg) s.sites[i]
      dsimp only
      split
      · exact ok.of_runs he (((computed.closeMinute _).settleLevel _).formFloor _ _)
          (Site.keeps_trans (Site.keeps_trans (Site.keeps_trans kept (Site.closeMinute_keeps _ _)) (Site.settleLevel_keeps _ _))
            (Site.formFloor_keeps _ _ _))
      · exact ok.of_runs he ((computed.settleLevel _).formFloor _ _)
          (Site.keeps_trans (Site.keeps_trans kept (Site.settleLevel_keeps _ _)) (Site.formFloor_keeps _ _ _))
    · rename_i he
      split
      · obtain ⟨ring, dose, alert, on, off⟩ := ok
        have closed := SiteRuns.closeMinute (x := { s.sites[i] with minuteDose := 0, minuteCover := 0 }) ⟨ring, dose, alert⟩ s.clock
        refine hs.modSite i _ ⟨closed.1, closed.2.1, closed.2.2, fun h => absurd h he, fun h => ?_⟩
        obtain ⟨level, demand, lost, -, -⟩ := off h
        exact ⟨level, demand, lost, rfl, rfl⟩
      · exact hs

theorem smPeriodExpiry_sites (s : State) (hs : SiteLaw s) : SiteLaw (smPeriodExpiry s) := by
  unfold smPeriodExpiry
  split
  · exact hs
  · exact siteLaw_on.only (by decide) (setDosing_only _)
      (forEach_keeps SiteLaw 12 _ (fun i a => sitePeriod_law _ i a) _ hs)

theorem SiteOk.restart {x : Site} (h : SiteOk x) : SiteOk x.restart := by
  obtain ⟨ring, dose, alert, on, off⟩ := h
  exact ⟨ring, dose, iff_of_false nofun nofun, on, fun h => ⟨rfl, (off h).2.1, rfl, rfl, rfl⟩⟩

theorem SiteOk.fresh (c : SiteConfig) : SiteOk (Site.fresh c) :=
  ⟨Nat.zero_le _, rfl, iff_of_false nofun nofun, nofun, fun _ => ⟨rfl, rfl, rfl, rfl, rfl⟩⟩

theorem SiteOk.configure {x : Site} (h : SiteOk x) (new : SiteConfig) : SiteOk (x.configure new) := by
  unfold Site.configure
  split
  · exact .fresh new
  · rename_i hk
    have kind : x.cfg.kind = new.kind := by simpa using hk
    have stored : SiteOk { x with cfg := new } := by
      obtain ⟨ring, dose, alert, on, off⟩ := h
      exact ⟨ring, dose, alert, fun he => ⟨kind ▸ (on he).1, (on he).2⟩, off⟩
    split
    · exact stored.restart
    · exact stored

theorem SiteOk.disable {x : Site} (h : SiteOk x) : SiteOk { x with
    enabled := false, level := .normal, alertAge := none, inputsLost := false, minuteDose := 0, minuteCover := 0,
    demand := none } := by
  obtain ⟨ring, dose, -⟩ := h
  exact ⟨ring, dose, iff_of_false nofun nofun, nofun, fun _ => ⟨rfl, rfl, rfl, rfl, rfl⟩⟩

theorem SiteOk.enable {x : Site} (h : SiteOk x) (hk : x.cfg.kind ≠ .none) (v : Int) :
    SiteOk { x.restart with enabled := true, demand := some v } := by
  obtain ⟨ring, dose, -⟩ := h
  exact ⟨ring, dose, iff_of_false nofun nofun, fun _ => ⟨hk, rfl⟩, nofun⟩

theorem setCumulative_law (i : Fin 12) (v : Nat) (s : State) (hs : SiteLaw s) : SiteLaw (setCumulative i v s).1 :=
  hs.modSite i _ (hs i)

theorem stopMonitor_sites (s : State) (hs : SiteLaw s) : SiteLaw (stopMonitor s) := by
  have cleared : SiteLaw { s with
      smTimer := none
      minuteCounter := 0
      sites := modifyAll s.sites (fun _ x => { x with minuteDose := 0, minuteCover := 0 }) } := by
    intro i
    obtain ⟨ring, dose, alert, on, off⟩ := hs i
    show SiteOk (modifyAll s.sites (fun _ x => { x with minuteDose := 0, minuteCover := 0 }))[i]
    rw [modifyAll_get]
    exact ⟨ring, dose, alert, on, fun h => ⟨(off h).1, (off h).2.1, (off h).2.2.1, rfl, rfl⟩⟩
  exact siteLaw_on.only (by decide) (setDosingSafe_only _) (siteLaw_on.only (by decide) (withdrawSites_only _) cleared)

theorem ownConfigureSite_law (q : SiteFields) (s : State) (hs : SiteLaw s) : SiteLaw (ownConfigureSite q s).1 := by
  unfold ownConfigureSite
  split
  · exact hs
  · split
    · exact hs
    · exact hs.modSite _ _ (SiteOk.configure (hs _) _)

theorem ownSiteEnable_law (i : Nat) (s : State) (hs : SiteLaw s) : SiteLaw (ownSiteEnable i s).1 := by
  unfold ownSiteEnable
  split
  · exact hs
  · split
    · exact hs
    · rename_i hk
      split
      · exact hs
      · exact hs.modSite _ _ (SiteOk.enable (hs _) hk _)

theorem ownSiteDisable_law (i : Nat) (s : State) (hs : SiteLaw s) : SiteLaw (ownSiteDisable i s).1 := by
  unfold ownSiteDisable
  split
  · exact hs
  · split
    · exact siteLaw_on.only (by decide) (withdraw_only _ _) (hs.modSite _ _ (SiteOk.disable (hs _)))
    · exact hs

theorem ownMarkCleaned_law (i : Nat) (s : State) (hs : SiteLaw s) : SiteLaw (ownMarkCleaned i s).1 := by
  unfold ownMarkCleaned
  repeat' split
  all_goals first | exact hs | exact setCumulative_law _ _ s hs

theorem ownRestoreDose_law (i v : Nat) (s : State) (hs : SiteLaw s) : SiteLaw (ownRestoreDose i v s).1 := by
  unfold ownRestoreDose
  repeat' split
  all_goals first | exact hs | exact setCumulative_law _ _ s hs

theorem ownDecommission_sites (s : State) (hs : SiteLaw s) : SiteLaw (ownDecommission s).1 := by
  unfold ownDecommission
  split
  · exact hs
  · split
    · exact hs
    · exact stopMonitor_sites _ hs

theorem siteLaw_steady : Steady SiteLaw :=
  siteLaw_on.steady
    (request := fun r s ha hs => by
      cases r with
      | configureSite q => exact ownConfigureSite_law q s hs
      | siteEnable i => exact ownSiteEnable_law i s hs
      | siteDisable i => exact ownSiteDisable_law i s hs
      | markCleaned i => exact ownMarkCleaned_law i s hs
      | restoreDose i v => exact ownRestoreDose_law i v s hs
      | decommission => exact ownDecommission_sites s hs
      | _ => exact absurd (by dsimp only [owned]; decide) ha)
    (field := fun c f s hc ha hs => by
      cases c with
      | smPeriodExpiry => cases hc; exact smPeriodExpiry_sites s hs
      | _ => exact absurd (by dsimp only [touched]; decide) ha)
    (time := fun s hs => siteLaw_on.only (by decide) (countDown_only _) (siteLaw_on.only (by decide) (finishStops_only s) hs))
    (start := fun s _ hs => hs)

theorem SiteLaw.of_reset {s : State} (h : TableReset s) : SiteLaw s := by
  obtain ⟨-, -, -, -, -, -, sites, -⟩ := h
  intro i
  obtain ⟨enabled, -, -, -, lost, level, age, minute, cover, ring, hourly, -, demand, -⟩ := sites i
  dsimp only
  rw [enabled, lost, level, age, minute, cover, ring, hourly, demand]
  exact ⟨Nat.zero_le _, rfl, iff_of_false nofun nofun, nofun, fun _ => ⟨rfl, rfl, rfl, rfl, rfl⟩⟩

theorem siteLaw_kept : Kept SiteLaw :=
  siteLaw_steady.kept (fun _ _ _ _ _ _ _ => .of_reset (hardReset_dynamic _ _ _ _ _ _ _).2.1)
    (fun s _ => .of_reset (softReset_dynamic s).2.1)

/-! ### The places of lists -/

/-- The lists of lines, wells and speed unit stay within their places. -/
def ListLaw (s : State) : Prop :=
  (∀ i : Fin 3, LineFits s.lines[i]) ∧ (∀ k : Fin 8, s.wells[k].startLog.length ≤ s.wells[k].cfg.maxStarts) ∧
    s.speedUnit.periods.length ≤ 4

/-- The queues of the link stay within their places. -/
def QueueLaw (s : State) : Prop := s.link.requests.length ≤ 4 ∧ s.link.replies.length ≤ 4

theorem capacityLaw_iff (s : State) : CapacityLaw s ↔ ListLaw s ∧ QueueLaw s := by
  unfold CapacityLaw ListLaw QueueLaw LineFits
  tauto

theorem WellMove.logFits {x y : Well × Int} (h : WellMove x y) (hx : x.1.startLog.length ≤ x.1.cfg.maxStarts) :
    y.1.startLog.length ≤ y.1.cfg.maxStarts := by
  have same {w w' : Well} (hw : w.startLog.length ≤ w.cfg.maxStarts) (hl : w'.startLog = w.startLog) (hc : w'.cfg = w.cfg) :
      w'.startLog.length ≤ w'.cfg.maxStarts := by rw [hl, hc]; exact hw
  cases h with
  | quiet w w' v h => exact same hx h.2.2.1 h.1
  | ticked w w' v h => exact same hx h.2.2.1 h.1
  | grown w v =>
    refine le_trans (List.length_filter_le _ _) ?_
    rw [List.length_map]; exact hx
  | turned w w' v h => exact same hx h.2.2.1 h.1
  | starting clock w v _ hr =>
    have room : w.startLog.length < w.cfg.maxStarts := by simpa [Well.logHasRoom] using hr
    show (w.startLog ++ _).length ≤ w.cfg.maxStarts
    rw [List.length_append]
    exact room
  | confirmed w v h => exact hx
  | ran w st v h hst => exact hx
  | stopping goal cause closed w v h =>
    obtain ⟨hc, -, -, hl, -⟩ := w.enterStopping_keeps goal cause closed
    exact same hx hl hc
  | completed w v h =>
    obtain ⟨hc, -, -, hl, -⟩ := w.completeStop_keeps
    exact same hx hl hc
  | tripped clock cause w v h => exact hx
  | decayed w v h => exact hx
  | unlocked w v h => exact hx
  | targeted c w v => exact hx

theorem Moves.listLaw {s t : State} (h : Moves s t) (hs : ListLaw s) : ListLaw t := by
  obtain ⟨lines, wells, periods⟩ := hs
  exact ⟨h.lines lines, fun k => moves_keep (Q := fun x : Well × Int => x.1.startLog.length ≤ x.1.cfg.maxStarts)
    (fun _ _ => WellMove.logFits) (h.wells k) (wells k), h.periods periods⟩

theorem listLaw_on : On [.lines, .wells, .speedUnit] ListLaw := by
  intro s t h hs
  have hl : t.lines = s.lines := h .lines (by decide)
  have hw : t.wells = s.wells := h .wells (by decide)
  have hu : t.speedUnit = s.speedUnit := h .speedUnit (by decide)
  unfold ListLaw
  rw [hl, hw, hu]; exact hs

theorem readWellInputs_log (k : Fin 8) (s : State) (hs : ListLaw s) : ListLaw (readWellInputs k s) := by
  obtain ⟨lines, wells, periods⟩ := hs
  refine ⟨lines, fun j => ?_, periods⟩
  unfold readWellInputs
  rw [State.modWell_at]
  split
  · exact wells k
  · exact wells j

theorem Well.configured_startLog (new : WellConfig) (w : Well) : (w.configured new).startLog = w.startLog := by
  unfold Well.configured Well.takeTripLimit
  repeat' split
  all_goals rfl

theorem storeWell_log (k : Fin 8) (new : WellConfig) (s : State) (hl : s.wells[k].startLog.length ≤ new.maxStarts) (hs : ListLaw s) :
    ListLaw (storeWell k new s) := by
  have only := storeWell_only k new s
  have lines : (storeWell k new s).lines = s.lines := only .lines (by decide)
  have speed : (storeWell k new s).speedUnit = s.speedUnit := only .speedUnit (by decide)
  obtain ⟨fits, wells, periods⟩ := hs
  refine ⟨by rw [lines]; exact fits, fun j => ?_, by rw [speed]; exact periods⟩
  rw [storeWell_wells]
  split
  · rw [Well.configured_startLog, Well.configured_cfg]; exact hl
  · exact wells j

theorem listLaw_steady : Steady ListLaw :=
  Moves.steady listLaw_on (fun _ _ => Moves.listLaw) (wpPeriodExpiry_keeps (fun _ _ => Moves.listLaw) readWellInputs_log)
    (fun s => listLaw_on.only (by decide) (smPeriodExpiry_only s))
    (fun r s hr ha hs => by
      cases r with
      | configureWell q => exact ownConfigureWell_keeps q s hs (fun k new _ _ hl => storeWell_log k new s hl hs)
      | configurePoint | configureHeating | commission | decommission => exact absurd (by dsimp only [owned]; decide) ha
      | _ => cases hr)

/-- A reset empties every log; the schedules are left with their places. -/
theorem ListLaw.of_reset {s : State} (h : DynamicReset s)
    (hl : ∀ i : Fin 3, s.lines[i].active.length ≤ 24 ∧ s.lines[i].staged.length ≤ 24) : ListLaw s := by
  obtain ⟨⟨-, -, lines, -⟩, ⟨-, -, periods, -⟩, ⟨wells, -⟩, -⟩ := h
  refine ⟨fun i => ⟨(hl i).1, (hl i).2, ?_⟩, fun k => ?_, ?_⟩
  · obtain ⟨-, -, -, -, -, -, -, -, -, -, -, -, log, -⟩ := lines i
    rw [log]; exact Nat.zero_le _
  · obtain ⟨-, -, -, -, log, -⟩ := wells k
    rw [log]; exact Nat.zero_le _
  · rw [periods]; exact Nat.zero_le _

theorem ListLaw.of_default {s : State} (h : DynamicReset s) (hd : DefaultConfiguration s) : ListLaw s := by
  obtain ⟨⟨-, -, schedules, -⟩, -⟩ := hd
  refine .of_reset h fun i => ?_
  obtain ⟨-, active, staged⟩ := schedules i
  rw [active, staged]
  exact ⟨Nat.zero_le _, Nat.zero_le _⟩

theorem listLaw_kept : Kept ListLaw := by
  refine listLaw_steady.kept (fun a b c d e f g => .of_default (hardReset_dynamic a b c d e f g) (hardReset_default a b c d e f g))
    (fun s hs => .of_reset (softReset_dynamic s) fun i => ?_)
  obtain ⟨-, -, schedules, -⟩ := softReset_kept s
  obtain ⟨-, active, staged⟩ := schedules i
  obtain ⟨fitsActive, fitsStaged, -⟩ := hs.1 i
  have same := congrArg List.length active
  rw [List.length_map, List.length_map] at same
  rw [same, staged]
  exact ⟨fitsActive, fitsStaged⟩

/-! ### The queues of the link -/

theorem queueLaw_on : On [.requests, .outgoing] QueueLaw := by
  intro s t h hs
  have hq := h .requests (by decide)
  have ho := h .outgoing (by decide)
  simp only [Exact, Prod.mk.injEq] at hq ho
  unfold QueueLaw
  rw [hq.1, ho.1]; exact hs

theorem queueLaw_link (s : State) (f : Link → Link) (h : LinkMove s f) (hs : QueueLaw s) : QueueLaw (s.modLink f) := by
  obtain ⟨requests, replies⟩ := hs
  cases h with
  | queues q room => exact ⟨by show (s.link.requests ++ [q]).length ≤ 4; rw [List.length_append]; exact room, replies⟩
  | takes q rest h => exact ⟨by rw [h] at requests; exact Nat.le_of_succ_le requests, replies⟩
  | places f room => exact ⟨requests, by show (s.link.replies ++ [_]).length ≤ 4; rw [List.length_append]; exact room⟩
  | busy f =>
    unfold QueueLaw State.modLink
    dsimp only
    split <;> exact ⟨requests, replies⟩
  | beginsReply f => exact ⟨requests, le_trans (List.length_drop ▸ Nat.sub_le _ _) replies⟩
  | _ => exact ⟨requests, replies⟩

/-- No request and no event of the field touches the queues of the link. -/
theorem owned_apart_queues (r : Request) : Apart (owned r) [.requests, .outgoing] := by
  cases r <;> (dsimp only [owned]; decide)

theorem touched_apart_queues (c : Instr) : Apart (touched c) [.requests, .outgoing] := by
  cases c <;> (dsimp only [touched]; decide)

theorem queueLaw_steady : Steady QueueLaw where
  queue s q hs := hs
  link := queueLaw_link
  refresh s := queueLaw_on.only (by decide) (refreshSupervision_only s)
  settle s := queueLaw_on.only (by decide) (settle_only s)
  edges s := queueLaw_on.only (by decide) (queueEdgeNotice_only s)
  request r s := queueLaw_on.only (owned_apart_queues r) (applyRequest_only r s)
  field c f s hc := queueLaw_on.only (touched_apart_queues c) (fieldWork_only hc s)
  time s hs := queueLaw_on.only (by decide) (countDown_only _) (queueLaw_on.only (by decide) (finishStops_only s) hs)
  start s _ hs :=
    queueLaw_on.only (by decide) (queueStarted_only _) (queueLaw_on.only (by decide) (formLive_only _)
      (queueLaw_on.only (by decide) (settleOutputs_only _) hs))

theorem queueLaw_kept : Kept QueueLaw :=
  queueLaw_steady.kept (fun _ _ _ _ _ _ _ => ⟨Nat.zero_le _, Nat.zero_le _⟩) (fun _ _ => ⟨Nat.zero_le _, Nat.zero_le _⟩)

theorem capacityLaw_kept : Kept CapacityLaw := by
  intro s t hs he
  rw [capacityLaw_iff] at *
  exact ⟨listLaw_kept s t hs.1 he, queueLaw_kept s t hs.2 he⟩

end Sys2Proof.Machine

open Sys2Proof Sys2Proof.Machine

/-- Settles O60: points, bindings and sites change by moves that keep their laws, and no list outgrows its places. -/
theorem everyStepKeepsPointsListsAndSites : Obligations.EveryStepKeepsPointsListsAndSites :=
  ⟨pointLaw_kept, bindingLaw_kept, capacityLaw_kept, siteLaw_kept⟩

end

section
/-! PROOFS. Runs over a bank, and the law of the mismatch timer and flag (R59, R65). -/

namespace Sys2Proof.Machine

-- One after the other: see Laws/Frames.lean.
set_option Elab.async false

/-- A run over every index brings about for each index what its own turn brings about and every other turn leaves. -/
theorem forEach_all {σ : Type} {n : Nat} (Q : Fin n → σ → Prop) (f : Fin n → σ → σ) (own : ∀ i a, Q i (f i a))
    (others : ∀ i j a, j ≠ i → Q i a → Q i (f j a)) (s : σ) (i : Fin n) : Q i (forEach n f s) := by
  have kept (l : List (Fin n)) (a : σ) (ha : Q i a) : Q i (l.foldl (fun a j => f j a) a) := by
    induction l generalizing a with
    | nil => exact ha
    | cons j rest ih =>
      refine ih _ ?_
      by_cases h : j = i
      · rw [h]; exact own i a
      · exact others i j a h ha
  have turn (l : List (Fin n)) (hl : i ∈ l) (a : σ) : Q i (l.foldl (fun a j => f j a) a) := by
    induction l generalizing a with
    | nil => cases hl
    | cons j rest ih =>
      rcases List.mem_cons.1 hl with rfl | hr
      · exact kept rest _ (own i a)
      · exact ih hr _
  exact turn _ (mem_indexes i) s

/-! ### The part keeps running -/

theorem applyRequest_initialising (r : Request) (s : State) : (applyRequest r s).1.initialising = s.initialising := by
  have other (h : Part.phase ∉ owned r) : (applyRequest r s).1.initialising = s.initialising := by
    have e := applyRequest_only r s .phase h
    simp only [Exact, Prod.mk.injEq] at e
    exact e.1
  cases r
  case commission =>
    show (ownCommission s).1.initialising = s.initialising
    unfold ownCommission
    repeat' split
    all_goals rfl
  case decommission =>
    show (ownDecommission s).1.initialising = s.initialising
    have h := stopMonitor_only { s with phase := .config } .phase (by decide)
    simp only [Exact, Prod.mk.injEq] at h
    unfold ownDecommission
    split
    · rfl
    · split
      · rfl
      · exact Eq.trans h.1 rfl
  all_goals exact other (by dsimp only [owned]; decide)

theorem fieldWork_initialising {c : Instr} {f : State → State} (h : fieldWork c = some f) (s : State) :
    (f s).initialising = s.initialising := by
  have apart : Part.phase ∉ touched c := by cases c <;> first | (cases h; done) | (dsimp only [touched]; decide)
  have e := fieldWork_only h s .phase apart
  simp only [Exact, Prod.mk.injEq] at e
  exact e.1

theorem passing_initialising (s : State) : (countDown (forEach 3 finishStop s)).initialising = s.initialising := by
  have e := finishStops_only s .phase (by decide)
  simp only [Exact, Prod.mk.injEq] at e
  exact e.1

/-! ### The mismatch timer and flag of one line -/

/-- What the mismatch timer and flag say of a line while the part runs (R59). -/
def Discrete.Watched (l : Discrete) : Prop :=
  (l.mismatch = true ∨ l.mismatchTimer.isSome = true → l.cfg.out = true ∧ l.level ≠ l.commanded) ∧
    (l.mismatch = true → l.mismatchTimer = none)

/-- Every line is so. -/
def LinesWatched (s : State) : Prop := ∀ d : Fin 24, s.discretes[d].Watched

theorem mismatchLaw_running {s : State} (h : s.initialising = false) : MismatchLaw s ↔ LinesWatched s := by
  unfold MismatchLaw LinesWatched Discrete.Watched
  simp [h]

theorem mismatchLaw_initialising {s : State} (h : s.initialising = true) :
    MismatchLaw s ↔ ∀ d : Fin 24, s.discretes[d].mismatch = false ∧ s.discretes[d].mismatchTimer = none := by
  unfold MismatchLaw
  refine forall_congr' fun d => ?_
  generalize s.discretes[d] = l
  cases hm : l.mismatch <;> cases ht : l.mismatchTimer <;> simp [h, hm, ht]

theorem Discrete.Watched.of_calm {l : Discrete} (h : l.mismatch = false) (k : l.mismatchTimer = none) : l.Watched := by
  simp [Discrete.Watched, h, k]

theorem Discrete.judgeMismatch_watched {l : Discrete} (h : l.mismatch = true → l.mismatchTimer = none) :
    l.judgeMismatch.Watched := by
  unfold Discrete.judgeMismatch
  split
  · rename_i hd
    simp only [Bool.and_eq_true, bne_iff_ne] at hd
    split
    · exact ⟨fun _ => hd, h⟩
    · rename_i hn
      simp only [Bool.or_eq_true, not_or] at hn
      exact ⟨fun _ => hd, fun hm => absurd hm hn.1⟩
  · exact .of_calm rfl rfl

theorem Discrete.setCommanded_watched {l : Discrete} (c : Bool) (h : l.Watched) : (l.setCommanded c).Watched := by
  unfold Discrete.setCommanded
  split
  · exact h
  · exact judgeMismatch_watched h.2

theorem Discrete.setRoleCommand_watched {l : Discrete} (c : Bool) (h : l.Watched) : (l.setRoleCommand c).Watched := by
  unfold Discrete.setRoleCommand
  split
  · exact setCommanded_watched c h
  · exact h

theorem Discrete.configure_watched {l : Discrete} (new : DiscreteConfig) (h : l.Watched) : (l.configure new).Watched := by
  unfold Discrete.configure
  dsimp only
  refine judgeMismatch_watched ?_
  repeat' split
  all_goals exact h.2

/-! ### The lines under each operation -/

theorem LinesWatched.of_eq {s t : State} (h : t.discretes = s.discretes) (hs : LinesWatched s) : LinesWatched t := by
  unfold LinesWatched; rw [h]; exact hs

theorem Only.linesWatched {qs : List Part} {s t : State} (h : Only qs s t) (hs : LinesWatched s)
    (ha : Part.discretes ∉ qs := by decide) : LinesWatched t := hs.of_eq (h .discretes ha)

theorem LinesWatched.modDiscrete {s : State} (hs : LinesWatched s) (i : Fin 24) {f : Discrete → Discrete}
    (hf : s.discretes[i].Watched → (f s.discretes[i]).Watched) : LinesWatched (s.modDiscrete i f) := by
  intro d
  rw [State.modDiscrete_at]
  split
  · exact hf (hs i)
  · exact hs d

theorem LinesWatched.setDiscretes {s t : State} (hs : LinesWatched s) {f : Fin 24 → Discrete → Discrete}
    (ht : t.discretes = modifyAll s.discretes f) (hf : ∀ d l, l.Watched → (f d l).Watched) : LinesWatched t := by
  intro d
  rw [ht, modifyAll_get]
  exact hf d _ (hs d)

theorem commandRole_watched (d : Fin 24) (c : Bool) {s : State} (hs : LinesWatched s) : LinesWatched (commandRole d c s) :=
  hs.modDiscrete d (Discrete.setRoleCommand_watched c)

theorem queueEdgeNotice_watched {s : State} (hs : LinesWatched s) : LinesWatched (queueEdgeNotice s) :=
  hs.setDiscretes (f := fun _ l => if l.edgeSeen then { l with edgeReported := true } else l) rfl fun _ l h => by split <;> exact h

theorem examineEdge_watched (i : Fin 24) (b : Bool) {s : State} (hs : LinesWatched s) : LinesWatched (examineEdge i b s) := by
  have caught : LinesWatched (s.modDiscrete i Discrete.catchEdge) := hs.modDiscrete i id
  unfold examineEdge askEdgeNotice
  dsimp only
  repeat' split
  · exact caught
  · exact queueEdgeNotice_watched caught
  · exact hs

theorem takeLevel_watched (i : Fin 24) (b : Bool) {s : State} (hs : LinesWatched s) : LinesWatched (takeLevel i b s) := by
  have stopped : LinesWatched (s.modDiscrete i (fun l => { l with debounceTimer := none })) := hs.modDiscrete i id
  unfold takeLevel
  dsimp only
  split
  · exact stopped
  · have taken := stopped.modDiscrete i (f := fun l => { l with level := b }.judgeMismatch)
      fun h => by refine Discrete.judgeMismatch_watched ?_; exact h.2
    exact examineEdge_watched i b ((deliverRole_only i _ _).linesWatched ((readLinePoint_only i _).linesWatched taken))

theorem padChange_watched (i : Fin 24) (b : Bool) {s : State} (hs : LinesWatched s) : LinesWatched (padChange i b s) := by
  have pinned : LinesWatched (s.modDiscrete i (fun l => { l with pin := b })) := hs.modDiscrete i id
  unfold padChange
  dsimp only
  repeat' split
  · exact pinned
  · exact pinned
  · exact takeLevel_watched i _ (pinned.modDiscrete i id)
  · exact (pinned.modDiscrete i id).modDiscrete i id

theorem debounceExpiry_watched (i : Fin 24) {s : State} (hs : LinesWatched s) : LinesWatched (debounceExpiry i s) := by
  unfold debounceExpiry
  split
  · exact hs
  · exact takeLevel_watched i _ hs

theorem mismatchExpiry_watched (i : Fin 24) {s : State} (hs : LinesWatched s) : LinesWatched (mismatchExpiry i s) := by
  unfold mismatchExpiry
  split
  · exact hs
  · rename_i ht
    exact hs.modDiscrete i fun h => ⟨fun _ => h.1 (.inr (by rw [ht]; rfl)), fun _ => rfl⟩

theorem fieldWork_watched {c : Instr} {f : State → State} (h : fieldWork c = some f) {s : State} (hs : LinesWatched s) :
    LinesWatched (f s) := by
  have other (ha : Part.discretes ∉ touched c) : LinesWatched (f s) := (fieldWork_only h s).linesWatched hs ha
  cases c <;> cases h
  case padChange i b => exact padChange_watched i b hs
  case debounceExpiry i => exact debounceExpiry_watched i hs
  case mismatchExpiry i => exact mismatchExpiry_watched i hs
  all_goals exact other (by dsimp only [touched]; decide)

theorem storeDiscrete_watched (i : Fin 24) (new : DiscreteConfig) {s : State} (hs : LinesWatched s) :
    LinesWatched (storeDiscrete i new s) := by
  have stored : LinesWatched (s.modDiscrete i (Discrete.configure new)) := hs.modDiscrete i (Discrete.configure_watched new)
  unfold storeDiscrete
  dsimp only
  refine (deliverRole_only i _ _).linesWatched ?_
  split
  · exact stored
  · exact (readLinePoint_only i _).linesWatched stored

theorem settleAlarm_watched {s : State} (hs : LinesWatched s) : LinesWatched (settleAlarm s) := commandRole_watched _ _ hs

theorem takeUpLive_watched {s : State} (hs : LinesWatched s) : LinesWatched (takeUpLive s) :=
  settleAlarm_watched ((s.modConditions_only _).linesWatched hs)

theorem settleConditions_watched {s : State} (hs : LinesWatched s) : LinesWatched (settleConditions s) := by
  have live := takeUpLive_watched (takeUpLive_watched hs)
  unfold settleConditions
  dsimp only
  split
  · exact (freeze_only _).linesWatched live
  · exact live

theorem applyRequest_watched (r : Request) {s : State} (hs : LinesWatched s) : LinesWatched (applyRequest r s).1 := by
  have other (ha : Part.discretes ∉ owned r) : LinesWatched (applyRequest r s).1 := (applyRequest_only r s).linesWatched hs ha
  cases r
  case configureDiscrete q =>
    show LinesWatched (ownConfigureDiscrete q s).1
    unfold ownConfigureDiscrete
    repeat' split
    all_goals first | exact hs | exact storeDiscrete_watched _ _ hs
  case setDiscrete line level =>
    show LinesWatched (ownSetDiscrete line level s).1
    unfold ownSetDiscrete
    dsimp only
    repeat' split
    all_goals first | exact hs | exact hs.modDiscrete _ (Discrete.setCommanded_watched _)
  case readDiscrete =>
    exact hs.setDiscretes (t := (ownReadDiscrete s).1) (f := fun _ l => if l.edgeSeen then { l with edgeReported := true } else l) rfl fun _ l h => by split <;> exact h
  case clearEdges lines =>
    exact hs.setDiscretes (t := (ownClearEdges lines s).1)
      (f := fun i l => if clearsEdge lines i l then { l with edgeSeen := false, edgeReported := false, edgeCount := 0 } else l) rfl fun _ l h => by split <;> exact h
  case setMasks watch horn =>
    show LinesWatched (ownSetMasks watch horn s).1
    unfold ownSetMasks
    split
    · exact (State.modConditions_only _ _).linesWatched (settleConditions_watched (settleAlarm_watched
        ((State.modConditions_only _ _).linesWatched hs)))
    · exact hs
  case silence => exact settleAlarm_watched ((State.modConditions_only _ _).linesWatched hs)
  all_goals exact other (by dsimp only [owned]; decide)

theorem countDown_watched {s : State} (hs : LinesWatched s) : LinesWatched (countDown s) :=
  hs.setDiscretes (f := fun _ l => { l with debounceTimer := l.debounceTimer.tick, mismatchTimer := l.mismatchTimer.tick }) rfl
    fun _ l h => by
    obtain ⟨only, alone⟩ := h
    refine ⟨fun hm => only ?_, fun hm => ?_⟩
    · simpa [Timer.tick] using hm
    · simp [Timer.tick, alone hm]

theorem Only.initialising {qs : List Part} {s t : State} (h : Only qs s t) (ha : Part.phase ∉ qs := by decide) :
    t.initialising = s.initialising := by
  have e := h .phase ha
  simp only [Exact, Prod.mk.injEq] at e
  exact e.1

/-- The part runs, and its lines are watched. -/
def RunsWatched (s : State) : Prop := s.initialising = false ∧ LinesWatched s

theorem runsWatched_on : On [.phase, .discretes] RunsWatched := by
  intro s t h hs
  have e := h .phase (by decide)
  simp only [Exact, Prod.mk.injEq] at e
  exact ⟨e.1.trans hs.1, hs.2.of_eq (h .discretes (by decide))⟩

theorem runsWatched_steady : Steady RunsWatched :=
  On.steady runsWatched_on
    (outputs := .inr ⟨fun d c s _ hs => ⟨(commandRole_only d c s).initialising.trans hs.1, commandRole_watched d c hs.2⟩,
      fun s hs => ⟨(queueEdgeNotice_only s).initialising.trans hs.1, queueEdgeNotice_watched hs.2⟩⟩)
    (request := fun r s _ hs => ⟨(applyRequest_initialising r s).trans hs.1, applyRequest_watched r hs.2⟩)
    (field := fun c f s hc _ hs => ⟨(fieldWork_initialising hc s).trans hs.1, fieldWork_watched hc hs.2⟩)
    (time := fun s hs => ⟨(passing_initialising s).trans hs.1, countDown_watched ((finishStops_only s).linesWatched hs.2)⟩)
    (start := fun _ hi hs => by rw [hs.1] at hi; cases hi)

end Sys2Proof.Machine
end

section
/-! PROOFS. The commands during internal initialisation and while the part runs; the snapshot and the unsilenced set. -/

namespace Sys2Proof.Machine

-- One after the other: see Laws/Frames.lean.
set_option Elab.async false

/-! ### What a command comes to -/

theorem event_initialising {f : State → State} {s : State} (h : s.initialising = true) : event f s = .next s := by
  unfold event; rw [h]; rfl

theorem event_running {f : State → State} {s : State} (h : s.initialising = false) : event f s = .next (finish (f s)) := by
  unfold event; rw [h]; rfl

theorem padChange_initialising {i : Fin 24} {b : Bool} {s : State} (h : s.initialising = true) :
    padChange i b s = s.modDiscrete i (fun l => { l with pin := b }) := by
  have e : (s.modDiscrete i (fun l => { l with pin := b })).initialising = true := h
  unfold padChange; dsimp only; rw [if_pos e]

/-- During internal initialisation no command acts but the resets, START_UP and the level of a pad (R205, R216). -/
theorem exec_initialising {c : Instr} {s : State} (h : s.initialising = true) (h1 : ∀ a b, c ≠ .powerReset a b)
    (h2 : ∀ a b, c ≠ .pinReset a b) (h3 : c ≠ .startUp) (h4 : ∀ i b, c ≠ .padChange i b) : exec c s = .next s := by
  rcases cases_work c with ⟨a, b, e | e⟩ | e | rfl | ⟨f, hf⟩ | ⟨tag, r, hr⟩ | ⟨f, hf, -⟩
  · exact absurd e (h1 a b)
  · exact absurd e (h2 a b)
  · exact absurd e h3
  · show Host.Outcome.next _ = _
    rw [h]; rfl
  · rcases exec_fieldWork hf s with e | ⟨i, b, e, -⟩
    · rw [e, event_initialising h]
    · exact absurd e (h4 i b)
  · rw [exec_request hr s]; exact event_initialising h
  · rw [hf s, event_initialising h]

/-- What a command does to a part in internal initialisation: nothing, START_UP, the level of a pad, or a reset. -/
theorem exec_initialising_cases {c : Instr} {s t : State} (h : s.initialising = true) (he : exec c s = .next t) :
    t = s ∨ t = startUp s ∨ (∃ i b, t = s.modDiscrete i (fun l => { l with pin := b })) ∨ ResetOf s t := by
  by_cases h1 : ∃ a b, c = .powerReset a b
  · obtain ⟨a, b, rfl⟩ := h1
    cases he; exact .inr (.inr (.inr (.inl ⟨a, b, .inl rfl⟩)))
  by_cases h2 : ∃ a b, c = .pinReset a b
  · obtain ⟨a, b, rfl⟩ := h2
    cases he; exact .inr (.inr (.inr (.inl ⟨a, b, .inr rfl⟩)))
  by_cases h3 : c = .startUp
  · subst h3; cases he; exact .inr (.inl rfl)
  by_cases h4 : ∃ i b, c = .padChange i b
  · obtain ⟨i, b, rfl⟩ := h4
    have e : exec (.padChange i b) s = .next (padChange i b s) := by
      show Host.Outcome.next _ = _
      rw [h]; rfl
    rw [e, padChange_initialising h] at he
    cases he; exact .inr (.inr (.inl ⟨i, b, rfl⟩))
  · have e := exec_initialising h (fun a b k => h1 ⟨a, b, k⟩) (fun a b k => h2 ⟨a, b, k⟩) h3 (fun i b k => h4 ⟨i, b, k⟩)
    rw [e] at he
    cases he; exact .inl rfl

/-- While the part runs every command ends an event, is a reset, or does nothing. -/
theorem exec_running {c : Instr} {s t : State} (h : s.initialising = false) (he : exec c s = .next t) :
    t = s ∨ (∃ u, t = finish u) ∨ ResetOf s t := by
  have ended {f : State → State} (e : event f s = .next t) : t = s ∨ (∃ u, t = finish u) ∨ ResetOf s t := by
    rw [event_running h] at e
    cases e; exact .inr (.inl ⟨_, rfl⟩)
  rcases cases_work c with ⟨a, b, rfl | rfl⟩ | rfl | rfl | ⟨f, hf⟩ | ⟨tag, r, hr⟩ | ⟨f, hf, -⟩
  · cases he; exact .inr (.inr (.inl ⟨a, b, .inl rfl⟩))
  · cases he; exact .inr (.inr (.inl ⟨a, b, .inr rfl⟩))
  · cases he; exact .inl (startUp_running h)
  · have e : exec .transmissionEnd s = .next (transmissionEnd s) := by
      show Host.Outcome.next _ = _
      rw [h]; rfl
    rw [e] at he
    cases he
    unfold transmissionEnd
    split
    · exact .inl rfl
    · split
      · exact .inr (.inr (.inr rfl))
      · exact .inr (.inl ⟨_, rfl⟩)
  · rcases exec_fieldWork hf s with e | ⟨i, b, rfl, -⟩
    · exact ended (e.symm.trans he)
    · have e : exec (.padChange i b) s = .next (finish (padChange i b s)) := by
        show Host.Outcome.next _ = _
        rw [h]; rfl
      rw [e] at he
      cases he; exact .inr (.inl ⟨_, rfl⟩)
  · exact ended ((exec_request hr s).symm.trans he)
  · exact ended ((hf s).symm.trans he)

/-! ### Laws kept -/

/-- A reset of either kind leaves every dynamic value as the chapters state it. -/
theorem ResetOf.dynamic {s t : State} (h : ResetOf s t) : DynamicReset t := by
  rcases h with ⟨a, b, rfl | rfl⟩ | rfl
  · exact hardReset_dynamic _ _ _ _ _ _ _
  · exact hardReset_dynamic _ _ _ _ _ _ _
  · exact softReset_dynamic s

/-- A law is kept by every step: by what a running step is made of, by a reset, by the end of internal initialisation, and by what
happens during it. -/
theorem Steady.keptThrough {P Q : State → Prop} (h : Steady Q) (running : ∀ s, s.initialising = false → (P s ↔ Q s))
    (runs : ∀ s, Q s → s.initialising = false) (reset : ∀ s, DynamicReset s → P s)
    (start : ∀ s, s.initialising = true → P s → P (Machine.startUp s))
    (pins : ∀ s i b, s.initialising = true → P s → P (s.modDiscrete i (fun l => { l with pin := b })))
    (queue : ∀ s q, s.initialising = true → P s → P { s with pending := q }) : Kept P := by
  intro s t hs he
  cases hi : s.initialising with
  | false =>
    rcases h.step ((running s hi).1 hs) he with ht | ⟨u, -, hr⟩
    · exact (running t (runs t ht)).2 ht
    · exact reset t hr.dynamic
  | true =>
    unfold Machine.step at he
    split at he
    · cases he
      unfold Machine.passTime
      rw [if_pos hi]
      exact hs
    · rename_i c rest _
      have hq := queue s rest hi hs
      have hqi : ({ s with pending := rest } : State).initialising = true := hi
      rcases exec_initialising_cases hqi he with rfl | rfl | ⟨i, b, rfl⟩ | hr
      · exact hq
      · exact start _ hqi hq
      · exact pins _ i b hqi hq
      · exact reset t hr.dynamic

theorem started_initialising (s : State) : (started s).initialising = false := by
  have h := (((queueStarted_only (formLive (settleOutputs (sampleDiscretes (startTimers s.begun))))).initialising.trans
    (formLive_only _).initialising).trans (settleOutputs_only _).initialising).trans
      ((sampleDiscretes_only _).initialising.trans (startTimers_only s.begun).initialising)
  exact h

theorem settleOutputs_watched {s : State} (hs : LinesWatched s) : LinesWatched (settleOutputs s) :=
  commandRole_watched _ _ (commandRole_watched _ _ (forEach_keeps LinesWatched 8
    (fun k a => commandRole (runLine k) a.wells[k].state.energised a) (fun _ _ ha => commandRole_watched _ _ ha) s hs))

/-- The lines as internal initialisation ends: sampling starts no mismatch timer, the commands then given do (R65; log 32). -/
theorem started_watched {s : State} (h : ∀ d : Fin 24, s.discretes[d].mismatch = false ∧ s.discretes[d].mismatchTimer = none) :
    LinesWatched (started s) := by
  have begun : (startTimers s.begun).discretes = s.discretes := rfl
  have sampled : LinesWatched (sampleDiscretes (startTimers s.begun)) := fun d => by
    have e : (sampleDiscretes (startTimers s.begun)).discretes[d] = s.discretes[d].sample := modifyAll_get _ d _
    rw [e]
    exact .of_calm (h d).1 (h d).2
  exact (queueStarted_only _).linesWatched ((formLive_only _).linesWatched (settleOutputs_watched sampled))

theorem MismatchLaw.of_reset {s : State} (h : DynamicReset s) : MismatchLaw s := by
  obtain ⟨⟨-, -, -, discretes⟩, -, -, init, -⟩ := h
  rw [mismatchLaw_initialising init]
  intro d
  obtain ⟨-, -, -, timer, flag, -⟩ := discretes d
  exact ⟨flag, timer⟩

theorem mismatchLaw_kept : Kept MismatchLaw := by
  refine runsWatched_steady.keptThrough (fun s hi => ?_) (fun _ h => h.1) (fun s hs => .of_reset hs) (fun s hi hs => ?_)
    (fun s i b hi hs => ?_) (fun s q hi hs => hs)
  · rw [mismatchLaw_running hi]
    exact ⟨fun h => ⟨hi, h⟩, fun h => h.2⟩
  · have ht := runsWatched_steady.transmit (s := started s)
      ⟨started_initialising s, started_watched ((mismatchLaw_initialising hi).1 hs)⟩
    rw [startUp_eq hi, mismatchLaw_running ht.1]
    exact ht.2
  · have hi' : (s.modDiscrete i (fun l => { l with pin := b })).initialising = true := hi
    rw [mismatchLaw_initialising hi] at hs
    rw [mismatchLaw_initialising hi']
    intro d
    rw [State.modDiscrete_at]
    split
    · exact hs i
    · exact hs d

/-! ### The snapshot and the unsilenced set -/

/-- The part runs; a pending CONDITION notice carries the snapshot, and the unsilenced set lies in the horn mask. -/
def RunsReporting (s : State) : Prop := s.initialising = false ∧ SnapshotLaw s ∧ UnsilencedLaw s

theorem RunsReporting.of_eq {s t : State} (hs : RunsReporting s) (hi : t.initialising = s.initialising)
    (hl : t.link.condition = s.link.condition) (hn : t.conditions.snapshot = s.conditions.snapshot)
    (hu : t.conditions.unsilenced = s.conditions.unsilenced) (hh : t.conditions.horn = s.conditions.horn) : RunsReporting t := by
  obtain ⟨init, snap, unsil⟩ := hs
  refine ⟨hi.trans init, ?_, ?_⟩
  · unfold SnapshotLaw; rw [hl, hn]; exact snap
  · unfold UnsilencedLaw; rw [hu, hh]; exact unsil

theorem Only.reporting {qs : List Part} {s t : State} (h : Only qs s t) (hi : t.initialising = s.initialising)
    (hs : RunsReporting s) (hc : Part.conditions ∉ qs := by decide) : RunsReporting t := by
  have e := h .conditions hc
  simp only [Exact, Prod.mk.injEq] at e
  exact hs.of_eq hi e.2 (by rw [e.1]) (by rw [e.1]) (by rw [e.1])

theorem freeze_reporting {s : State} (hs : RunsReporting s) : RunsReporting (freeze s) := by
  obtain ⟨init, -, unsil⟩ := hs
  refine ⟨(freeze_only s).initialising.trans init, fun n hn => ?_, unsil⟩
  have e : (freeze s).link.condition = some (freeze s).conditions.snapshot := rfl
  exact Option.some.inj (hn.symm.trans e)

theorem settleAlarm_reporting {s : State} (hs : RunsReporting s) : RunsReporting (settleAlarm s) :=
  (settleAlarm_only s).reporting (settleAlarm_only s).initialising hs

theorem unsilencedAfter_get (before after horn unsilenced : MemberSet) (n : Fin 42) :
    (unsilencedAfter before after horn unsilenced)[n] = (after[n] && (unsilenced[n] || (horn[n] && !before[n]))) := by
  simp [unsilencedAfter]

/-- The condition unit with a live set and what the horn makes of it (R182, R189). -/
def Conditions.takeUp (before live : MemberSet) (c : Conditions) : Conditions :=
  { c with live := live, unsilenced := unsilencedAfter before live c.horn c.unsilenced }

theorem takeUpLive_eq (s : State) : takeUpLive s = settleAlarm (s.modConditions (Conditions.takeUp s.conditions.live (liveNow s))) := rfl

theorem takeUp_reporting (before live : MemberSet) {s : State} (hs : RunsReporting s) :
    RunsReporting (s.modConditions (Conditions.takeUp before live)) := by
  obtain ⟨init, snap, unsil⟩ := hs
  refine ⟨init, snap, fun n hn => ?_⟩
  have e : (s.modConditions (Conditions.takeUp before live)).conditions.unsilenced =
      unsilencedAfter before live s.conditions.horn s.conditions.unsilenced := rfl
  rw [e, unsilencedAfter_get, Bool.and_eq_true, Bool.or_eq_true, Bool.and_eq_true] at hn
  exact hn.2.elim (unsil n) And.left

theorem takeUpLive_reporting {s : State} (hs : RunsReporting s) : RunsReporting (takeUpLive s) := by
  rw [takeUpLive_eq]
  exact settleAlarm_reporting (takeUp_reporting _ _ hs)

theorem settleConditions_reporting {s : State} (hs : RunsReporting s) : RunsReporting (settleConditions s) := by
  have live := takeUpLive_reporting (takeUpLive_reporting hs)
  unfold settleConditions
  dsimp only
  split
  · exact freeze_reporting live
  · exact live

theorem settle_reporting {s : State} (hs : RunsReporting s) : RunsReporting (settle s) :=
  settleConditions_reporting ((settleOutputs_only s).reporting (settleOutputs_only s).initialising hs)

theorem RunsReporting.modLink {s : State} (hs : RunsReporting s) {f : Link → Link}
    (hf : (f s.link).condition = s.link.condition ∨ (f s.link).condition = none) : RunsReporting (s.modLink f) := by
  obtain ⟨init, snap, unsil⟩ := hs
  refine ⟨init, fun n hn => snap n ?_, unsil⟩
  change (f s.link).condition = some n at hn
  rcases hf with e | e
  · rw [← e]; exact hn
  · rw [e] at hn; cases hn

theorem LinkMove.reporting {s : State} {f : Link → Link} (h : LinkMove s f) (hs : RunsReporting s) : RunsReporting (s.modLink f) := by
  refine hs.modLink ?_
  cases h
  case beginsCondition => exact .inr rfl
  case busy => left; dsimp only; split <;> rfl
  all_goals exact .inl rfl

theorem releaseHeld_reporting {s : State} (hs : RunsReporting s) : RunsReporting (releaseHeld s) := by
  have released : RunsReporting (s.modConditions (fun c => { c with held := false })) := hs.of_eq rfl rfl rfl rfl rfl
  unfold releaseHeld
  dsimp only
  split
  · exact freeze_reporting released
  · exact released

theorem MemberSet.inter_get (a b : MemberSet) (n : Fin 42) : (MemberSet.inter a b)[n] = (a[n] && b[n]) := by
  simp [MemberSet.inter]

/-- A new horn mask takes the members it lacks out of the unsilenced set (R188). -/
theorem storeHorn_reporting {horn : Option MemberMask} {h : MemberSet} {s : State} (hm : maskOr horn s.conditions.horn = some h)
    (hs : RunsReporting s) : RunsReporting (storeHorn horn h s) := by
  obtain ⟨init, snap, unsil⟩ := hs
  refine settleAlarm_reporting ⟨init, snap, fun n hn => ?_⟩
  change (if horn.isSome then MemberSet.inter s.conditions.unsilenced h else s.conditions.unsilenced)[n] = true at hn
  show h[n] = true
  cases horn with
  | none =>
    cases hm
    exact unsil n hn
  | some m =>
    have e := MemberSet.inter_get s.conditions.unsilenced h n
    rw [if_pos (show (some m).isSome = true from rfl), e, Bool.and_eq_true] at hn
    exact hn.2

theorem applyRequest_reporting (r : Request) {s : State} (hs : RunsReporting s) : RunsReporting (applyRequest r s).1 := by
  have other (ha : Part.conditions ∉ owned r) : RunsReporting (applyRequest r s).1 :=
    (applyRequest_only r s).reporting (applyRequest_initialising r s) hs ha
  cases r
  case releaseSnapshot number =>
    show RunsReporting (ownReleaseSnapshot number s).1
    unfold ownReleaseSnapshot
    repeat' split
    · exact hs
    · exact hs
    · exact releaseHeld_reporting hs
  case setMasks watch horn =>
    show RunsReporting (ownSetMasks watch horn s).1
    unfold ownSetMasks
    split
    · rename_i hm
      exact (settleConditions_reporting (storeHorn_reporting hm hs)).of_eq rfl rfl rfl rfl rfl
    · exact hs
  case silence =>
    refine settleAlarm_reporting ⟨hs.1, hs.2.1, fun n hn => ?_⟩
    change MemberSet.empty[n] = true at hn
    simp [MemberSet.empty] at hn
  all_goals exact other (by dsimp only [owned]; decide)

theorem fieldWork_reporting {c : Instr} {f : State → State} (h : fieldWork c = some f) {s : State} (hs : RunsReporting s) :
    RunsReporting (f s) :=
  (fieldWork_only h s).reporting (fieldWork_initialising h s) hs
    (by cases c <;> first | (cases h; done) | (dsimp only [touched]; decide))

theorem runsReporting_steady : Steady RunsReporting where
  queue _ _ hs := hs
  link _ _ hf hs := hf.reporting hs
  refresh s hs := (refreshSupervision_only s).reporting (refreshSupervision_only s).initialising hs
  settle _ hs := settle_reporting hs
  edges s hs := (queueEdgeNotice_only s).reporting (queueEdgeNotice_only s).initialising hs
  request r _ hs := applyRequest_reporting r hs
  field _ _ _ hf hs := fieldWork_reporting hf hs
  time s hs := by
    have stopped := (finishStops_only s).reporting (finishStops_only s).initialising hs
    exact stopped.of_eq rfl rfl rfl rfl rfl
  start s hi hs := by rw [hs.1] at hi; cases hi

end Sys2Proof.Machine
end

section
/-! PROOFS. How a pass starts and ends (R20, R31, R32): the lines and the drives after `startPass` and `endPass`. -/

namespace Sys2Proof.Machine

-- One after the other: see Laws/Frames.lean.
set_option Elab.async false

/-! ### Schedules -/

/-- The entries of an active schedule, their outcomes aside. -/
def Line.entries (l : Line) : List Entry := l.active.map ActiveEntry.entry

theorem Line.names_entries (l : Line) (d : Fin 15) : l.names d = l.entries.any (Entry.writes d) := by
  simp [Line.names, Line.entries, List.any_map, Function.comp_def]

theorem driveBound_congr {s t : State} (h : ∀ j : Fin 3, t.lines[j].entries = s.lines[j].entries) (d : Fin 15) :
    driveBound t d = driveBound s d := by
  have spelled (u : State) : driveBound u d = true ↔ ∃ j : Fin 3, u.lines[j].names d = true := by
    unfold driveBound
    rw [List.any_eq_true]
    constructor
    · rintro ⟨l, hl, hn⟩
      obtain ⟨j, hj, rfl⟩ := List.getElem_of_mem hl
      exact ⟨⟨j, by simpa using hj⟩, by simpa using hn⟩
    · rintro ⟨j, hj⟩
      exact ⟨_, by simp [Vector.mem_toList_iff], hj⟩
  rw [Bool.eq_iff_iff, spelled, spelled]
  refine exists_congr fun j => ?_
  rw [Line.names_entries, Line.names_entries, h]

theorem Line.mark_entries (a b : Nat) (o : EntryOutcome) (l : Line) : (l.mark a b o).entries = l.entries := by
  unfold Line.entries Line.mark
  refine List.ext_getElem (by simp) fun n h h' => ?_
  simp only [List.getElem_map, List.getElem_mapIdx]
  split <;> rfl

theorem Line.mark_get (a b : Nat) (o : EntryOutcome) (l : Line) (n : Nat) :
    (l.mark a b o).active[n]? = (l.active[n]?).map (fun e => if a ≤ n ∧ n < b then { e with lastOutcome := some o } else e) := by
  simp [Line.mark, List.getElem?_mapIdx]

theorem Line.mark_length (a b : Nat) (o : EntryOutcome) (l : Line) : (l.mark a b o).active.length = l.active.length := by
  simp [Line.mark]

/-- Nothing lies between a position and the end of a schedule that ends before it. -/
theorem Line.mark_none {a b : Nat} {l : Line} (h : l.active.length ≤ a) (o : EntryOutcome) : l.mark a b o = l := by
  have e : l.active.mapIdx (fun j e => if a ≤ j ∧ j < b then { e with lastOutcome := some o } else e) = l.active := by
    refine List.ext_getElem (by simp) fun n hn hn' => ?_
    rw [List.getElem_mapIdx, if_neg (by omega)]
  unfold Line.mark
  rw [e]

theorem sampleFor_congr {s t : State} (h : ∀ d : Fin 15, t.drives[d].value = s.drives[d].value) (e : Entry) :
    sampleFor t e = sampleFor s e := by
  unfold sampleFor
  split
  · rw [h]
  · rfl
  · rfl

theorem nextSelected_zero (l : Line) : l.nextSelected 0 = l.active.findIdx? (fun e => e.entry.selected l.passCounter) := by
  unfold Line.nextSelected
  simp

/-! ### The opening of a pass -/

/-- The line as a pass opens: its schedule swapped where it was ready, and PASSING (R31). -/
def Line.opened (l : Line) : Line := { (if l.ready then l.swap else l) with state := .passing }

/-- The state in which a pass of line i looks for its first entry. -/
def opening (i : Fin 3) (s : State) : State :=
  (if s.lines[i].ready then swapLine i s else s).modLine i (fun l => { l with state := .passing })

theorem openPass_eq (i : Fin 3) (s : State) : openPass i s = goOn i 0 false (opening i s) := rfl

theorem swapLine_lines (i j : Fin 3) (s : State) : (swapLine i s).lines[j] = if i = j then s.lines[i].swap else s.lines[j] :=
  State.modLine_at s i j Line.swap

theorem opening_lines (i j : Fin 3) (s : State) :
    (opening i s).lines[j] = if i = j then s.lines[i].opened else s.lines[j] := by
  unfold opening
  rw [State.modLine_at]
  by_cases h : i = j
  · subst h
    rw [if_pos rfl, if_pos rfl]
    unfold Line.opened
    split
    · rw [swapLine_lines, if_pos rfl]
    · rfl
  · rw [if_neg h, if_neg h]
    split
    · rw [swapLine_lines, if_neg h]
    · rfl

/-- The drives as a pass opens: rebound where the schedule was swapped (R20). -/
theorem opening_drives (i : Fin 3) (s : State) (d : Fin 15) :
    (opening i s).drives[d] = if s.lines[i].ready then s.drives[d].rebind (driveBound (opening i s) d) else s.drives[d] := by
  have bound : driveBound (opening i s) d =
      driveBound (if s.lines[i].ready then swapLine i s else s) d := by
    refine driveBound_congr (fun j => ?_) d
    unfold opening
    rw [State.modLine_at]
    split
    · rename_i h; subst h; rfl
    · rfl
  have drives : (opening i s).drives = (if s.lines[i].ready then swapLine i s else s).drives :=
    State.modLine_only _ i _ .drives (by decide)
  rw [bound, drives]
  split
  · exact modifyAll_get _ d _
  · rfl

theorem goOn_drives (i : Fin 3) (n : Nat) (r : Bool) (s : State) : (goOn i n r s).1.drives = s.drives :=
  goOn_only i n r s .drives (by decide)

theorem goOn_some {i : Fin 3} {n p : Nat} (r : Bool) {s : State} (h : s.lines[i].nextSelected n = some p) :
    goOn i n r s = (s.modLine i (fun l => (l.mark n p .skipped).begin p
      ((s.lines[i].active[p]?).bind (fun e => sampleFor s e.entry)) r), true) := by
  unfold goOn; dsimp only; rw [h]

theorem goOn_none {i : Fin 3} {n : Nat} (r : Bool) {s : State} (h : s.lines[i].nextSelected n = none) :
    goOn i n r s = (s.modLine i (fun l => l.mark n l.active.length .skipped), false) := by
  unfold goOn; dsimp only; rw [h]

/-- A line that begins an entry, or has none left to begin, keeps its entries. -/
theorem goOn_entries (i j : Fin 3) (n : Nat) (r : Bool) (s : State) :
    (goOn i n r s).1.lines[j].entries = s.lines[j].entries := by
  cases h : s.lines[i].nextSelected n with
  | some p =>
    rw [goOn_some r h, State.modLine_at]
    split
    · rename_i e; subst e; exact Line.mark_entries _ _ _ _
    · rfl
  | none =>
    rw [goOn_none r h, State.modLine_at]
    split
    · rename_i e; subst e; exact Line.mark_entries _ _ _ _
    · rfl

theorem goOn_ready (i j : Fin 3) (n : Nat) (r : Bool) (s : State) : (goOn i n r s).1.lines[j].ready = s.lines[j].ready := by
  cases h : s.lines[i].nextSelected n with
  | some p =>
    rw [goOn_some r h, State.modLine_at]
    split
    · rename_i e; subst e; rfl
    · rfl
  | none =>
    rw [goOn_none r h, State.modLine_at]
    split
    · rename_i e; subst e; rfl
    · rfl

theorem Line.opened_ready (l : Line) : l.opened.ready = false := by
  unfold Line.opened
  split
  · rfl
  · rename_i h; simpa using h

/-! ### The start of a pass -/

theorem startPass_one (i : Fin 3) (s : State) (h : s.lines[i].pending = false) : startPass i 2 s =
    if (openPass i s).2 then (openPass i s).1
    else (openPass i s).1.modLine i (fun l => l.closeOut l.active.length .idle) := by
  have pending : (openPass i s).1.lines[i].pending = false := by
    rw [openPass_eq]
    have opened : (opening i s).lines[i].pending = false := by
      rw [opening_lines, if_pos rfl]
      unfold Line.opened
      split <;> exact h
    cases hn : (opening i s).lines[i].nextSelected 0 with
    | some p => rw [goOn_some _ hn, State.modLine_at, if_pos rfl]; exact opened
    | none => rw [goOn_none _ hn, State.modLine_at, if_pos rfl]; exact opened
  unfold startPass
  cases ho : openPass i s with
  | mk u b =>
    rw [ho] at pending
    cases b with
    | true => rfl
    | false =>
      have closed : (u.modLine i (fun l => l.closeOut l.active.length .idle)).lines[i].pending = false := by
        rw [State.modLine_at, if_pos rfl]; exact pending
      dsimp only
      rw [if_neg (by rw [closed]; nofun)]
      rfl

/-- The line a started pass leaves, before a pass without a selected entry closes (R31). -/
theorem openPass_line (i : Fin 3) (s : State) :
    (∀ p, s.lines[i].opened.nextSelected 0 = some p → (openPass i s).2 = true ∧ (openPass i s).1.lines[i] =
      (s.lines[i].opened.mark 0 p .skipped).begin p
        ((s.lines[i].opened.active[p]?).bind (fun e => sampleFor s e.entry)) false) ∧
    (s.lines[i].opened.nextSelected 0 = none → (openPass i s).2 = false ∧ (openPass i s).1.lines[i] =
      s.lines[i].opened.mark 0 s.lines[i].opened.active.length .skipped) := by
  have line : (opening i s).lines[i] = s.lines[i].opened := by rw [opening_lines, if_pos rfl]
  have sample (e : Entry) : sampleFor (opening i s) e = sampleFor s e := by
    refine sampleFor_congr (fun d => ?_) e
    rw [opening_drives]
    split
    · exact Drive.rebind_value _ _
    · rfl
  rw [openPass_eq]
  refine ⟨fun p hp => ?_, fun hn => ?_⟩
  · rw [goOn_some false (line ▸ hp), State.modLine_at, if_pos rfl, line]
    exact ⟨rfl, by simp only [sample]⟩
  · rw [goOn_none false (line ▸ hn), State.modLine_at, if_pos rfl, line]
    exact ⟨rfl, rfl⟩

theorem openPass_others {i j : Fin 3} (h : j ≠ i) (s : State) : (openPass i s).1.lines[j] = s.lines[j] := by
  have kept : (opening i s).lines[j] = s.lines[j] := by rw [opening_lines, if_neg (Ne.symm h)]
  rw [openPass_eq]
  cases hn : (opening i s).lines[i].nextSelected 0 with
  | some p => rw [goOn_some _ hn, State.modLine_at, if_neg (Ne.symm h), kept]
  | none => rw [goOn_none _ hn, State.modLine_at, if_neg (Ne.symm h), kept]

theorem startPass_others {i j : Fin 3} (h : j ≠ i) {s : State} (hp : s.lines[i].pending = false) :
    (startPass i 2 s).lines[j] = s.lines[j] := by
  rw [startPass_one i s hp]
  split
  · exact openPass_others h s
  · rw [State.modLine_at, if_neg (Ne.symm h)]; exact openPass_others h s

theorem Line.closeOut_entries (n : Nat) (st : LineState) (l : Line) : (l.closeOut n st).entries = l.entries :=
  Line.mark_entries _ _ _ l

/-- The drives after a pass has started: rebound where the line swapped its schedule (R20). -/
theorem startPass_drives (i : Fin 3) {s : State} (hp : s.lines[i].pending = false) (d : Fin 15) :
    (startPass i 2 s).lines[i].ready = false ∧ (startPass i 2 s).drives[d] =
      if s.lines[i].ready then s.drives[d].rebind (driveBound (startPass i 2 s) d) else s.drives[d] := by
  have entries (j : Fin 3) : (startPass i 2 s).lines[j].entries = (opening i s).lines[j].entries := by
    rw [startPass_one i s hp, openPass_eq]
    split
    · exact goOn_entries _ _ _ _ _
    · rw [State.modLine_at]
      split
      · rename_i h; subst h; rw [Line.closeOut_entries]; exact goOn_entries _ _ _ _ _
      · exact goOn_entries _ _ _ _ _
  have drives : (startPass i 2 s).drives = (opening i s).drives := by
    rw [startPass_one i s hp, openPass_eq]
    split
    · exact goOn_drives _ _ _ _
    · exact goOn_drives _ _ _ _
  have ready : (openPass i s).1.lines[i].ready = false := by
    rw [openPass_eq, goOn_ready, opening_lines, if_pos rfl, Line.opened_ready]
  refine ⟨?_, ?_⟩
  · rw [startPass_one i s hp]
    split
    · exact ready
    · rw [State.modLine_at, if_pos rfl]; exact ready
  · rw [drives, opening_drives, driveBound_congr entries d]

theorem PassStarts.congr {s t : State} {l m : Line} (h : ∀ d : Fin 15, t.drives[d].value = s.drives[d].value)
    (hs : PassStarts s l m) : PassStarts t l m := by
  unfold PassStarts at *
  simp only [sampleFor_congr h]
  exact hs

theorem Line.mark_zero (n : Nat) (l : Line) : (l.mark 0 n .skipped) =
    { l with active := l.active.mapIdx (fun j e => if j < n then { e with lastOutcome := some .skipped } else e) } := by
  unfold Line.mark
  congr 1
  simp

theorem startPass_line (i : Fin 3) {s : State} (hp : s.lines[i].pending = false) :
    PassStarts s s.lines[i] (startPass i 2 s).lines[i] := by
  have active : s.lines[i].opened.active =
      if s.lines[i].ready then s.lines[i].staged.map (fun e => ⟨e, none⟩) else s.lines[i].active := by
    unfold Line.opened; split <;> rfl
  have fields : s.lines[i].opened = { s.lines[i] with active := s.lines[i].opened.active, ready := false, state := .passing } := by
    have hr := Line.opened_ready s.lines[i]
    unfold Line.opened at *
    split
    · rfl
    · rename_i h
      have : s.lines[i].ready = false := by simpa using h
      rw [← this]
  have counter : s.lines[i].opened.passCounter = s.lines[i].passCounter := by rw [fields]
  obtain ⟨found, left⟩ := openPass_line i s
  rw [nextSelected_zero, counter] at found left
  unfold PassStarts
  dsimp only
  rw [← active]
  rw [startPass_one i s hp]
  split
  · rename_i p hf
    obtain ⟨h1, h2⟩ := found p hf
    rw [if_pos h1, h2, Line.mark_zero, fields]
    rfl
  · rename_i hf
    obtain ⟨h1, h2⟩ := left hf
    rw [if_neg (by rw [h1]; nofun), State.modLine_at, if_pos rfl, h2]
    unfold Line.closeOut
    rw [Line.mark_none (by rw [Line.mark_length]), Line.mark_zero, fields]
    dsimp only
    congr 1
    refine List.ext_getElem (by simp) fun n hn hn' => ?_
    have : n < s.lines[i].opened.active.length := by simpa using hn'
    rw [List.getElem_mapIdx, if_pos this, List.getElem_map]

/-- A pass of a line whose pending mark is clear starts (R31). -/
theorem startPass_starts (i : Fin 3) {s : State} (hp : s.lines[i].pending = false) :
    PassStarts (startPass i 2 s) s.lines[i] (startPass i 2 s).lines[i] ∧
      LineAndDrives s (startPass i 2 s) i (fun _ d => d) := by
  have drives := fun d => startPass_drives i hp d
  refine ⟨(startPass_line i hp).congr fun d => ?_, fun j hj => startPass_others hj hp, fun d => ?_⟩
  · rw [(drives d).2]
    split
    · exact Drive.rebind_value _ _
    · rfl
  · rw [(drives d).2, (drives d).1]
    simp

/-- What an operation before it did to the line and to the drives is part of the whole. -/
theorem LineAndDrives.after {s u t : State} {i : Fin 3} {f : Fin 15 → Drive → Drive} (h : LineAndDrives u t i (fun _ d => d))
    (lines : ∀ j : Fin 3, j ≠ i → u.lines[j] = s.lines[j]) (ready : u.lines[i].ready = s.lines[i].ready)
    (drives : ∀ d : Fin 15, u.drives[d] = f d s.drives[d]) : LineAndDrives s t i f := by
  refine ⟨fun j hj => (h.1 j hj).trans (lines j hj), fun d => ?_⟩
  rw [h.2 d, ready, drives]

/-- A line that only changed itself, its ready mark standing. -/
theorem LineAndDrives.of_modLine (s : State) (i : Fin 3) (f : Line → Line) (h : (f s.lines[i]).ready = s.lines[i].ready) :
    LineAndDrives s (s.modLine i f) i (fun _ d => d) := by
  refine ⟨fun j hj => by rw [State.modLine_at, if_neg (Ne.symm hj)], fun d => ?_⟩
  have e : (s.modLine i f).lines[i].ready = s.lines[i].ready := by rw [State.modLine_at, if_pos rfl]; exact h
  rw [e, if_neg (by rintro ⟨a, b⟩; rw [a] at b; cases b)]
  rfl

theorem LineAndDrives.modLine {s u t : State} {i : Fin 3} {f : Line → Line} (hu : u = s.modLine i f)
    (hr : (f s.lines[i]).ready = s.lines[i].ready) (h : LineAndDrives u t i (fun _ d => d)) :
    LineAndDrives s t i (fun _ d => d) := by
  subst hu
  exact h.after (fun j hj => by rw [State.modLine_at, if_neg (Ne.symm hj)]) (by rw [State.modLine_at, if_pos rfl]; exact hr)
    (fun d => rfl)

/-- A pass ends (R32). -/
theorem endPass_ends (i : Fin 3) (n : Nat) (s : State) :
    PassEnds (endPass i n s) s.lines[i] n (endPass i n s).lines[i] ∧ LineAndDrives s (endPass i n s) i (fun _ d => d) := by
  have closed : (s.modLine i (fun l => l.closeOut n .idle)).lines[i] = s.lines[i].closeOut n .idle := by
    rw [State.modLine_at, if_pos rfl]
  have pending : (s.modLine i (fun l => l.closeOut n .idle)).lines[i].pending = s.lines[i].pending := by rw [closed]; rfl
  unfold PassEnds endPass
  dsimp only
  rw [pending]
  cases hp : s.lines[i].pending with
  | true =>
    simp only [if_true]
    have line : ((s.modLine i (fun l => l.closeOut n .idle)).modLine i (fun l => { l with pending := false })).lines[i] =
        { s.lines[i].closeOut n .idle with pending := false } := by rw [State.modLine_at, if_pos rfl, closed]
    obtain ⟨starts, rest⟩ := startPass_starts i
      (s := (s.modLine i (fun l => l.closeOut n .idle)).modLine i (fun l => { l with pending := false })) (by rw [line])
    rw [line] at starts
    exact ⟨starts, .modLine rfl rfl (.modLine rfl rfl rest)⟩
  | false =>
    rw [if_neg (by nofun), if_neg (by nofun)]
    exact ⟨closed, .of_modLine s i _ rfl⟩

/-! ### A closing stop that is still under way (log 5) -/

theorem finishStop_closing {i : Fin 3} {n : Nat} {s : State} (h : s.lines[i].state = .passing)
    (ha : s.lines[i].activity = .closing n) : finishStop i s = endPass i n (s.modLine i (Line.does [.stop true])) := by
  unfold finishStop; rw [h, ha]

theorem finishStop_other {i : Fin 3} {s : State}
    (h : ∀ n, s.lines[i].state = .passing → s.lines[i].activity ≠ .closing n) : finishStop i s = s := by
  unfold finishStop
  split
  · rename_i n h1 h2
    exact absurd h2 (h n h1)
  · rfl

end Sys2Proof.Machine
end

section
/-! PROOFS. The end of an event: outputs, live set and transmitter stand settled (R58, R111, R138, R182, R189, R191, R204). -/

namespace Sys2Proof.Machine

-- One after the other: see Laws/Frames.lean.
set_option Elab.async false

/-! ### Outputs -/

/-- A line takes the level its owner asks for. -/
def Discrete.Follows (l : Discrete) (c : Bool) : Prop := l.roleCommand = c ∧ (l.cfg.role = true → l.commanded = l.roleCommand)

theorem Discrete.judgeMismatch_levels (l : Discrete) : l.judgeMismatch.roleCommand = l.roleCommand ∧
    l.judgeMismatch.commanded = l.commanded ∧ l.judgeMismatch.cfg = l.cfg ∧ l.judgeMismatch.level = l.level := by
  unfold Discrete.judgeMismatch
  repeat' split
  all_goals exact ⟨rfl, rfl, rfl, rfl⟩

theorem Discrete.setCommanded_levels (c : Bool) (l : Discrete) : (l.setCommanded c).roleCommand = l.roleCommand ∧
    (l.setCommanded c).commanded = c ∧ (l.setCommanded c).cfg = l.cfg ∧ (l.setCommanded c).level = l.level := by
  unfold Discrete.setCommanded
  split
  · rename_i h; exact ⟨rfl, h, rfl, rfl⟩
  · exact Discrete.judgeMismatch_levels { l with commanded := c }

theorem Discrete.setRoleCommand_levels (c : Bool) (l : Discrete) : (l.setRoleCommand c).Follows c ∧
    (l.setRoleCommand c).cfg = l.cfg ∧ (l.setRoleCommand c).level = l.level := by
  unfold Discrete.setRoleCommand Discrete.Follows
  split
  · obtain ⟨h1, h2, h3, h4⟩ := Discrete.setCommanded_levels c { l with roleCommand := c }
    exact ⟨⟨h1, fun _ => h2.trans h1.symm⟩, h3, h4⟩
  · rename_i h
    exact ⟨⟨rfl, fun hr => absurd hr h⟩, rfl, rfl⟩

theorem commandRole_at (d e : Fin 24) (c : Bool) (s : State) :
    (commandRole d c s).discretes[e] = if d = e then s.discretes[d].setRoleCommand c else s.discretes[e] :=
  State.modDiscrete_at s d e _

theorem commandRole_follows (d : Fin 24) (c : Bool) (s : State) : (commandRole d c s).discretes[d].Follows c := by
  rw [commandRole_at, if_pos rfl]; exact (Discrete.setRoleCommand_levels c _).1

/-- A command leaves what the owning blocks see on a line. -/
theorem commandRole_roleLevel (d e : Fin 24) (c : Bool) (s : State) :
    (commandRole d c s).discretes[e].roleLevel = s.discretes[e].roleLevel := by
  rw [commandRole_at]
  split
  · rename_i h
    subst h
    unfold Discrete.roleLevel
    rw [(Discrete.setRoleCommand_levels c _).2.1, (Discrete.setRoleCommand_levels c _).2.2]
  · rfl

theorem breakerOpenDemand_congr {s t : State} (h : t.turbine = s.turbine) (hd : breakerClosed t = breakerClosed s) :
    breakerOpenDemand t = breakerOpenDemand s := by
  unfold breakerOpenDemand; rw [h, hd]

/-- The lines of the wells and the turbine follow; ALARM aside (R111, R138). -/
def OwnersFollowed (s : State) : Prop :=
  (∀ k : Fin 8, s.discretes[runLine k].Follows s.wells[k].state.energised) ∧
    s.discretes[stopValveLine].Follows s.turbine.state.energised ∧ s.discretes[breakerOpenLine].Follows (breakerOpenDemand s)

theorem outputsFollow_iff (s : State) :
    OutputsFollow s ↔ OwnersFollowed s ∧ s.discretes[alarmLine].Follows s.conditions.unsilenced.nonempty := by
  unfold OutputsFollow OwnersFollowed Driven Discrete.Follows
  tauto

theorem OwnersFollowed.of_eq {s t : State} (hs : OwnersFollowed s)
    (hd : ∀ d : Fin 24, d ≠ alarmLine → t.discretes[d].roleCommand = s.discretes[d].roleCommand ∧
      t.discretes[d].commanded = s.discretes[d].commanded ∧ t.discretes[d].cfg = s.discretes[d].cfg ∧
      t.discretes[d].level = s.discretes[d].level)
    (hw : ∀ k : Fin 8, t.wells[k].state = s.wells[k].state)
    (ht : t.turbine.state = s.turbine.state ∧ t.turbine.openCommanded = s.turbine.openCommanded) : OwnersFollowed t := by
  have follows {d : Fin 24} {c : Bool} (h : d ≠ alarmLine) (hc : s.discretes[d].Follows c) : t.discretes[d].Follows c := by
    obtain ⟨h1, h2, h3, -⟩ := hd d h
    unfold Discrete.Follows at *
    rw [h1, h2, h3]; exact hc
  have closed : breakerClosed t = breakerClosed s := by
    obtain ⟨-, -, h3, h4⟩ := hd breakerClosedLine (by decide)
    unfold breakerClosed Discrete.roleLevel
    rw [h3, h4]
  have demand : breakerOpenDemand t = breakerOpenDemand s := by
    unfold breakerOpenDemand
    rw [ht.1, ht.2, closed]
  obtain ⟨runs, valve, breaker⟩ := hs
  refine ⟨fun k => ?_, ?_, ?_⟩
  · rw [hw]
    exact follows (fun e => by have := congrArg Fin.val e; simp only [runLine, alarmLine] at this; omega) (runs k)
  · rw [ht.1]; exact follows (by decide) valve
  · rw [demand]; exact follows (by decide) breaker

theorem settleOutputs_follows (s : State) : OwnersFollowed (settleOutputs s) := by
  have runs (k : Fin 8) : (forEach 8 (fun k s => commandRole (runLine k) s.wells[k].state.energised s) s).discretes[runLine k].Follows
      (forEach 8 (fun k s => commandRole (runLine k) s.wells[k].state.energised s) s).wells[k].state.energised :=
    forEach_all (fun (k : Fin 8) (a : State) => a.discretes[runLine k].Follows a.wells[k].state.energised)
      (fun k a => commandRole (runLine k) a.wells[k].state.energised a) (fun k a => commandRole_follows _ _ a)
      (fun i j a hj ha => by
        have apart : runLine j ≠ runLine i := fun e => hj (by simpa [runLine, Fin.ext_iff] using e)
        rw [commandRole_at, if_neg apart]
        exact ha) s k
  unfold settleOutputs
  dsimp only
  generalize forEach 8 (fun k s => commandRole (runLine k) s.wells[k].state.energised s) s = a at runs ⊢
  refine ⟨fun k => ?_, ?_, ?_⟩
  · have h1 : breakerOpenLine ≠ runLine k := fun e => by have := congrArg Fin.val e; simp only [runLine, breakerOpenLine] at this; omega
    have h2 : stopValveLine ≠ runLine k := fun e => by have := congrArg Fin.val e; simp only [runLine, stopValveLine] at this; omega
    rw [commandRole_at, if_neg h1, commandRole_at, if_neg h2]
    exact runs k
  · rw [commandRole_at, if_neg (by decide)]
    exact commandRole_follows _ _ a
  · have h := commandRole_follows breakerOpenLine (breakerOpenDemand (commandRole stopValveLine a.turbine.state.energised a))
      (commandRole stopValveLine a.turbine.state.energised a)
    have e : breakerOpenDemand (commandRole breakerOpenLine (breakerOpenDemand (commandRole stopValveLine a.turbine.state.energised a))
        (commandRole stopValveLine a.turbine.state.energised a)) =
        breakerOpenDemand (commandRole stopValveLine a.turbine.state.energised a) :=
      breakerOpenDemand_congr rfl (commandRole_roleLevel _ _ _ _)
    rw [e]
    exact h

theorem settleAlarm_at (s : State) {d : Fin 24} (h : d ≠ alarmLine) : (settleAlarm s).discretes[d] = s.discretes[d] := by
  unfold settleAlarm
  rw [commandRole_at, if_neg (Ne.symm h)]

theorem takeUpLive_at (s : State) {d : Fin 24} (h : d ≠ alarmLine) : (takeUpLive s).discretes[d] = s.discretes[d] := by
  rw [takeUpLive_eq, settleAlarm_at _ h, State.modConditions_discretes]

theorem takeUpLive_owners {s : State} (hs : OwnersFollowed s) : OwnersFollowed (takeUpLive s) := by
  have only := takeUpLive_only s
  have hw : (takeUpLive s).wells = s.wells := only .wells (by decide)
  have ht : (takeUpLive s).turbine = s.turbine := only .turbine (by decide)
  exact hs.of_eq (fun d hd => by rw [takeUpLive_at s hd]; exact ⟨rfl, rfl, rfl, rfl⟩) (fun k => by rw [hw])
    (by rw [ht]; exact ⟨rfl, rfl⟩)

/-! ### The live set -/

/-- Whether a line shows a mismatch. -/
def anyMismatch (s : State) : Bool := s.discretes.toList.any (fun l => l.mismatch)

theorem anyMismatch_iff (s : State) : anyMismatch s = true ↔ ∃ d : Fin 24, s.discretes[d].mismatch = true := by
  unfold anyMismatch
  rw [List.any_eq_true]
  constructor
  · rintro ⟨l, hl, hm⟩
    obtain ⟨j, hj, rfl⟩ := List.getElem_of_mem hl
    exact ⟨⟨j, by simpa using hj⟩, by simpa using hm⟩
  · rintro ⟨d, hd⟩
    exact ⟨_, by simp [Vector.mem_toList_iff], hd⟩

theorem liveNow_get (s : State) (n : Fin 42) : (liveNow s)[n] = (Member.ofNumber n).found s := by simp [liveNow]

theorem MemberSet.ext {a b : MemberSet} (h : ∀ n : Fin 42, a[n] = b[n]) : a = b := by
  refine Vector.ext fun i hi => ?_
  exact h ⟨i, hi⟩

/-- The live set depends on the outputs through the mismatch flags alone. -/
theorem found_congr {s t : State} (h : Only [.conditions, .discretes] s t) (he : estopActive t = estopActive s) (m : Member) :
    m = .dioMismatch ∨ m.found t = m.found s := by
  have hw : t.wells = s.wells := h .wells (by decide)
  have ht : t.turbine = s.turbine := h .turbine (by decide)
  have hh : t.heating = s.heating := h .heating (by decide)
  have hs : t.sites = s.sites := h .sites (by decide)
  have hl : t.lines = s.lines := h .lines (by decide)
  have hp : t.points = s.points := h .points (by decide)
  have hv : t.supervision = s.supervision := h .supervision (by decide)
  cases m
  case dioMismatch => exact .inl rfl
  all_goals
    right
    unfold Member.found
    simp only [hw, ht, hh, hs, hl, hp, hv, he]

theorem liveNow_congr {s t : State} (h : Only [.conditions, .discretes] s t) (he : estopActive t = estopActive s)
    (hm : anyMismatch t = anyMismatch s) : liveNow t = liveNow s := by
  refine MemberSet.ext fun n => ?_
  rw [liveNow_get, liveNow_get]
  rcases found_congr h he (Member.ofNumber n) with e | e
  · rw [e]; exact hm
  · exact e

/-- What a command of ALARM leaves of the lines' mismatch flags (R59). -/
theorem Discrete.setRoleCommand_mismatch (c : Bool) (l : Discrete) (h : (l.setRoleCommand c).mismatch = true) : l.mismatch = true := by
  unfold Discrete.setRoleCommand Discrete.setCommanded Discrete.judgeMismatch at h
  repeat' split at h
  all_goals first | exact h | cases h

theorem settleAlarm_mismatch (s : State) (h : anyMismatch (settleAlarm s) = true) : anyMismatch s = true := by
  rw [anyMismatch_iff] at *
  obtain ⟨d, hd⟩ := h
  refine ⟨d, ?_⟩
  by_cases e : d = alarmLine
  · subst e
    unfold settleAlarm at hd
    rw [commandRole_at, if_pos rfl] at hd
    exact Discrete.setRoleCommand_mismatch _ _ hd
  · rw [settleAlarm_at s e] at hd
    exact hd

theorem takeUpLive_mismatch (s : State) (h : anyMismatch (takeUpLive s) = true) : anyMismatch s = true := by
  rw [takeUpLive_eq] at h
  have shown := settleAlarm_mismatch _ h
  unfold anyMismatch at *
  rwa [State.modConditions_discretes] at shown

theorem takeUpLive_estop (s : State) : estopActive (takeUpLive s) = estopActive s := by
  rw [takeUpLive_eq]
  refine (commandRole_roleLevel _ _ _ _).trans ?_
  rw [State.modConditions_discretes]
  rfl

theorem settleAlarm_conditions (s : State) : (settleAlarm s).conditions = s.conditions := rfl

theorem takeUpLive_conditions (s : State) :
    (takeUpLive s).conditions = s.conditions.takeUp s.conditions.live (liveNow s) := by
  rw [takeUpLive_eq, settleAlarm_conditions, State.modConditions_conditions]

theorem Conditions.takeUp_live (before live : MemberSet) (c : Conditions) : (c.takeUp before live).live = live := rfl

theorem Conditions.takeUp_unsilenced (before live : MemberSet) (c : Conditions) :
    (c.takeUp before live).unsilenced = unsilencedAfter before live c.horn c.unsilenced := rfl

theorem takeUpLive_live (s : State) : (takeUpLive s).conditions.live = liveNow s := by
  rw [takeUpLive_conditions, Conditions.takeUp_live]

theorem takeUpLive_unsilenced (s : State) : (takeUpLive s).conditions.unsilenced =
    unsilencedAfter s.conditions.live (liveNow s) s.conditions.horn s.conditions.unsilenced := by
  rw [takeUpLive_conditions, Conditions.takeUp_unsilenced]

theorem takeUpLive_alarm_eq (s : State) : (takeUpLive s).discretes[alarmLine] =
    s.discretes[alarmLine].setRoleCommand (takeUpLive s).conditions.unsilenced.nonempty := by
  rw [takeUpLive_eq, settleAlarm_conditions]
  unfold settleAlarm
  rw [commandRole_at, if_pos rfl, State.modConditions_discretes]

theorem takeUpLive_alarm (s : State) :
    (takeUpLive s).discretes[alarmLine].Follows (takeUpLive s).conditions.unsilenced.nonempty := by
  rw [takeUpLive_alarm_eq]
  exact (Discrete.setRoleCommand_levels _ _).1

/-- The unsilenced set taken up with an unchanged live set that holds it. -/
theorem unsilencedAfter_same {live horn unsilenced : MemberSet} (h : ∀ n : Fin 42, unsilenced[n] = true → live[n] = true) :
    unsilencedAfter live live horn unsilenced = unsilenced := by
  refine MemberSet.ext fun n => ?_
  rw [unsilencedAfter_get]
  cases hu : unsilenced[n] with
  | true => rw [h n hu]; rfl
  | false => cases live[n] <;> simp

theorem unsilencedAfter_live {before after horn unsilenced : MemberSet} (n : Fin 42)
    (h : (unsilencedAfter before after horn unsilenced)[n] = true) : after[n] = true := by
  rw [unsilencedAfter_get, Bool.and_eq_true] at h
  exact h.1

/-- Commanding a line again with the level it has just been given changes nothing. -/
theorem Discrete.setRoleCommand_again (c : Bool) (l : Discrete) : (l.setRoleCommand c).setRoleCommand c = l.setRoleCommand c :=
  (l.setRoleCommand_keeps c).2.2.2

/-- The second taking up leaves the lines' mismatch flags: the first has cleared the last of them, or it changes nothing that ALARM is
commanded by (log 30). -/
theorem takeUpLive_twice (s : State) : anyMismatch (takeUpLive (takeUpLive s)) = anyMismatch (takeUpLive s) := by
  cases h1 : anyMismatch (takeUpLive s) with
  | false =>
    cases h2 : anyMismatch (takeUpLive (takeUpLive s)) with
    | false => rfl
    | true => rw [takeUpLive_mismatch _ h2] at h1; cases h1
  | true =>
    have h0 := takeUpLive_mismatch s h1
    have live : liveNow (takeUpLive s) = liveNow s :=
      liveNow_congr (takeUpLive_only s) (takeUpLive_estop s) (h1.trans h0.symm)
    have unsilenced : (takeUpLive (takeUpLive s)).conditions.unsilenced = (takeUpLive s).conditions.unsilenced := by
      rw [takeUpLive_unsilenced (takeUpLive s), takeUpLive_live, live]
      refine unsilencedAfter_same fun n hn => ?_
      rw [takeUpLive_unsilenced] at hn
      exact unsilencedAfter_live n hn
    have lines : ∀ d : Fin 24, (takeUpLive (takeUpLive s)).discretes[d] = (takeUpLive s).discretes[d] := by
      intro d
      by_cases e : d = alarmLine
      · subst e
        rw [takeUpLive_alarm_eq (takeUpLive s), unsilenced, takeUpLive_alarm_eq s, Discrete.setRoleCommand_again]
      · exact takeUpLive_at _ e
    rw [← h1, Bool.eq_iff_iff, anyMismatch_iff, anyMismatch_iff]
    exact exists_congr fun d => by rw [lines d]

/-- A freeze touches neither the outputs nor what the live set holds. -/
theorem freeze_follows {s : State} : (LiveFollows s → LiveFollows (freeze s)) ∧ (OutputsFollow s → OutputsFollow (freeze s)) := by
  have live : (freeze s).conditions.live = s.conditions.live := rfl
  have unsilenced : (freeze s).conditions.unsilenced = s.conditions.unsilenced := rfl
  have discretes : (freeze s).discretes = s.discretes := rfl
  have wells : (freeze s).wells = s.wells := rfl
  have turbine : (freeze s).turbine = s.turbine := rfl
  have now : liveNow (freeze s) = liveNow s := by
    refine liveNow_congr ((freeze_only s).mono (by decide)) ?_ ?_
    · unfold estopActive; rw [discretes]
    · unfold anyMismatch; rw [discretes]
  refine ⟨fun h => ?_, fun h => ?_⟩
  · unfold LiveFollows
    rw [live, unsilenced, now]; exact h
  · rw [outputsFollow_iff] at *
    rw [unsilenced, discretes]
    refine ⟨h.1.of_eq (fun _ _ => by rw [discretes]; exact ⟨rfl, rfl, rfl, rfl⟩) (fun _ => by rw [wells]) (by rw [turbine]; exact ⟨rfl, rfl⟩), h.2⟩

theorem takenUp_live (s : State) : LiveFollows (takeUpLive (takeUpLive s)) := by
  refine ⟨?_, fun n hn => ?_⟩
  · rw [takeUpLive_live]
    exact (liveNow_congr (takeUpLive_only _) (takeUpLive_estop _) (takeUpLive_twice s)).symm
  · rw [takeUpLive_unsilenced] at hn
    rw [takeUpLive_live]
    exact unsilencedAfter_live n hn

theorem takenUp_outputs {s : State} (hs : OwnersFollowed s) : OutputsFollow (takeUpLive (takeUpLive s)) := by
  rw [outputsFollow_iff]
  exact ⟨takeUpLive_owners (takeUpLive_owners hs), takeUpLive_alarm _⟩

theorem settleConditions_cases (s : State) : settleConditions s = takeUpLive (takeUpLive s) ∨
    settleConditions s = freeze (takeUpLive (takeUpLive s)) := by
  unfold settleConditions
  dsimp only
  split
  · exact .inr rfl
  · exact .inl rfl

theorem settleConditions_live (s : State) : LiveFollows (settleConditions s) := by
  rcases settleConditions_cases s with e | e <;> rw [e]
  · exact takenUp_live s
  · exact freeze_follows.1 (takenUp_live s)

theorem settleConditions_outputs {s : State} (hs : OwnersFollowed s) : OutputsFollow (settleConditions s) := by
  rcases settleConditions_cases s with e | e <;> rw [e]
  · exact takenUp_outputs hs
  · exact freeze_follows.2 (takenUp_outputs hs)

theorem settle_follows (s : State) : OutputsFollow (settle s) ∧ LiveFollows (settle s) :=
  ⟨settleConditions_outputs (settleOutputs_follows s), settleConditions_live _⟩

/-! ### The transmitter -/

theorem arbiter_none {l : Link} (h : arbiter l = none) :
    l.replies = [] ∧ l.busyPlace = none ∧ l.started = none ∧ l.condition = none ∧ l.edge = none := by
  unfold arbiter at h
  split at h
  · cases h
  · cases h
  · cases h
  · rename_i h1 h2
    unfold noticeChoice at h
    split at h
    · cases h
    · cases h
    · cases h
    · rename_i h3 h4 h5
      exact ⟨h1, h2, h3, h4, h5⟩

theorem applyRequest_sending (r : Request) (s : State) : (applyRequest r s).1.link.sending = s.link.sending := by
  have apart : Part.outgoing ∉ owned r := by cases r <;> simp [owned]
  have h := applyRequest_only r s .outgoing apart
  simp only [Exact, Prod.mk.injEq] at h
  exact h.2.2

theorem settleRequest_sending (p : Parsed) (s : State) : (settleRequest p s).1.link.sending = s.link.sending := by
  cases p with
  | ok r => exact applyRequest_sending r s
  | _ => rfl

theorem takeRequests_sending (n : Nat) (s : State) : (takeRequests n s).link.sending = s.link.sending := by
  induction n generalizing s with
  | zero => rfl
  | succ n ih =>
    unfold takeRequests
    split
    · rfl
    · split
      · rw [ih]
        exact settleRequest_sending _ _
      · rfl

/-- A chosen frame is under transmission. -/
theorem beginChoice_sending (c : Choice) (s : State) : ∃ f, (beginChoice c s).link.sending = some f := by
  cases c with
  | reply f => exact ⟨f, takeRequests_sending _ _⟩
  | edge f =>
    refine ⟨f, ?_⟩
    show (followEdges _).link.sending = _
    unfold followEdges
    split
    · have h := queueEdgeNotice_only (s.modLink (fun l => { l with sending := some f, edge := none })) .outgoing (by decide)
      simp only [Exact, Prod.mk.injEq] at h
      exact h.2.2
    · rfl
  | busy f => exact ⟨f, rfl⟩
  | started f => exact ⟨f, rfl⟩
  | condition f => exact ⟨f, rfl⟩

/-- Outputs and conditions stand settled, and the transmitter has nothing left to begin. -/
def Rested (s : State) : Prop := OutputsFollow s ∧ LiveFollows s ∧ s.link.idleClear

theorem idleClear_of_sending {l : Link} {f : Frame} (h : l.sending = some f) : l.idleClear := fun hn => by rw [h] at hn; cases hn

theorem transmit_rested {s : State} (hs : OutputsFollow s ∧ LiveFollows s) : Rested (transmit s) := by
  unfold transmit
  split
  · rename_i c _ _
    obtain ⟨f, hf⟩ := beginChoice_sending c s
    obtain ⟨outputs, live⟩ := settle_follows (beginChoice c s)
    exact ⟨outputs, live, idleClear_of_sending ((settle_sending _).trans hf)⟩
  · rename_i h
    refine ⟨hs.1, hs.2, fun hn => ?_⟩
    cases ha : arbiter s.link with
    | none => exact arbiter_none ha
    | some c => exact absurd ha (h c hn)

theorem finish_rested (u : State) : Rested (finish u) := transmit_rested (settle_follows u)

end Sys2Proof.Machine
end

section
/-! PROOFS. After every step the part stands settled (O56). -/

namespace Sys2Proof.Machine

-- One after the other: see Laws/Frames.lean.
set_option Elab.async false

/-! ### The passing of time leaves what is settled -/

/-- The lines FAULTED are the same. -/
def FaultsAlike (s t : State) : Prop := ∀ j : Fin 3, t.lines[j].state = .faulted ↔ s.lines[j].state = .faulted

theorem PassStarts.not_faulted {t : State} {l m : Line} (h : PassStarts t l m) : m.state ≠ .faulted := by
  unfold PassStarts at h
  dsimp only at h
  split at h <;> (rw [h]; nofun)

theorem PassEnds.not_faulted {t : State} {l m : Line} {n : Nat} (h : PassEnds t l n m) : m.state ≠ .faulted := by
  unfold PassEnds at h
  split at h
  · exact h.not_faulted
  · rw [h]; nofun

theorem finishStop_faults (i : Fin 3) (s : State) : FaultsAlike s (finishStop i s) := by
  by_cases h : ∃ n, s.lines[i].state = .passing ∧ s.lines[i].activity = .closing n
  · obtain ⟨n, hp, ha⟩ := h
    rw [finishStop_closing hp ha]
    obtain ⟨ends, others, -⟩ := endPass_ends i n (s.modLine i (Line.does [.stop true]))
    intro j
    by_cases hj : j = i
    · subst hj
      rw [hp]
      exact ⟨fun e => absurd e ends.not_faulted, nofun⟩
    · rw [others j hj, State.modLine_at, if_neg (Ne.symm hj)]
  · rw [finishStop_other (fun n h1 h2 => h ⟨n, h1, h2⟩)]
    exact fun _ => Iff.rfl

theorem finishStops_faults (s : State) : FaultsAlike s (forEach 3 finishStop s) :=
  forEach_rel FaultsAlike (fun _ _ => Iff.rfl) (fun _ _ _ h k j => (k j).trans (h j)) 3 finishStop finishStop_faults s

/-- The live set after an operation that leaves what its members are found by. -/
theorem liveNow_eq {s t : State} (h : ∀ m : Member, m.found t = m.found s) : liveNow t = liveNow s :=
  MemberSet.ext fun n => by rw [liveNow_get, liveNow_get, h]

theorem any_toList {α : Type} {n : Nat} (v : Vector α n) (p : α → Bool) :
    v.toList.any p = true ↔ ∃ i : Fin n, p v[i] = true := by
  rw [List.any_eq_true]
  constructor
  · rintro ⟨x, hx, hp⟩
    obtain ⟨j, hj, rfl⟩ := List.getElem_of_mem hx
    exact ⟨⟨j, by simpa using hj⟩, by simpa using hp⟩
  · rintro ⟨i, hi⟩
    exact ⟨_, by simp [Vector.mem_toList_iff], hi⟩

theorem any_modifyAll {α : Type} {n : Nat} {v w : Vector α n} {f : Fin n → α → α} (p : α → Bool) (hw : w = modifyAll v f)
    (h : ∀ i a, p (f i a) = p a) : w.toList.any p = v.toList.any p := by
  rw [Bool.eq_iff_iff, any_toList, any_toList, hw]
  exact exists_congr fun i => by rw [modifyAll_get, h]

section
variable (s : State)

theorem finishStops_found (m : Member) : m.found (forEach 3 finishStop s) = m.found s := by
  have h := finishStops_only s
  have hw : (forEach 3 finishStop s).wells = s.wells := h .wells (by decide)
  have ht : (forEach 3 finishStop s).turbine = s.turbine := h .turbine (by decide)
  have hh : (forEach 3 finishStop s).heating = s.heating := h .heating (by decide)
  have hs : (forEach 3 finishStop s).sites = s.sites := h .sites (by decide)
  have hp : (forEach 3 finishStop s).points = s.points := h .points (by decide)
  have hd : (forEach 3 finishStop s).discretes = s.discretes := h .discretes (by decide)
  have hv : (forEach 3 finishStop s).supervision = s.supervision := h .supervision (by decide)
  have faults := finishStops_faults s
  cases m
  case flFault i =>
    unfold Member.found
    rw [Bool.eq_iff_iff, decide_eq_true_eq, decide_eq_true_eq]
    exact faults i
  all_goals
    unfold Member.found
    simp only [hw, ht, hh, hs, hp, hd, hv, estopActive]

theorem countDown_discrete (d : Fin 24) : (countDown s).discretes[d] =
    { s.discretes[d] with debounceTimer := s.discretes[d].debounceTimer.tick, mismatchTimer := s.discretes[d].mismatchTimer.tick } :=
  modifyAll_get s.discretes d (fun _ l => { l with debounceTimer := l.debounceTimer.tick, mismatchTimer := l.mismatchTimer.tick })

theorem countDown_pointBank : (countDown s).points = modifyAll s.points (fun _ p => { p with recoveryTimer := p.recoveryTimer.tick }) :=
  rfl

theorem countDown_discreteBank : (countDown s).discretes = modifyAll s.discretes (fun _ l =>
    { l with debounceTimer := l.debounceTimer.tick, mismatchTimer := l.mismatchTimer.tick }) := rfl

theorem countDown_sites : (countDown s).sites = s.sites := rfl

theorem countDown_turbine : (countDown s).turbine = { s.turbine with
    periodTimer := s.turbine.periodTimer.tick, rollTimer := s.turbine.rollTimer.tick,
    breakerTimer := s.turbine.breakerTimer.tick } := rfl

theorem countDown_heating : (countDown s).heating = { s.heating with periodTimer := s.heating.periodTimer.tick } := rfl

theorem countDown_supervision : (countDown s).supervision = { s.supervision with
    supervisionTimer := s.supervision.supervisionTimer.tick, holdTimer := s.supervision.holdTimer.tick } := rfl

theorem countDown_found (m : Member) : m.found (countDown s) = m.found s := by
  have failed : (countDown s).points.toList.any (fun p => p.configured && p.quality.isFailed) =
      s.points.toList.any (fun p => p.configured && p.quality.isFailed) :=
    any_modifyAll _ (countDown_pointBank s) (fun _ _ => rfl)
  have mismatch : (countDown s).discretes.toList.any (fun l => l.mismatch) = s.discretes.toList.any (fun l => l.mismatch) :=
    any_modifyAll _ (countDown_discreteBank s) (fun _ _ => rfl)
  have estop : estopActive (countDown s) = estopActive s := by
    unfold estopActive; rw [countDown_discrete]; rfl
  rw [Bool.eq_iff_iff]
  cases m <;> unfold Member.found <;> simp -failIfUnchanged only [decide_eq_true_eq, Bool.or_eq_true] <;>
    simp only [countDown_well, countDown_line, countDown_turbine, countDown_heating, countDown_sites, countDown_supervision,
      failed, mismatch, estop]

end

theorem settled_congr {s t : State} (h : ∀ m : Member, m.found t = m.found s) (hc : t.conditions = s.conditions)
    (hd : ∀ d : Fin 24, t.discretes[d].roleCommand = s.discretes[d].roleCommand ∧
      t.discretes[d].commanded = s.discretes[d].commanded ∧ t.discretes[d].cfg = s.discretes[d].cfg ∧
      t.discretes[d].level = s.discretes[d].level)
    (hw : ∀ k : Fin 8, t.wells[k].state = s.wells[k].state)
    (ht : t.turbine.state = s.turbine.state ∧ t.turbine.openCommanded = s.turbine.openCommanded)
    (hs : OutputsFollow s ∧ LiveFollows s) : OutputsFollow t ∧ LiveFollows t := by
  obtain ⟨outputs, live⟩ := hs
  rw [outputsFollow_iff] at *
  refine ⟨⟨outputs.1.of_eq (fun d _ => hd d) hw ht, ?_⟩, ?_⟩
  · obtain ⟨h1, h2, h3, -⟩ := hd alarmLine
    unfold Discrete.Follows at *
    rw [h1, h2, h3, hc]
    exact outputs.2
  · unfold LiveFollows
    rw [hc, liveNow_eq h]
    exact live

theorem finishStops_settled {s : State} (hs : OutputsFollow s ∧ LiveFollows s) :
    OutputsFollow (forEach 3 finishStop s) ∧ LiveFollows (forEach 3 finishStop s) := by
  have h := finishStops_only s
  have hc := h .conditions (by decide)
  simp only [Exact, Prod.mk.injEq] at hc
  have hw : (forEach 3 finishStop s).wells = s.wells := h .wells (by decide)
  have ht : (forEach 3 finishStop s).turbine = s.turbine := h .turbine (by decide)
  have hd : (forEach 3 finishStop s).discretes = s.discretes := h .discretes (by decide)
  exact settled_congr (finishStops_found s) hc.1 (fun d => by rw [hd]; exact ⟨rfl, rfl, rfl, rfl⟩) (fun k => by rw [hw])
    (by rw [ht]; exact ⟨rfl, rfl⟩) hs

theorem countDown_settled {s : State} (hs : OutputsFollow s ∧ LiveFollows s) :
    OutputsFollow (countDown s) ∧ LiveFollows (countDown s) :=
  settled_congr (countDown_found s) rfl (fun d => by rw [countDown_discrete]; exact ⟨rfl, rfl, rfl, rfl⟩)
    (fun k => by rw [countDown_well]) ⟨rfl, rfl⟩ hs

theorem passTime_rested {s : State} (hs : Rested s) : Rested (passTime s) := by
  obtain ⟨outputs, live, clear⟩ := hs
  unfold passTime
  split
  · exact ⟨outputs, live, clear⟩
  · split
    · exact ⟨outputs, live, clear⟩
    · obtain ⟨h1, h2⟩ := countDown_settled (finishStops_settled ⟨outputs, live⟩)
      refine ⟨h1, h2, ?_⟩
      have h := finishStops_only s
      have ho := h .outgoing (by decide)
      have hr := h .requests (by decide)
      have hn := h .notices (by decide)
      have hc := h .conditions (by decide)
      simp only [Exact, Prod.mk.injEq] at ho hr hn hc
      intro k
      change (forEach 3 finishStop s).link.sending = none at k
      obtain ⟨c1, c2, c3, c4, c5⟩ := clear (ho.2.2 ▸ k)
      exact ⟨ho.1.trans c1, hr.2.1.trans c2, hn.1.trans c3, hc.2.trans c4, hn.2.trans c5⟩

/-! ### The laws at the end of every step -/

/-- A reset holds the laws of an event's end: the part is in internal initialisation and its link holds nothing. -/
theorem sound_of_reset {t : State} (h : DynamicReset t) : Sound t := by
  obtain ⟨-, -, -, init, -, -, -, -, -, -, -, -, -, -, -, -, -, -, -, -, -, -, unsil, -, -, -, requests, busy, replies, started,
    condition, edge, sending, pending, -⟩ := h
  refine ⟨fun hi => ?_, ⟨fun _ => ⟨replies, busy, started, condition, edge⟩, fun _ => ⟨sending, requests, pending⟩⟩, fun n hn => ?_,
    fun n hn => ?_⟩
  · rw [init] at hi; cases hi
  · rw [condition] at hn; cases hn
  · rw [unsil] at hn
    simp [MemberSet.empty] at hn

theorem Rested.sound {t : State} (h : Rested t) (hr : RunsReporting t) : Sound t := by
  obtain ⟨outputs, live, clear⟩ := h
  obtain ⟨init, snap, unsil⟩ := hr
  exact ⟨fun _ => ⟨outputs, live⟩, ⟨clear, fun hi => by rw [init] at hi; cases hi⟩, snap, unsil⟩

theorem Sound.rested {s : State} (h : Sound s) (hi : s.initialising = false) : Rested s ∧ RunsReporting s := by
  obtain ⟨settled, ⟨clear, -⟩, snap, unsil⟩ := h
  exact ⟨⟨(settled hi).1, (settled hi).2, clear⟩, hi, snap, unsil⟩

theorem started_started (s : State) : (started s).link.started = some (causeOf s) := by
  have only : Only [.clock, .tableTimers, .wpTimer, .turbine, .heating, .discretes, .conditions] s.begun
      (formLive (settleOutputs (sampleDiscretes (startTimers s.begun)))) :=
    ((((startTimers_only s.begun).mono (by decide)).also (sampleDiscretes_only _)).also (settleOutputs_only _)).also (formLive_only _)
  have h := only .phase (by decide)
  simp only [Exact, Prod.mk.injEq] at h
  exact congrArg some h.2.2.2.1

theorem queueStarted_formLive (u : State) : (queueStarted (formLive u)).link.condition = u.link.condition ∧
    (queueStarted (formLive u)).link.sending = u.link.sending ∧
    (queueStarted (formLive u)).conditions.unsilenced = u.conditions.unsilenced ∧
    (queueStarted (formLive u)).conditions.horn = u.conditions.horn := by
  unfold queueStarted formLive
  simp only [State.modLink_link, State.modLink_conditions, State.modConditions_link, State.modConditions_conditions, and_self]

/-- START_UP leaves the part settled: the STARTED notice begins, so the event's end settles once more. -/
theorem startUp_sound {s : State} (hi : s.initialising = true) (hs : Sound s) : Sound (startUp s) := by
  obtain ⟨-, ⟨clear, quiet⟩, snap, unsil⟩ := hs
  obtain ⟨sending, -, -⟩ := quiet hi
  obtain ⟨-, -, -, condition, -⟩ := clear sending
  have before : Only [.phase, .clock, .tableTimers, .wpTimer, .turbine, .heating, .discretes] s
      (settleOutputs (sampleDiscretes (startTimers s.begun))) :=
    (((s.begun_only.mono (by decide)).also (startTimers_only _)).also (sampleDiscretes_only _)).also (settleOutputs_only _)
  have hc := before .conditions (by decide)
  have ho := before .outgoing (by decide)
  simp only [Exact, Prod.mk.injEq] at hc ho
  obtain ⟨e1, e2, e3, e4⟩ := queueStarted_formLive (settleOutputs (sampleDiscretes (startTimers s.begun)))
  have noNotice : (started s).link.condition = none := (e1.trans hc.2).trans condition
  have idle : (started s).link.sending = none := (e2.trans ho.2.2).trans sending
  have unsilenced : (started s).conditions.unsilenced = s.conditions.unsilenced := e3.trans (by rw [hc.1])
  have horn : (started s).conditions.horn = s.conditions.horn := e4.trans (by rw [hc.1])
  have reporting : RunsReporting (started s) := by
    refine ⟨started_initialising s, fun n hn => ?_, fun n hn => ?_⟩
    · rw [noNotice] at hn; cases hn
    · rw [unsilenced] at hn
      rw [horn]
      exact unsil n hn
  rw [startUp_eq hi]
  refine Rested.sound ?_ (runsReporting_steady.transmit reporting)
  unfold transmit
  split
  · rename_i c _ _
    obtain ⟨f, hf⟩ := beginChoice_sending c (started s)
    obtain ⟨outputs, live⟩ := settle_follows (beginChoice c (started s))
    exact ⟨outputs, live, idleClear_of_sending ((settle_sending _).trans hf)⟩
  · rename_i h
    cases ha : arbiter (started s).link with
    | none => exact absurd ((arbiter_none ha).2.2.1.symm.trans (started_started s)) (by nofun)
    | some c => exact absurd ha (h c idle)

theorem sound_kept : Kept Sound := by
  intro s t hs he
  cases hi : s.initialising with
  | true =>
    unfold step at he
    split at he
    · cases he
      unfold passTime
      rw [if_pos hi]
      exact hs
    · rename_i c rest _
      have hq : Sound { s with pending := rest } := hs
      rcases exec_initialising_cases (s := { s with pending := rest }) hi he with rfl | rfl | ⟨i, b, rfl⟩ | hr
      · exact hq
      · exact startUp_sound hi hq
      · obtain ⟨-, sound, snap, unsil⟩ := hq
        exact ⟨fun h => absurd (h.symm.trans hi) (by decide), sound, snap, unsil⟩
      · exact sound_of_reset hr.dynamic
  | false =>
    obtain ⟨rested, reporting⟩ := hs.rested hi
    rcases runsReporting_steady.step reporting he with ht | ⟨u, -, hr⟩
    · refine Rested.sound ?_ ht
      unfold step at he
      split at he
      · cases he
        exact passTime_rested rested
      · rename_i rest _
        rcases exec_running (s := { s with pending := rest }) hi he with rfl | ⟨u, rfl⟩ | hr
        · exact rested
        · exact finish_rested u
        · exact absurd (hr.dynamic.2.2.2.1.symm.trans ht.1) (by decide)
    · exact sound_of_reset hr.dynamic

end Sys2Proof.Machine

open Sys2Proof Sys2Proof.Machine

/-- Settles O56: an event ends with `finish`, which settles everything; what else a step is made of keeps what is settled. -/
theorem everyStepLeavesThePartSettled : Obligations.EveryStepLeavesThePartSettled := ⟨sound_kept, mismatchLaw_kept⟩
end

section
/-! PROOFS. How a claim about one command is proved: from what the owner of the request, or the operation of the event, answers. -/

namespace Sys2Proof.Machine

-- One after the other: see Laws/Frames.lean.
set_option Elab.async false

/-! ### Requests -/

/-- A request finds the state it arrived at, its supervision timer restarted where that is ARMED (R213). -/
theorem refreshSupervision_eq (s : State) : ∃ v, refreshSupervision s = { s with supervision := v } ∧
    v.state = s.supervision.state ∧ SupervisionRefreshed s.supervision v := by
  unfold refreshSupervision SupervisionRefreshed
  split
  · exact ⟨s.supervision.restart, rfl, rfl, rfl⟩
  · exact ⟨s.supervision, rfl, rfl, rfl⟩

/-- An event of a part that runs ends with everything settled. -/
theorem event_rested {f : State → State} {s t : State} (h : s.initialising = false) (he : event f s = .next t) : Rested t := by
  rw [event_running h] at he
  cases he
  exact finish_rested (f s)

section

variable {c : Instr} {tag : Byte} {r : Request} {s : State}

/-- A request is answered as its owner answers it in the state it finds. -/
theorem replies_heard (hc : c.request = some (tag, r)) (h : Ready s) {v : Supervision}
    (hv : refreshSupervision s = { s with supervision := v }) (refreshed : SupervisionRefreshed s.supervision v)
    {status : Status} {content : List Byte} {changed : List Part} {P : State → Prop}
    (own : ∃ u, applyRequest r { s with supervision := v } = (u, ⟨status, content⟩) ∧
      Only changed { s with supervision := v } u ∧ ∀ t, UnchangedBut [.outgoing] u t → Rested t → P t)
    (apart : Part.requests ∉ changed ∧ Part.outgoing ∉ changed ∧ Part.supervision ∉ changed)
    {kind : Nat} (hk : r.kind = kind) : Replies c s kind tag status content changed P := by
  subst hk
  obtain ⟨u, answer, only, outcome⟩ := own
  rw [← hv] at answer only
  obtain ⟨t, he, hu, answered, frame⟩ := onRequest_completes tag r h (changed := changed) (by rw [answer]; exact only) apart.1 apart.2.1
  rw [answer] at hu answered
  have rested : Rested t := event_rested h.1.1 he
  refine ⟨t, (exec_request hc s).trans he, outcome t hu rested, answered, ?_, frame⟩
  have e : t.supervision = u.supervision := hu .supervision (by decide)
  have e' : u.supervision = (refreshSupervision s).supervision := only .supervision apart.2.2
  rw [e, e', hv]
  exact refreshed

/-- A request is answered as its owner answers it. -/
theorem replies_of (hc : c.request = some (tag, r)) (h : Ready s) {status : Status} {content : List Byte} {changed : List Part}
    {P : State → Prop}
    (own : ∀ v : Supervision, v.state = s.supervision.state → ∃ u, applyRequest r { s with supervision := v } = (u, ⟨status, content⟩) ∧
      Only changed { s with supervision := v } u ∧ ∀ t, UnchangedBut [.outgoing] u t → Rested t → P t)
    (apart : Part.requests ∉ changed ∧ Part.outgoing ∉ changed ∧ Part.supervision ∉ changed := by decide)
    {kind : Nat} (hk : r.kind = kind := by rfl) : Replies c s kind tag status content changed P := by
  obtain ⟨v, hv, hstate, refreshed⟩ := refreshSupervision_eq s
  exact replies_heard hc h hv refreshed (own v hstate) apart hk

/-- A request is refused as its owner refuses it (R202). -/
theorem refuses_of (hc : c.request = some (tag, r)) (h : Ready s) {status : Status} {detail : List Byte}
    (own : ∀ v : Supervision, v.state = s.supervision.state →
      applyRequest r { s with supervision := v } = ({ s with supervision := v }, ⟨status, detail⟩))
    {kind : Nat} (hk : r.kind = kind := by rfl) : Refuses c s kind tag status detail :=
  replies_of hc h (fun v hv => ⟨_, own v hv, Only.refl _ _, fun _ _ _ => trivial⟩) (by decide) hk

/-- A request is refused with a detail that its owner chooses. -/
theorem refuses_with (hc : c.request = some (tag, r)) (h : Ready s) {status : Status} {Q : List Byte → Prop}
    (own : ∀ v : Supervision, v.state = s.supervision.state → ∃ detail, Q detail ∧
      applyRequest r { s with supervision := v } = ({ s with supervision := v }, ⟨status, detail⟩))
    {kind : Nat} (hk : r.kind = kind := by rfl) : ∃ detail, Q detail ∧ Refuses c s kind tag status detail := by
  obtain ⟨v, hv, hstate, refreshed⟩ := refreshSupervision_eq s
  obtain ⟨detail, hd, answer⟩ := own v hstate
  exact ⟨detail, hd, replies_heard hc h hv refreshed ⟨_, answer, Only.refl _ _, fun _ _ _ => trivial⟩ (by decide) hk⟩

end

/-! ### Events -/

section

variable {c : Instr} {f : State → State} {s : State}

theorem happens_of (h : Running s) (hc : ∀ s, exec c s = event f s) {changed : List Part} (hu : Only changed s (f s))
    {P : State → Prop} (outcome : ∀ t, UnchangedBut [] (f s) t → Rested t → P t)
    (apart : Part.requests ∉ changed ∧ Part.notices ∉ changed ∧ Part.outgoing ∉ changed ∧ Part.conditions ∉ changed := by decide) :
    Happens c s changed P := by
  obtain ⟨t, he, ht, frame⟩ := event_completes f h hu apart.1 apart.2.1 apart.2.2.1 apart.2.2.2
  exact ⟨t, (hc s).trans he, outcome t ht (event_rested h.1 he), frame⟩

theorem idles_of (h : Running s) (hc : ∀ s, exec c s = event f s) (hf : f s = s) : Idles c s :=
  happens_of h hc (changed := []) (by rw [hf]; exact Only.refl _ s) (fun _ _ _ => trivial)

end

/-! ### The reset state -/

theorem reset_dynamic : DynamicReset State.reset := hardReset_dynamic _ _ _ _ _ _ _

theorem reset_default : DefaultConfiguration State.reset := hardReset_default _ _ _ _ _ _ _

end Sys2Proof.Machine

open Sys2Proof Sys2Proof.Machine

/-- Settles O1. -/
theorem stepRunsTheFrontCommand : Obligations.StepRunsTheFrontCommand := fun _ _ => rfl

/-- Settles O3: the reset state is what a POWER reset leaves, so each law holds of it by its own lemma about resets. -/
theorem theResetState : Obligations.TheResetState := by
  obtain ⟨field, table, plant, -⟩ := reset_dynamic
  obtain ⟨⟨points, -⟩, ⟨-, wells, turbine, -⟩, -⟩ := reset_default
  refine ⟨⟨reset_dynamic, reset_default, rfl⟩, sound_of_reset reset_dynamic, .of_reset table, .of_reset plant ?_,
    .of_reset field table, .of_reset field plant fun k => ?_, .of_reset plant fun k => ?_, .of_reset field fun i => ?_,
    fun i j _ => ?_, (capacityLaw_iff _).mpr ⟨.of_default reset_dynamic reset_default, ?_⟩, .of_reset table, .of_reset reset_dynamic⟩
  · rw [turbine]
  · rw [wells]; exact ⟨le_refl _, by decide, le_refl _⟩
  · rw [wells]; decide
  · rw [points]; decide
  · rw [points, points]
    exact ⟨nofun, fun h => nomatch h.1⟩
  · exact ⟨by decide, by decide⟩

end

section
/-! PROOFS. Drives, loops, and the requests and timers of the point table (chapter 01). -/

namespace Sys2Proof.Machine

-- One after the other: see Laws/Frames.lean.
set_option Elab.async false

/-! ### Drives and loops -/

theorem Drive.write_same (d : Drive) : d.write d.value = d := by unfold Drive.write; rw [if_pos rfl]

theorem Drive.write_of_ne {d : Drive} {v : Int} (h : v ≠ d.value) : d.write v =
    { d with value := v, delivery := if d.delivery = .delivered then .pending else d.delivery } := by
  unfold Drive.write; rw [if_neg h]

theorem clamp_within {lo hi v : Int} (h : lo ≤ v) (k : v ≤ hi) : clamp lo hi v = v := by unfold clamp; omega

/-- A starting run leaves the output where it stood, where its integral can hold it (R26). -/
theorem Loop.start_output (l : Loop) (setpoint measurement error before : Int) (kp ki : Nat) (h0 : 0 ≤ before) (h1 : before ≤ 10000)
    (h2 : 0 ≤ before - loopP error kp) (h3 : before - loopP error kp ≤ 10000) :
    (l.start setpoint measurement error kp ki before).output = before := by
  show clamp 0 10000 (loopP error kp + clamp 0 10000 (before - loopP error kp)) = before
  rw [clamp_within h2 h3, clamp_within (by omega) (by omega)]
  omega

/-! ### The bank of points -/

/-- The points after one of them changed. -/
theorem modPoint_points_of {s t : State} {i : Fin 96} {f : Point → Point} (h : t.points = (s.modPoint i f).points) :
    (∀ j : Fin 96, j ≠ i → t.points[j] = s.points[j]) ∧ t.points[i] = f s.points[i] := by
  rw [h]
  exact ⟨fun j hj => by rw [State.modPoint_at, if_neg (Ne.symm hj)], by rw [State.modPoint_at, if_pos rfl]⟩

theorem ident_val {n : Nat} (i : Fin n) : ident n i.val = some i := by unfold ident; rw [dif_pos i.isLt]

theorem ident_none {n v : Nat} (h : n ≤ v) : ident n v = none := by unfold ident; rw [dif_neg (by omega)]

theorem ident_some {n v : Nat} {i : Fin n} : ident n v = some i ↔ v = i.val := by
  unfold ident
  split
  · rw [Option.some.injEq, Fin.ext_iff]
  · rename_i h
    exact ⟨nofun, fun e => absurd (e ▸ i.isLt) h⟩

theorem okOr_false (content : List Byte) : okOr false content = ⟨.ok, content⟩ := rfl

theorem okOr_eq {p : Prop} [Decidable p] (content : List Byte) : okOr (decide ¬p) content = ⟨if p then .ok else .clamped, content⟩ := by
  unfold okOr
  by_cases h : p <;> simp [h]

/-- What a substitute stored or removed does to the quality (R11). -/
theorem Point.setSubstitute_quality (v : Option Int) (p : Point) :
    (p.quality = .failed → v.isSome = true → (p.setSubstitute v).quality = .subst) ∧
    (p.quality = .subst → v = none → (p.setSubstitute v).quality = .failed) ∧
    ((p.quality = .failed → v = none) → (p.quality = .subst → v.isSome = true) → (p.setSubstitute v).quality = p.quality) := by
  unfold Point.setSubstitute
  cases hq : p.quality <;> cases v <;> simp

end Sys2Proof.Machine

open Sys2Proof Sys2Proof.Machine

/-- Settles O20: each clause is the definition's branch it names; that a starting run keeps the output is `Loop.start_output`. -/
theorem driveRecordAndLoopLaw : Obligations.DriveRecordAndLoopLaw := by
  refine ⟨fun d => ⟨fun v => ⟨fun h => h ▸ d.write_same, fun h => by rw [Drive.write_of_ne h]; exact ⟨rfl, rfl, rfl, rfl, rfl⟩⟩,
    fun _ => rfl, fun clock => ⟨fun h => if_pos h, fun h => if_neg h⟩, rfl, fun h => if_pos h, fun h => if_neg h, fun limit => ?_⟩,
    fun l setpoint measurement error before kp ki => ⟨⟨rfl, rfl, rfl, rfl, rfl, rfl⟩, ⟨rfl, rfl, rfl, fun h0 h1 => clamp_within h0 h1, rfl, rfl⟩,
      rfl, rfl, rfl, rfl, rfl, rfl, fun h0 h1 h2 h3 => l.start_output setpoint measurement error before kp ki h0 h1 h2 h3⟩⟩
  unfold Drive.lost
  cases d.failingFor <;> simp

/-- Settles O16. -/
theorem writePointAndSetSubstitute : Obligations.WritePointAndSetSubstitute := by
  intro tag s hs
  refine ⟨fun point value => ⟨fun h => refuses_of rfl hs fun v _ => ?_, ?_⟩,
    fun point substitute => ⟨fun h => refuses_of rfl hs fun v _ => ?_, ?_⟩⟩
  · show ownWritePoint point value _ = _
    unfold ownWritePoint; rw [ident_none h]; rfl
  · rintro i rfl
    refine ⟨fun h => refuses_of rfl hs fun v _ => ?_, fun h => replies_of rfl hs fun v _ => ?_⟩
    · show ownWritePoint i.val value _ = _
      unfold ownWritePoint; rw [ident_val]; dsimp only; rw [if_neg h]; rfl
    · refine ⟨State.modPoint { s with supervision := v } i (Point.goodRead (s.points[i].cfg.cls.clamp value)
          (decide (s.points[i].cfg.cls.clamp value ≠ value))), ?_, State.modPoint_only _ i _,
        fun t ht _ => modPoint_points_of (ht .points (by decide))⟩
      show ownWritePoint i.val value _ = _
      unfold ownWritePoint; rw [ident_val]; dsimp only; rw [if_pos h, okOr_eq]
  · show ownSetSubstitute point substitute _ = _
    unfold ownSetSubstitute; rw [ident_none h]; rfl
  · rintro i rfl
    have configured (h : s.points[i].cfg.source ≠ .none) : s.points[i].configured = true := decide_eq_true h
    refine ⟨fun h => refuses_of rfl hs fun v _ => ?_, fun h => replies_of rfl hs fun v _ => ?_⟩
    · have unused : s.points[i].configured = false := decide_eq_false (not_not.2 h)
      show ownSetSubstitute i.val substitute _ = _
      unfold ownSetSubstitute; rw [ident_val]; dsimp only; rw [unused]; rfl
    · refine ⟨State.modPoint { s with supervision := v } i (Point.setSubstitute (substitute.map s.points[i].cfg.cls.clamp)), ?_,
        State.modPoint_only _ i _, fun t ht _ => ?_⟩
      · show ownSetSubstitute i.val substitute _ = _
        unfold ownSetSubstitute; rw [ident_val]; dsimp only; rw [configured h, if_pos rfl, okOr_eq]
      · obtain ⟨others, own⟩ := modPoint_points_of (ht .points (by decide))
        rw [own]
        exact ⟨others, rfl, rfl, Point.setSubstitute_quality _ _⟩
end

section
/-! PROOFS. ConfigurePoint (R1 to R3). -/

namespace Sys2Proof.Machine

-- One after the other: see Laws/Frames.lean.
set_option Elab.async false

/-! ### Choices by their codes (R209) -/

theorem Source.choice_eq {n : Nat} {x : Source} : choice Source.choices n = some x ↔ x.code = n := by
  constructor
  · intro h
    have hn : n < 5 := (List.getElem?_eq_some_iff.mp h).1
    interval_cases n <;> (cases h; rfl)
  · rintro rfl
    cases x <;> rfl

theorem ValueClass.choice_eq {n : Nat} {x : ValueClass} : choice ValueClass.choices n = some x ↔ x.code = n := by
  constructor
  · intro h
    have hn : n < 8 := (List.getElem?_eq_some_iff.mp h).1
    interval_cases n <;> (cases h; rfl)
  · rintro rfl
    cases x <;> rfl

theorem choice_of_lt {α : Type} {l : List α} {n : Nat} (h : n < l.length) : ∃ x, choice l n = some x :=
  ⟨l[n], List.getElem?_eq_getElem h⟩

theorem ValueClass.code_inj {x y : ValueClass} (h : x.code = y.code) : x = y :=
  Option.some.inj ((ValueClass.choice_eq.mpr h).symm.trans (ValueClass.choice_eq.mpr rfl))

theorem Source.code_le (x : Source) : x.code ≤ 4 := by cases x <;> decide

theorem ValueClass.code_le (x : ValueClass) : x.code ≤ 7 := by cases x <;> decide

theorem Source.exists_code {n : Nat} (h : n ≤ 4) : ∃ x : Source, x.code = n := by
  obtain ⟨x, hx⟩ := choice_of_lt (l := Source.choices) (n := n) (Nat.lt_succ_of_le h)
  exact ⟨x, Source.choice_eq.mp hx⟩

theorem ValueClass.exists_code {n : Nat} (h : n ≤ 7) : ∃ x : ValueClass, x.code = n := by
  obtain ⟨x, hx⟩ := choice_of_lt (l := ValueClass.choices) (n := n) (Nat.lt_succ_of_le h)
  exact ⟨x, ValueClass.choice_eq.mp hx⟩

/-! ### The check of the fields -/

/-- The ranges of the fields that every source but NONE takes, checked with any source (R1 step 1). -/
def PointFields.Common (q : PointFields) : Prop :=
  (1 ≤ q.staleLimit ∧ q.staleLimit ≤ 65535) ∧ (1 ≤ q.failLimit ∧ q.failLimit ≤ 15) ∧
    (1 ≤ q.recoveryPeriod ∧ q.recoveryPeriod ≤ 255)

/-- The ranges of the fields of a FIELD point. -/
def PointFields.Scaling (q : PointFields) : Prop :=
  (-32768 ≤ q.rawLo ∧ q.rawLo ≤ 65535) ∧ (-32768 ≤ q.rawHi ∧ q.rawHi ≤ 65535) ∧ q.rawLo ≠ q.rawHi ∧
    (-2147483648 ≤ q.engLo ∧ q.engLo ≤ 2147483647) ∧ (-2147483648 ≤ q.engHi ∧ q.engHi ≤ 2147483647) ∧ q.faultBand ≤ 65535

/-- The stored configuration with the fields that every source but NONE takes. -/
def PointFields.shared (q : PointFields) (old : PointConfig) (source : Source) (cls : ValueClass) : PointConfig :=
  { old with source := source, cls := cls, staleLimit := q.staleLimit, failLimit := q.failLimit, recoveryPeriod := q.recoveryPeriod }

/-- What a source asks of its own fields, and what is then stored (R1, R209; log 22). -/
def PointFields.Stores (q : PointFields) (old new : PointConfig) (cls : ValueClass) : Source → Prop
  | .none => new = { old with source := .none }
  | .field => PointFields.Scaling q ∧ new = { PointFields.shared q old .field cls with
      rawLo := q.rawLo, rawHi := q.rawHi, engLo := q.engLo, engHi := q.engHi, faultBand := q.faultBand }
  | .discrete => cls = .level ∧ ∃ line : Fin 24, q.line = line.val ∧ new = { PointFields.shared q old .discrete cls with line := line }
  | .speed => cls = .speed ∧ new = PointFields.shared q old .speed cls
  | .supervisory => new = PointFields.shared q old .supervisory cls

theorem PointFields.check_eq_some {q : PointFields} {old new : PointConfig} : PointFields.check q old = some new ↔
    ∃ source cls, Source.code source = q.source ∧ ValueClass.code cls = q.cls ∧ PointFields.Common q ∧ PointFields.Stores q old new cls source := by
  simp only [PointFields.check, bind, Option.bind_eq_some_iff, require_eq_some, Bool.and_eq_true, withinNat_iff, Source.choice_eq,
    ValueClass.choice_eq]
  refine exists_congr fun source => ?_
  constructor
  · rintro ⟨hs, cls, hc, -, ⟨⟨h1, h2⟩, h3⟩, h⟩
    refine ⟨cls, hs, hc, ⟨h1, h2, h3⟩, ?_⟩
    cases source with
    | none => exact (Option.some.inj h).symm
    | supervisory => exact (Option.some.inj h).symm
    | field =>
      simp only [Option.bind_eq_some_iff, require_eq_some, Bool.and_eq_true, decide_eq_true_eq, within_iff, withinNat_iff] at h
      obtain ⟨-, ⟨⟨⟨⟨⟨a, b⟩, c⟩, d⟩, e⟩, -, f⟩, h⟩ := h
      exact ⟨⟨a, b, c, d, e, f⟩, (Option.some.inj h).symm⟩
    | discrete =>
      simp only [Option.bind_eq_some_iff, require_eq_some, decide_eq_true_eq, ident_some] at h
      obtain ⟨-, hl, line, hline, h⟩ := h
      exact ⟨hl, line, hline, (Option.some.inj h).symm⟩
    | speed =>
      simp only [Option.bind_eq_some_iff, require_eq_some, decide_eq_true_eq] at h
      obtain ⟨-, hl, h⟩ := h
      exact ⟨hl, (Option.some.inj h).symm⟩
  · rintro ⟨cls, hs, hc, ⟨h1, h2, h3⟩, h⟩
    refine ⟨hs, cls, hc, (), ⟨⟨h1, h2⟩, h3⟩, ?_⟩
    cases source with
    | none => exact congrArg some h.symm
    | supervisory => exact congrArg some h.symm
    | field =>
      obtain ⟨⟨a, b, c, d, e, f⟩, rfl⟩ := h
      simp only [Option.bind_eq_some_iff, require_eq_some, Bool.and_eq_true, decide_eq_true_eq, within_iff, withinNat_iff]
      exact ⟨(), ⟨⟨⟨⟨⟨a, b⟩, c⟩, d⟩, e⟩, Nat.zero_le _, f⟩, rfl⟩
    | discrete =>
      obtain ⟨hl, line, hline, rfl⟩ := h
      simp only [Option.bind_eq_some_iff, require_eq_some, decide_eq_true_eq, ident_some]
      exact ⟨(), hl, line, hline, rfl⟩
    | speed =>
      obtain ⟨hl, rfl⟩ := h
      simp only [Option.bind_eq_some_iff, require_eq_some, decide_eq_true_eq]
      exact ⟨(), hl, rfl⟩

/-- The ranges of ConfigurePoint (R1 step 1), by the source's number. -/
def PointFields.InRange (q : PointFields) : Prop :=
  q.source ≤ 4 ∧ q.cls ≤ 7 ∧ (1 ≤ q.staleLimit ∧ q.staleLimit ≤ 65535) ∧ (1 ≤ q.failLimit ∧ q.failLimit ≤ 15) ∧
    (1 ≤ q.recoveryPeriod ∧ q.recoveryPeriod ≤ 255) ∧
    (q.source = 1 → (-32768 ≤ q.rawLo ∧ q.rawLo ≤ 65535) ∧ (-32768 ≤ q.rawHi ∧ q.rawHi ≤ 65535) ∧ q.rawLo ≠ q.rawHi ∧
      (-2147483648 ≤ q.engLo ∧ q.engLo ≤ 2147483647) ∧ (-2147483648 ≤ q.engHi ∧ q.engHi ≤ 2147483647) ∧
      q.faultBand ≤ 65535) ∧
    (q.source = 2 → q.cls = 7 ∧ q.line < 24) ∧ (q.source = 3 → q.cls = 4)

theorem PointFields.check_inRange (q : PointFields) (old : PointConfig) :
    (∃ new, PointFields.check q old = some new) ↔ PointFields.InRange q := by
  simp only [PointFields.check_eq_some]
  unfold PointFields.InRange
  constructor
  · rintro ⟨new, source, cls, hs, hc, ⟨h1, h2, h3⟩, h⟩
    rw [← hs, ← hc]
    refine ⟨source.code_le, cls.code_le, h1, h2, h3, ?_⟩
    cases source with
    | none => exact ⟨nofun, nofun, nofun⟩
    | supervisory => exact ⟨nofun, nofun, nofun⟩
    | field => exact ⟨fun _ => h.1, nofun, nofun⟩
    | discrete =>
      obtain ⟨rfl, line, hl, -⟩ := h
      exact ⟨nofun, fun _ => ⟨rfl, hl ▸ line.isLt⟩, nofun⟩
    | speed =>
      obtain ⟨rfl, -⟩ := h
      exact ⟨nofun, nofun, fun _ => rfl⟩
  · rintro ⟨hs, hc, h1, h2, h3, field, discrete, speed⟩
    obtain ⟨source, hs⟩ := Source.exists_code hs
    obtain ⟨cls, hc⟩ := ValueClass.exists_code hc
    rw [← hs] at field discrete speed
    rw [← hc] at discrete speed
    have found : ∃ new, PointFields.Stores q old new cls source := by
      cases source with
      | none => exact ⟨_, rfl⟩
      | supervisory => exact ⟨_, rfl⟩
      | field => exact ⟨_, field rfl, rfl⟩
      | discrete =>
        obtain ⟨hl, line⟩ := discrete rfl
        exact ⟨_, ValueClass.code_inj hl, ⟨q.line, line⟩, rfl, rfl⟩
      | speed =>
        have hl := speed rfl
        exact ⟨_, ValueClass.code_inj hl, rfl⟩
    obtain ⟨new, hn⟩ := found
    exact ⟨new, source, cls, hs, hc, ⟨h1, h2, h3⟩, hn⟩

theorem PointFields.check_none_iff (q : PointFields) (old : PointConfig) : PointFields.check q old = none ↔ ¬ PointFields.InRange q := by
  rw [← PointFields.check_inRange q old]
  cases PointFields.check q old <;> simp

/-- The fields stored, by the number of the source (R1, R209; log 22). -/
theorem PointFields.check_fields {q : PointFields} {old new : PointConfig} (h : PointFields.check q old = some new) :
    new.source.code = q.source ∧ (q.source ≠ 0 → new.cls.code = q.cls ∧ new.staleLimit = q.staleLimit ∧
      new.failLimit = q.failLimit ∧ new.recoveryPeriod = q.recoveryPeriod) ∧
    (q.source = 1 → new.rawLo = q.rawLo ∧ new.rawHi = q.rawHi ∧ new.engLo = q.engLo ∧ new.engHi = q.engHi ∧
      new.faultBand = q.faultBand) ∧ (q.source = 2 → new.line.val = q.line) ∧
    (q.source = 0 → new = { old with source := .none }) ∧
    (q.source ≠ 1 → new.rawLo = old.rawLo ∧ new.rawHi = old.rawHi ∧ new.engLo = old.engLo ∧
      new.engHi = old.engHi ∧ new.faultBand = old.faultBand) ∧
    (q.source ≠ 2 → new.line = old.line) ∧ new.substitute = old.substitute := by
  obtain ⟨source, cls, hs, hc, -, h⟩ := PointFields.check_eq_some.mp h
  rw [← hs]
  cases source with
  | none => rw [h]; exact ⟨rfl, fun h => absurd rfl h, nofun, nofun, fun _ => rfl, fun _ => ⟨rfl, rfl, rfl, rfl, rfl⟩, fun _ => rfl, rfl⟩
  | field =>
    obtain ⟨-, rfl⟩ := h
    exact ⟨rfl, fun _ => ⟨hc, rfl, rfl, rfl⟩, fun _ => ⟨rfl, rfl, rfl, rfl, rfl⟩, nofun, nofun, fun h => absurd rfl h, fun _ => rfl, rfl⟩
  | discrete =>
    obtain ⟨-, line, hl, rfl⟩ := h
    exact ⟨rfl, fun _ => ⟨hc, rfl, rfl, rfl⟩, nofun, fun _ => hl.symm, nofun, fun _ => ⟨rfl, rfl, rfl, rfl, rfl⟩, fun h => absurd rfl h, rfl⟩
  | speed =>
    obtain ⟨-, rfl⟩ := h
    exact ⟨rfl, fun _ => ⟨hc, rfl, rfl, rfl⟩, nofun, nofun, nofun, fun _ => ⟨rfl, rfl, rfl, rfl, rfl⟩, fun _ => rfl, rfl⟩
  | supervisory =>
    rw [h]
    exact ⟨rfl, fun _ => ⟨hc, rfl, rfl, rfl⟩, nofun, nofun, nofun, fun _ => ⟨rfl, rfl, rfl, rfl, rfl⟩, fun _ => rfl, rfl⟩

/-! ### Structural changes and forbidden bindings -/

theorem structuralPointChange_iff (old new : PointConfig) : structuralPointChange old new = true ↔ old.source ≠ new.source ∨
    old.cls ≠ new.cls ∨ old.line ≠ new.line ∨ old.rawLo ≠ new.rawLo ∨ old.rawHi ≠ new.rawHi ∨ old.engLo ≠ new.engLo ∨
      old.engHi ≠ new.engHi := by
  simp only [structuralPointChange, Bool.or_eq_true, decide_eq_true_eq, or_assoc]

theorem EntryKind.isRead_iff (k : EntryKind) : k.isRead = true ↔ k = .readU16 ∨ k = .readS16 ∨ k = .readU8 ∨ k = .readU16St := by
  cases k <;> decide

theorem pointRead_iff (s : State) (i : Fin 96) : pointRead s i = true ↔
    ∃ l : Fin 3, ∃ e : Entry, ((∃ a ∈ s.lines[l].active, a.entry = e) ∨ e ∈ s.lines[l].staged) ∧
      (e.kind = .readU16 ∨ e.kind = .readS16 ∨ e.kind = .readU8 ∨ e.kind = .readU16St) ∧ e.target = .point i := by
  unfold pointRead
  rw [any_toList]
  refine exists_congr fun l => ?_
  simp only [Bool.or_eq_true, List.any_eq_true, Entry.reads, Bool.and_eq_true, decide_eq_true_eq, EntryKind.isRead_iff]
  constructor
  · rintro (⟨a, ha, h⟩ | ⟨e, he, h⟩)
    · exact ⟨_, .inl ⟨a, ha, rfl⟩, h⟩
    · exact ⟨e, .inr he, h⟩
  · rintro ⟨e, ⟨a, ha, rfl⟩ | he, h⟩
    · exact .inl ⟨a, ha, h⟩
    · exact .inr ⟨e, he, h⟩

theorem any_indexes {n : Nat} (p : Fin n → Bool) : (indexes n).any p = true ↔ ∃ i, p i = true := by
  rw [List.any_eq_true]
  exact ⟨fun ⟨i, _, h⟩ => ⟨i, h⟩, fun ⟨i, h⟩ => ⟨i, mem_indexes i, h⟩⟩

theorem bindingForbidden_iff (s : State) (i : Fin 96) (old new : PointConfig) : bindingForbidden s i old new = true ↔
    (new.source = .discrete ∧ ∃ j : Fin 96, j ≠ i ∧ s.points[j].cfg.source = .discrete ∧ s.points[j].cfg.line = new.line) ∨
    (new.source = .speed ∧ ∃ j : Fin 96, j ≠ i ∧ s.points[j].cfg.source = .speed) ∨
    (((old.source = .field ∧ new.source ≠ .field) ∨
        (old.source = .none ∧ (new.source = .discrete ∨ new.source = .speed ∨ new.source = .supervisory))) ∧
      ∃ l : Fin 3, ∃ e : Entry, ((∃ a ∈ s.lines[l].active, a.entry = e) ∨ e ∈ s.lines[l].staged) ∧
        (e.kind = .readU16 ∨ e.kind = .readS16 ∨ e.kind = .readU8 ∨ e.kind = .readU16St) ∧ e.target = .point i) := by
  unfold bindingForbidden
  simp only [Bool.or_eq_true, Bool.and_eq_true, decide_eq_true_eq, any_indexes, pointRead_iff, or_assoc, and_assoc]

/-! ### What is stored -/

theorem Point.configure_structural {new : PointConfig} {p : Point} (h : structuralPointChange p.cfg new = true) :
    p.configure new = Point.fresh (if p.cfg.cls = new.cls then new else { new with substitute := none }) := by
  unfold Point.configure; rw [if_pos h]

theorem Point.configure_kept {new : PointConfig} {p : Point} (h : structuralPointChange p.cfg new = false) :
    p.configure new = ({ p with cfg := if p.cfg.cls = new.cls then new else { new with substitute := none } } :
      Point).takeFailLimit p.cfg.failLimit := by
  unfold Point.configure; rw [if_neg (by rw [h]; nofun)]

theorem Point.configure_cfg (new : PointConfig) (p : Point) :
    (p.configure new).cfg = if p.cfg.cls = new.cls then new else { new with substitute := none } := by
  cases h : structuralPointChange p.cfg new with
  | true => rw [Point.configure_structural h]; rfl
  | false => rw [Point.configure_kept h, Point.takeFailLimit_cfg]

/-- A new failLimit (R3). -/
theorem Point.takeFailLimit_keeps (old : Nat) (p : Point) : let q := p.takeFailLimit old
    q.value = p.value ∧ q.age = p.age ∧ q.lastRead = p.lastRead ∧ q.lastAttemptOk = p.lastAttemptOk ∧
      q.clampedFlag = p.clampedFlag ∧ q.recoveryTimer = p.recoveryTimer ∧
      (old = p.cfg.failLimit → q.failCount = p.failCount ∧ q.quality = p.quality) ∧
      (old ≠ p.cfg.failLimit →
        (p.quality.isFailed = true → q.failCount = p.cfg.failLimit ∧ q.quality = p.quality) ∧
        (p.quality.isFailed = false → p.cfg.failLimit ≤ p.failCount →
          q.failCount = p.cfg.failLimit ∧ q.quality = if p.cfg.substitute.isSome then .subst else .failed) ∧
        (p.quality.isFailed = false → p.failCount < p.cfg.failLimit → q.failCount = p.failCount ∧ q.quality = p.quality)) := by
  unfold Point.takeFailLimit
  dsimp only
  split
  · rename_i h
    exact ⟨rfl, rfl, rfl, rfl, rfl, rfl, fun _ => ⟨rfl, rfl⟩, fun hn => absurd h hn⟩
  · rename_i h
    split
    · rename_i hf
      exact ⟨rfl, rfl, rfl, rfl, rfl, rfl, fun e => absurd e h, fun _ => ⟨fun _ => ⟨rfl, rfl⟩, fun e => absurd (hf.symm.trans e) nofun,
        fun e => absurd (hf.symm.trans e) nofun⟩⟩
    · rename_i hf
      split
      · rename_i hl
        exact ⟨rfl, rfl, rfl, rfl, rfl, rfl, fun e => absurd e h, fun _ => ⟨fun e => absurd e hf, fun _ _ => ⟨rfl, rfl⟩,
          fun _ hc => absurd hl (by omega)⟩⟩
      · rename_i hl
        exact ⟨rfl, rfl, rfl, rfl, rfl, rfl, fun e => absurd e h, fun _ => ⟨fun e => absurd e hf, fun _ hc => absurd hc hl,
          fun _ _ => ⟨rfl, rfl⟩⟩⟩

/-! ### The request -/

theorem structural_passes {s : State} {i : Fin 96} {new : PointConfig}
    (h : s.phase = .run → structuralPointChange s.points[i].cfg new = false) :
    (decide (s.phase = .run) && structuralPointChange s.points[i].cfg new) = false := by
  by_cases hr : s.phase = .run
  · rw [h hr, Bool.and_false]
  · rw [decide_eq_false hr]; rfl

section
variable {q : PointFields} {s : State} {i : Fin 96} (hi : q.point = i.val)
include hi

theorem ownConfigurePoint_badField (h : PointFields.check q s.points[i].cfg = none) :
    ownConfigurePoint q s = (s, ⟨.badField, []⟩) := by
  unfold ownConfigurePoint
  rw [hi, ident_val]; dsimp only; rw [h]; rfl

variable {new : PointConfig} (hc : PointFields.check q s.points[i].cfg = some new)
include hc

theorem ownConfigurePoint_state (hr : s.phase = .run) (h : structuralPointChange s.points[i].cfg new = true) :
    ownConfigurePoint q s = (s, ⟨.state, []⟩) := by
  unfold ownConfigurePoint
  rw [hi, ident_val]; dsimp only; rw [hc]; dsimp only
  rw [decide_eq_true hr, h]; rfl

theorem ownConfigurePoint_inUse (h : s.phase = .run → structuralPointChange s.points[i].cfg new = false)
    (hb : bindingForbidden s i s.points[i].cfg new = true) : ownConfigurePoint q s = (s, ⟨.inUse, []⟩) := by
  have passes := structural_passes h
  unfold ownConfigurePoint
  rw [hi, ident_val]; dsimp only; rw [hc]; dsimp only
  rw [passes, if_neg (by nofun), if_pos hb]; rfl

theorem ownConfigurePoint_ok (h : s.phase = .run → structuralPointChange s.points[i].cfg new = false)
    (hb : bindingForbidden s i s.points[i].cfg new = false) :
    ownConfigurePoint q s = (s.modPoint i (Point.configure new),
      ⟨.ok, Wire.putPointConfig (s.points[i].configure new).cfg.fields⟩) := by
  have passes := structural_passes h
  unfold ownConfigurePoint
  rw [hi, ident_val]; dsimp only; rw [hc]; dsimp only
  rw [passes, if_neg (by nofun), if_neg (by rw [hb]; nofun), State.modPoint_at, if_pos rfl]; rfl

end

end Sys2Proof.Machine

open Sys2Proof Sys2Proof.Machine

/-- Settles O15: the check by the source's number, then the owner's four answers in the order of R1. -/
theorem configurePointForms : Obligations.ConfigurePointForms := by
  intro tag q s hs
  refine ⟨fun h => refuses_of rfl hs fun v _ => ?_, fun i hi => ?_⟩
  · show ownConfigurePoint q _ = _
    unfold ownConfigurePoint; rw [ident_none h]; rfl
  refine ⟨fun h => refuses_of rfl hs fun v _ => by exact ownConfigurePoint_badField (s := { s with supervision := v }) hi h, PointFields.check_none_iff q _, fun new hc => ?_⟩
  refine ⟨PointFields.check_fields hc, structuralPointChange_iff _ _, bindingForbidden_iff _ _ _ _,
    fun hr h => refuses_of rfl hs fun v _ => by exact ownConfigurePoint_state (s := { s with supervision := v }) hi hc hr h,
    fun h hb => refuses_of rfl hs fun v _ => by exact ownConfigurePoint_inUse (s := { s with supervision := v }) hi hc h hb,
    fun h hb => ?_⟩
  have cfg := s.points[i].configure_cfg new
  refine replies_of rfl hs fun v _ => ⟨State.modPoint { s with supervision := v } i (Point.configure new), ?_,
    State.modPoint_only _ i _, fun t ht _ => ?_⟩
  · rw [← cfg]
    exact ownConfigurePoint_ok (s := { s with supervision := v }) hi hc h hb
  · obtain ⟨others, own⟩ := modPoint_points_of (ht .points (by decide))
    rw [own]
    refine ⟨others, cfg, fun hn => (Point.configure_structural hn).trans rfl, fun hn => ?_⟩
    have same : s.points[i].cfg.cls = new.cls := by
      by_contra hne
      have := (structuralPointChange_iff s.points[i].cfg new).mpr (.inr (.inl hne))
      rw [hn] at this
      cases this
    have kept := Point.takeFailLimit_keeps s.points[i].cfg.failLimit { s.points[i] with cfg := new }
    change (s.points[i].configure new).value = _ ∧ (s.points[i].configure new).age = _ ∧ _
    rw [Point.configure_kept hn, if_pos same]
    exact kept
end

section
/-! PROOFS. The timers of the point table (R8 to R10, R13, R22). -/

namespace Sys2Proof.Machine

-- One after the other: see Laws/Frames.lean.
set_option Elab.async false

/-! ### Growing old, and reading a discrete line (R8, R13) -/

theorem Point.growOld_kept (p : Point) : p.growOld.cfg = p.cfg ∧ p.growOld.failCount = p.failCount ∧
    p.growOld.recoveryTimer = p.recoveryTimer ∧ p.growOld.lastRead = p.lastRead.map (fun r => { r with age := satSucc 65535 r.age }) ∧
    p.growOld.value = p.value ∧ p.growOld.lastAttemptOk = p.lastAttemptOk ∧ p.growOld.clampedFlag = p.clampedFlag := by
  unfold Point.growOld
  dsimp only
  split
  · split <;> exact ⟨rfl, rfl, rfl, rfl, rfl, rfl, rfl⟩
  · exact ⟨rfl, rfl, rfl, rfl, rfl, rfl, rfl⟩

theorem Point.growOld_unread {p : Point} (h : p.quality = .unset ∨ p.cfg.source = .none) :
    p.growOld.age = p.age ∧ p.growOld.quality = p.quality := by
  unfold Point.growOld Point.configured
  dsimp only
  rw [if_neg (by simpa [or_comm, imp_iff_not_or] using h)]
  exact ⟨rfl, rfl⟩

theorem Point.growOld_read {p : Point} (h : p.quality ≠ .unset) (hs : p.cfg.source ≠ .none) :
    p.growOld.age = satSucc 65535 p.age ∧
      (((p.quality = .good ∨ p.quality = .held) ∧ p.cfg.staleLimit < satSucc 65535 p.age) → p.growOld.quality = .stale) ∧
      (¬ ((p.quality = .good ∨ p.quality = .held) ∧ p.cfg.staleLimit < satSucc 65535 p.age) → p.growOld.quality = p.quality) := by
  unfold Point.growOld Point.configured
  dsimp only
  rw [if_pos (by simp [h, hs])]
  split
  · rename_i ho
    exact ⟨rfl, fun _ => rfl, fun hn => absurd ho hn⟩
  · rename_i ho
    exact ⟨rfl, fun hn => absurd hn ho, fun _ => rfl⟩

/-- A reading that is not older than a second is no reason to call the point STALE. -/
theorem Point.growOld_young {p : Point} (h : p.quality = .good) (hs : p.cfg.source ≠ .none) (ha : p.age = 0) (hl : 1 ≤ p.cfg.staleLimit) :
    p.growOld.quality = .good ∧ p.growOld.age = 1 := by
  obtain ⟨age, -, young⟩ := Point.growOld_read (p := p) (by rw [h]; nofun) hs
  have one : satSucc 65535 p.age = 1 := by rw [ha]; rfl
  rw [one] at age young
  exact ⟨(young fun ho => absurd ho.2 (by omega)).trans h, age⟩

theorem Point.goodRead_kept (v : Int) (c : Bool) (p : Point) : (p.goodRead v c).cfg = p.cfg ∧
    (p.goodRead v c).failCount = p.failCount ∧ (p.goodRead v c).recoveryTimer = p.recoveryTimer ∧
    (p.goodRead v c).lastRead = some ⟨v, 0, c⟩ ∧ (p.goodRead v c).lastAttemptOk = true ∧ (p.goodRead v c).clampedFlag = c := by
  unfold Point.goodRead
  dsimp only
  split <;> exact ⟨rfl, rfl, rfl, rfl, rfl, rfl⟩

theorem Point.goodRead_taken {p : Point} (v : Int) (c : Bool) (h : p.quality.isFailed = false) :
    (p.goodRead v c).quality = .good ∧ (p.goodRead v c).value = some v ∧ (p.goodRead v c).age = 0 := by
  rw [Point.goodRead_of_not_failed v c (by rw [h]; nofun)]
  exact ⟨rfl, rfl, rfl⟩

theorem agePoint_field {p : Point} (level : Bool) (h : p.cfg.source ≠ .discrete) : agePoint level p = p.growOld := by
  have h' : p.growOld.cfg.source ≠ .discrete := by rw [p.growOld_kept.1]; exact h
  unfold agePoint
  dsimp only
  rw [if_neg h, if_neg h', ite_self]

/-- A DISCRETE point reads its line and grows old, in one order or the other (log 10). -/
theorem agePoint_discrete {p : Point} (level : Bool) (h : p.cfg.source = .discrete) :
    agePoint level p = (p.goodRead level.toInt false).growOld ∨ agePoint level p = p.growOld.goodRead level.toInt false := by
  have h' : p.growOld.cfg.source = .discrete := by rw [p.growOld_kept.1]; exact h
  unfold agePoint
  dsimp only
  rw [if_pos h, if_pos h']
  split
  · exact .inl rfl
  · exact .inr rfl

theorem Point.growOld_isFailed {p : Point} : p.growOld.quality.isFailed = p.quality.isFailed := by
  by_cases h : p.quality = .unset ∨ p.cfg.source = .none
  · rw [(Point.growOld_unread h).2]
  · rw [not_or] at h
    obtain ⟨-, stale, same⟩ := Point.growOld_read h.1 h.2
    by_cases ho : (p.quality = .good ∨ p.quality = .held) ∧ p.cfg.staleLimit < satSucc 65535 p.age
    · rw [stale ho]
      obtain ⟨h | h, -⟩ := ho <;> rw [h] <;> rfl
    · rw [same ho]

/-- What an age timer expiry does to a DISCRETE point. -/
theorem agePoint_reads {p : Point} (level : Bool) (h : p.cfg.source = .discrete) : let q := agePoint level p
    q.cfg = p.cfg ∧ q.failCount = p.failCount ∧ q.recoveryTimer = p.recoveryTimer ∧ q.lastAttemptOk = true ∧ q.clampedFlag = false ∧
      (q.lastRead = some ⟨level.toInt, 0, false⟩ ∨ q.lastRead = some ⟨level.toInt, 1, false⟩) ∧
      (p.quality.isFailed = false → 1 ≤ p.cfg.staleLimit → q.quality = .good ∧ q.value = some level.toInt ∧ (q.age = 0 ∨ q.age = 1)) := by
  dsimp only
  obtain e | e := agePoint_discrete level h <;> rw [e]
  · obtain ⟨hc, hf, hr, hl, ho, hcl⟩ := Point.goodRead_kept level.toInt false p
    obtain ⟨kc, kf, kr, kl, kv, ko, kcl⟩ := (p.goodRead level.toInt false).growOld_kept
    refine ⟨kc.trans hc, kf.trans hf, kr.trans hr, ko.trans ho, kcl.trans hcl, .inr (by rw [kl, hl]; rfl), fun hq hs => ?_⟩
    obtain ⟨tq, tv, ta⟩ := Point.goodRead_taken level.toInt false hq
    obtain ⟨yq, ya⟩ := Point.growOld_young tq (by rw [hc, h]; nofun) ta (by rw [hc]; exact hs)
    exact ⟨yq, kv.trans tv, .inr ya⟩
  · obtain ⟨hc, hf, hr, hl, ho, hcl⟩ := Point.goodRead_kept level.toInt false p.growOld
    obtain ⟨kc, kf, kr, -⟩ := p.growOld_kept
    refine ⟨hc.trans kc, hf.trans kf, hr.trans kr, ho, hcl, .inl hl, fun hq _ => ?_⟩
    obtain ⟨tq, tv, ta⟩ := Point.goodRead_taken (p := p.growOld) level.toInt false (by rw [Point.growOld_isFailed]; exact hq)
    exact ⟨tq, tv, .inl ta⟩

/-! ### The timers -/

theorem ageTimerExpiry_idle {s : State} (h : s.ageTimer = none) : ageTimerExpiry s = s := by
  unfold ageTimerExpiry; rw [h]

theorem ageTimerExpiry_running {s : State} (h : s.ageTimer.isSome = true) : ageTimerExpiry s =
    { s with ageTimer := some 100, points := modifyAll s.points (fun _ p => agePoint s.discretes[p.cfg.line].level p) } := by
  obtain ⟨n, h⟩ := Option.isSome_iff_exists.mp h
  unfold ageTimerExpiry; rw [h]

theorem secondTimerExpiry_idle {s : State} (h : s.secondTimer = none) : secondTimerExpiry s = s := by
  unfold secondTimerExpiry; rw [h]

theorem secondTimerExpiry_running {s : State} (h : s.secondTimer.isSome = true) : secondTimerExpiry s =
    { s with secondTimer := some 1000, drives := modifyAll s.drives (fun _ d =>
        if d.delivery = .failing then { d with failingFor := d.failingFor.map (satSucc 65535) } else d) } := by
  obtain ⟨n, h⟩ := Option.isSome_iff_exists.mp h
  unfold secondTimerExpiry; rw [h]

theorem recoveryTimerExpiry_idle {i : Fin 96} {s : State} (h : s.points[i].recoveryTimer = none) : recoveryTimerExpiry i s = s := by
  unfold recoveryTimerExpiry; rw [h]

theorem recoveryTimerExpiry_running {i : Fin 96} {s : State} (h : s.points[i].recoveryTimer.isSome = true) :
    recoveryTimerExpiry i s = s.modPoint i Point.recoveryExpiry := by
  obtain ⟨n, h⟩ := Option.isSome_iff_exists.mp h
  unfold recoveryTimerExpiry; rw [h]

/-- R9, R10. -/
theorem Point.recoveryExpiry_cases (p : Point) :
    (p.lastAttemptOk = false → p.recoveryExpiry = { p with recoveryTimer := some (p.cfg.recoveryPeriod * 1000) }) ∧
    (p.lastAttemptOk = true → 1 < p.failCount →
      p.recoveryExpiry = { p with failCount := p.failCount - 1, recoveryTimer := some (p.cfg.recoveryPeriod * 1000) }) ∧
    (p.lastAttemptOk = true → p.failCount = 1 → p.quality.isFailed = false →
      p.recoveryExpiry = { p with failCount := 0, recoveryTimer := none }) ∧
    (∀ r, p.lastAttemptOk = true → p.failCount = 1 → p.quality.isFailed = true → p.lastRead = some r →
      p.recoveryExpiry = { p with failCount := 0, recoveryTimer := none, value := some r.value, age := r.age,
                                  clampedFlag := r.clamped, quality := if p.cfg.staleLimit < r.age then .stale else .good }) := by
  unfold Point.recoveryExpiry Point.recover
  dsimp only
  refine ⟨fun h => ?_, fun h hc => ?_, fun h hc hq => ?_, fun r h hc hq hr => ?_⟩
  · rw [h]; rfl
  · rw [if_pos h, if_neg (by omega)]
  · rw [if_pos h, if_pos (by omega), hq, hc]; rfl
  · rw [if_pos h, if_pos (by omega), if_pos hq, hr, hc]

end Sys2Proof.Machine

open Sys2Proof Sys2Proof.Machine

/-- Settles O18. -/
theorem pointTableTimers : Obligations.PointTableTimers := by
  intro s hs
  refine ⟨fun h => idles_of hs (fun _ => rfl) (ageTimerExpiry_idle h), fun h => ?_,
    fun h => idles_of hs (fun _ => rfl) (secondTimerExpiry_idle h), fun h => ?_,
    fun i => ⟨fun h => idles_of hs (fun _ => rfl) (recoveryTimerExpiry_idle h), fun h => ?_⟩⟩
  · refine happens_of hs (fun _ => rfl) (ageTimerExpiry_only s) fun t ht _ => ?_
    have timers := ht .tableTimers (by decide)
    have points : t.points = _ := ht .points (by decide)
    rw [ageTimerExpiry_running h] at timers points
    refine ⟨timers.1, timers.2, fun i => ?_⟩
    have own : t.points[i] = agePoint s.discretes[s.points[i].cfg.line].level s.points[i] := by rw [points, modifyAll_get]
    by_cases hd : s.points[i].cfg.source = .discrete
    · obtain ⟨hc, hf, hr, ho, hcl, hl, taken⟩ := agePoint_reads s.discretes[s.points[i].cfg.line].level hd
      rw [own]
      exact ⟨hc, hf, hr, fun hn => absurd hd hn, fun _ => ⟨ho, hcl, hl, taken⟩⟩
    · obtain ⟨hc, hf, hr, hl, hv, ho, hcl⟩ := s.points[i].growOld_kept
      rw [own, agePoint_field _ hd]
      refine ⟨hc, hf, hr, fun _ => ⟨hl, hv, ho, hcl, Point.growOld_unread, fun hq hn => ?_⟩, fun e => absurd e hd⟩
      obtain ⟨age, stale, same⟩ := Point.growOld_read hq hn
      rw [age]
      exact ⟨rfl, stale, same⟩
  · refine happens_of hs (fun _ => rfl) (secondTimerExpiry_only s) fun t ht _ => ?_
    have timers := ht .tableTimers (by decide)
    have drives : t.drives = _ := ht .drives (by decide)
    rw [secondTimerExpiry_running h] at timers drives
    refine ⟨timers.2, timers.1, fun d => ?_⟩
    rw [drives, modifyAll_get]
    exact ⟨fun h => if_neg h, fun h => if_pos h⟩
  · refine happens_of hs (fun _ => rfl) (recoveryTimerExpiry_only i s) fun t ht _ => ?_
    have points := ht .points (by decide)
    rw [recoveryTimerExpiry_running h] at points
    obtain ⟨others, own⟩ := modPoint_points_of points
    rw [own]
    exact ⟨others, s.points[i].recoveryExpiry_cases⟩
end

section
/-! PROOFS. The rules of the wells: what an operation of one well does to that well and its drive, and that it leaves the others alone;
with them the plant clock and the two supervision timers (R208, R213, R214). -/

namespace Sys2Proof.Machine

-- One after the other: see Laws/Frames.lean.
set_option Elab.async false

/-! ### A run over every index, seen at one of them -/

theorem indexes_nodup (n : Nat) : (indexes n).Nodup := List.nodup_ofFn.mpr fun _ _ h => h

section
variable {σ β : Type} {n : Nat} (view : Fin n → σ → β) (Same : σ → Prop) (f : Fin n → σ → σ)
  (others : ∀ j k a, j ≠ k → view k (f j a) = view k a) (same : ∀ j a, Same a → Same (f j a))
include others

theorem foldl_view_absent (k : Fin n) (l : List (Fin n)) (hk : k ∉ l) (s : σ) :
    view k (l.foldl (fun acc i => f i acc) s) = view k s := by
  induction l generalizing s with
  | nil => rfl
  | cons j l ih =>
    rw [List.mem_cons, not_or] at hk
    exact (ih hk.2 (f j s)).trans (others j k s (Ne.symm hk.1))

include same

/-- What a run over every index does at one of them: its own turn, taken in a state the other turns have left alike. -/
theorem forEach_turn (s : σ) (hs : Same s) (k : Fin n) :
    ∃ a, Same a ∧ view k a = view k s ∧ view k (forEach n f s) = view k (f k a) := by
  have go : ∀ l : List (Fin n), l.Nodup → k ∈ l → ∀ s, Same s →
      ∃ a, Same a ∧ view k a = view k s ∧ view k (l.foldl (fun acc i => f i acc) s) = view k (f k a) := by
    intro l
    induction l with
    | nil => exact fun _ hk => absurd hk List.not_mem_nil
    | cons j l ih =>
      intro nodup hk s hs
      obtain ⟨fresh, nodup⟩ := List.nodup_cons.mp nodup
      by_cases hj : k = j
      · exact ⟨s, hs, rfl, by rw [hj] at *; exact foldl_view_absent view f others j l fresh (f j s)⟩
      · obtain ⟨a, ha, before, after⟩ := ih nodup ((List.mem_cons.mp hk).resolve_left hj) (f j s) (same j s hs)
        exact ⟨a, ha, before.trans (others j k s (Ne.symm hj)), after⟩
  exact go (indexes n) (indexes_nodup n) (mem_indexes k) s hs

end

/-! ### Operations of one well -/

/-- An operation of well k touches that well and its drive alone. -/
structure OfWell (k : Fin 8) (s t : State) : Prop where
  only : Only [.wells, .drives] s t
  wells : ∀ j : Fin 8, j ≠ k → t.wells[j] = s.wells[j]
  drives : ∀ d : Fin 15, d ≠ wellDrive k → t.drives[d] = s.drives[d]

namespace OfWell

theorem refl (k : Fin 8) (s : State) : OfWell k s s := ⟨.refl _ _, fun _ _ => rfl, fun _ _ => rfl⟩

theorem trans {k : Fin 8} {a b c : State} (h : OfWell k a b) (i : OfWell k b c) : OfWell k a c :=
  ⟨h.only.trans i.only, fun j hj => (i.wells j hj).trans (h.wells j hj), fun d hd => (i.drives d hd).trans (h.drives d hd)⟩

theorem ite {k : Fin 8} {a b c : State} {p : Prop} [Decidable p] (h : OfWell k a b) (i : OfWell k a c) :
    OfWell k a (if p then b else c) := by split <;> assumption

theorem modWell (k : Fin 8) (f : Well → Well) (s : State) : OfWell k s (s.modWell k f) :=
  ⟨(s.modWell_only k f).mono (by decide), fun j hj => by rw [State.modWell_at, if_neg (Ne.symm hj)], fun _ _ => rfl⟩

theorem writeDemand (k : Fin 8) (v : Int) (s : State) : OfWell k s (writeDemand k v s) :=
  ⟨(writeDemand_only k v s).mono (by decide), fun _ _ => rfl,
    fun d hd => (writeDrive_at _ d v s).trans (if_neg (Ne.symm hd))⟩

end OfWell

/-- A passage of a well that writes its demand. -/
def passWell (k : Fin 8) (f : Well → Well) (v : Int) (s : State) : State := writeDemand k v (s.modWell k f)

theorem passWell_ofWell (k : Fin 8) (f : Well → Well) (v : Int) (s : State) : OfWell k s (passWell k f v s) :=
  (OfWell.modWell k f s).trans (.writeDemand k v _)

theorem passWell_well (k : Fin 8) (f : Well → Well) (v : Int) (s : State) : (passWell k f v s).wells[k] = f s.wells[k] := by
  show (s.modWell k f).wells[k] = _
  rw [State.modWell_at, if_pos rfl]

theorem passWell_drive (k : Fin 8) (f : Well → Well) (v : Int) (s : State) :
    (passWell k f v s).drives[wellDrive k] = s.drives[wellDrive k].write v := by
  unfold passWell writeDemand
  rw [writeDrive_at, if_pos rfl]; rfl

theorem modWell_well (k : Fin 8) (f : Well → Well) (s : State) : (s.modWell k f).wells[k] = f s.wells[k] := by
  rw [State.modWell_at, if_pos rfl]

theorem tripWell_eq (k : Fin 8) (c : WellTripCause) (s : State) : tripWell k c s = passWell k (Well.trip s.clock c) 0 s := rfl

/-- A well that stops to OFF (R120). -/
theorem Well.enterStopping_off (closed : Bool) (w : Well) : w.enterStopping .off none closed = { w with
    state := if closed then .stopping else .off, stopTo := if closed then some .off else none, suspendCause := none,
    waitReason := none, offFor := some 0, floorTimer := 0, startTimer := none,
    stopTimer := if closed then some (w.cfg.stopTimeout * 1000) else none } := by
  cases closed <;> rfl

/-! ### STOP (R119) -/

theorem stopWell_rest {k : Fin 8} {s : State} (h : s.wells[k].state = .off ∨ s.wells[k].state = .tripped ∨ s.wells[k].state = .lockedOut) :
    stopWell k s = s := by
  unfold stopWell
  rcases h with h | h | h <;> rw [h]

/-- STOP of a well that waits or is suspended. -/
def Well.stopped (w : Well) : Well :=
  { w with state := .off, waitReason := none, suspendCause := if w.state = .suspended then none else w.suspendCause }

theorem stopWell_waiting {k : Fin 8} {s : State} (h : s.wells[k].state = .waitStart ∨ s.wells[k].state = .suspended) :
    (stopWell k s).wells[k] = s.wells[k].stopped ∧ Only [.wells] s (stopWell k s) := by
  unfold stopWell Well.stopped
  rcases h with h | h <;> rw [h] <;> exact ⟨by rw [modWell_well]; rfl, s.modWell_only k _⟩

theorem stopWell_stopping {k : Fin 8} {s : State} (h : s.wells[k].state = .stopping) :
    stopWell k s = s.modWell k (fun w => { w with stopTo := some .off, suspendCause := none }) := by
  unfold stopWell; rw [h]

theorem stopWell_energised {k : Fin 8} {s : State} (h : s.wells[k].state.energised = true) :
    stopWell k s = passWell k (Well.enterStopping .off none (feedback s k)) 0 s := by
  unfold stopWell
  cases e : s.wells[k].state <;> rw [e] at h <;> first | rfl | cases h

theorem stopWell_ofWell (k : Fin 8) (s : State) : OfWell k s (stopWell k s) := by
  unfold stopWell
  split
  · exact .refl k s
  · exact .refl k s
  · exact .refl k s
  · exact .modWell k _ s
  · exact passWell_ofWell k _ _ s
  · exact passWell_ofWell k _ _ s
  · exact passWell_ofWell k _ _ s
  · exact passWell_ofWell k _ _ s
  · exact .modWell k _ s
  · exact .modWell k _ s

/-! ### The work of every well in turn -/

/-- A run over the wells does to each well and its drive what its own turn does. -/
theorem forEach_wells {f : Fin 8 → State → State} (hf : ∀ k a, OfWell k a (f k a)) (s : State) :
    Only [.wells, .drives] s (forEach 8 f s) ∧ (∀ d : Fin 15, 8 ≤ d.val → (forEach 8 f s).drives[d] = s.drives[d]) ∧
    ∀ k : Fin 8, ∃ a, Only [.wells, .drives] s a ∧ a.wells[k] = s.wells[k] ∧ a.drives[wellDrive k] = s.drives[wellDrive k] ∧
      (forEach 8 f s).wells[k] = (f k a).wells[k] ∧ (forEach 8 f s).drives[wellDrive k] = (f k a).drives[wellDrive k] := by
  refine ⟨.forEach 8 f (fun k a => (hf k a).only) s, fun d hd => ?_, fun k => ?_⟩
  · refine forEach_rel (fun a b : State => b.drives[d] = a.drives[d]) (fun _ => rfl) (fun _ _ _ h k => k.trans h) 8 f (fun k a => ?_) s
    exact (hf k a).drives d (wellDrive_ne hd).symm
  · obtain ⟨a, only, before, after⟩ := forEach_turn (fun k (a : State) => (a.wells[k], a.drives[wellDrive k]))
      (fun a => Only [.wells, .drives] s a) f
      (fun j k a h => Prod.ext ((hf j a).wells k h.symm) ((hf j a).drives _ fun e => h (wellDrive_inj.mp e).symm))
      (fun j a h => h.trans (hf j a).only) s (.refl _ s) k
    exact ⟨a, only, congrArg Prod.fst before, congrArg Prod.snd before, congrArg Prod.fst after, congrArg Prod.snd after⟩

/-- The work of the wells does not change what a well sees on its feedback line. -/
theorem Only.feedback {qs : List Part} {s t : State} (h : Only qs s t) (hd : Part.discretes ∉ qs := by decide) (k : Fin 8) :
    feedback t k = feedback s k := by
  have e : t.discretes = s.discretes := h .discretes hd
  unfold Machine.feedback
  rw [e]

/-- What SAFE_STOP does to a well and its drive (R115, R214). -/
theorem stopAllWells_at (s : State) (k : Fin 8) : let t := stopAllWells s
    (s.wells[k].state = .off ∨ s.wells[k].state = .tripped ∨ s.wells[k].state = .lockedOut ∨ s.wells[k].state = .stopping →
      t.wells[k] = s.wells[k] ∧ t.drives[wellDrive k] = s.drives[wellDrive k]) ∧
    (s.wells[k].state = .waitStart ∨ s.wells[k].state = .suspended →
      t.wells[k] = s.wells[k].stopped ∧ t.drives[wellDrive k] = s.drives[wellDrive k]) ∧
    (s.wells[k].state.energised = true →
      t.wells[k] = s.wells[k].enterStopping .off none (feedback s k) ∧
        t.drives[wellDrive k] = s.drives[wellDrive k].write 0) := by
  obtain ⟨-, -, turn⟩ := forEach_wells
    (f := fun k s => if s.wells[k].state.atRest || decide (s.wells[k].state = .stopping) then s else stopWell k s)
    (fun k a => .ite (.refl k a) (stopWell_ofWell k a)) s
  obtain ⟨a, only, well, drive, after, driveAfter⟩ := turn k
  dsimp only [stopAllWells]
  rw [after, driveAfter, ← well, ← drive, ← only.feedback (by decide) k]
  refine ⟨fun h => ?_, fun h => ?_, fun h => ?_⟩
  · have rest : (a.wells[k].state.atRest || decide (a.wells[k].state = .stopping)) = true := by
      rcases h with h | h | h | h <;> rw [h] <;> rfl
    rw [if_pos rest]
    exact ⟨rfl, rfl⟩
  · have works : (a.wells[k].state.atRest || decide (a.wells[k].state = .stopping)) = false := by
      rcases h with h | h <;> rw [h] <;> rfl
    rw [if_neg (by rw [works]; nofun)]
    obtain ⟨stopped, only⟩ := stopWell_waiting h
    have drives : (stopWell k a).drives = a.drives := only .drives (by decide)
    exact ⟨stopped, by rw [drives]⟩
  · have works : (a.wells[k].state.atRest || decide (a.wells[k].state = .stopping)) = false := by
      cases e : a.wells[k].state <;> rw [e] at h <;> first | rfl | cases h
    rw [if_neg (by rw [works]; nofun), stopWell_energised h]
    exact ⟨passWell_well .., passWell_drive ..⟩

/-! ### Writes of the grant (R156) -/

theorem recomputeGrant_drive (d : Fin 15) (s : State) : (recomputeGrant s).drives[d] =
    if d = extractionDrive ∧ s.turbine.state.energised = true then s.drives[extractionDrive].write s.turbine.settleGrant.grant.valveDemand
    else s.drives[d] := by
  unfold recomputeGrant
  dsimp only
  by_cases he : s.turbine.state.energised = true
  · rw [if_pos (show (s.modTurbine Turbine.settleGrant).turbine.state.energised = true from he), writeDrive_at]
    by_cases hd : d = extractionDrive
    · subst hd; rw [if_pos rfl, if_pos ⟨rfl, he⟩]; rfl
    · rw [if_neg (Ne.symm hd), if_neg (fun h => hd h.1)]; rfl
  · rw [if_neg (show ¬ (s.modTurbine Turbine.settleGrant).turbine.state.energised = true from he), if_neg (fun h => he h.2)]; rfl

/-- Outside LOADED the grant is 0, and so is its valve demand (R156). -/
theorem Turbine.settleGrant_unloaded {t : Turbine} (h : t.state ≠ .loaded) (hm : 1 ≤ t.cfg.extractionMax) :
    t.settleGrant = { t with grant := ⟨t.grant.request, 0, 0⟩ } := by
  have grant : grantOf t = 0 := if_neg fun k => h k.1
  unfold Turbine.settleGrant valveOf
  rw [grant]
  have : roundHalfUp (0 * 10000) t.cfg.extractionMax = 0 := by
    unfold roundHalfUp
    rw [Int.zero_mul, Int.mul_zero, Int.zero_add]
    exact Int.ediv_eq_zero_of_lt (by omega) (by omega)
  rw [this]

/-- UNLOAD of a LOADED turbine (R149). -/
theorem Turbine.startUnload_eq (t : Turbine) : t.startUnload = { t with
    state := .unloading, openCommanded := false,
    powerSetpoint := if t.mode = .header then t.powerView.getD t.cfg.minLoad else t.powerSetpoint,
    pendingLoop := if t.mode = .header then some .power else t.pendingLoop } := by
  unfold Turbine.startUnload
  cases t.mode <;> rfl

theorem unloadTurbine_loaded {s : State} (h : s.turbine.state = .loaded) (hm : 1 ≤ s.turbine.cfg.extractionMax) :
    (unloadTurbine s).turbine = { s.turbine.startUnload with grant := ⟨s.turbine.grant.request, 0, 0⟩ } ∧
      ∀ d : Fin 15, (unloadTurbine s).drives[d] = if d = extractionDrive then s.drives[extractionDrive].write 0 else s.drives[d] := by
  have e : unloadTurbine s = recomputeGrant (s.modTurbine Turbine.startUnload) := by unfold unloadTurbine; rw [h]; rfl
  obtain ⟨grant, cfg, state⟩ := s.turbine.startUnload_keeps
  have settled := Turbine.settleGrant_unloaded (t := s.turbine.startUnload) (by rw [state]; nofun) (by rw [cfg]; exact hm)
  rw [grant] at settled
  rw [e]
  refine ⟨(recomputeGrant_turbine _).trans settled, fun d => ?_⟩
  rw [recomputeGrant_drive]
  have on : (s.modTurbine Turbine.startUnload).turbine.state.energised = true := by
    rw [State.modTurbine_turbine, state]; rfl
  simp only [on, and_true]
  rw [State.modTurbine_turbine, settled]; rfl

/-! ### A post seen from the end of the event -/

theorem targetDefault_congr {s t : State} (hw : t.wells = s.wells) (hh : t.heating = s.heating) (g : Target) :
    targetDefault t g = targetDefault s g := by cases g <;> simp only [targetDefault, hw, hh]

/-- A post is a fact about the constraint table alone. -/
theorem Posted.congr {s s' t t' : State} {k : Fin 22} {p : Option Post} (h : Posted s t k p) (hs : Same .constraints s s')
    (ht : Same .constraints t t') (hw : ∀ j : Fin 8, t'.wells[j].cfg.ownFloor = t.wells[j].cfg.ownFloor)
    (hh : t'.heating.cfg.brineFloorDefault = t.heating.cfg.brineFloorDefault) : Posted s' t' k p := by
  obtain ⟨s1, s2, s3⟩ := hs
  obtain ⟨t1, t2, t3⟩ := ht
  have bound (g : Target) : boundOf t' g = boundOf t g := boundOf_eq (fun j => by rw [t1]) (targetDefault_eq t hw hh g)
  have both (w : Fin 8) : combinedOf t' w = combinedOf t w := by unfold combinedOf; rw [t1, t2]
  unfold Posted at h ⊢
  simp only [s1, s2, s3, t1, t2, t3, bound, both]
  exact h

end Sys2Proof.Machine
end

section
/-! PROOFS. The plant clock and the two supervision timers (R208, R213, R214). -/

namespace Sys2Proof.Machine

-- One after the other: see Laws/Frames.lean.
set_option Elab.async false

theorem ownSetClock_ok {clock : Nat} (h : clock ≤ 4294967295) (s : State) :
    ownSetClock clock s = ({ s with clock := clock, clockTimer := some 1000 }, ⟨.ok, Wire.putNat 4 clock⟩) := by
  unfold ownSetClock
  rw [if_neg (by omega)]; rfl

theorem ownSetClock_badField {clock : Nat} (h : 4294967295 < clock) (s : State) : ownSetClock clock s = (s, ⟨.badField, []⟩) := by
  unfold ownSetClock
  rw [if_pos h]; rfl

theorem plantClockTick_idle {s : State} (h : s.clockTimer = none) : plantClockTick s = s := by unfold plantClockTick; rw [h]

theorem plantClockTick_running {s : State} (h : s.clockTimer.isSome = true) :
    plantClockTick s = { s with clock := wrapSucc 4294967295 s.clock, clockTimer := some 1000 } := by
  obtain ⟨n, h⟩ := Option.isSome_iff_exists.mp h
  unfold plantClockTick; rw [h]

theorem supervisionTimerExpiry_idle {s : State} (h : s.supervision.supervisionTimer = none ∨ s.supervision.state ≠ .armed) :
    supervisionTimerExpiry s = s := by
  unfold supervisionTimerExpiry
  split
  · rfl
  · rename_i ht
    exact if_neg (h.resolve_left (by rw [ht]; nofun))

theorem supervisionTimerExpiry_falls {s : State} (h : s.supervision.supervisionTimer.isSome = true) (ha : s.supervision.state = .armed) :
    supervisionTimerExpiry s =
      post fallbackSlot .pumpCeilAll (s.supervision.fallbackSpeed.getD 0) (s.modSupervision Supervision.fallBack) := by
  obtain ⟨n, h⟩ := Option.isSome_iff_exists.mp h
  unfold supervisionTimerExpiry; rw [h]
  exact if_pos ha

theorem holdTimerExpiry_idle {s : State} (h : s.supervision.holdTimer = none ∨ s.supervision.state ≠ .fallback) :
    holdTimerExpiry s = s := by
  unfold holdTimerExpiry
  split
  · rfl
  · rename_i ht
    exact if_neg (h.resolve_left (by rw [ht]; nofun))

/-- The part as the hold timer's expiry finds it, in SAFE_STOP. -/
def State.safeStopped (s : State) : State := s.modSupervision (fun v => { v with state := .safeStop, holdTimer := none })

theorem holdTimerExpiry_fallback {s : State} (h : s.supervision.holdTimer.isSome = true) (hf : s.supervision.state = .fallback) :
    holdTimerExpiry s = unloadIfLoaded (stopAllWells s.safeStopped) := by
  obtain ⟨n, h⟩ := Option.isSome_iff_exists.mp h
  unfold holdTimerExpiry; rw [h]
  exact if_pos hf

theorem unloadIfLoaded_idle {s : State} (h : s.turbine.state ≠ .loaded) : unloadIfLoaded s = s := if_neg h

theorem unloadIfLoaded_loaded {s : State} (h : s.turbine.state = .loaded) : unloadIfLoaded s = unloadTurbine s := if_pos h

/-- What the UNLOAD of SAFE_STOP does to the governor and the drives (R149, R214). -/
theorem unloadIfLoaded_at (s : State) (hm : 1 ≤ s.turbine.cfg.extractionMax) : let t := unloadIfLoaded s
    t.wells = s.wells ∧ (∀ d : Fin 15, d ≠ extractionDrive → t.drives[d] = s.drives[d]) ∧
    (s.turbine.state ≠ .loaded → t.turbine = s.turbine ∧ t.drives[extractionDrive] = s.drives[extractionDrive]) ∧
    (s.turbine.state = .loaded → t.turbine = { s.turbine.startUnload with grant := ⟨s.turbine.grant.request, 0, 0⟩ } ∧
      t.drives[extractionDrive] = s.drives[extractionDrive].write 0) := by
  have wells : (unloadIfLoaded s).wells = s.wells := unloadIfLoaded_only s .wells (by decide)
  refine ⟨wells, ?_⟩
  by_cases h : s.turbine.state = .loaded
  · obtain ⟨turbine, drives⟩ := unloadTurbine_loaded h hm
    rw [unloadIfLoaded_loaded h]
    exact ⟨fun d hd => by rw [drives, if_neg hd], fun hn => absurd h hn, fun _ => ⟨turbine, by rw [drives, if_pos rfl]⟩⟩
  · rw [unloadIfLoaded_idle h]
    exact ⟨fun _ _ => rfl, fun _ => ⟨rfl, rfl⟩, fun hl => absurd hl h⟩

theorem stopAllWells_drives (s : State) {d : Fin 15} (h : 8 ≤ d.val) : (stopAllWells s).drives[d] = s.drives[d] :=
  (forEach_wells
    (f := fun k s => if s.wells[k].state.atRest || decide (s.wells[k].state = .stopping) then s else stopWell k s)
    (fun k a => .ite (.refl k a) (stopWell_ofWell k a)) s).2.1 d h

theorem stopAllWells_turbine (s : State) : (stopAllWells s).turbine = s.turbine := stopAllWells_only s .turbine (by decide)

/-- FALLBACK and SAFE_STOP set the member FALLBACK of the live set (section 9.1). -/
theorem Rested.fallback {t : State} (h : Rested t) (hv : t.supervision.state = .fallback ∨ t.supervision.state = .safeStop) :
    t.conditions.live[(41 : Fin 42)] = true := by
  rw [h.2.1.1, liveNow_get]
  show (decide (t.supervision.state = .fallback) || decide (t.supervision.state = .safeStop)) = true
  rcases hv with e | e <;> rw [e] <;> rfl

end Sys2Proof.Machine

open Sys2Proof Sys2Proof.Machine

/-- Settles O19. -/
theorem plantClockAndSupervisionTimers : Obligations.PlantClockAndSupervisionTimers := by
  refine ⟨fun tag clock s => ⟨fun hs h => ?_, fun hs h => refuses_of rfl hs fun v _ => by exact ownSetClock_badField h _,
    fun hs h => idles_of hs (fun _ => rfl) (plantClockTick_idle h), fun hs h => ?_⟩, fun s hs hm => ?_⟩
  · exact replies_of rfl hs fun v _ => by
      have only := ownSetClock_only clock { s with supervision := v }
      rw [ownSetClock_ok h] at only
      exact ⟨_, ownSetClock_ok h _, only, fun t ht _ => ht .clock (by decide)⟩
  · refine happens_of hs (fun _ => rfl) (plantClockTick_only s) fun t ht _ => ?_
    obtain ⟨clock, timer⟩ := ht .clock (by decide)
    rw [plantClockTick_running h] at clock timer
    exact ⟨timer, clock⟩
  refine ⟨fun h => idles_of hs (fun _ => rfl) (supervisionTimerExpiry_idle h), fun hold speed h ha hh hv => ?_,
    fun h => idles_of hs (fun _ => rfl) (holdTimerExpiry_idle h), fun h hf => ?_⟩
  · refine happens_of hs (fun _ => rfl) (supervisionTimerExpiry_only s) fun t ht rested => ?_
    rw [supervisionTimerExpiry_falls h ha, hv, Option.getD_some] at ht
    have own : t.supervision = s.supervision.fallBack := Eq.trans (ht .supervision (by decide)) (post_only _ _ _ _ .supervision (by decide))
    have wells := ht .wells (by decide)
    have heating := ht .heating (by decide)
    refine ⟨?_, ?_, rested.fallback (.inl (by rw [own]; rfl))⟩
    · rw [own]; unfold Supervision.fallBack; rw [hh]; rfl
    · exact (post_posted fallbackSlot .pumpCeilAll speed (s.modSupervision Supervision.fallBack)).congr ⟨rfl, rfl, rfl⟩
        (ht .constraints (by decide)) (fun j => by rw [wells]) (by rw [heating])
  · refine happens_of hs (fun _ => rfl) (holdTimerExpiry_only s) fun t ht _ => ?_
    rw [holdTimerExpiry_fallback h hf] at ht
    have own : t.supervision = s.safeStopped.supervision := Eq.trans (ht .supervision (by decide))
      (((stopAllWells_only s.safeStopped).seq (rs := [.wells, .turbine, .drives]) (unloadIfLoaded_only _)) .supervision (by decide))
    obtain ⟨wells, drives, unmoved, unloads⟩ := unloadIfLoaded_at (stopAllWells s.safeStopped) (by rw [stopAllWells_turbine]; exact hm)
    have tw : t.wells = (stopAllWells s.safeStopped).wells := Eq.trans (ht .wells (by decide)) wells
    have td : t.drives = _ := ht .drives (by decide)
    have tt : t.turbine = _ := ht .turbine (by decide)
    rw [stopAllWells_turbine, stopAllWells_drives _ (show 8 ≤ extractionDrive.val by decide)] at unmoved unloads
    refine ⟨own, fun k => ?_, fun d hd hx => ?_, fun hn => ?_, fun hl => ?_⟩
    · rw [tw, td, drives _ (wellDrive_ne (by decide))]
      obtain ⟨rest, waits, runs⟩ := stopAllWells_at s.safeStopped k
      rw [Well.enterStopping_off] at runs
      exact ⟨rest, waits, runs⟩
    · rw [td, drives d hx, stopAllWells_drives _ hd]; rfl
    · rw [td, tt]; exact unmoved hn
    · rw [td, tt]
      obtain ⟨turbine, drive⟩ := unloads hl
      exact ⟨by rw [turbine, Turbine.startUnload_eq]; rfl, drive⟩
end

section
/-! PROOFS. The commands of the host to a well (R116, R119 to R122). -/

namespace Sys2Proof.Machine

-- One after the other: see Laws/Frames.lean.
set_option Elab.async false

/-! ### Start permission (R115) -/

/-- The five parts of start permission. -/
def Permission (s : State) (k : Fin 8) : Prop :=
  s.phase = .run ∧ (s.supervision.state = .disarmed ∨ s.supervision.state = .armed) ∧ estopActive s = false ∧
    inRole s (runLine k) = true ∧ inRole s (feedbackLine k) = true ∧ s.wells[k].cfg.enabled = true

theorem startPermission_iff (s : State) (k : Fin 8) : startPermission s k = true ↔ Permission s k := by
  simp only [startPermission, permissionParts, Permission, List.all_cons, List.all_nil, Bool.and_true, Bool.and_eq_true,
    Bool.or_eq_true, decide_eq_true_eq, Bool.not_eq_true', and_assoc]

/-- What RESET_TRIP and UNLOCK ask for (R122). -/
def Resettable (s : State) (k : Fin 8) : Prop :=
  estopActive s = false ∧ inRole s (runLine k) = true ∧ inRole s (feedbackLine k) = true

theorem resetGround_none_iff (s : State) (k : Fin 8) : resetGround s k = none ↔ Resettable s k := by
  unfold resetGround Resettable
  by_cases he : estopActive s = true
  · rw [if_pos he, he]
    exact ⟨nofun, fun h => nomatch h.1⟩
  · rw [if_neg he, ← Bool.and_eq_true, Bool.eq_false_of_not_eq_true he]
    split
    · rename_i h; exact ⟨fun _ => ⟨rfl, h⟩, fun _ => rfl⟩
    · rename_i h; exact ⟨nofun, fun k => absurd k.2 h⟩

/-! ### The owner's answers -/

theorem putByte_eq (n : Nat) : Wire.putByte n = [BitVec.ofNat 8 n] := by
  simp only [Wire.putByte, Wire.putNat, pow_zero, Nat.div_one]

/-- The refusal STATE of a well command: the well's state and a reason. -/
def WellRefuses (f : State → State × Answer) (k : Fin 8) (s : State) : Prop :=
  ∃ reason : Byte, f s = (s, ⟨.state, [BitVec.ofNat 8 s.wells[k].state.code, reason]⟩)

theorem wellRefusal_eq (k : Fin 8) (s : State) (reason : Byte) :
    wellRefusal k s reason = (s, ⟨.state, [BitVec.ofNat 8 s.wells[k].state.code, reason]⟩) := by
  unfold wellRefusal
  rw [putByte_eq]; rfl

/-- The answer of a well command that has changed the well: the state it now has. -/
theorem wellAnswer_modWell (k : Fin 8) (f : Well → Well) (s : State) :
    wellAnswer k (s.modWell k f) = (s.modWell k f, ⟨.ok, [BitVec.ofNat 8 (f s.wells[k]).state.code]⟩) := by
  unfold wellAnswer
  rw [modWell_well, putByte_eq]; rfl

section
variable {s : State} {k : Fin 8}

theorem ownStart_ok (hs : s.wells[k].state = .off ∨ s.wells[k].state = .suspended) (hp : Permission s k)
    (hi : (viewValue s.wells[k].intakeRead).isSome = true) : ownStart k.val s =
      wellAnswer k (s.modWell k (fun w => { w with state := .waitStart, suspendCause := none, waitReason := none })) := by
  have passes : (permissionParts s k ++ [(viewValue s.wells[k].intakeRead).isSome]).findIdx? (fun b => !b) = none := by
    rw [List.findIdx?_eq_none_iff]
    intro b hb
    rcases List.mem_append.mp hb with hb | hb
    · rw [List.all_eq_true.mp ((startPermission_iff s k).mpr hp) b hb]; rfl
    · rw [List.mem_singleton.mp hb, hi]; rfl
  unfold ownStart
  rw [ident_val]; dsimp only
  rw [if_pos hs, passes]

theorem ownStart_refuses (h : ¬ (s.wells[k].state = .off ∨ s.wells[k].state = .suspended) ∨ ¬ Permission s k ∨
    viewValue s.wells[k].intakeRead = none) : WellRefuses (ownStart k.val) k s := by
  unfold WellRefuses ownStart
  rw [ident_val]; dsimp only
  by_cases hs : s.wells[k].state = .off ∨ s.wells[k].state = .suspended
  · rw [if_pos hs]
    split
    · exact ⟨_, wellRefusal_eq k s _⟩
    · rename_i hn
      rw [List.findIdx?_eq_none_iff] at hn
      have all (b : Bool) (hb : b ∈ permissionParts s k ++ [(viewValue s.wells[k].intakeRead).isSome]) : b = true :=
        by simpa using hn b hb
      rcases h.resolve_left (not_not.mpr hs) with hp | hi
      · exact absurd ((startPermission_iff s k).mp (List.all_eq_true.mpr fun b hb => all b (List.mem_append_left _ hb))) hp
      · have := all _ (List.mem_append_right _ (List.mem_singleton_self _))
        rw [hi] at this; cases this
  · rw [if_neg hs]
    exact ⟨_, wellRefusal_eq k s _⟩

theorem ownStop_eq (s : State) (k : Fin 8) : ownStop k.val s = wellAnswer k (stopWell k s) := by
  unfold ownStop; rw [ident_val]

theorem ownSetTarget_eq (value : Int) : ownSetTarget k.val value s =
    (s.modWell k (fun w => { w with cfg := { w.cfg with target := clamp s.wells[k].cfg.minSpeed s.wells[k].cfg.maxSpeed value } }),
      ⟨if clamp s.wells[k].cfg.minSpeed s.wells[k].cfg.maxSpeed value = value then .ok else .clamped,
        BitVec.ofNat 8 s.wells[k].state.code :: Wire.putClass (clamp s.wells[k].cfg.minSpeed s.wells[k].cfg.maxSpeed value)⟩) := by
  unfold ownSetTarget
  rw [ident_val]; dsimp only; rw [okOr_eq, putByte_eq]; rfl

/-- RESET_TRIP and UNLOCK in the state that takes them, or refused (R122). -/
theorem ownWellResetTrip_ok (hs : s.wells[k].state = .tripped) (hr : Resettable s k) :
    ownWellResetTrip k.val s = wellAnswer k (s.modWell k (fun w => { w with state := .off })) := by
  unfold ownWellResetTrip
  rw [ident_val]; dsimp only; rw [if_pos hs, (resetGround_none_iff s k).mpr hr]

theorem ownUnlock_ok (hs : s.wells[k].state = .lockedOut) (hr : Resettable s k) :
    ownUnlock k.val s = wellAnswer k (s.modWell k (fun w => { w with state := .off, tripCount := 0, decayTimer := none })) := by
  unfold ownUnlock
  rw [ident_val]; dsimp only; rw [if_pos hs, (resetGround_none_iff s k).mpr hr]

theorem ownWellResetTrip_refuses (h : s.wells[k].state ≠ .tripped ∨ ¬ Resettable s k) : WellRefuses (ownWellResetTrip k.val) k s := by
  unfold WellRefuses ownWellResetTrip
  rw [ident_val]; dsimp only
  split
  · rename_i hs
    split
    · exact ⟨_, wellRefusal_eq k s _⟩
    · rename_i hg
      exact absurd ((resetGround_none_iff s k).mp hg) (h.resolve_left (not_not.mpr hs))
  · exact ⟨_, wellRefusal_eq k s _⟩

theorem ownUnlock_refuses (h : s.wells[k].state ≠ .lockedOut ∨ ¬ Resettable s k) : WellRefuses (ownUnlock k.val) k s := by
  unfold WellRefuses ownUnlock
  rw [ident_val]; dsimp only
  split
  · rename_i hs
    split
    · exact ⟨_, wellRefusal_eq k s _⟩
    · rename_i hg
      exact absurd ((resetGround_none_iff s k).mp hg) (h.resolve_left (not_not.mpr hs))
  · exact ⟨_, wellRefusal_eq k s _⟩

theorem Permission.heard (h : Permission s k) {v : Supervision} (hv : v.state = s.supervision.state) :
    Permission { s with supervision := v } k := by
  obtain ⟨phase, armed, rest⟩ := h
  exact ⟨phase, hv ▸ armed, rest⟩

theorem Permission.told {v : Supervision} (hv : v.state = s.supervision.state) (h : Permission { s with supervision := v } k) :
    Permission s k := by
  obtain ⟨phase, armed, rest⟩ := h
  exact ⟨phase, hv ▸ armed, rest⟩

/-! ### The commands -/

/-- A well command refused with its state. -/
theorem refusedInState {c : Instr} {tag : Byte} {r : Request} (hc : c.request = some (tag, r)) (hs : Ready s)
    {f : State → State × Answer} (hf : applyRequest r = f)
    (own : ∀ v : Supervision, v.state = s.supervision.state → WellRefuses f k { s with supervision := v })
    (hk : r.kind = 0x14 := by rfl) :
    ∃ reason : Byte, Refuses c s 0x14 tag .state [BitVec.ofNat 8 s.wells[k].state.code, reason] := by
  obtain ⟨_, ⟨reason, rfl⟩, h⟩ := refuses_with hc hs (status := .state)
    (Q := fun detail => ∃ reason, detail = [BitVec.ofNat 8 s.wells[k].state.code, reason]) (fun v hv => by
      obtain ⟨reason, h⟩ := own v hv
      exact ⟨_, ⟨reason, rfl⟩, by rw [hf]; exact h⟩) hk
  exact ⟨reason, h⟩

/-- A well command that changes its well alone. -/
theorem wellReplies {c : Instr} {tag : Byte} {r : Request} (hc : c.request = some (tag, r)) (hs : Ready s) {g : Well → Well}
    {status : Status} {content : List Byte}
    (own : ∀ v : Supervision, v.state = s.supervision.state → applyRequest r { s with supervision := v } =
      (State.modWell { s with supervision := v } k g, ⟨status, content⟩)) (hk : r.kind = 0x14 := by rfl) :
    Replies c s 0x14 tag status content [.wells] (fun t => (∀ j : Fin 8, j ≠ k → t.wells[j] = s.wells[j]) ∧ t.wells[k] = g s.wells[k]) :=
  replies_of hc hs (fun v hv => ⟨_, own v hv, State.modWell_only _ k g, fun t ht _ => by
    have wells : t.wells = _ := ht .wells (by decide)
    rw [wells]
    exact ⟨(OfWell.modWell k g _).wells, modWell_well k g _⟩⟩) (by decide) hk

/-- The run line of a well that is not energised is not asked for (R111). -/
theorem Rested.runLine {t : State} (h : Rested t) (k : Fin 8) : t.discretes[runLine k].roleCommand = t.wells[k].state.energised :=
  (h.1.1 k).1

end

end Sys2Proof.Machine

open Sys2Proof Sys2Proof.Machine

/-- Settles O36: each command by its owner's answer, STOP by the state the well is in. -/
theorem wellCommandForms : Obligations.WellCommandForms := by
  intro tag well value s hs
  refine ⟨fun h => ⟨refuses_of rfl hs fun v _ => ?_, refuses_of rfl hs fun v _ => ?_, refuses_of rfl hs fun v _ => ?_,
    refuses_of rfl hs fun v _ => ?_, refuses_of rfl hs fun v _ => ?_⟩, ?_⟩
  · show ownStart well _ = _
    unfold ownStart; rw [ident_none h]; rfl
  · show ownStop well _ = _
    unfold ownStop; rw [ident_none h]; rfl
  · show ownSetTarget well value _ = _
    unfold ownSetTarget; rw [ident_none h]; rfl
  · show ownWellResetTrip well _ = _
    unfold ownWellResetTrip; rw [ident_none h]; rfl
  · show ownUnlock well _ = _
    unfold ownUnlock; rw [ident_none h]; rfl
  rintro k rfl
  refine ⟨fun h hp hi => wellReplies (g := fun w => { w with state := .waitStart, suspendCause := none, waitReason := none }) rfl hs fun v hv => ?_,
    fun h => refusedInState rfl hs rfl fun v hv => ownStart_refuses ?_,
    fun h => replies_of rfl hs fun v _ => ?_, fun h => replies_of rfl hs fun v _ => ?_,
    fun h => wellReplies (g := fun w => { w with stopTo := some .off, suspendCause := none }) rfl hs fun v _ => ?_,
    fun h => replies_of rfl hs fun v _ => ?_, ?_, fun h hr => wellReplies (g := fun w => { w with state := .off }) rfl hs fun v _ => ?_,
    fun h => refusedInState rfl hs rfl fun v _ => by exact ownWellResetTrip_refuses (s := { s with supervision := v }) h,
    fun h hr => wellReplies (g := fun w => { w with state := .off, tripCount := 0, decayTimer := none }) rfl hs fun v _ => ?_,
    fun h => refusedInState rfl hs rfl fun v _ => by exact ownUnlock_refuses (s := { s with supervision := v }) h⟩
  · exact (ownStart_ok (s := { s with supervision := v }) h (Permission.heard hp hv) hi).trans (wellAnswer_modWell k _ _)
  · exact h.imp_right (Or.imp_left fun hn hp => hn (Permission.told hv hp))
  · exact ⟨_, (ownStop_eq _ k).trans (by rw [stopWell_rest (s := { s with supervision := v }) h]; unfold wellAnswer; rw [putByte_eq]; rfl), .refl _ _, fun _ _ _ => trivial⟩
  · obtain ⟨own, only⟩ := stopWell_waiting (s := { s with supervision := v }) h
    refine ⟨_, (ownStop_eq _ k).trans (by unfold wellAnswer; rw [own, putByte_eq]; rfl), only, fun t ht _ => ?_⟩
    have wells : t.wells = _ := ht .wells (by decide)
    exact ⟨fun j hj => by rw [wells]; exact (stopWell_ofWell k _).wells j hj, by rw [wells]; exact own⟩
  · refine (ownStop_eq _ k).trans ?_
    rw [stopWell_stopping (s := { s with supervision := v }) h, wellAnswer_modWell]
    show (_, (⟨.ok, [BitVec.ofNat 8 s.wells[k].state.code]⟩ : Answer)) = _
    rw [h]
  · have e := stopWell_energised (s := { s with supervision := v }) h
    refine ⟨_, (ownStop_eq _ k).trans (by unfold wellAnswer; rw [e, passWell_well, Well.enterStopping_off, putByte_eq]; rfl),
      (stopWell_ofWell k _).only, fun t ht rested => ?_⟩
    have wells : t.wells = _ := ht .wells (by decide)
    have drives : t.drives = _ := ht .drives (by decide)
    have own : t.wells[k] = s.wells[k].enterStopping .off none (feedback s k) := by rw [wells, e, passWell_well]; rfl
    rw [rested.runLine, own, drives, Well.enterStopping_off]
    refine ⟨fun j hj => by rw [wells]; exact (stopWell_ofWell k _).wells j hj, rfl, fun d => ?_, ?_⟩
    · split
      · rename_i hd; rw [hd, e, passWell_drive]
      · rename_i hd; exact (stopWell_ofWell k _).drives d hd
    · cases feedback s k <;> rfl
  · rintro stored rfl
    exact wellReplies
      (g := fun w => { w with cfg := { w.cfg with target := clamp s.wells[k].cfg.minSpeed s.wells[k].cfg.maxSpeed value } })
      rfl hs fun v _ => by exact ownSetTarget_eq (s := { s with supervision := v }) value
  · exact (ownWellResetTrip_ok (s := { s with supervision := v }) h hr).trans (wellAnswer_modWell k _ _)
  · exact (ownUnlock_ok (s := { s with supervision := v }) h hr).trans (wellAnswer_modWell k _ _)
end

section
/-! PROOFS. A trip of a well and of the turbine, and the timers of the owners (R118, R120, R131, R132, R143, R150, R152). -/

namespace Sys2Proof.Machine

-- One after the other: see Laws/Frames.lean.
set_option Elab.async false

/-! ### Wells -/

/-- The trip of R131 that reaches the limit, and one that does not. -/
theorem Well.trip_counts (clock : Nat) (c : WellTripCause) (w : Well) :
    (w.tripCount + 1 = w.cfg.tripLimit → (w.trip clock c).state = .lockedOut ∧ (w.trip clock c).decayTimer = none) ∧
    (w.tripCount + 1 ≠ w.cfg.tripLimit → (w.trip clock c).state = .tripped ∧
      (w.trip clock c).decayTimer = if w.tripCount = 0 then some (w.cfg.tripRecovery * 3600000) else w.decayTimer) := by
  unfold Well.trip Well.decayInterval
  dsimp only
  exact ⟨fun h => by rw [decide_eq_true h]; exact ⟨rfl, rfl⟩, fun h => by rw [decide_eq_false h]; exact ⟨rfl, rfl⟩⟩

theorem Well.trip_rests (clock : Nat) (c : WellTripCause) (w : Well) : (w.trip clock c).state.energised = false := by
  by_cases h : w.tripCount + 1 = w.cfg.tripLimit
  · rw [((w.trip_counts clock c).1 h).1]; rfl
  · rw [((w.trip_counts clock c).2 h).1]; rfl

section
variable {k : Fin 8} {s : State}

theorem startTimerExpiry_idle (h : s.wells[k].startTimer = none) : startTimerExpiry k s = s := by unfold startTimerExpiry; rw [h]

theorem startTimerExpiry_running (h : s.wells[k].startTimer.isSome = true) : startTimerExpiry k s =
    if s.wells[k].state = .starting then tripWell k .feedbackFail (s.modWell k (fun w => { w with startTimer := none }))
    else s.modWell k (fun w => { w with startTimer := none }) := by
  obtain ⟨n, h⟩ := Option.isSome_iff_exists.mp h
  unfold startTimerExpiry; rw [h]; dsimp only; rw [modWell_well]

theorem stopTimerExpiry_idle (h : s.wells[k].stopTimer = none) : stopTimerExpiry k s = s := by unfold stopTimerExpiry; rw [h]

theorem stopTimerExpiry_running (h : s.wells[k].stopTimer.isSome = true) : stopTimerExpiry k s =
    if s.wells[k].state = .stopping then tripWell k .feedbackStuck (s.modWell k (fun w => { w with stopTimer := none }))
    else s.modWell k (fun w => { w with stopTimer := none }) := by
  obtain ⟨n, h⟩ := Option.isSome_iff_exists.mp h
  unfold stopTimerExpiry; rw [h]; dsimp only; rw [modWell_well]

theorem tripDecayExpiry_idle (h : s.wells[k].decayTimer = none) : tripDecayExpiry k s = s := by unfold tripDecayExpiry; rw [h]

theorem tripDecayExpiry_running (h : s.wells[k].decayTimer.isSome = true) : tripDecayExpiry k s = s.modWell k Well.decay := by
  obtain ⟨n, h⟩ := Option.isSome_iff_exists.mp h
  unfold tripDecayExpiry; rw [h]

/-- A timer of a well that trips it. -/
theorem happens_wellTrip {c : Instr} (hs : Running s) {e : State → State} (hc : ∀ s, exec c s = event e s) {cause : WellTripCause}
    {f : Well → Well} (he : e s = tripWell k cause (s.modWell k f)) (hf : (f s.wells[k]).trip s.clock cause = s.wells[k].trip s.clock cause) :
    let w := s.wells[k]
    Happens c s [.wells, .drives] (fun t => (∀ j : Fin 8, j ≠ k → t.wells[j] = s.wells[j]) ∧
      t.wells[k] = { w with
         state := t.wells[k].state, stopTo := none, suspendCause := none, waitReason := none,
         offFor := if w.state.energised then some 0 else w.offFor, floorTimer := 0, startTimer := none, stopTimer := none,
         tripRecord := some ⟨cause, s.clock, w.state, viewValue w.intakeRead, viewValue w.windingRead⟩,
         tripCount := w.tripCount + 1, decayTimer := t.wells[k].decayTimer } ∧
      (w.tripCount + 1 = w.cfg.tripLimit → t.wells[k].state = .lockedOut ∧ t.wells[k].decayTimer = none) ∧
      (¬ w.tripCount + 1 = w.cfg.tripLimit → t.wells[k].state = .tripped ∧
         t.wells[k].decayTimer = if w.tripCount = 0 then some (w.cfg.tripRecovery * 3600000) else w.decayTimer) ∧
      (∀ d : Fin 15, t.drives[d] = if d = wellDrive k then s.drives[d].write 0 else s.drives[d]) ∧
      t.discretes[runLine k].roleCommand = false) := by
  have of : OfWell k s (e s) := by rw [he]; exact (OfWell.modWell k f s).trans (passWell_ofWell k _ 0 _)
  refine happens_of hs hc of.only fun t ht rested => ?_
  have wells : t.wells = (e s).wells := ht .wells (by decide)
  have drives : t.drives = (e s).drives := ht .drives (by decide)
  have own : t.wells[k] = s.wells[k].trip s.clock cause := by
    rw [wells, he, tripWell_eq, passWell_well, modWell_well]; exact hf
  obtain ⟨locks, counts⟩ := s.wells[k].trip_counts s.clock cause
  rw [rested.runLine, own]
  refine ⟨fun j hj => by rw [wells]; exact of.wells j hj, rfl, locks, counts, fun d => ?_, Well.trip_rests _ _ _⟩
  rw [drives]
  split
  · rename_i hd; rw [hd, he, tripWell_eq, passWell_drive]; rfl
  · rename_i hd; exact of.drives d hd

/-- A timer of a well that changes the well alone. -/
theorem happens_modWell {c : Instr} (hs : Running s) {e : State → State} (hc : ∀ s, exec c s = event e s) {f : Well → Well}
    (he : e s = s.modWell k f) :
    Happens c s [.wells] (fun t => (∀ j : Fin 8, j ≠ k → t.wells[j] = s.wells[j]) ∧ t.wells[k] = f s.wells[k]) := by
  refine happens_of hs hc (by rw [he]; exact s.modWell_only k f) fun t ht _ => ?_
  have wells : t.wells = (e s).wells := ht .wells (by decide)
  rw [wells, he]
  exact ⟨(OfWell.modWell k f s).wells, modWell_well k f s⟩

end

/-! ### The turbine -/

theorem restDrives_at (d : Fin 15) (s : State) :
    (restDrives s).drives[d] = if d = admissionDrive ∨ d = extractionDrive then s.drives[d].write 0 else s.drives[d] := by
  unfold restDrives
  rw [writeDrive_at, writeDrive_at, writeDrive_at]
  by_cases ha : d = admissionDrive
  · subst ha; rfl
  · by_cases he : d = extractionDrive
    · subst he; rfl
    · rw [if_neg (Ne.symm he), if_neg (Ne.symm ha), if_neg (by rintro (h | h) <;> contradiction)]

/-- The state in which a trip posts the runback ceiling. -/
def State.tripped (c : TurbineTripCause) (v : Option Int) (s : State) : State := restDrives (s.modTurbine (Turbine.trip s.clock c v))

theorem tripped_only (c : TurbineTripCause) (v : Option Int) (s : State) : Only [.turbine, .drives] s (s.tripped c v) :=
  (s.modTurbine_only _).seq (restDrives_only _)

theorem tripTurbine_eq (c : TurbineTripCause) (v : Option Int) (s : State) :
    tripTurbine c v s = post runbackSlot .pumpCeilAll s.turbine.cfg.runbackSpeed (s.tripped c v) := rfl

/-- What is left of a post at the end of its event. -/
theorem post_leaves {qs : List Part} {s u t : State} {k : Fin 22} {g : Target} {v : Int} (ht : UnchangedBut qs (post k g v u) t)
    (constraints : Same .constraints s u) (clock : u.clock = s.clock)
    (apart : Part.constraints ∉ qs ∧ Part.wells ∉ qs ∧ Part.heating ∉ qs := by decide) :
    Posted s t k (some ⟨g, g.cls.clamp v, s.clock⟩) := by
  obtain ⟨u1, u2, u3⟩ := constraints
  have wells : t.wells = _ := ht .wells apart.2.1
  have heating : t.heating = _ := ht .heating apart.2.2
  rw [← clock]
  exact (post_posted k g v u).congr ⟨u1.symm, u2.symm, u3.symm⟩ (ht .constraints apart.1) (fun j => by rw [wells]) (by rw [heating])

/-- What is left of a trip at the end of its event. The event's work may have gone before it: `u` is the state it left (R152). -/
theorem tripTurbine_leaves {qs : List Part} {s u t : State} (c : TurbineTripCause) (v : Option Int)
    (ht : UnchangedBut qs (tripTurbine c v u) t) (constraints : Same .constraints s u) (clock : u.clock = s.clock)
    (runback : u.turbine.cfg.runbackSpeed = s.turbine.cfg.runbackSpeed) (extraction : u.drives[extractionDrive] = s.drives[extractionDrive])
    (apart : Part.constraints ∉ qs ∧ Part.wells ∉ qs ∧ Part.heating ∉ qs := by decide)
    (own : Part.turbine ∉ qs ∧ Part.drives ∉ qs := by decide) :
    t.turbine = u.turbine.trip u.clock c v ∧ TripSpreads s t u.drives[admissionDrive] ∧
      ∀ d : Fin 15, d ≠ admissionDrive → d ≠ extractionDrive → t.drives[d] = u.drives[d] := by
  rw [tripTurbine_eq] at ht
  have only := tripped_only c v u
  have turbine : t.turbine = (u.tripped c v).turbine := Eq.trans (ht .turbine own.1) (post_only _ _ _ _ .turbine (by decide))
  have drives : t.drives = (u.tripped c v).drives := Eq.trans (ht .drives own.2) (post_only _ _ _ _ .drives (by decide))
  have at_ (d : Fin 15) : t.drives[d] = if d = admissionDrive ∨ d = extractionDrive then u.drives[d].write 0 else u.drives[d] := by
    rw [drives]; exact restDrives_at d _
  refine ⟨turbine, ⟨at_ _, ?_, ?_⟩, fun d ha he => by rw [at_, if_neg (by rintro (h | h) <;> contradiction)]⟩
  · rw [at_, ← extraction]; rfl
  · have posted := post_leaves (s := s) ht (Same.trans (by decide) (by decide) constraints (only .constraints (by decide)).same)
      ((only .clock (by decide) |> congrArg Prod.fst).trans clock) apart
    rw [runback] at posted
    exact posted

/-- What is left of a later trip (R153). -/
theorem laterTrip_leaves {qs : List Part} {s u t : State} (c : TurbineTripCause)
    (ht : UnchangedBut qs (postRunback (u.modTurbine (Turbine.laterTrip u.clock c))) t) (constraints : Same .constraints s u)
    (clock : u.clock = s.clock) (runback : u.turbine.cfg.runbackSpeed = s.turbine.cfg.runbackSpeed)
    (apart : Part.constraints ∉ qs ∧ Part.wells ∉ qs ∧ Part.heating ∉ qs := by decide)
    (own : Part.turbine ∉ qs ∧ Part.drives ∉ qs := by decide) :
    t.turbine = u.turbine.laterTrip u.clock c ∧ t.drives = u.drives ∧ RunbackPosted s t := by
  have turbine : t.turbine = u.turbine.laterTrip u.clock c := Eq.trans (ht .turbine own.1) (post_only _ _ _ _ .turbine (by decide))
  have drives : t.drives = u.drives := Eq.trans (ht .drives own.2) (post_only _ _ _ _ .drives (by decide))
  have posted := post_leaves (s := s) ht (Same.trans (by decide) (by decide) constraints (u.modTurbine_only _ .constraints (by decide)).same) clock apart
  rw [show (u.modTurbine (Turbine.laterTrip u.clock c)).turbine.cfg.runbackSpeed = s.turbine.cfg.runbackSpeed from runback] at posted
  exact ⟨turbine, drives, posted⟩

theorem rollTimerExpiry_idle {s : State} (h : s.turbine.rollTimer = none) : rollTimerExpiry s = s := by unfold rollTimerExpiry; rw [h]

theorem rollTimerExpiry_running {s : State} (h : s.turbine.rollTimer.isSome = true) : rollTimerExpiry s =
    if s.turbine.state = .rolling ∨ s.turbine.state = .syncWait then
      tripTurbine .rollTimeout none (s.modTurbine (fun t => { t with rollTimer := none }))
    else s.modTurbine (fun t => { t with rollTimer := none }) := by
  obtain ⟨n, h⟩ := Option.isSome_iff_exists.mp h
  unfold rollTimerExpiry; rw [h]; rfl

theorem breakerTimerExpiry_idle {s : State} (h : s.turbine.breakerTimer = none) : breakerTimerExpiry s = s := by
  unfold breakerTimerExpiry; rw [h]

theorem breakerTimerExpiry_running {s : State} (h : s.turbine.breakerTimer.isSome = true) : breakerTimerExpiry s =
    if s.turbine.state = .unloading then tripTurbine .breakerFail none (s.modTurbine (fun t => { t with breakerTimer := none }))
    else s.modTurbine (fun t => { t with breakerTimer := none }) := by
  obtain ⟨n, h⟩ := Option.isSome_iff_exists.mp h
  unfold breakerTimerExpiry; rw [h]; rfl

/-- A timer of the governor that trips the turbine. -/
theorem happens_turbineTrip {c : Instr} {s : State} (hs : Running s) {e : State → State} (hc : ∀ s, exec c s = event e s)
    {cause : TurbineTripCause} {f : Turbine → Turbine} (he : e s = tripTurbine cause none (s.modTurbine f))
    (hf : (f s.turbine).trip s.clock cause none = s.turbine.trip s.clock cause none)
    (hr : (f s.turbine).cfg.runbackSpeed = s.turbine.cfg.runbackSpeed) :
    Happens c s [.turbine, .drives, .constraints] (fun t => t.turbine = s.turbine.trip s.clock cause none ∧
      TripSpreads s t s.drives[admissionDrive] ∧ ∀ d : Fin 15, d ≠ admissionDrive → d ≠ extractionDrive → t.drives[d] = s.drives[d]) := by
  have only : Only [.turbine, .drives, .constraints] s (e s) := by
    rw [he]; exact (s.modTurbine_only f).seq (tripTurbine_only cause none _)
  refine happens_of hs hc only fun t ht _ => ?_
  rw [he] at ht
  obtain ⟨turbine, spreads, others⟩ := tripTurbine_leaves (s := s) cause none ht ⟨rfl, rfl, rfl⟩ rfl hr rfl
  exact ⟨turbine.trans hf, spreads, others⟩

/-- A timer of the governor that changes its record alone. -/
theorem happens_modTurbine {c : Instr} {s : State} (hs : Running s) {e : State → State} (hc : ∀ s, exec c s = event e s)
    {f : Turbine → Turbine} (he : e s = s.modTurbine f) : Happens c s [.turbine] (fun t => t.turbine = f s.turbine) := by
  refine happens_of hs hc (by rw [he]; exact s.modTurbine_only f) fun t ht _ => ?_
  rw [he] at ht
  exact ht .turbine (by decide)

end Sys2Proof.Machine

open Sys2Proof Sys2Proof.Machine

/-- Settles O38: each timer stopped, running in the state it belongs to, or running in another. -/
theorem ownerTimers : Obligations.OwnerTimers := by
  refine ⟨fun k s hs => ⟨fun h => idles_of hs (fun _ => rfl) (startTimerExpiry_idle h),
      fun h hst => happens_wellTrip (e := startTimerExpiry k) hs (fun _ => rfl) ((startTimerExpiry_running h).trans (if_pos hst)) rfl,
      fun h hst => happens_modWell (e := startTimerExpiry k) (f := fun w => { w with startTimer := none }) hs (fun _ => rfl)
        ((startTimerExpiry_running h).trans (if_neg hst)),
      fun h => idles_of hs (fun _ => rfl) (stopTimerExpiry_idle h),
      fun h hst => happens_wellTrip (e := stopTimerExpiry k) hs (fun _ => rfl) ((stopTimerExpiry_running h).trans (if_pos hst)) rfl,
      fun h hst => happens_modWell (e := stopTimerExpiry k) (f := fun w => { w with stopTimer := none }) hs (fun _ => rfl)
        ((stopTimerExpiry_running h).trans (if_neg hst)),
      fun h => idles_of hs (fun _ => rfl) (tripDecayExpiry_idle h),
      fun h => happens_modWell (e := tripDecayExpiry k) (f := Well.decay) hs (fun _ => rfl) (tripDecayExpiry_running h)⟩,
    fun s hs => ⟨fun h => idles_of hs (fun _ => rfl) (rollTimerExpiry_idle h),
      fun h hst => happens_turbineTrip (e := rollTimerExpiry) hs (fun _ => rfl) ((rollTimerExpiry_running h).trans (if_pos hst)) rfl rfl,
      fun h h1 h2 => happens_modTurbine (e := rollTimerExpiry) (f := fun t => { t with rollTimer := none }) hs (fun _ => rfl)
        ((rollTimerExpiry_running h).trans (if_neg fun k => k.elim h1 h2)),
      fun h => idles_of hs (fun _ => rfl) (breakerTimerExpiry_idle h),
      fun h hst => happens_turbineTrip (e := breakerTimerExpiry) hs (fun _ => rfl) ((breakerTimerExpiry_running h).trans (if_pos hst)) rfl rfl,
      fun h hst => happens_modTurbine (e := breakerTimerExpiry) (f := fun t => { t with breakerTimer := none }) hs (fun _ => rfl)
        ((breakerTimerExpiry_running h).trans (if_neg hst))⟩⟩
end

section
/-! PROOFS. The WP period (R112 to R118, R123 to R130): the work of one well, then the run over the eight. -/

namespace Sys2Proof.Machine

-- One after the other: see Laws/Frames.lean.
set_option Elab.async false

theorem viewValue_readView (s : State) (b : Option (Fin 96)) : viewValue (readView s b) = boundValue s b := by cases b <;> rfl

/-! ### Starting or waiting (R113 to R117) -/

/-- minOff has elapsed (R114). -/
def Well.Rested (w : Well) : Prop := ∀ n, w.offFor = some n → w.cfg.minOff * 1000 ≤ n * 250

theorem Well.minOffElapsed_iff (w : Well) : w.minOffElapsed = true ↔ w.Rested := by
  unfold Well.minOffElapsed Well.Rested
  cases w.offFor <;> simp

theorem startConditionUnmet_eq (s : State) (k : Fin 8) :
    (Permission s k → s.wells[k].Rested → s.wells[k].startLog.length < s.wells[k].cfg.maxStarts → feedback s k = false →
      startConditionUnmet s k = none) ∧
    (¬ Permission s k → startConditionUnmet s k = some .noPermission) ∧
    (Permission s k → ¬ s.wells[k].Rested → startConditionUnmet s k = some .minOff) ∧
    (Permission s k → s.wells[k].Rested → s.wells[k].cfg.maxStarts ≤ s.wells[k].startLog.length →
      startConditionUnmet s k = some .logFull) ∧
    (Permission s k → s.wells[k].Rested → s.wells[k].startLog.length < s.wells[k].cfg.maxStarts → feedback s k = true →
      startConditionUnmet s k = some .feedbackPresent) := by
  unfold startConditionUnmet
  have permits (h : Permission s k) : startPermission s k = true := (startPermission_iff s k).mpr h
  have elapsed (h : s.wells[k].Rested) : s.wells[k].minOffElapsed = true := s.wells[k].minOffElapsed_iff.mpr h
  have room (h : s.wells[k].startLog.length < s.wells[k].cfg.maxStarts) : s.wells[k].logHasRoom = true := decide_eq_true h
  refine ⟨fun hp hr hl hf => ?_, fun hp => ?_, fun hp hr => ?_, fun hp hr hl => ?_, fun hp hr hl hf => ?_⟩
  · rw [permits hp, elapsed hr, room hl, hf]; rfl
  · have denied : startPermission s k = false := Bool.eq_false_of_not_eq_true (fun h => hp ((startPermission_iff s k).mp h))
    rw [denied]; rfl
  · have early : s.wells[k].minOffElapsed = false := Bool.eq_false_of_not_eq_true (fun h => hr (s.wells[k].minOffElapsed_iff.mp h))
    rw [permits hp, early]; rfl
  · have full : s.wells[k].logHasRoom = false := decide_eq_false (Nat.not_lt.mpr hl)
    rw [permits hp, elapsed hr, full]; rfl
  · rw [permits hp, elapsed hr, room hl, hf]; rfl

/-- What the work of a well leaves of it and of its drive. -/
def Leaves (k : Fin 8) (t : State) (w : Well) (d : Drive) : Prop := t.wells[k] = w ∧ t.drives[wellDrive k] = d

theorem Leaves.modWell (k : Fin 8) (f : Well → Well) (s : State) : Leaves k (s.modWell k f) (f s.wells[k]) s.drives[wellDrive k] :=
  ⟨modWell_well k f s, rfl⟩

theorem Leaves.passWell (k : Fin 8) (f : Well → Well) (v : Int) (s : State) :
    Leaves k (passWell k f v s) (f s.wells[k]) (s.drives[wellDrive k].write v) := ⟨passWell_well k f v s, passWell_drive k f v s⟩

theorem startOrWait_starts {k : Fin 8} {s : State} (h : startConditionUnmet s k = none) :
    Leaves k (startOrWait k s) (s.wells[k].enterStarting s.clock) (s.drives[wellDrive k].write s.wells[k].cfg.minSpeed) := by
  unfold startOrWait
  rw [h]
  exact .passWell k _ _ s

theorem startOrWait_waits {k : Fin 8} {s : State} {r : WaitReason} (h : startConditionUnmet s k = some r) :
    Leaves k (startOrWait k s) { s.wells[k] with waitReason := some r } s.drives[wellDrive k] := by
  unfold startOrWait
  rw [h]
  exact .modWell k _ s

theorem startOrWait_ofWell (k : Fin 8) (s : State) : OfWell k s (startOrWait k s) := by
  unfold startOrWait
  split
  · exact passWell_ofWell k _ _ s
  · exact .modWell k _ s

/-! ### The floor timer (R125) -/

/-- The floor timer at a demand just written, before it is compared. -/
def Well.floorCount (demand : Int) (w : Well) : Nat :=
  match viewValue w.intakeRead with
  | none => w.floorTimer
  | some p =>
    if w.intakeView.value ≤ p then 0 else if demand = w.cfg.minSpeed then satSucc 2400 w.floorTimer else w.floorTimer

/-- The intake has been low for long enough at the least speed. -/
def Well.LowConfirmed (demand : Int) (w : Well) : Prop :=
  (∃ p, viewValue w.intakeRead = some p ∧ p < w.intakeView.value) ∧ demand = w.cfg.minSpeed ∧
    4 * w.cfg.floorConfirm ≤ w.floorCount demand

/-- The floor timer is settled: it counts, or the well stops on its low intake. -/
theorem settleFloor_at (k : Fin 8) (s : State) : let w := s.wells[k]; let d := s.drives[wellDrive k]
    (¬ w.LowConfirmed d.value → Leaves k (settleFloor k s) { w with floorTimer := w.floorCount d.value } d) ∧
    (w.LowConfirmed d.value →
      Leaves k (settleFloor k s) (w.enterStopping .suspended (some .lowIntake) (feedback s k)) (d.write 0)) := by
  have e : demandOf s k = s.drives[wellDrive k].value := rfl
  unfold settleFloor Well.floorStep Well.LowConfirmed Well.floorCount
  dsimp only
  rw [e]
  cases hv : viewValue s.wells[k].intakeRead with
  | none => exact ⟨fun _ => ⟨rfl, rfl⟩, fun h => nomatch h.1⟩
  | some p =>
    dsimp only
    by_cases hp : s.wells[k].intakeView.value ≤ p
    · rw [if_pos hp, if_pos hp]
      refine ⟨fun _ => .modWell k _ s, fun ⟨⟨q, hq, low⟩, _⟩ => ?_⟩
      cases hq; omega
    · rw [if_neg hp, if_neg hp]
      by_cases hd : s.drives[wellDrive k].value = s.wells[k].cfg.minSpeed
      · rw [if_pos hd, if_pos hd]
        dsimp only
        split
        · rename_i hc
          exact ⟨fun h => absurd ⟨⟨p, rfl, by omega⟩, hd, hc⟩ h, fun _ => .passWell k _ _ s⟩
        · rename_i hc
          exact ⟨fun _ => .modWell k _ s, fun h => absurd h.2.2 hc⟩
      · rw [if_neg hd, if_neg hd]
        exact ⟨fun _ => ⟨rfl, rfl⟩, fun h => absurd h.2.1 hd⟩

theorem settleFloor_ofWell (k : Fin 8) (s : State) : OfWell k s (settleFloor k s) := by
  unfold settleFloor
  dsimp only
  split
  · exact .modWell k _ s
  · exact .refl k s
  · exact .ite (passWell_ofWell k _ _ s) (.modWell k _ s)

/-! ### The demand of a running well (R123, R124, R127, R128) -/

/-- The winding stage a running well takes (R127, R128). -/
def Well.nextStage (w : Well) : WellState :=
  match viewValue w.windingRead with
  | none => .throttle1
  | some x => w.cfg.stage x w.state

/-- Demand and floor timer of a well whose stage is settled. -/
theorem runDemand_at (k : Fin 8) (s : State) : let w := s.wells[k]; let d := s.drives[wellDrive k]; let n := w.nextDemand d.value
    (¬ w.LowConfirmed n → Leaves k (runDemand k s) { w with floorTimer := w.floorCount n } (d.write n)) ∧
    (w.LowConfirmed n →
      Leaves k (runDemand k s) (w.enterStopping .suspended (some .lowIntake) (feedback s k)) ((d.write n).write 0)) := by
  have h := settleFloor_at k (writeDemand k (s.wells[k].nextDemand (demandOf s k)) s)
  have drive : (writeDemand k (s.wells[k].nextDemand (demandOf s k)) s).drives[wellDrive k] =
      s.drives[wellDrive k].write (s.wells[k].nextDemand (demandOf s k)) := (writeDrive_at _ _ _ s).trans (if_pos rfl)
  have value (d : Drive) (v : Int) : (d.write v).value = v := by
    unfold Drive.write
    split
    · rename_i e; exact e.symm
    · rfl
  dsimp only at h
  rw [drive, value] at h
  exact h

theorem runWell_hot {k : Fin 8} {s : State} {x : Int} (hx : viewValue s.wells[k].windingRead = some x) (h : s.wells[k].cfg.windTrip ≤ x) :
    Leaves k (runWell k s) (s.wells[k].enterStopping .suspended (some .windingHot) (feedback s k)) (s.drives[wellDrive k].write 0) := by
  unfold runWell
  dsimp only
  rw [hx]; dsimp only
  rw [if_pos h]
  exact .passWell k _ _ s

theorem runWell_cool {k : Fin 8} {s : State} (h : ∀ x, viewValue s.wells[k].windingRead = some x → x < s.wells[k].cfg.windTrip) :
    runWell k s = runDemand k (s.modWell k (fun _ => { s.wells[k] with state := s.wells[k].nextStage })) := by
  have same (f g : Well → Well) (e : f s.wells[k] = g s.wells[k]) : s.modWell k f = s.modWell k g := by
    unfold State.modWell modifyAt
    rw [e]
  unfold runWell Well.nextStage
  dsimp only
  cases hx : viewValue s.wells[k].windingRead with
  | none => exact congrArg (runDemand k) (same _ _ rfl)
  | some x =>
    dsimp only
    rw [if_neg (by have := h x hx; omega)]
    exact congrArg (runDemand k) (same _ _ rfl)

theorem runWell_ofWell (k : Fin 8) (s : State) : OfWell k s (runWell k s) := by
  have runs (f : Well → Well) : OfWell k s (runDemand k (s.modWell k f)) :=
    ((OfWell.modWell k f s).trans (.writeDemand k _ _)).trans (settleFloor_ofWell k _)
  unfold runWell
  dsimp only
  split
  · exact runs _
  · exact .ite (passWell_ofWell k _ _ s) (runs _)

/-- A running stage's demand stays below its cap (R123). -/
theorem stageCap_running (c : WellConfig) {st : WellState} (h : st.isRunning = true) : (c.stageCap st).getD c.maxSpeed =
    if st = .running then c.maxSpeed else if st = .throttle2 then c.minSpeed + (c.maxSpeed - c.minSpeed) / 2 else c.minSpeed := by
  cases st <;> first | rfl | cases h

theorem Well.nextStage_isRunning {w : Well} (h : w.state.isRunning = true) : w.nextStage.isRunning = true := by
  unfold Well.nextStage
  split
  · rfl
  · exact w.cfg.stage_isRunning _ h

/-! ### The work of one well -/

/-- The drive of a well is lost (R130, R22). -/
theorem Drive.lost_iff (n : Nat) (d : Drive) : d.lost n = true ↔ d.delivery = .failing ∧ ∃ m, d.failingFor = some m ∧ n < m := by
  unfold Drive.lost
  cases d.failingFor <;> simp

/-- The cause of a suspension has cleared (R126). -/
theorem Well.cleared_iff (w : Well) : w.cleared = true ↔
    (w.suspendCause = some .lowIntake ∧ ∃ p, viewValue w.intakeRead = some p ∧ w.intakeView.value + w.cfg.floorHys ≤ p) ∨
    (w.suspendCause = some .windingHot ∧ ∃ x, viewValue w.windingRead = some x ∧ x < w.cfg.windTrip - w.cfg.windHys) := by
  unfold Well.cleared
  cases w.suspendCause with
  | none => simp
  | some c => cases c <;> simp [Option.any_eq_true]

theorem testRestart_ofWell (k : Fin 8) (s : State) : OfWell k s (testRestart k s) := by
  unfold testRestart
  exact .ite (.modWell k _ s) (.ite (.modWell k _ s) (startOrWait_ofWell k s))

theorem tripWell_ofWell (k : Fin 8) (c : WellTripCause) (s : State) : OfWell k s (tripWell k c s) := passWell_ofWell k _ 0 s

theorem wellWork_ofWell (k : Fin 8) (s : State) : OfWell k s (wellWork k s) := by
  unfold wellWork
  split
  · exact startOrWait_ofWell k s
  · exact testRestart_ofWell k s
  · exact .ite (tripWell_ofWell k _ s) (.refl k s)
  · exact .ite (tripWell_ofWell k _ s) (runWell_ofWell k s)
  · exact .ite (tripWell_ofWell k _ s) (runWell_ofWell k s)
  · exact .ite (tripWell_ofWell k _ s) (runWell_ofWell k s)
  · exact .refl k s
  · exact .refl k s
  · exact .refl k s
  · exact .refl k s

theorem wellWork_rest {k : Fin 8} {s : State} (h : s.wells[k].state = .off ∨ s.wells[k].state = .stopping ∨
    s.wells[k].state = .tripped ∨ s.wells[k].state = .lockedOut) : wellWork k s = s := by
  unfold wellWork
  rcases h with h | h | h | h <;> rw [h]

theorem wellWork_waitStart {k : Fin 8} {s : State} (h : s.wells[k].state = .waitStart) : wellWork k s = startOrWait k s := by
  unfold wellWork; rw [h]

theorem wellWork_suspended {k : Fin 8} {s : State} (h : s.wells[k].state = .suspended) : wellWork k s = testRestart k s := by
  unfold wellWork; rw [h]

theorem wellWork_starting {k : Fin 8} {s : State} (h : s.wells[k].state = .starting) :
    wellWork k s = if wellDriveLost s k then tripWell k .driveLost s else s := by
  unfold wellWork; rw [h]

theorem wellWork_running {k : Fin 8} {s : State} (h : s.wells[k].state.isRunning = true) :
    wellWork k s = if wellDriveLost s k then tripWell k .driveLost s else runWell k s := by
  unfold wellWork
  cases e : s.wells[k].state <;> rw [e] at h <;> first | rfl | cases h

/-- A well with what it reads and ages by at the start of its period (R112 steps 1 and 2). -/
def Well.refreshed (s : State) (k : Fin 8) (w : Well) : Well :=
  { w with
    intakeView := s.bounds[(Target.wellFloor k).index], ceilingView := s.combined[k],
    intakeRead := readView s w.cfg.intakePoint, windingRead := readView s w.cfg.windingPoint, flowRead := readView s w.cfg.flowPoint,
    startLog := (w.startLog.map (fun e => { e with age := e.age + 1 })).filter (fun e => decide (e.age < 14400)),
    offFor := w.offFor.map (satSucc 65535) }

/-- The state in which a well does its work. -/
def State.refreshed (s : State) (k : Fin 8) : State := (readWellInputs k s).modWell k Well.growOld

theorem refreshed_leaves (s : State) (k : Fin 8) : Leaves k (s.refreshed k) (s.wells[k].refreshed s k) s.drives[wellDrive k] := by
  refine ⟨?_, rfl⟩
  unfold State.refreshed readWellInputs
  rw [modWell_well, modWell_well]; rfl

theorem refreshed_ofWell (s : State) (k : Fin 8) : OfWell k s (s.refreshed k) := (OfWell.modWell k _ s).trans (.modWell k _ _)

theorem wellPeriod_ofWell (k : Fin 8) (s : State) : OfWell k s (wellPeriod k s) := (refreshed_ofWell s k).trans (wellWork_ofWell k _)

/-- What a well reads is not the wells' own work. -/
theorem Well.refreshed_congr {s t : State} (h : Only [.wells, .drives] s t) (k : Fin 8) (w : Well) : w.refreshed t k = w.refreshed s k := by
  obtain ⟨-, bounds, combined⟩ := (h .constraints (by decide)).same
  have points : t.points = s.points := h .points (by decide)
  have view (b : Option (Fin 96)) : readView t b = readView s b := by unfold readView; rw [points]
  unfold Well.refreshed
  rw [bounds, combined, view, view, view]

theorem Permission.congr {s t : State} {k : Fin 8} (h : Only [.wells, .drives] s t) (hc : t.wells[k].cfg = s.wells[k].cfg) :
    Permission t k ↔ Permission s k := by
  obtain ⟨-, -, -, -, phase⟩ := (h .phase (by decide)).same
  have supervision : t.supervision = s.supervision := h .supervision (by decide)
  have discretes : t.discretes = s.discretes := h .discretes (by decide)
  unfold Permission estopActive inRole
  rw [phase, supervision, discretes, hc]

end Sys2Proof.Machine
end

section
/-! PROOFS. What the WP period leaves of each well, state by state. -/

namespace Sys2Proof.Machine

-- One after the other: see Laws/Frames.lean.
set_option Elab.async false

section
variable {k : Fin 8} {s : State} {v : Well} {drive : Drive} (hv : s.wells[k] = v) (hd : s.drives[wellDrive k] = drive)
include hv hd

/-- A start, or a wait for the first condition not met (R113 to R117). -/
theorem startOrWait_at :
    (Permission s k → v.Rested → v.startLog.length < v.cfg.maxStarts → feedback s k = false →
      Leaves k (startOrWait k s) (v.enterStarting s.clock) (drive.write v.cfg.minSpeed)) ∧
    (¬ Permission s k → Leaves k (startOrWait k s) { v with waitReason := some .noPermission } drive) ∧
    (Permission s k → ¬ v.Rested → Leaves k (startOrWait k s) { v with waitReason := some .minOff } drive) ∧
    (Permission s k → v.Rested → v.cfg.maxStarts ≤ v.startLog.length →
      Leaves k (startOrWait k s) { v with waitReason := some .logFull } drive) ∧
    (Permission s k → v.Rested → v.startLog.length < v.cfg.maxStarts → feedback s k = true →
      Leaves k (startOrWait k s) { v with waitReason := some .feedbackPresent } drive) := by
  subst hv hd
  obtain ⟨starts, permission, minOff, logFull, feedbackPresent⟩ := startConditionUnmet_eq s k
  exact ⟨fun hp hr hl hf => startOrWait_starts (starts hp hr hl hf), fun hp => startOrWait_waits (permission hp),
    fun hp hr => startOrWait_waits (minOff hp hr), fun hp hr hl => startOrWait_waits (logFull hp hr hl),
    fun hp hr hl hf => startOrWait_waits (feedbackPresent hp hr hl hf)⟩

theorem testRestart_at :
    (v.cfg.autoRestart = false → Leaves k (testRestart k s) { v with waitReason := none } drive) ∧
    (v.cfg.autoRestart = true → ¬ v.cleared = true → Leaves k (testRestart k s) { v with waitReason := some .causePresent } drive) ∧
    (v.cfg.autoRestart = true → v.cleared = true → testRestart k s = startOrWait k s) := by
  subst hv hd
  unfold testRestart
  dsimp only
  refine ⟨fun h => ?_, fun h hc => ?_, fun h hc => ?_⟩
  · rw [h]; exact .modWell k _ s
  · rw [h, Bool.eq_false_of_not_eq_true hc]; exact .modWell k _ s
  · rw [h, hc]; rfl

theorem wellDriveLost_iff : wellDriveLost s k = true ↔
    drive.delivery = .failing ∧ ∃ n, drive.failingFor = some n ∧ v.cfg.deliveryLimit < n := by
  subst hv hd
  exact Drive.lost_iff _ _

theorem tripWell_at (c : WellTripCause) : Leaves k (tripWell k c s) (v.trip s.clock c) (drive.write 0) := by
  subst hv hd
  exact .passWell k _ 0 s

/-- The work of a running well that is too hot (R127). -/
theorem runWell_stops (h : ∃ x, viewValue v.windingRead = some x ∧ v.cfg.windTrip ≤ x) :
    Leaves k (runWell k s) (v.enterStopping .suspended (some .windingHot) (feedback s k)) (drive.write 0) := by
  subst hv hd
  obtain ⟨x, hx, hot⟩ := h
  exact runWell_hot hx hot

/-- The work of a running well by the stage it takes, its demand there, and its floor timer (R123 to R128). -/
theorem runWell_runs (h : ∀ x, viewValue v.windingRead = some x → x < v.cfg.windTrip) {u : Well} {n : Int} {count : Nat}
    (hu : { v with state := v.nextStage } = u) (hn : u.nextDemand drive.value = n) (hc : u.floorCount n = count) :
    (¬ u.LowConfirmed n → Leaves k (runWell k s) { u with floorTimer := count } (drive.write n)) ∧
    (u.LowConfirmed n → Leaves k (runWell k s) (u.enterStopping .suspended (some .lowIntake) (feedback s k)) ((drive.write n).write 0)) := by
  subst hv hd hu hn hc
  have run := runDemand_at k (s.modWell k (fun _ => { s.wells[k] with state := s.wells[k].nextStage }))
  rw [modWell_well] at run
  rw [runWell_cool h]
  exact run

end

/-- A well in one of its running stages holds its demand below the ceiling of the stage (R123). -/
theorem Well.effectiveCeiling_running {w : Well} (h : w.state.isRunning = true) : w.effectiveCeiling =
    max w.cfg.minSpeed (min (min w.cfg.maxSpeed (if w.state = .running then w.cfg.maxSpeed
      else if w.state = .throttle2 then w.cfg.minSpeed + (w.cfg.maxSpeed - w.cfg.minSpeed) / 2 else w.cfg.minSpeed))
      w.ceilingView.value) := by
  unfold Well.effectiveCeiling
  rw [stageCap_running _ h]

/-! ### A running well by the values it reads -/

section
variable {w : Well}

theorem Well.nextStage_eq {x : Option Int} : viewValue w.windingRead = x → w.nextStage =
    match x with
    | none => .throttle1
    | some x =>
      if 0 < w.cfg.windDelta ∧ w.cfg.windTrip - w.cfg.windDelta ≤ x then .throttle1
      else if x < w.cfg.windTrip - 2 * w.cfg.windDelta then .running
      else if w.state = .running then .throttle2 else w.state := by
  rintro rfl
  unfold Well.nextStage WellConfig.stage
  cases viewValue w.windingRead <;> rfl

theorem Well.base_eq {x : Option Int} : viewValue w.intakeRead = x → w.base =
    match x with
    | none => w.cfg.minSpeed
    | some p =>
      if p < w.intakeView.value + w.cfg.floorBand then
        max w.cfg.minSpeed (clamp w.cfg.minSpeed w.effectiveCeiling w.cfg.target -
          Int.tdiv ((w.intakeView.value + w.cfg.floorBand - p) * w.cfg.floorGain) 100)
      else clamp w.cfg.minSpeed w.effectiveCeiling w.cfg.target := by
  rintro rfl
  unfold Well.base
  cases viewValue w.intakeRead <;> rfl

theorem Well.floorCount_eq {x : Option Int} (demand : Int) : viewValue w.intakeRead = x → w.floorCount demand =
    match x with
    | none => w.floorTimer
    | some p =>
      if w.intakeView.value ≤ p then 0 else if demand = w.cfg.minSpeed then satSucc 2400 w.floorTimer else w.floorTimer := by
  rintro rfl
  unfold Well.floorCount
  cases viewValue w.intakeRead <;> rfl

end

theorem setWpTimer_only (s : State) (timer : Timer) : Only [.wpTimer] s { s with wpTimer := timer } := by
  intro p hp; cases p <;> first | rfl | simp at hp

theorem wpPeriodExpiry_idle {s : State} (h : s.wpTimer = none) : wpPeriodExpiry s = s := by unfold wpPeriodExpiry; rw [h]

theorem wpPeriodExpiry_running {s : State} (h : s.wpTimer.isSome = true) :
    wpPeriodExpiry s = forEach 8 wellPeriod { s with wpTimer := some 250 } := by
  obtain ⟨n, h⟩ := Option.isSome_iff_exists.mp h
  unfold wpPeriodExpiry; rw [h]

/-- Each well does its work in a state in which it and its drive stand as the period found them. -/
theorem wpPeriodExpiry_turn {s : State} (h : s.wpTimer.isSome = true) (k : Fin 8) : ∃ b,
    Only [.wpTimer, .wells, .drives] s b ∧ b.wells[k] = s.wells[k].refreshed s k ∧ b.drives[wellDrive k] = s.drives[wellDrive k] ∧
    (Permission b k ↔ Permission s k) ∧
    (wpPeriodExpiry s).wells[k] = (wellWork k b).wells[k] ∧
      (wpPeriodExpiry s).drives[wellDrive k] = (wellWork k b).drives[wellDrive k] := by
  obtain ⟨a, only, well, drive, after, driveAfter⟩ := (forEach_wells wellPeriod_ofWell { s with wpTimer := some 250 }).2.2 k
  obtain ⟨own, kept⟩ := refreshed_leaves a k
  have both : Only [.wells, .drives] { s with wpTimer := some 250 } (a.refreshed k) := only.trans (refreshed_ofWell a k).only
  have armed := setWpTimer_only s (some 250)
  rw [wpPeriodExpiry_running h, after, driveAfter]
  refine ⟨a.refreshed k, armed.seq both, ?_, kept.trans drive, ?_, rfl, rfl⟩
  · rw [own, well, Well.refreshed_congr only]; rfl
  · exact Permission.congr (s := { s with wpTimer := some 250 }) both (by rw [own, well]; rfl)

end Sys2Proof.Machine

open Sys2Proof Sys2Proof.Machine

/-- Settles O37: the turn of each well, state by state. -/
theorem wellPeriod : Obligations.WellPeriod := by
  intro s hs
  refine ⟨fun h => idles_of hs (fun _ => rfl) (wpPeriodExpiry_idle h), fun h =>
    happens_of hs (fun _ => rfl) ((wpPeriodExpiry_only s).mono (by decide)) fun t ht rested => ?_⟩
  have wells : t.wells = (wpPeriodExpiry s).wells := ht .wells (by decide)
  have drives : t.drives = (wpPeriodExpiry s).drives := ht .drives (by decide)
  have timer : t.wpTimer = (wpPeriodExpiry s).wpTimer := ht .wpTimer (by decide)
  obtain ⟨only, others, -⟩ := forEach_wells wellPeriod_ofWell { s with wpTimer := some 250 }
  rw [← wpPeriodExpiry_running h] at only others
  refine ⟨timer.trans (only .wpTimer (by decide)), fun d hd => by rw [drives]; exact others d hd, fun k => ?_⟩
  obtain ⟨b, onlyB, own, kept, permits, after, driveAfter⟩ := wpPeriodExpiry_turn h k
  have leaves {w : Well} {d : Drive} (hl : Leaves k (wellWork k b) w d) : t.wells[k] = w ∧ t.drives[wellDrive k] = d := by
    rw [wells, drives, after, driveAfter]; exact hl
  have clock : b.clock = s.clock := congrArg Prod.fst (onlyB .clock (by decide))
  have closed : feedback b k = feedback s k := onlyB.feedback (by decide) k
  have starts := startOrWait_at own kept
  rw [permits, closed, clock] at starts
  obtain ⟨go, noPermission, minOff, logFull, feedbackPresent⟩ := starts
  have lost := wellDriveLost_iff own kept
  have trips := tripWell_at own kept .driveLost
  rw [clock] at trips
  intro w c drive v floor intake winding Stands lostP permission restedP StartsOrWaits Trips
  have intakeEq : viewValue v.intakeRead = intake := viewValue_readView s c.intakePoint
  have windingEq : viewValue v.windingRead = winding := viewValue_readView s c.windingPoint
  have startsOrWaits (e : wellWork k b = startOrWait k b) : StartsOrWaits := by
    have leaves {w : Well} {d : Drive} (hl : Leaves k (startOrWait k b) w d) := leaves (e ▸ hl)
    refine ⟨fun hp hr hl hf => ?_, fun hp => leaves (noPermission hp), fun hp hr => leaves (minOff hp hr),
      fun hp hr hl => leaves (logFull hp hr hl), fun hp hr hl hf => leaves (feedbackPresent hp hr hl hf)⟩
    obtain ⟨well, demand⟩ := leaves (go hp hr hl hf)
    exact ⟨well, demand, by rw [rested.runLine, well]; rfl⟩
  have state : b.wells[k].state = w.state := by rw [own]; rfl
  refine ⟨fun hst => leaves ?_, fun hst => startsOrWaits (wellWork_waitStart (state.trans hst)), fun hst => ?_, fun hst => ?_, fun hst => ?_⟩
  · rw [wellWork_rest (by rw [state]; exact hst)]; exact ⟨own, kept⟩
  · obtain ⟨manual, present, restarts⟩ := testRestart_at own kept
    have e := wellWork_suspended (state.trans hst)
    rw [← e, Well.cleared_iff] at present
    rw [Well.cleared_iff] at restarts
    rw [← e] at manual
    rw [show viewValue (w.refreshed s k).intakeRead = intake from intakeEq, show viewValue (w.refreshed s k).windingRead = winding from windingEq]
      at present restarts
    exact ⟨fun ha => leaves (manual ha), fun ha hc => leaves (present ha hc), fun ha hc => startsOrWaits (e.trans (restarts ha hc))⟩
  · have e := wellWork_starting (state.trans hst)
    exact ⟨fun hl => leaves (by rw [e, if_pos (lost.mpr hl)]; exact trips),
      fun hl => leaves (by rw [e, if_neg (fun x => hl (lost.mp x))]; exact ⟨own, kept⟩)⟩
  · have e := wellWork_running (by rw [state]; exact hst)
    have high := runWell_stops own kept
    have low := runWell_runs own kept
    rw [closed, show viewValue (w.refreshed s k).windingRead = winding from windingEq] at high
    rw [closed, show viewValue (w.refreshed s k).windingRead = winding from windingEq] at low
    refine ⟨fun hl => leaves (by rw [e, if_pos (lost.mpr hl)]; exact trips), fun hl hw => leaves ?_, fun hl hw => ?_⟩
    · rw [e, if_neg (fun x => hl (lost.mp x))]; exact high hw
    · intro stage cap ceiling base demand count confirmed
      have stageEq : v.nextStage = stage := Well.nextStage_eq windingEq
      have ran : stage.isRunning = true := stageEq ▸ Well.nextStage_isRunning (w := v) hst
      let u : Well := { v with state := stage }
      have baseEq : u.base = base := by
        rw [Well.base_eq (w := u) intakeEq, Well.effectiveCeiling_running (w := u) ran] <;> rfl
      have demandEq : u.nextDemand drive.value = demand := by unfold Well.nextDemand; rw [baseEq]; rfl
      have countEq : u.floorCount demand = count := Well.floorCount_eq (w := u) demand intakeEq
      have lowEq : u.LowConfirmed demand ↔ confirmed := by
        unfold Well.LowConfirmed
        rw [countEq, show viewValue u.intakeRead = intake from intakeEq]
      obtain ⟨counts, stops⟩ := low hw (u := u) (congrArg (fun st => ({ v with state := st } : Well)) stageEq) demandEq countEq
      exact ⟨fun hc => leaves (by rw [e, if_neg (fun x => hl (lost.mp x))]; exact counts (hc ∘ lowEq.mp)),
        fun hc => leaves (by rw [e, if_neg (fun x => hl (lost.mp x))]; exact stops (lowEq.mpr hc))⟩
end

section
/-! PROOFS. How the fields of a configuration are read (R209), and ConfigureWell (R109, R110). -/

namespace Sys2Proof.Machine

-- One after the other: see Laws/Frames.lean.
set_option Elab.async false

/-! ### Fields of a configuration -/

theorem yesNo_eq_some {n : Nat} {b : Bool} : yesNo n = some b ↔ b.toNat = n := by
  match n with
  | 0 => cases b <;> decide
  | 1 => cases b <;> decide
  | n + 2 =>
    refine ⟨nofun, fun h => ?_⟩
    have := Bool.toNat_le b
    omega

theorem exists_yesNo {n : Nat} : (∃ b, yesNo n = some b) ↔ n ≤ 1 := by
  refine ⟨fun ⟨b, h⟩ => ?_, fun h => ?_⟩
  · rw [← yesNo_eq_some.mp h]; exact Bool.toNat_le b
  · interval_cases n
    · exact ⟨false, rfl⟩
    · exact ⟨true, rfl⟩

theorem optIdent_eq_some {n : Nat} {v : Option Nat} {i : Option (Fin n)} : optIdent n v = some i ↔ identNumber i = v := by
  cases v with
  | none => cases i <;> simp [optIdent, identNumber]
  | some v =>
    simp only [optIdent, Option.map_eq_some_iff, ident_some, identNumber]
    exact ⟨fun ⟨a, h, e⟩ => ⟨a, e.symm, h.symm⟩, fun ⟨a, e, h⟩ => ⟨a, h.symm, e.symm⟩⟩

theorem exists_ident {n v : Nat} : (∃ i, ident n v = some i) ↔ v < n := by
  refine ⟨fun ⟨i, h⟩ => ?_, fun h => ⟨⟨v, h⟩, ident_some.mpr rfl⟩⟩
  rw [ident_some.mp h]; exact i.isLt

theorem exists_optIdent {v : Option Nat} : (∃ i, optIdent 96 v = some i) ↔ ∀ p ∈ v, p ≤ 95 := by
  cases v with
  | none => exact ⟨fun _ => nofun, fun _ => ⟨none, rfl⟩⟩
  | some v =>
    simp only [optIdent, Option.map_eq_some_iff, Option.mem_some_iff]
    refine ⟨fun ⟨_, i, h, _⟩ p hp => ?_, fun h => ?_⟩
    · have := ident_some.mp h
      omega
    · obtain ⟨i, hi⟩ := exists_ident.mpr (show v < 96 by have := h v rfl; omega)
      exact ⟨_, i, hi, rfl⟩

theorem ValueClass.has_iff {c : ValueClass} {v : Int} : c.has v = true ↔ c.lo ≤ v ∧ v ≤ c.hi := within_iff

/-! ### The check of ConfigureWell -/

/-- The ranges of R109. -/
def WellFields.InRange (q : WellFields) : Prop :=
  q.well ≤ 7 ∧ q.enabled ≤ 1 ∧ q.autoRestart ≤ 1 ∧
    (∀ p ∈ q.intakePoint, p ≤ 95) ∧ (∀ p ∈ q.windingPoint, p ≤ 95) ∧ (∀ p ∈ q.flowPoint, p ≤ 95) ∧
    (0 ≤ q.minSpeed ∧ q.minSpeed ≤ q.maxSpeed ∧ q.maxSpeed ≤ 10000) ∧ (1 ≤ q.rampRate ∧ q.rampRate ≤ 10000) ∧
    (0 ≤ q.ownFloor ∧ q.ownFloor ≤ 400000) ∧ (0 ≤ q.floorBand ∧ q.floorBand ≤ 100000) ∧ q.floorGain ≤ 10000 ∧
    (0 ≤ q.floorHys ∧ q.floorHys ≤ 100000) ∧ (1 ≤ q.floorConfirm ∧ q.floorConfirm ≤ 600) ∧
    (-5000 ≤ q.windTrip ∧ q.windTrip ≤ 40000) ∧ (0 ≤ q.windDelta ∧ q.windDelta ≤ 5000) ∧
    (0 ≤ q.windHys ∧ q.windHys ≤ 5000) ∧ (1 ≤ q.startTimeout ∧ q.startTimeout ≤ 60) ∧
    (1 ≤ q.stopTimeout ∧ q.stopTimeout ≤ 60) ∧ q.minOff ≤ 3600 ∧ (1 ≤ q.maxStarts ∧ q.maxStarts ≤ 10) ∧
    (1 ≤ q.tripLimit ∧ q.tripLimit ≤ 15) ∧ (1 ≤ q.tripRecovery ∧ q.tripRecovery ≤ 24) ∧
    (1 ≤ q.deliveryLimit ∧ q.deliveryLimit ≤ 60)

/-- The numbers of R109 as the check compares them. -/
theorem WellFields.numbers_iff (q : WellFields) :
    (ValueClass.frac.has q.minSpeed && within q.minSpeed 10000 q.maxSpeed && withinNat 1 10000 q.rampRate &&
      ValueClass.pres.has q.ownFloor && within 0 100000 q.floorBand && withinNat 0 10000 q.floorGain &&
      within 0 100000 q.floorHys && withinNat 1 600 q.floorConfirm && ValueClass.temp.has q.windTrip &&
      within 0 5000 q.windDelta && within 0 5000 q.windHys && withinNat 1 60 q.startTimeout &&
      withinNat 1 60 q.stopTimeout && withinNat 0 3600 q.minOff && withinNat 1 10 q.maxStarts &&
      withinNat 1 15 q.tripLimit && withinNat 1 24 q.tripRecovery && withinNat 1 60 q.deliveryLimit) = true ↔
    (0 ≤ q.minSpeed ∧ q.minSpeed ≤ q.maxSpeed ∧ q.maxSpeed ≤ 10000) ∧ (1 ≤ q.rampRate ∧ q.rampRate ≤ 10000) ∧
    (0 ≤ q.ownFloor ∧ q.ownFloor ≤ 400000) ∧ (0 ≤ q.floorBand ∧ q.floorBand ≤ 100000) ∧ q.floorGain ≤ 10000 ∧
    (0 ≤ q.floorHys ∧ q.floorHys ≤ 100000) ∧ (1 ≤ q.floorConfirm ∧ q.floorConfirm ≤ 600) ∧
    (-5000 ≤ q.windTrip ∧ q.windTrip ≤ 40000) ∧ (0 ≤ q.windDelta ∧ q.windDelta ≤ 5000) ∧
    (0 ≤ q.windHys ∧ q.windHys ≤ 5000) ∧ (1 ≤ q.startTimeout ∧ q.startTimeout ≤ 60) ∧
    (1 ≤ q.stopTimeout ∧ q.stopTimeout ≤ 60) ∧ q.minOff ≤ 3600 ∧ (1 ≤ q.maxStarts ∧ q.maxStarts ≤ 10) ∧
    (1 ≤ q.tripLimit ∧ q.tripLimit ≤ 15) ∧ (1 ≤ q.tripRecovery ∧ q.tripRecovery ≤ 24) ∧
    (1 ≤ q.deliveryLimit ∧ q.deliveryLimit ≤ 60) := by
  simp only [Bool.and_eq_true, ValueClass.has_iff, within_iff, withinNat_iff, ValueClass.lo, ValueClass.hi, and_assoc]
  omega

theorem WellFields.check_some {q : WellFields} {k : Fin 8} {new : WellConfig} {clamped : Bool}
    (h : WellFields.check q = some (k, new, clamped)) : WellFields.InRange q ∧ k.val = q.well ∧
      new.fields = { q with well := 0, target := clamp q.minSpeed q.maxSpeed q.target } ∧ clamped = decide (new.target ≠ q.target) := by
  simp only [WellFields.check, bind, Option.bind_eq_some_iff, require_eq_some, WellFields.numbers_iff, Option.some.injEq, Prod.mk.injEq] at h
  obtain ⟨well, hw, enabled, he, intake, hi, winding, hx, flow, hf, restart, hr, -, ranges, rfl, rfl, rfl⟩ := h
  refine ⟨⟨Nat.le_of_lt_succ (exists_ident.mp ⟨_, hw⟩), exists_yesNo.mp ⟨_, he⟩, exists_yesNo.mp ⟨_, hr⟩, exists_optIdent.mp ⟨_, hi⟩,
    exists_optIdent.mp ⟨_, hx⟩, exists_optIdent.mp ⟨_, hf⟩, ranges⟩, (ident_some.mp hw).symm, ?_, rfl⟩
  simp only [WellConfig.fields, yesNo_eq_some.mp he, yesNo_eq_some.mp hr, optIdent_eq_some.mp hi, optIdent_eq_some.mp hx,
    optIdent_eq_some.mp hf]

theorem WellFields.exists_check {q : WellFields} (h : WellFields.InRange q) : ∃ x, WellFields.check q = some x := by
  obtain ⟨hw, he, hr, hi, hx, hf, ranges⟩ := h
  obtain ⟨well, hw⟩ := exists_ident.mpr (Nat.lt_succ_of_le hw)
  obtain ⟨enabled, he⟩ := exists_yesNo.mpr he
  obtain ⟨restart, hr⟩ := exists_yesNo.mpr hr
  obtain ⟨intake, hi⟩ := exists_optIdent.mpr hi
  obtain ⟨winding, hx⟩ := exists_optIdent.mpr hx
  obtain ⟨flow, hf⟩ := exists_optIdent.mpr hf
  simp only [WellFields.check, bind, Option.bind_eq_some_iff, require_eq_some, WellFields.numbers_iff]
  exact ⟨_, well, hw, enabled, he, intake, hi, winding, hx, flow, hf, restart, hr, (), ranges, rfl⟩

theorem WellFields.check_none_iff (q : WellFields) : WellFields.check q = none ↔ ¬ WellFields.InRange q := by
  refine ⟨fun h r => ?_, fun h => ?_⟩
  · obtain ⟨x, hx⟩ := WellFields.exists_check r
    exact absurd (h.symm.trans hx) nofun
  · cases hc : WellFields.check q with
    | none => rfl
    | some x => exact absurd (WellFields.check_some hc).1 h

/-! ### The answers -/

/-- The structural change of a well (section 6.1). -/
def WellConfig.Structural (old new : WellConfig) : Prop :=
  old.enabled ≠ new.enabled ∨ old.intakePoint ≠ new.intakePoint ∨ old.windingPoint ≠ new.windingPoint ∨ old.flowPoint ≠ new.flowPoint

theorem structuralWellChange_iff (old new : WellConfig) : structuralWellChange old new = true ↔ old.Structural new := by
  simp only [structuralWellChange, WellConfig.Structural, Bool.or_eq_true, decide_eq_true_eq, or_assoc]

/-- What stands against storing (R109 step 2). -/
def WellBusy (s : State) (k : Fin 8) (new : WellConfig) : Prop :=
  new.maxStarts < s.wells[k].startLog.length ∨ (s.phase = .config ∧ s.wells[k].cfg.enabled = true ∧ new.enabled = false ∧
    (s.wells[k].state = .tripped ∨ s.wells[k].state = .lockedOut))

theorem structural_run {s : State} {k : Fin 8} {new : WellConfig} (hs : s.phase = .run ∧ s.wells[k].cfg.Structural new) :
    (decide (s.phase = .run) && structuralWellChange s.wells[k].cfg new) = true := by
  rw [decide_eq_true hs.1, (structuralWellChange_iff _ _).mpr hs.2]; rfl

theorem structural_not_run {s : State} {k : Fin 8} {new : WellConfig} (hs : ¬ (s.phase = .run ∧ s.wells[k].cfg.Structural new)) :
    ¬ (decide (s.phase = .run) && structuralWellChange s.wells[k].cfg new) = true := by
  rw [Bool.and_eq_true, decide_eq_true_eq, structuralWellChange_iff]; exact hs

section
variable {q : WellFields} {k : Fin 8} {new : WellConfig} {clamped : Bool} {s : State} (h : WellFields.check q = some (k, new, clamped))
include h

theorem ownConfigureWell_state (hs : s.phase = .run ∧ s.wells[k].cfg.Structural new) :
    ownConfigureWell q s = (s, ⟨.state, []⟩) := by
  unfold ownConfigureWell
  rw [h]; dsimp only
  rw [if_pos (structural_run hs)]; rfl

theorem ownConfigureWell_inUse (hs : ¬ (s.phase = .run ∧ s.wells[k].cfg.Structural new)) (hb : WellBusy s k new) :
    ownConfigureWell q s = (s, ⟨.inUse, []⟩) := by
  unfold ownConfigureWell
  rw [h]; dsimp only
  rw [if_neg (structural_not_run hs)]
  rcases hb with hb | hb
  · rw [if_pos hb]; rfl
  · by_cases hl : new.maxStarts < s.wells[k].startLog.length
    · rw [if_pos hl]; rfl
    · rw [if_neg hl, if_pos hb]; rfl

theorem ownConfigureWell_ok (hs : ¬ (s.phase = .run ∧ s.wells[k].cfg.Structural new)) (hb : ¬ WellBusy s k new) :
    ownConfigureWell q s = (storeWell k new s, ⟨if clamped then .clamped else .ok, Wire.putWellConfig new.fields⟩) := by
  have stored : (storeWell k new s).wells[k].cfg = new := by rw [storeWell_wells, if_pos rfl, Well.configured_cfg]
  unfold ownConfigureWell
  rw [h]; dsimp only
  rw [if_neg (structural_not_run hs), if_neg (fun hl => hb (.inl hl)), if_neg (fun hl => hb (.inr hl)), stored]; rfl

end

/-- A new trip limit (R110). -/
theorem Well.configured_trips (new : WellConfig) (w : Well) : let v := w.configured new
    v = { w with cfg := new, tripCount := v.tripCount, decayTimer := v.decayTimer } ∧
    (w.state = .lockedOut → v.tripCount = new.tripLimit ∧ v.decayTimer = w.decayTimer) ∧
    (w.state ≠ .lockedOut → w.tripCount < new.tripLimit → v.tripCount = w.tripCount ∧ v.decayTimer = w.decayTimer) ∧
    (w.state ≠ .lockedOut → new.tripLimit ≤ w.tripCount → v.tripCount = new.tripLimit - 1 ∧
      v.decayTimer = if new.tripLimit - 1 = 0 then none else w.decayTimer) := by
  unfold Well.configured Well.takeTripLimit
  dsimp only
  split
  · rename_i h
    exact ⟨rfl, fun _ => ⟨rfl, rfl⟩, fun hn => absurd h hn, fun hn => absurd h hn⟩
  · rename_i h
    split
    · rename_i hl
      exact ⟨rfl, fun e => absurd e h, fun _ hn => absurd hl (by omega), fun _ _ => ⟨rfl, rfl⟩⟩
    · rename_i hl
      exact ⟨rfl, fun e => absurd e h, fun _ _ => ⟨rfl, rfl⟩, fun _ hn => absurd hn hl⟩

/-- The ceiling that clamps the demand of a well under a new speed range (R110, R123). -/
theorem Well.configured_ceiling (new : WellConfig) (w : Well) : (w.configured new).effectiveCeiling =
    max new.minSpeed (min (min new.maxSpeed ((new.stageCap w.state).getD new.maxSpeed)) w.ceilingView.value) := by
  unfold Well.effectiveCeiling
  rw [Well.configured_cfg, Well.configured_state, Well.configured_ceilingView]

/-- What storing a well does to the constraint table (R97, R109). -/
theorem storeWell_constraints (k : Fin 8) (new : WellConfig) (s : State) : let t := storeWell k new s
    t.slots = s.slots ∧ t.combined = s.combined ∧
    (∀ g : Target, g ≠ .wellFloor k ∨ s.wells[k].cfg.ownFloor = new.ownFloor → t.bounds[g.index] = s.bounds[g.index]) ∧
    (s.wells[k].cfg.ownFloor ≠ new.ownFloor → t.bounds[(Target.wellFloor k).index] = boundOf t (.wellFloor k)) := by
  have only : Only [.wells, .drives] s (takeSpeedRange k s.wells[k].cfg (s.modWell k (Well.configured new))) :=
    (s.modWell_only k _).seq (takeSpeedRange_only k _ _)
  obtain ⟨slots, bounds, combined⟩ := (only .constraints (by decide)).same
  dsimp only
  rw [storeWell_eq]
  split
  · rename_i h
    exact ⟨slots, combined, fun g _ => congrArg (fun b : Vector Bound _ => b[g.index]) bounds, fun hn => absurd h hn⟩
  · rename_i h
    refine ⟨(recompute_slots ..).trans slots, combined, fun g hg => ?_, fun _ => ?_⟩
    · rw [recompute_bounds, if_neg (hg.resolve_right h), bounds]
    · rw [recompute_bounds, if_pos rfl, boundOf_recompute]

end Sys2Proof.Machine

open Sys2Proof Sys2Proof.Machine

/-- Settles O35. -/
theorem configureWellForms : Obligations.ConfigureWellForms := by
  intro tag q s hs
  refine ⟨fun h => refuses_of rfl hs fun v _ => ?_, WellFields.check_none_iff q, fun k new clamped h => ?_⟩
  · show ownConfigureWell q _ = _
    unfold ownConfigureWell; rw [h]; rfl
  obtain ⟨-, fields⟩ := WellFields.check_some h
  refine ⟨fields, fun hr hst => refuses_of rfl hs fun v _ => by exact ownConfigureWell_state (s := { s with supervision := v }) h ⟨hr, hst⟩,
    fun hst hb => refuses_of rfl hs fun v _ => by exact ownConfigureWell_inUse (s := { s with supervision := v }) h hst hb,
    fun hst hb => replies_of rfl hs fun v _ => ⟨_, by exact ownConfigureWell_ok (s := { s with supervision := v }) h hst hb,
      storeWell_only k new _, fun t ht _ => ?_⟩⟩
  have wells : t.wells = _ := ht .wells (by decide)
  have drives : t.drives = _ := ht .drives (by decide)
  have heating := ht .heating (by decide)
  obtain ⟨tslots, tbounds, tcombined⟩ := ht .constraints (by decide)
  obtain ⟨slots, combined, kept, anew⟩ := storeWell_constraints k new { s with supervision := v }
  have own : t.wells[k] = s.wells[k].configured new := by rw [wells, storeWell_wells, if_pos rfl]
  obtain ⟨record, locked, below, above⟩ := s.wells[k].configured_trips new
  have drive (d : Fin 15) := storeWell_drives k new { s with supervision := v } d
  rw [own, drives]
  refine ⟨fun j hj => by rw [wells, storeWell_wells, if_neg (Ne.symm hj)], record, locked, below, above,
    fun d hd => by rw [drive, if_neg (fun e => hd e.1.symm)], fun hn => ?_, fun he hn => ?_, tslots.trans slots, tcombined.trans combined,
    fun g hg => by rw [tbounds]; exact kept g hg, fun hn => ?_⟩
  · refine Vector.ext fun d hd => (drive ⟨d, hd⟩).trans (if_neg fun e => ?_)
    rcases hn with hn | hn
    · exact absurd (hn.symm.trans e.2.2) nofun
    · exact e.2.1.elim (fun x => x hn.1) (fun x => x hn.2)
  · rw [drive, if_pos ⟨rfl, hn, he⟩, Well.configured_ceiling]; rfl
  · rw [tbounds, anew hn]
    exact (boundOf_eq (fun j => by rw [tslots]) (targetDefault_eq _ (fun j => by rw [wells]) (by rw [heating]) _)).symm
end

section
/-! PROOFS. Tooth edges and the loss of signal (R14, R67 to R69, R140, R151 to R153). -/

namespace Sys2Proof.Machine

-- One after the other: see Laws/Frames.lean.
set_option Elab.async false

/-! ### The computed speed (R68) -/

theorem periodSum_eq (l : List Nat) : periodSum l = l.sum := rfl

theorem speedOf_zero {teeth : Nat} {l : List Nat} (h : (l.sum : Int) = 0) : speedOf teeth l = 9999 :=
  if_pos (by rw [periodSum_eq]; omega)

theorem speedOf_quotient {teeth : Nat} {l : List Nat} (h : (l.sum : Int) ≠ 0) (ht : teeth ≠ 0) :
    speedOf teeth l = min 9999 ((480000000 + teeth * (l.sum : Int)) / (2 * (teeth * (l.sum : Int)))) := by
  have pos : (0 : Int) < teeth * (l.sum : Int) := by
    have : (0 : Int) < teeth := by omega
    have : (0 : Int) < (l.sum : Int) := by omega
    positivity
  unfold speedOf
  rw [periodSum_eq, if_neg (by omega), clamp_zero_of_nonneg (by decide) (roundHalfUp_nonneg (by decide) pos)]
  rfl

/-! ### The speed unit (R67, R69) -/

theorem SpeedUnit.edge_first {u : SpeedUnit} (stamp : TimeBase) (h : u.signal = .silent ∨ u.signal = .lost) : u.edge stamp =
    { u with signal := .acquiring, lastEdge := some stamp, periods := [], lossTimer := some u.cfg.lossTime } := by
  unfold SpeedUnit.edge
  rcases h with h | h <;> rw [h] <;> rfl

theorem SpeedUnit.edge_later {u : SpeedUnit} {last : TimeBase} (stamp : TimeBase) (h : u.signal = .acquiring ∨ u.signal = .measuring)
    (hl : u.lastEdge = some last) : u.edge stamp = u.laterEdge last stamp := by
  unfold SpeedUnit.edge
  rcases h with h | h <;> rw [h, hl]

theorem SpeedUnit.laterEdge_few {u : SpeedUnit} {last stamp : TimeBase}
    (h : ((min 65535 (stamp - last).toNat :: u.periods).take 4).length < 4) : u.laterEdge last stamp =
      { u with lastEdge := some stamp, periods := (min 65535 (stamp - last).toNat :: u.periods).take 4, lossTimer := some u.cfg.lossTime } := by
  unfold SpeedUnit.laterEdge
  dsimp only
  rw [if_neg (by omega)]; rfl

theorem SpeedUnit.laterEdge_four {u : SpeedUnit} {last stamp : TimeBase}
    (h : ((min 65535 (stamp - last).toNat :: u.periods).take 4).length = 4) : u.laterEdge last stamp =
      { u with signal := .measuring, lastEdge := some stamp, periods := (min 65535 (stamp - last).toNat :: u.periods).take 4,
               speed := some (speedOf u.cfg.teeth ((min 65535 (stamp - last).toNat :: u.periods).take 4)),
               lossTimer := some u.cfg.lossTime } := by
  unfold SpeedUnit.laterEdge
  dsimp only
  rw [if_pos h]; rfl

/-- The part with the edge taken by the speed unit alone. -/
def State.edged (offset : TimeBase) (s : State) : State := s.modSpeed (SpeedUnit.edge (s.speedUnit.timeBase + offset))

theorem toothEdge_quiet {offset : TimeBase} {s : State} (h : (s.edged offset).speedUnit.periods.length < 4) :
    toothEdge offset s = s.edged offset := if_neg (Nat.ne_of_lt h)

theorem toothEdge_computes {offset : TimeBase} {s : State} {v : Int} (h : (s.edged offset).speedUnit.periods.length = 4)
    (hv : (s.edged offset).speedUnit.speed = some v) : toothEdge offset s = speedComputed v (s.edged offset) := by
  unfold toothEdge
  dsimp only
  rw [if_pos (show (s.modSpeed (SpeedUnit.edge (s.speedUnit.timeBase + offset))).speedUnit.periods.length = 4 from h)]
  have : (s.modSpeed (SpeedUnit.edge (s.speedUnit.timeBase + offset))).speedUnit.speed = some v := hv
  rw [this]; rfl

/-! ### What a computed speed brings -/

theorem atSpeedPoint_points (f : Point → Point) (s : State) (p : Fin 96) :
    (atSpeedPoint f s).points[p] = if speedPoint s = some p then f s.points[p] else s.points[p] := by
  unfold atSpeedPoint
  cases speedPoint s with
  | none => rfl
  | some i =>
    dsimp only
    rw [State.modPoint_at]
    by_cases h : i = p
    · rw [if_pos h, if_pos (congrArg some h), h]
    · rw [if_neg h, if_neg (fun e => h (Option.some.inj e))]

/-- The part with a computed speed delivered to its point and to the governor's record (R14, R140). -/
def State.speedHeard (v : Int) (s : State) : State :=
  (atSpeedPoint (Point.goodRead v false) s).modTurbine (fun t => { t with speedAcquired := t.speedAcquired || t.state.energised })

theorem speedHeard_only (v : Int) (s : State) : Only [.points, .turbine] s (s.speedHeard v) :=
  (atSpeedPoint_only _ s).seq (State.modTurbine_only _ _)

theorem speedHeard_turbine (v : Int) (s : State) :
    (s.speedHeard v).turbine = { s.turbine with speedAcquired := s.turbine.speedAcquired || s.turbine.state.energised } := by
  have h : (atSpeedPoint (Point.goodRead v false) s).turbine = s.turbine := atSpeedPoint_only _ s .turbine (by decide)
  unfold State.speedHeard
  rw [State.modTurbine_turbine, h]

theorem State.modTurbine_agree {f g : Turbine → Turbine} {s : State} (h : f s.turbine = g s.turbine) : s.modTurbine f = s.modTurbine g :=
  congrArg (fun t => ({ s with turbine := t } : State)) h

theorem State.modTurbine_self {f : Turbine → Turbine} {s : State} (h : f s.turbine = s.turbine) : s.modTurbine f = s :=
  congrArg (fun t => ({ s with turbine := t } : State)) h

/-- A computed speed: heard, and from the overspeed limit on a trip (R151). -/
theorem speedComputed_eq (v : Int) (s : State) : speedComputed v s =
    if s.speedUnit.cfg.ovsLimit ≤ v then tripOrLater .overspeed (some v) (s.speedHeard v) else s.speedHeard v := by
  have heard : (if (atSpeedPoint (Point.goodRead v false) s).turbine.state.energised then
      (atSpeedPoint (Point.goodRead v false) s).modTurbine (fun t => { t with speedAcquired := true })
      else atSpeedPoint (Point.goodRead v false) s) = s.speedHeard v := by
    unfold State.speedHeard
    generalize atSpeedPoint (Point.goodRead v false) s = u
    cases h : u.turbine.state.energised
    · rw [if_neg Bool.false_ne_true]
      exact (State.modTurbine_self (congrArg (fun b => ({ u.turbine with speedAcquired := b } : Turbine))
        (by rw [h, Bool.or_false]))).symm
    · rw [if_pos rfl]
      exact State.modTurbine_agree (congrArg (fun b => ({ u.turbine with speedAcquired := b } : Turbine)) (by rw [h, Bool.or_true]))
  have unit : (s.speedHeard v).speedUnit = s.speedUnit := speedHeard_only v s .speedUnit (by decide)
  unfold speedComputed
  dsimp only
  rw [heard, unit]

theorem tripOrLater_trips {c : TurbineTripCause} {v : Option Int} {s : State} (h : s.turbine.state ≠ .tripped) :
    tripOrLater c v s = tripTurbine c v s := if_neg h

theorem tripOrLater_later {c : TurbineTripCause} {v : Option Int} {s : State} (h : s.turbine.state = .tripped) :
    tripOrLater c v s = postRunback (s.modTurbine (Turbine.laterTrip s.clock c)) := if_pos h

/-- The governor at the end of the event of a computed speed. `s` is the part before the edge, `e` the part with the edge taken. -/
theorem speedComputed_governor {s e t : State} {v : Int} (h : Only [.speedUnit] s e) (ht : UnchangedBut [] (speedComputed v e) t) :
    let g := s.turbine
    (∀ d : Fin 15, d ≠ admissionDrive → d ≠ extractionDrive → t.drives[d] = s.drives[d]) ∧
    (v < e.speedUnit.cfg.ovsLimit →
      t.turbine = { g with speedAcquired := g.speedAcquired || g.state.energised } ∧ t.drives = s.drives ∧ Same .constraints s t) ∧
    (e.speedUnit.cfg.ovsLimit ≤ v → g.state ≠ .tripped →
      t.turbine = ({ g with speedAcquired := g.speedAcquired || g.state.energised } : Turbine).trip s.clock .overspeed (some v) ∧
        TripSpreads s t s.drives[admissionDrive]) ∧
    (e.speedUnit.cfg.ovsLimit ≤ v → g.state = .tripped →
      t.turbine = g.laterTrip s.clock .overspeed ∧ t.drives = s.drives ∧ RunbackPosted s t) := by
  have heard : Only [.speedUnit, .points, .turbine] s (e.speedHeard v) := h.seq (speedHeard_only v e)
  have turbine : (e.speedHeard v).turbine = { s.turbine with speedAcquired := s.turbine.speedAcquired || s.turbine.state.energised } := by
    have : e.turbine = s.turbine := h .turbine (by decide)
    rw [speedHeard_turbine, this]
  have drives : (e.speedHeard v).drives = s.drives := heard .drives (by decide)
  have clock : (e.speedHeard v).clock = s.clock := congrArg Prod.fst (heard .clock (by decide))
  have constraints : Same .constraints s (e.speedHeard v) := (heard .constraints (by decide)).same
  dsimp only
  rw [speedComputed_eq] at ht
  by_cases hv : e.speedUnit.cfg.ovsLimit ≤ v
  · rw [if_pos hv] at ht
    by_cases hs : s.turbine.state = .tripped
    · rw [tripOrLater_later (by rw [turbine]; exact hs)] at ht
      obtain ⟨own, same, posted⟩ := laterTrip_leaves .overspeed ht constraints clock (by rw [turbine])
      rw [turbine, clock] at own
      refine ⟨fun d _ _ => by rw [same, drives], fun hn => absurd hv (by omega), fun _ hn => absurd hs hn, fun _ _ =>
        ⟨own.trans ?_, same.trans drives, posted⟩⟩
      rw [hs]; unfold TurbineState.energised; dsimp only; rw [Bool.or_false]
    · rw [tripOrLater_trips (by rw [turbine]; exact hs)] at ht
      obtain ⟨own, spreads, others⟩ := tripTurbine_leaves .overspeed (some v) ht constraints clock (by rw [turbine]) (by rw [drives])
      rw [turbine, clock] at own
      rw [drives] at spreads
      refine ⟨fun d ha he => (others d ha he).trans (by rw [drives]), fun hn => absurd hv (by omega), fun _ _ => ⟨own, spreads⟩,
        fun _ hn => absurd hn hs⟩
  · rw [if_neg hv] at ht
    have same : t.drives = s.drives := Eq.trans (ht .drives (by decide)) drives
    exact ⟨fun d _ _ => by rw [same], fun _ => ⟨Eq.trans (ht .turbine (by decide)) turbine, same,
      Same.trans (by decide) (by decide) constraints (ht .constraints (by decide))⟩, fun hn => absurd hn hv, fun hn => absurd hn hv⟩

theorem speedComputed_unit (v : Int) (s : State) : (speedComputed v s).speedUnit = s.speedUnit :=
  speedComputed_only v s .speedUnit (by decide)

theorem speedComputed_points (v : Int) (s : State) : (speedComputed v s).points = (atSpeedPoint (Point.goodRead v false) s).points := by
  rw [speedComputed_eq]
  split
  · exact tripOrLater_only _ _ _ .points (by decide)
  · rfl

/-! ### Loss of signal (R69, R151) -/

theorem lossTimerExpiry_idle {s : State} (h : s.speedUnit.lossTimer = none) : lossTimerExpiry s = s := by unfold lossTimerExpiry; rw [h]

/-- The part with the loss taken by the speed unit and its point. -/
def State.signalLost (s : State) : State := atSpeedPoint Point.failedRead (s.modSpeed SpeedUnit.lose)

theorem lossTimerExpiry_running {s : State} (h : s.speedUnit.lossTimer.isSome = true) : lossTimerExpiry s = speedLost s.signalLost := by
  obtain ⟨n, h⟩ := Option.isSome_iff_exists.mp h
  unfold lossTimerExpiry; rw [h]; rfl

theorem signalLost_only (s : State) : Only [.speedUnit, .points] s s.signalLost := (s.modSpeed_only _).seq (atSpeedPoint_only _ _)

/-- Whether the loss of speed trips the turbine (R151). -/
def Turbine.tripsOnLoss (g : Turbine) : Bool :=
  decide (g.state = .syncWait) || decide (g.state = .loaded) || decide (g.state = .unloading) ||
    (decide (g.state = .rolling) && g.speedAcquired)

theorem speedLost_eq (s : State) : speedLost s =
    if s.turbine.tripsOnLoss then tripTurbine .speedLost (some s.turbine.speedView) s else s := by
  unfold speedLost Turbine.tripsOnLoss
  dsimp only
  cases h : s.turbine.state <;> simp

end Sys2Proof.Machine

open Sys2Proof Sys2Proof.Machine

/-- Settles O34. -/
theorem speedUnitEvents : Obligations.SpeedUnitEvents := by
  intro s hs
  have quiet (offset : TimeBase) {w : SpeedUnit} (hw : s.speedUnit.edge (s.speedUnit.timeBase + offset) = w) (hl : w.periods.length < 4) :
      Happens (.toothEdge offset) s [.speedUnit] (fun t => t.speedUnit = w) := by
    have e : toothEdge offset s = s.edged offset := toothEdge_quiet (by show (s.speedUnit.edge _).periods.length < 4; rw [hw]; exact hl)
    refine happens_of hs (f := toothEdge offset) (fun _ => rfl) (by rw [e]; exact s.modSpeed_only _) fun t ht _ => ?_
    rw [e] at ht
    exact Eq.trans (ht .speedUnit (by decide)) hw
  refine ⟨fun offset => ⟨fun h => quiet offset (SpeedUnit.edge_first _ h) (by simp), fun last h hl => ⟨fun hk => ?_, fun hk => ?_⟩⟩,
    fun h => idles_of hs (fun _ => rfl) (lossTimerExpiry_idle h), fun h => ?_⟩
  · exact quiet offset ((SpeedUnit.edge_later _ h hl).trans (SpeedUnit.laterEdge_few hk)) hk
  · intro sum v
    have hv : speedOf s.speedUnit.cfg.teeth ((min 65535 (s.speedUnit.timeBase + offset - last).toNat :: s.speedUnit.periods).take 4) = v := by
      by_cases hz : sum = 0 ∨ s.speedUnit.cfg.teeth = 0
      · exact (if_pos hz).symm
      · rw [not_or] at hz
        exact (speedOf_quotient hz.1 hz.2).trans (if_neg (not_or.mpr hz)).symm
    refine ⟨fun hz => hv.symm.trans (speedOf_zero hz), ?_⟩
    have edge := (SpeedUnit.edge_later (s.speedUnit.timeBase + offset) h hl).trans (SpeedUnit.laterEdge_four hk)
    rw [hv] at edge
    have unit : (s.edged offset).speedUnit = _ := edge
    have e : toothEdge offset s = speedComputed v (s.edged offset) := toothEdge_computes (by rw [unit]; exact hk) (by rw [unit])
    refine happens_of hs (f := toothEdge offset) (fun _ => rfl) (toothEdge_only offset s) fun t ht _ => ?_
    rw [e] at ht
    have governor := speedComputed_governor (e := s.edged offset) (s.modSpeed_only _) ht
    have points : t.points = _ := Eq.trans (ht .points (by decide)) (speedComputed_points v _)
    rw [unit] at governor
    refine ⟨Eq.trans (ht .speedUnit (by decide)) ((speedComputed_unit v _).trans unit), fun p => ?_, governor⟩
    rw [points]; exact atSpeedPoint_points _ _ p
  · have e := lossTimerExpiry_running h
    refine happens_of hs (fun _ => rfl) (lossTimerExpiry_only s) fun t ht _ => ?_
    rw [e, speedLost_eq] at ht
    have only := signalLost_only s
    have turbine : s.signalLost.turbine = s.turbine := only .turbine (by decide)
    have drives : s.signalLost.drives = s.drives := only .drives (by decide)
    have constraints : Same .constraints s s.signalLost := (only .constraints (by decide)).same
    have unit : s.signalLost.speedUnit = s.speedUnit.lose := atSpeedPoint_only _ _ .speedUnit (by decide)
    have ends : Only [.turbine, .drives, .constraints] s.signalLost
        (if s.signalLost.turbine.tripsOnLoss then tripTurbine .speedLost (some s.signalLost.turbine.speedView) s.signalLost else s.signalLost) :=
      .ite (tripTurbine_only _ _ _) (.refl _ _)
    have points : t.points = s.signalLost.points := Eq.trans (ht .points (by decide)) (ends .points (by decide))
    refine ⟨Eq.trans (Eq.trans (ht .speedUnit (by decide)) (ends .speedUnit (by decide))) unit,
      fun p => by rw [points]; exact atSpeedPoint_points _ _ p, ?_⟩
    rw [turbine] at ht
    change _ ∧ (s.turbine.tripsOnLoss = true → _) ∧ (s.turbine.tripsOnLoss = false → _)
    cases htrip : s.turbine.tripsOnLoss
    · rw [htrip] at ht
      have same : t.drives = s.drives := Eq.trans (ht .drives (by decide)) drives
      exact ⟨fun d _ _ => by rw [same], nofun, fun _ => ⟨Eq.trans (ht .turbine (by decide)) turbine, same,
        Same.trans (by decide) (by decide) constraints (ht .constraints (by decide))⟩⟩
    · rw [htrip] at ht
      obtain ⟨own, spreads, others⟩ := tripTurbine_leaves .speedLost (some s.turbine.speedView) ht constraints
        (congrArg Prod.fst (only .clock (by decide))) (by rw [turbine]) (by rw [drives])
      rw [turbine, show s.signalLost.clock = s.clock from congrArg Prod.fst (only .clock (by decide))] at own
      rw [drives] at spreads
      exact ⟨fun d ha he => (others d ha he).trans (by rw [drives]), fun _ => ⟨own, spreads⟩, nofun⟩
end

section
/-! PROOFS. The commands of the host to the turbine (R141, R145, R146, R149, R151 to R154). -/

namespace Sys2Proof.Machine

-- One after the other: see Laws/Frames.lean.
set_option Elab.async false

/-! ### Passages of the governor -/

section
variable {f : Turbine → Turbine} {s : State}

/-- A passage to a state other than LOADED leaves no grant (R156). -/
theorem passTurbine_unloaded (h : (f s.turbine).state ≠ .loaded) (hm : 1 ≤ (f s.turbine).cfg.extractionMax) :
    (passTurbine f s).turbine = { f s.turbine with grant := ⟨(f s.turbine).grant.request, 0, 0⟩ } ∧
      ∀ d : Fin 15, (passTurbine f s).drives[d] =
        if d = extractionDrive ∧ (f s.turbine).state.energised = true then s.drives[extractionDrive].write 0 else s.drives[d] := by
  have settled := Turbine.settleGrant_unloaded h hm
  refine ⟨(recomputeGrant_turbine _).trans settled, fun d => (recomputeGrant_drive d _).trans ?_⟩
  rw [State.modTurbine_turbine, settled]; rfl

end

/-- The governor's record on entry to STOPPED (R149, R150). -/
def Turbine.stopped (t : Turbine) : Turbine :=
  { t with state := .stopped, rollTimer := none, breakerTimer := none, openCommanded := false, grant := ⟨t.grant.request, 0, 0⟩ }

theorem stopTurbine_turbine {s : State} (hm : 1 ≤ s.turbine.cfg.extractionMax) : (stopTurbine s).turbine = s.turbine.stopped := by
  unfold stopTurbine
  rw [(passTurbine_unloaded (s := restDrives s) (by nofun) hm).1]; rfl

theorem stopTurbine_drives {s : State} (hm : 1 ≤ s.turbine.cfg.extractionMax) (d : Fin 15) : (stopTurbine s).drives[d] =
    if d = admissionDrive ∨ d = extractionDrive then s.drives[d].write 0 else s.drives[d] := by
  unfold stopTurbine
  rw [(passTurbine_unloaded (s := restDrives s) (by nofun) hm).2, if_neg (fun h => nomatch h.2), restDrives_at]

/-- BRK_OPEN_CMD follows a closed breaker in STOPPED and TRIPPED (R138). -/
theorem Rested.breakerOpen {t : State} (h : Rested t) (ht : t.turbine.state = .stopped ∨ t.turbine.state = .tripped) :
    t.discretes[breakerOpenLine].roleCommand = breakerClosed t := by
  obtain ⟨⟨-, -, -, follows, -⟩, -⟩ := h
  rw [follows]
  unfold breakerOpenDemand
  rcases ht with ht | ht <;> rw [ht]

theorem Rested.stopValve {t : State} (h : Rested t) : t.discretes[stopValveLine].roleCommand = t.turbine.state.energised := h.1.2.1

/-! ### The conditions of ROLL and RESET_TRIP -/

/-- The three lines of the governor stand in ROLE. -/
def TurbineInRoles (s : State) : Prop :=
  inRole s stopValveLine = true ∧ inRole s breakerOpenLine = true ∧ inRole s breakerClosedLine = true

theorem turbineInRoles_iff (s : State) :
    (inRole s stopValveLine && inRole s breakerOpenLine && inRole s breakerClosedLine) = true ↔ TurbineInRoles s := by
  rw [Bool.and_eq_true, Bool.and_eq_true, and_assoc]; rfl

/-- The six conditions of R141. -/
def Rollable (s : State) : Prop :=
  s.phase = .run ∧ (s.supervision.state = .disarmed ∨ s.supervision.state = .armed) ∧ estopActive s = false ∧ TurbineInRoles s ∧
    breakerClosed s = false ∧ ∃ h, boundValue s s.turbine.cfg.headerPoint = some h ∧ s.turbine.cfg.headerMin ≤ h

theorem rollConditions_iff (s : State) : (rollConditions s).findIdx? (fun b => !b) = none ↔ Rollable s := by
  simp only [List.findIdx?_eq_none_iff, rollConditions, List.forall_mem_cons, List.not_mem_nil, false_imp_iff, implies_true, and_true,
    Bool.not_eq_false', Bool.not_eq_true', Bool.or_eq_true, decide_eq_true_eq, turbineInRoles_iff, Option.any_eq_true, Rollable]

section
variable {s : State} {v : Supervision}

theorem Rollable.heard (h : Rollable s) (hv : v.state = s.supervision.state) : Rollable { s with supervision := v } := by
  obtain ⟨phase, armed, rest⟩ := h
  exact ⟨phase, hv ▸ armed, rest⟩

theorem Rollable.told (hv : v.state = s.supervision.state) (h : Rollable { s with supervision := v }) : Rollable s := by
  obtain ⟨phase, armed, rest⟩ := h
  exact ⟨phase, hv ▸ armed, rest⟩

end

/-! ### The owner's answers -/

section
variable {s : State}

theorem ownRoll_ok (h : s.turbine.state = .stopped) (hr : Rollable s) : ownRoll s =
    (passTurbine (Turbine.startRoll s.speedUnit.signal) s, ⟨.ok, [BitVec.ofNat 8 TurbineState.rolling.code]⟩) := by
  have state : (passTurbine (Turbine.startRoll s.speedUnit.signal) s).turbine.state = .rolling := by
    unfold passTurbine; rw [recomputeGrant_turbine]; rfl
  unfold ownRoll
  rw [if_pos h, (rollConditions_iff s).mpr hr]
  dsimp only
  rw [state, putByte_eq]; rfl

theorem ownRoll_refuses (h : s.turbine.state ≠ .stopped ∨ ¬ Rollable s) : ∃ detail, ownRoll s = (s, ⟨.state, detail⟩) := by
  unfold ownRoll
  split
  · rename_i hs
    split
    · exact ⟨_, rfl⟩
    · rename_i hn
      exact absurd ((rollConditions_iff s).mp hn) (h.resolve_left (not_not.mpr hs))
  · exact ⟨_, rfl⟩

theorem ownSetMode_beyond {mode : Nat} (h : 2 ≤ mode) (s : State) : ownSetMode mode s = (s, ⟨.badField, []⟩) := by
  unfold ownSetMode choice
  rw [List.getElem?_eq_none (show TurbineMode.choices.length ≤ mode from h)]; rfl

theorem ownSetMode_ok (m : TurbineMode) (s : State) :
    ownSetMode m.code s = (s.modTurbine (Turbine.setMode m), ⟨.ok, [BitVec.ofNat 8 m.code]⟩) := by
  have : choice TurbineMode.choices m.code = some m := by cases m <;> rfl
  unfold ownSetMode
  rw [this]; dsimp only; rw [putByte_eq]; rfl

/-- A mode stored (R145). -/
theorem Turbine.setMode_cases (m : TurbineMode) (t : Turbine) :
    (t.state ≠ .loaded ∨ t.mode = m → t.setMode m = { t with mode := m }) ∧
    (t.state = .loaded → t.mode ≠ m → m = .load →
      t.setMode m = { t with mode := m, pendingLoop := some .power, powerSetpoint := t.powerView.getD t.powerSetpoint }) ∧
    (t.state = .loaded → t.mode ≠ m → m = .header → t.setMode m = { t with mode := m, pendingLoop := some .header }) := by
  unfold Turbine.setMode
  refine ⟨fun h => if_neg fun ⟨hs, hm⟩ => h.elim (fun k => k hs) (fun k => hm k), ?_, ?_⟩
  · rintro hs hm rfl
    rw [if_pos ⟨hs, hm⟩]; rfl
  · rintro hs hm rfl
    rw [if_pos ⟨hs, hm⟩]; rfl

theorem ownSetLoad_eq (value : Int) (s : State) : ownSetLoad value s =
    (s.modTurbine (fun t => { t with cfg := { t.cfg with loadTarget := clamp s.turbine.cfg.minLoad s.turbine.cfg.maxLoad value } }),
      ⟨if clamp s.turbine.cfg.minLoad s.turbine.cfg.maxLoad value = value then .ok else .clamped,
        Wire.putClass (clamp s.turbine.cfg.minLoad s.turbine.cfg.maxLoad value)⟩) := by
  unfold ownSetLoad
  dsimp only; rw [okOr_eq]

theorem unloadTurbine_rolling (h : s.turbine.state = .rolling ∨ s.turbine.state = .syncWait) : unloadTurbine s = stopTurbine s := by
  unfold unloadTurbine
  rcases h with h | h <;> rw [h]

theorem unloadTurbine_idle (h : s.turbine.state = .unloading ∨ s.turbine.state = .stopped ∨ s.turbine.state = .tripped) :
    unloadTurbine s = s := by
  unfold unloadTurbine
  rcases h with h | h | h <;> rw [h]

theorem tripOrLater_state (c : TurbineTripCause) (v : Option Int) (s : State) : (tripOrLater c v s).turbine.state = .tripped := by
  by_cases h : s.turbine.state = .tripped
  · rw [tripOrLater_later h]
    exact (congrArg Turbine.state (post_only _ _ _ _ .turbine (by decide))).trans h
  · rw [tripOrLater_trips h]
    exact congrArg Turbine.state (post_only _ _ _ _ .turbine (by decide))

theorem ownTrip_eq (s : State) :
    ownTrip s = (tripOrLater .supervisoryTrip none s, ⟨.ok, [BitVec.ofNat 8 TurbineState.tripped.code]⟩) := by
  unfold ownTrip
  dsimp only; rw [tripOrLater_state, putByte_eq]; rfl

/-- What RESET_TRIP makes of the governor (R154). -/
def State.turbineReset (s : State) : State :=
  passTurbine (fun t => { t with state := .stopped, verifyCount := none, stopValveFail := false }) s

theorem turbineReset_only (s : State) : Only [.turbine, .drives] s s.turbineReset := passTurbine_only _ s

theorem turbineReset_drives (hm : 1 ≤ s.turbine.cfg.extractionMax) : s.turbineReset.drives = s.drives :=
  Vector.ext fun d hd => ((passTurbine_unloaded (f := fun t => { t with state := .stopped, verifyCount := none, stopValveFail := false })
    (by nofun) hm).2 ⟨d, hd⟩).trans (if_neg fun h => nomatch h.2)

theorem turbineReset_only_turbine (hm : 1 ≤ s.turbine.cfg.extractionMax) : Only [.turbine] s s.turbineReset := fun p hp => by
  by_cases h : p = .drives
  · rw [h]; exact turbineReset_drives hm
  · exact turbineReset_only s p (by rw [List.mem_singleton] at hp; rw [List.mem_pair, not_or]; exact ⟨hp, h⟩)

theorem ownTurbineResetTrip_ok (h : s.turbine.state = .tripped) (he : estopActive s = false) (hr : TurbineInRoles s) :
    ownTurbineResetTrip s = (withdraw runbackSlot s.turbineReset, ⟨.ok, []⟩) := by
  unfold ownTurbineResetTrip
  rw [if_neg]
  · rfl
  · rw [(turbineInRoles_iff s).mpr hr, he]
    rintro (k | k | k)
    · exact k h
    · cases k
    · cases k

theorem ownTurbineResetTrip_refuses (h : s.turbine.state ≠ .tripped ∨ estopActive s = true ∨ ¬ TurbineInRoles s) :
    ownTurbineResetTrip s = (s, ⟨.state, []⟩) := by
  unfold ownTurbineResetTrip
  rw [if_pos]
  · rfl
  · exact h.imp_right (Or.imp_right fun k => Bool.eq_false_of_not_eq_true fun e => k ((turbineInRoles_iff s).mp e))

end

/-- What is left of a withdrawal at the end of its event. -/
theorem withdraw_leaves {qs : List Part} {s u t : State} {k : Fin 22} (ht : UnchangedBut qs (withdraw k u) t) (constraints : Same .constraints s u)
    (apart : Part.constraints ∉ qs ∧ Part.wells ∉ qs ∧ Part.heating ∉ qs := by decide) : Posted s t k none := by
  obtain ⟨u1, u2, u3⟩ := constraints
  have wells : t.wells = _ := ht .wells apart.2.1
  have heating : t.heating = _ := ht .heating apart.2.2
  exact (withdraw_posted k u).congr ⟨u1.symm, u2.symm, u3.symm⟩ (ht .constraints apart.1) (fun j => by rw [wells]) (by rw [heating])

/-- A turbine command that changes the governor's record alone. -/
theorem turbineReplies {c : Instr} {tag : Byte} {r : Request} {s : State} (hc : c.request = some (tag, r)) (hs : Ready s)
    {g : Turbine → Turbine} {status : Status} {content : List Byte}
    (own : ∀ v : Supervision, applyRequest r { s with supervision := v } =
      (State.modTurbine { s with supervision := v } g, ⟨status, content⟩)) (hk : r.kind = 0x17 := by rfl) :
    Replies c s 0x17 tag status content [.turbine] (fun t => t.turbine = g s.turbine) :=
  replies_of hc hs (fun v _ => ⟨_, own v, State.modTurbine_only _ g, fun _ ht _ => ht .turbine (by decide)⟩) (by decide) hk

theorem Replies.weaken {c : Instr} {s : State} {kind : Nat} {tag : Byte} {status : Status} {content : List Byte} {changed : List Part}
    {P Q : State → Prop} (h : Replies c s kind tag status content changed P) (hq : ∀ t, P t → Q t) :
    Replies c s kind tag status content changed Q := by
  obtain ⟨t, he, hp, rest⟩ := h
  exact ⟨t, he, hq t hp, rest⟩

end Sys2Proof.Machine

open Sys2Proof Sys2Proof.Machine

/-- Settles O40: each command by its owner's answer, UNLOAD and TRIP by the state of the governor. -/
theorem turbineCommandForms : Obligations.TurbineCommandForms := by
  intro tag mode value s hs hm
  refine ⟨fun h hr => replies_of rfl hs fun v hv => ?_, fun h => ?_, fun h => refuses_of rfl hs fun v _ => by exact ownSetMode_beyond h _,
    ?_, ?_, fun h => replies_of rfl hs fun v _ => ⟨_, rfl, unloadTurbine_only _, fun t ht _ => ?_⟩,
    fun h => replies_of rfl hs fun v _ => ⟨_, rfl, unloadTurbine_only _, fun t ht rested => ?_⟩,
    fun h => replies_of rfl hs fun v _ => ⟨{ s with supervision := v }, ?_, .refl _ _, fun _ _ _ => trivial⟩,
    fun h => replies_of rfl hs fun v _ => ⟨_, by exact ownTrip_eq _, tripOrLater_only _ _ _, fun t ht rested => ?_⟩,
    fun h => replies_of rfl hs fun v _ => ⟨_, by exact ownTrip_eq _, ?_, fun t ht _ => ?_⟩,
    fun h he hr => replies_of rfl hs fun v _ => ⟨_, by exact ownTurbineResetTrip_ok (s := { s with supervision := v }) h he hr, ?_, fun t ht _ => ?_⟩,
    fun h => ⟨[], refuses_of rfl hs fun v _ => by exact ownTurbineResetTrip_refuses (s := { s with supervision := v }) h⟩⟩
  · have pass := passTurbine_unloaded (s := { s with supervision := v }) (f := Turbine.startRoll s.speedUnit.signal) (by nofun) hm
    refine ⟨_, ownRoll_ok (s := { s with supervision := v }) h (Rollable.heard hr hv), passTurbine_only _ _, fun t ht rested => ?_⟩
    have turbine : t.turbine = _ := Eq.trans (ht .turbine (by decide)) pass.1
    have drives : t.drives = _ := ht .drives (by decide)
    refine ⟨turbine, fun d => ?_, by rw [rested.stopValve, turbine]; rfl⟩
    rw [drives, pass.2]
    by_cases hd : d = extractionDrive
    · rw [if_pos ⟨hd, rfl⟩, if_pos hd, hd]
    · rw [if_neg (fun h => hd h.1), if_neg hd]
  · obtain ⟨detail, -, refuses⟩ := refuses_with (c := .roll tag) rfl hs (Q := fun _ => True) (status := .state) fun v hv => by
      obtain ⟨detail, e⟩ := ownRoll_refuses (s := { s with supervision := v }) (h.imp_right fun hn hr => hn (Rollable.told hv hr))
      exact ⟨detail, trivial, e⟩
    exact ⟨detail, refuses⟩
  · rintro m rfl
    refine (turbineReplies (c := .setMode tag m.code) (g := Turbine.setMode m) rfl hs fun v => by exact ownSetMode_ok m _).weaken fun t ht => ?_
    rw [ht]
    exact Turbine.setMode_cases m s.turbine
  · rintro stored rfl
    exact turbineReplies (c := .setLoad tag value)
      (g := fun t => { t with cfg := { t.cfg with loadTarget := clamp s.turbine.cfg.minLoad s.turbine.cfg.maxLoad value } }) rfl hs
      fun v => by exact ownSetLoad_eq value _
  · obtain ⟨turbine, drives⟩ := unloadTurbine_loaded (s := { s with supervision := v }) h hm
    have tt : t.turbine = _ := Eq.trans (ht .turbine (by decide)) turbine
    have td : t.drives = _ := ht .drives (by decide)
    refine ⟨tt.trans ?_, fun d => ?_⟩
    · rw [Turbine.startUnload_eq]
    · rw [td, drives]
      split
      · rename_i hd; rw [hd]
      · rfl
  · rw [unloadTurbine_rolling (s := { s with supervision := v }) h] at ht
    have turbine : t.turbine = s.turbine.stopped := Eq.trans (ht .turbine (by decide)) (stopTurbine_turbine hm)
    have drives : t.drives = _ := ht .drives (by decide)
    refine ⟨turbine, fun d => by rw [drives]; exact stopTurbine_drives hm d, ?_, rested.breakerOpen (.inl (by rw [turbine]; rfl))⟩
    rw [rested.stopValve, turbine]; rfl
  · show ownUnload _ = _
    unfold ownUnload
    rw [unloadTurbine_idle (s := { s with supervision := v }) h]; rfl
  · rw [tripOrLater_trips (s := { s with supervision := v }) h] at ht
    obtain ⟨turbine, spreads, others⟩ := tripTurbine_leaves (s := s) (u := { s with supervision := v }) _ _ ht ⟨rfl, rfl, rfl⟩ rfl rfl rfl
    refine ⟨turbine, spreads, others, ?_, rested.breakerOpen (.inr (by rw [turbine]; rfl))⟩
    rw [rested.stopValve, turbine]; rfl
  · rw [tripOrLater_later (s := { s with supervision := v }) h]
    exact (State.modTurbine_only _ _).seq (postRunback_only _)
  · rw [tripOrLater_later (s := { s with supervision := v }) h] at ht
    obtain ⟨turbine, -, posted⟩ := laterTrip_leaves (s := s) (u := { s with supervision := v }) _ ht ⟨rfl, rfl, rfl⟩ rfl rfl
    refine ⟨turbine.trans ?_, posted⟩
    unfold Turbine.laterTrip
    cases hv : s.turbine.verifyCount <;> cases hf : s.turbine.stopValveFail <;> rfl
  · exact (turbineReset_only_turbine (s := { s with supervision := v }) hm).seq (withdraw_only _ _)
  · have turbine : t.turbine = _ := Eq.trans (Eq.trans (ht .turbine (by decide)) (withdraw_only _ _ .turbine (by decide)))
      (passTurbine_unloaded (s := { s with supervision := v }) (by nofun) hm).1
    exact ⟨turbine, withdraw_leaves (s := s) ht ((turbineReset_only _) .constraints (by decide)).same⟩
end

section
/-! PROOFS. ConfigureTurbine (R66, R136, R137, R156). -/

namespace Sys2Proof.Machine

-- One after the other: see Laws/Frames.lean.
set_option Elab.async false

/-! ### The check -/

/-- The numbers of R136. -/
def TurbineFields.Numbers (q : TurbineFields) : Prop :=
  (8 ≤ q.teeth ∧ q.teeth ≤ 240) ∧ (1 ≤ q.ovsLimit ∧ q.ovsLimit ≤ 9999) ∧ (50 ≤ q.lossTime ∧ q.lossTime ≤ 5000) ∧
  (100 ≤ q.syncSpeed ∧ q.syncSpeed ≤ 9999) ∧ (1 ≤ q.syncBand ∧ q.syncBand ≤ 500) ∧ (1 ≤ q.syncHold ∧ q.syncHold ≤ 600) ∧
  (10 ≤ q.accelRate ∧ q.accelRate ≤ 2000) ∧ (10 ≤ q.rollTimeout ∧ q.rollTimeout ≤ 3600) ∧
  (0 ≤ q.minLoad ∧ q.minLoad ≤ q.maxLoad ∧ q.maxLoad ≤ 100000) ∧ (10 ≤ q.loadRate ∧ q.loadRate ≤ 10000) ∧
  (ValueClass.pres.lo ≤ q.headerSetpoint ∧ q.headerSetpoint ≤ ValueClass.pres.hi) ∧
  (ValueClass.pres.lo ≤ q.headerMin ∧ q.headerMin ≤ ValueClass.pres.hi) ∧
  (1 ≤ q.headerConfirm ∧ q.headerConfirm ≤ 600) ∧ (1 ≤ q.extractionMax ∧ q.extractionMax ≤ 100000) ∧
  (0 ≤ q.extractionMinLoad ∧ q.extractionMinLoad ≤ 100000) ∧ (1 ≤ q.breakerTimeout ∧ q.breakerTimeout ≤ 60) ∧
  (1 ≤ q.verifyFlow ∧ q.verifyFlow ≤ 100000) ∧ (1 ≤ q.tripVerifyTime ∧ q.tripVerifyTime ≤ 600) ∧
  (0 ≤ q.runbackSpeed ∧ q.runbackSpeed ≤ 10000) ∧
  (∀ g ∈ [q.speedKp, q.speedKi, q.powerKp, q.powerKi, q.headerKp, q.headerKi], g ≤ 10000) ∧
  (1 ≤ q.deliveryLimit ∧ q.deliveryLimit ≤ 60) ∧ q.syncSpeed + q.syncBand < q.ovsLimit

theorem TurbineFields.numbers_iff (q : TurbineFields) :
    (withinNat 8 240 q.teeth && within 1 9999 q.ovsLimit && withinNat 50 5000 q.lossTime &&
      within 100 9999 q.syncSpeed && within 1 500 q.syncBand && withinNat 1 600 q.syncHold &&
      withinNat 10 2000 q.accelRate && withinNat 10 3600 q.rollTimeout && within 0 100000 q.minLoad &&
      within q.minLoad 100000 q.maxLoad && withinNat 10 10000 q.loadRate && ValueClass.pres.has q.headerSetpoint &&
      ValueClass.pres.has q.headerMin && withinNat 1 600 q.headerConfirm && within 1 100000 q.extractionMax &&
      within 0 100000 q.extractionMinLoad && withinNat 1 60 q.breakerTimeout && within 1 100000 q.verifyFlow &&
      withinNat 1 600 q.tripVerifyTime && ValueClass.frac.has q.runbackSpeed && withinNat 0 10000 q.speedKp &&
      withinNat 0 10000 q.speedKi && withinNat 0 10000 q.powerKp && withinNat 0 10000 q.powerKi &&
      withinNat 0 10000 q.headerKp && withinNat 0 10000 q.headerKi && withinNat 1 60 q.deliveryLimit) = true ∧
      decide (q.syncSpeed + q.syncBand < q.ovsLimit) = true ↔ TurbineFields.Numbers q := by
  simp only [TurbineFields.Numbers, Bool.and_eq_true, ValueClass.has_iff, within_iff, withinNat_iff, ValueClass.lo, ValueClass.hi, and_assoc,
    decide_eq_true_eq, List.forall_mem_cons, List.not_mem_nil, false_imp_iff, implies_true, true_and]
  omega

/-- The ranges of R136. -/
def TurbineFields.InRange (q : TurbineFields) : Prop :=
  (∀ p ∈ [q.headerPoint, q.flowPoint, q.powerPoint, q.speedPoint], ∀ n, p = some n → n ≤ 95) ∧ TurbineFields.Numbers q

theorem TurbineFields.points_iff (q : TurbineFields) : (∀ p ∈ [q.headerPoint, q.flowPoint, q.powerPoint, q.speedPoint], ∀ n, p = some n → n ≤ 95) ↔
    (∃ i, optIdent 96 q.headerPoint = some i) ∧ (∃ i, optIdent 96 q.flowPoint = some i) ∧ (∃ i, optIdent 96 q.powerPoint = some i) ∧
      ∃ i, optIdent 96 q.speedPoint = some i := by
  simp only [List.forall_mem_cons, List.not_mem_nil, false_imp_iff, implies_true, and_true, exists_optIdent, Option.mem_def]

theorem TurbineFields.check_some {q : TurbineFields} {new : TurbineConfig} {speed : SpeedConfig} {clamped : Bool}
    (h : TurbineFields.check q = some (new, speed, clamped)) : TurbineFields.InRange q ∧
      new.fields speed = { q with loadTarget := clamp q.minLoad q.maxLoad q.loadTarget } ∧ clamped = decide (new.loadTarget ≠ q.loadTarget) ∧
      new.runbackSpeed = q.runbackSpeed := by
  simp only [TurbineFields.check, bind, Option.bind_eq_some_iff, require_eq_some, Option.some.injEq, Prod.mk.injEq] at h
  obtain ⟨header, hh, flow, hf, power, hp, point, hs, -, numbers, -, below, rfl, rfl, rfl⟩ := h
  refine ⟨⟨(TurbineFields.points_iff q).mpr ⟨⟨_, hh⟩, ⟨_, hf⟩, ⟨_, hp⟩, _, hs⟩, (TurbineFields.numbers_iff q).mp ⟨numbers, below⟩⟩, ?_, rfl, rfl⟩
  simp only [TurbineConfig.fields, optIdent_eq_some.mp hh, optIdent_eq_some.mp hf, optIdent_eq_some.mp hp, optIdent_eq_some.mp hs]

theorem TurbineFields.exists_check {q : TurbineFields} (h : TurbineFields.InRange q) : ∃ x, TurbineFields.check q = some x := by
  obtain ⟨points, numbers⟩ := h
  obtain ⟨⟨header, hh⟩, ⟨flow, hf⟩, ⟨power, hp⟩, point, hs⟩ := (TurbineFields.points_iff q).mp points
  obtain ⟨numbers, below⟩ := (TurbineFields.numbers_iff q).mpr numbers
  simp only [TurbineFields.check, bind, Option.bind_eq_some_iff, require_eq_some]
  exact ⟨_, header, hh, flow, hf, power, hp, point, hs, (), numbers, (), below, rfl⟩

theorem TurbineFields.check_none_iff (q : TurbineFields) : TurbineFields.check q = none ↔ ¬ TurbineFields.InRange q := by
  refine ⟨fun h r => ?_, fun h => ?_⟩
  · obtain ⟨x, hx⟩ := TurbineFields.exists_check r
    exact absurd (h.symm.trans hx) nofun
  · cases hc : TurbineFields.check q with
    | none => rfl
    | some x => exact absurd (TurbineFields.check_some hc).1 h

/-! ### The stored configuration -/

/-- The structural change of the turbine (section 7.1). -/
def TurbineStructural (old new : TurbineConfig) (unit speed : SpeedConfig) : Prop :=
  old.headerPoint ≠ new.headerPoint ∨ old.flowPoint ≠ new.flowPoint ∨ old.powerPoint ≠ new.powerPoint ∨
    old.speedPoint ≠ new.speedPoint ∨ unit.teeth ≠ speed.teeth

theorem structuralTurbineChange_iff (old new : TurbineConfig) (unit speed : SpeedConfig) :
    structuralTurbineChange old new unit speed = true ↔ TurbineStructural old new unit speed := by
  simp only [structuralTurbineChange, TurbineStructural, Bool.or_eq_true, decide_eq_true_eq, or_assoc]

/-- The governor's record with a new configuration and the power setpoint it takes (R137). -/
def Turbine.configured (new : TurbineConfig) (t : Turbine) : Turbine := ({ t with cfg := new } : Turbine).takeLoadRange t.cfg

/-- A new load range (R137). -/
theorem Turbine.configured_setpoint (new : TurbineConfig) (t : Turbine) : let same := t.cfg.minLoad = new.minLoad ∧ t.cfg.maxLoad = new.maxLoad
    let v := t.configured new
    v = { t with cfg := new, powerSetpoint := v.powerSetpoint } ∧
    (same ∨ (t.state ≠ .loaded ∧ t.state ≠ .unloading) → v.powerSetpoint = t.powerSetpoint) ∧
    (¬ same → t.state = .loaded → v.powerSetpoint = clamp new.minLoad new.maxLoad t.powerSetpoint) ∧
    (¬ same → t.state = .unloading → v.powerSetpoint = max new.minLoad t.powerSetpoint) := by
  unfold Turbine.configured Turbine.takeLoadRange
  dsimp only
  split
  · rename_i h
    exact ⟨rfl, fun _ => rfl, fun hn => absurd h hn, fun hn => absurd h hn⟩
  · rename_i h
    split
    · rename_i hs
      exact ⟨rfl, fun hn => (hn.elim (fun k => absurd k h) fun k => absurd hs k.1), fun _ _ => rfl, fun _ e => nomatch hs.symm.trans e⟩
    · rename_i hs
      split
      · rename_i hu
        exact ⟨rfl, fun hn => (hn.elim (fun k => absurd k h) fun k => absurd hu k.2), fun _ e => absurd e hs, fun _ _ => rfl⟩
      · rename_i hu
        exact ⟨rfl, fun _ => rfl, fun _ e => absurd e hs, fun _ e => absurd e hu⟩

/-- The speed unit under a new configuration (R66). -/
theorem SpeedUnit.configure_cases (speed : SpeedConfig) (u : SpeedUnit) :
    (u.cfg.teeth = speed.teeth → u.configure speed = { u with cfg := speed }) ∧
    (u.cfg.teeth ≠ speed.teeth → u.signal = .lost → u.configure speed = { u with cfg := speed, lastEdge := none, periods := [] }) ∧
    (u.cfg.teeth ≠ speed.teeth → u.signal ≠ .lost → u.configure speed =
      { u with cfg := speed, signal := .silent, lastEdge := none, periods := [], speed := none, lossTimer := none }) := by
  unfold SpeedUnit.configure
  refine ⟨fun h => if_pos h, fun h hs => (if_neg h).trans ?_, fun h hs => (if_neg h).trans ?_⟩
  · unfold SpeedUnit.forget; dsimp only; rw [hs]
  · unfold SpeedUnit.forget; dsimp only
    cases e : u.signal <;> first | rfl | exact absurd e hs

/-- The grant by the state and the power view (R156). -/
theorem grantOf_cases (t : Turbine) :
    (t.state = .loaded → (∃ p, t.powerView = some p ∧ t.cfg.extractionMinLoad ≤ p) → grantOf t = min t.grant.request t.cfg.extractionMax) ∧
    (t.state ≠ .loaded ∨ (∀ p, t.powerView = some p → p < t.cfg.extractionMinLoad) → grantOf t = 0) := by
  unfold grantOf
  simp only [Option.any_eq_true, decide_eq_true_eq]
  refine ⟨fun hs hp => if_pos ⟨hs, hp⟩, fun h => if_neg ?_⟩
  rintro ⟨hs, p, hp, hle⟩
  rcases h with h | h
  · exact h hs
  · have := h p hp; omega

/-- Whether the two fields of the extraction limit stand. -/
abbrev TurbineConfig.SameExtraction (old new : TurbineConfig) : Prop :=
  old.extractionMax = new.extractionMax ∧ old.extractionMinLoad = new.extractionMinLoad

section
variable {new : TurbineConfig} {speed : SpeedConfig} {s : State}

/-- The part with the new configuration stored, before the grant and the runback. -/
def State.turbineStored (new : TurbineConfig) (speed : SpeedConfig) (s : State) : State :=
  (s.modSpeed (SpeedUnit.configure speed)).modTurbine (Turbine.configured new)

/-- The part with the grant computed again where the extraction limit changed. -/
def State.regranted (new : TurbineConfig) (speed : SpeedConfig) (s : State) : State :=
  if s.turbine.cfg.SameExtraction new then s.turbineStored new speed else recomputeGrant (s.turbineStored new speed)

theorem regranted_only (new : TurbineConfig) (speed : SpeedConfig) (s : State) :
    Only [.speedUnit, .turbine, .drives] s (s.regranted new speed) := by
  have stored : Only [.speedUnit, .turbine] s (s.turbineStored new speed) := (s.modSpeed_only _).seq (State.modTurbine_only _ _)
  exact .ite (stored.mono (by decide)) (stored.seq (recomputeGrant_only _))

theorem regranted_turbine (new : TurbineConfig) (speed : SpeedConfig) (s : State) : (s.regranted new speed).turbine =
    if s.turbine.cfg.SameExtraction new then s.turbine.configured new else (s.turbine.configured new).settleGrant := by
  unfold State.regranted
  split
  · rfl
  · exact recomputeGrant_turbine _

theorem storeTurbine_eq (new : TurbineConfig) (speed : SpeedConfig) (s : State) : storeTurbine new speed s =
    if s.turbine.cfg.runbackSpeed ≠ new.runbackSpeed ∧ s.slots[runbackSlot].isSome = true then postRunback (s.regranted new speed)
    else s.regranted new speed := by
  have slots : (s.regranted new speed).slots = s.slots := (congrArg Prod.fst (regranted_only new speed s .constraints (by decide)) :)
  rw [← slots]; rfl

theorem storeTurbine_turbine (new : TurbineConfig) (speed : SpeedConfig) (s : State) : (storeTurbine new speed s).turbine =
    if s.turbine.cfg.SameExtraction new then s.turbine.configured new else (s.turbine.configured new).settleGrant := by
  rw [storeTurbine_eq, ← regranted_turbine new speed s]
  split
  · exact postRunback_only _ .turbine (by decide)
  · rfl

theorem storeTurbine_drives (d : Fin 15) : (storeTurbine new speed s).drives[d] =
    if ¬ s.turbine.cfg.SameExtraction new ∧ s.turbine.state.energised = true ∧ d = extractionDrive then
      s.drives[d].write (s.turbine.configured new).settleGrant.grant.valveDemand else s.drives[d] := by
  have drives : (storeTurbine new speed s).drives = (s.regranted new speed).drives := by
    rw [storeTurbine_eq]
    split
    · exact postRunback_only _ .drives (by decide)
    · rfl
  rw [drives]
  unfold State.regranted
  by_cases h : s.turbine.cfg.SameExtraction new
  · rw [if_pos h, if_neg (fun k => k.1 h)]; rfl
  · have state : (s.turbineStored new speed).turbine.state = s.turbine.state := (Turbine.takeLoadRange_keeps _ _).1
    rw [if_neg h, recomputeGrant_drive, state]
    by_cases hd : d = extractionDrive ∧ s.turbine.state.energised = true
    · rw [if_pos hd, if_pos ⟨h, hd.2, hd.1⟩, hd.1]; rfl
    · rw [if_neg hd, if_neg (fun k => hd ⟨k.2.2, k.2.1⟩)]; rfl

theorem storeTurbine_unit (new : TurbineConfig) (speed : SpeedConfig) (s : State) :
    (storeTurbine new speed s).speedUnit = s.speedUnit.configure speed := by
  have unit : (s.regranted new speed).speedUnit = s.speedUnit.configure speed := by
    unfold State.regranted
    split
    · rfl
    · exact recomputeGrant_only _ .speedUnit (by decide)
  rw [storeTurbine_eq, ← unit]
  split
  · exact postRunback_only _ .speedUnit (by decide)
  · rfl

/-- What is left of the runback at the end of the event (R137). -/
theorem storeTurbine_constraints {r t : State} (hr : Same .constraints r s) (clock : s.clock = r.clock) (hb : 0 ≤ new.runbackSpeed ∧ new.runbackSpeed ≤ 10000)
    (ht : UnchangedBut [.outgoing] (storeTurbine new speed s) t) :
    (s.turbine.cfg.runbackSpeed = new.runbackSpeed ∨ s.slots[runbackSlot] = none → Same .constraints r t) ∧
    (s.turbine.cfg.runbackSpeed ≠ new.runbackSpeed → s.slots[runbackSlot].isSome = true →
      Posted r t runbackSlot (some ⟨.pumpCeilAll, new.runbackSpeed, r.clock⟩)) := by
  have only := regranted_only new speed s
  have constraints : Same .constraints r (s.regranted new speed) := Same.trans (by decide) (by decide) hr (only .constraints (by decide)).same
  rw [storeTurbine_eq] at ht
  refine ⟨fun h => ?_, fun h hk => ?_⟩
  · rw [if_neg (fun k => h.elim k.1 fun e => by rw [e] at k; exact nomatch k.2)] at ht
    exact Same.trans (by decide) (by decide) constraints (ht .constraints (by decide))
  · rw [if_pos ⟨h, hk⟩] at ht
    have cfg : (s.regranted new speed).turbine.cfg.runbackSpeed = new.runbackSpeed := by
      have kept : (s.turbine.configured new).cfg = new := (Turbine.takeLoadRange_keeps _ _).2.2
      rw [regranted_turbine]
      split <;> exact congrArg TurbineConfig.runbackSpeed kept
    have posted := post_leaves ht constraints ((congrArg Prod.fst (only .clock (by decide))).trans clock)
    rw [cfg] at posted
    rw [show Target.pumpCeilAll.cls.clamp new.runbackSpeed = new.runbackSpeed from clamp_within hb.1 hb.2] at posted
    exact posted

end

/-! ### The answers -/

section
variable {q : TurbineFields} {new : TurbineConfig} {speed : SpeedConfig} {clamped : Bool} {s : State}
  (h : TurbineFields.check q = some (new, speed, clamped))
include h

theorem ownConfigureTurbine_state (hs : s.phase = .run ∧ TurbineStructural s.turbine.cfg new s.speedUnit.cfg speed) :
    ownConfigureTurbine q s = (s, ⟨.state, []⟩) := by
  unfold ownConfigureTurbine
  rw [h]; dsimp only
  rw [if_pos (by rw [decide_eq_true hs.1, (structuralTurbineChange_iff _ _ _ _).mpr hs.2]; rfl)]; rfl

theorem ownConfigureTurbine_ok (hs : ¬ (s.phase = .run ∧ TurbineStructural s.turbine.cfg new s.speedUnit.cfg speed)) :
    ownConfigureTurbine q s = (storeTurbine new speed s, ⟨if clamped then .clamped else .ok, Wire.putTurbineFields (new.fields speed)⟩) := by
  have cfg : (storeTurbine new speed s).turbine.cfg = new := by
    have kept : (s.turbine.configured new).cfg = new := (Turbine.takeLoadRange_keeps _ _).2.2
    rw [storeTurbine_turbine]
    split <;> exact kept
  have unit : (storeTurbine new speed s).speedUnit.cfg = speed := by
    rw [storeTurbine_unit]
    unfold SpeedUnit.configure SpeedUnit.forget
    cases s.speedUnit.signal <;> split <;> rfl
  unfold ownConfigureTurbine
  rw [h]; dsimp only
  rw [if_neg (by rw [Bool.and_eq_true, decide_eq_true_eq, structuralTurbineChange_iff]; exact hs), cfg, unit]; rfl

end

end Sys2Proof.Machine

open Sys2Proof Sys2Proof.Machine

/-- Settles O39. -/
theorem configureTurbineForms : Obligations.ConfigureTurbineForms := by
  intro tag q s hs
  refine ⟨fun h => refuses_of rfl hs fun v _ => ?_, TurbineFields.check_none_iff q, fun new speed clamped h => ?_⟩
  · show ownConfigureTurbine q _ = _
    unfold ownConfigureTurbine; rw [h]; rfl
  obtain ⟨⟨-, numbers⟩, fields, hc, hb⟩ := TurbineFields.check_some h
  have runback : 0 ≤ new.runbackSpeed ∧ new.runbackSpeed ≤ 10000 := by
    rw [hb]
    obtain ⟨-, -, -, -, -, -, -, -, -, -, -, -, -, -, -, -, -, -, range, -⟩ := numbers
    exact range
  refine ⟨⟨fields, hc⟩, fun hr hst => refuses_of rfl hs fun v _ => by exact ownConfigureTurbine_state (s := { s with supervision := v }) h ⟨hr, hst⟩,
    fun hst => replies_of rfl hs fun v _ => ⟨_, by exact ownConfigureTurbine_ok (s := { s with supervision := v }) h hst,
      (storeTurbine_only new speed _).mono (by decide), fun t ht _ => ?_⟩⟩
  have turbine : t.turbine = _ := Eq.trans (ht .turbine (by decide)) (storeTurbine_turbine new speed { s with supervision := v })
  have drives : t.drives = _ := ht .drives (by decide)
  have unit : t.speedUnit = _ := Eq.trans (ht .speedUnit (by decide)) (storeTurbine_unit new speed { s with supervision := v })
  obtain ⟨u1, u2, u3⟩ := s.speedUnit.configure_cases speed
  obtain ⟨record, p1, p2, p3⟩ := s.turbine.configured_setpoint new
  have setpoint : t.turbine.powerSetpoint = (s.turbine.configured new).powerSetpoint := by rw [turbine]; split <;> rfl
  obtain ⟨kept, anew⟩ := storeTurbine_constraints (r := s) (s := { s with supervision := v }) ⟨rfl, rfl, rfl⟩ rfl runback ht
  have record' : ∃ g, t.turbine = { s.turbine.configured new with grant := g } := by
    rw [turbine]; split
    · exact ⟨_, rfl⟩
    · exact ⟨_, rfl⟩
  rw [unit, setpoint]
  refine ⟨u1, u2, u3, ?_, p1, p2, p3, fun he => ⟨?_, ?_⟩, fun he => ?_, kept, anew⟩
  · obtain ⟨g, hg⟩ := record'
    rw [hg, record]
  · rw [turbine, if_pos he, record]
  · exact Vector.ext fun d hd => (congrArg (fun x => x[d]) drives).trans ((storeTurbine_drives ⟨d, hd⟩).trans (if_neg fun k => k.1 he))
  · have settled : t.turbine = (s.turbine.configured new).settleGrant := turbine.trans (if_neg he)
    obtain ⟨g1, g2⟩ := grantOf_cases (s.turbine.configured new)
    have grant : (s.turbine.configured new).settleGrant.grant.grant = grantOf (s.turbine.configured new) := rfl
    have powerView : (s.turbine.configured new).powerView = s.turbine.powerView := by rw [record]
    have state : (s.turbine.configured new).state = s.turbine.state := by rw [record]
    have cfg : (s.turbine.configured new).cfg = new := by rw [record]
    have request : (s.turbine.configured new).grant.request = s.turbine.grant.request := by rw [record]
    rw [powerView, state, cfg] at g1 g2
    rw [request] at g1
    rw [settled]
    refine ⟨request, g1, g2, ?_, fun d => ?_⟩
    · show valveOf _ _ = roundHalfUp _ _
      unfold valveOf
      rw [cfg]; rfl
    · rw [drives, storeTurbine_drives]
      by_cases hd : s.turbine.state.energised = true ∧ d = extractionDrive
      · rw [if_pos hd, if_pos ⟨he, hd⟩]
      · rw [if_neg hd, if_neg (fun k => hd k.2)]
end

section
/-! PROOFS. The TG period (R139, R142, R145 to R147, R149, R151, R155, R156). -/

namespace Sys2Proof.Machine

-- One after the other: see Laws/Frames.lean.
set_option Elab.async false

/-! ### The measurements, and the four steps of the period -/

/-- The governor's record with its measurements taken and the period started again (R139). -/
def State.measuredTurbine (s : State) : Turbine := { s.turbine with
  periodTimer := some 100, headerView := boundValue s s.turbine.cfg.headerPoint, flowView := boundValue s s.turbine.cfg.flowPoint,
  powerView := boundValue s s.turbine.cfg.powerPoint, speedView := s.speedUnit.speed.getD 0 }

/-- The part with the measurements taken. -/
def State.turbineMeasured (s : State) : State := s.modTurbine (fun _ => s.measuredTurbine)

/-- The grant is computed again where the power view has changed (R156). -/
def State.regrantOn (before : Option Int) (u : State) : State := if u.turbine.powerView = before then u else recomputeGrant u

/-- DV8 is lost to an energised governor (R151). -/
def AdmissionLost (s : State) : Prop := s.drives[admissionDrive].delivery = .failing ∧
  ∃ n, s.drives[admissionDrive].failingFor = some n ∧ s.turbine.cfg.deliveryLimit < n

theorem tgPeriodExpiry_idle {s : State} (h : s.turbine.periodTimer = none) : tgPeriodExpiry s = s := by unfold tgPeriodExpiry; rw [h]

theorem tgPeriodExpiry_running {s : State} (h : s.turbine.periodTimer.isSome = true) : tgPeriodExpiry s =
    if s.turbine.state.energised && s.drives[admissionDrive].lost s.turbine.cfg.deliveryLimit then
      tripTurbine .admissionLost none s.turbineMeasured
    else (turbineWork s.turbineMeasured).regrantOn s.turbine.powerView := by
  obtain ⟨n, h⟩ := Option.isSome_iff_exists.mp h
  unfold tgPeriodExpiry; rw [h]; rfl

section
variable {s : State} (h : s.turbine.periodTimer.isSome = true)
include h

theorem tgPeriodExpiry_lost (he : s.turbine.state.energised = true) (hl : AdmissionLost s) :
    tgPeriodExpiry s = tripTurbine .admissionLost none s.turbineMeasured := by
  rw [tgPeriodExpiry_running h, if_pos (by rw [he, (Drive.lost_iff _ _).mpr hl]; rfl)]

theorem tgPeriodExpiry_works (hn : ¬ (s.turbine.state.energised = true ∧ AdmissionLost s)) :
    tgPeriodExpiry s = (turbineWork s.turbineMeasured).regrantOn s.turbine.powerView := by
  rw [tgPeriodExpiry_running h, if_neg (by rw [Bool.and_eq_true, Drive.lost_iff]; exact hn)]

end

/-! ### The drives of the governor -/

/-- Every drive but the governor's two stands. -/
def GovernorDrives (s t : State) : Prop := ∀ d : Fin 15, d ≠ admissionDrive → d ≠ extractionDrive → t.drives[d] = s.drives[d]

namespace GovernorDrives

theorem refl (s : State) : GovernorDrives s s := fun _ _ _ => rfl

theorem trans {a b c : State} (h : GovernorDrives a b) (k : GovernorDrives b c) : GovernorDrives a c :=
  fun d ha he => (k d ha he).trans (h d ha he)

theorem ite {a b c : State} {p : Prop} [Decidable p] (h : GovernorDrives a b) (k : GovernorDrives a c) :
    GovernorDrives a (if p then b else c) := by split <;> assumption

theorem modTurbine (f : Turbine → Turbine) (s : State) : GovernorDrives s (s.modTurbine f) := fun _ _ _ => rfl

theorem admission (v : Int) (s : State) : GovernorDrives s (writeAdmission v s) :=
  fun d ha _ => (writeDrive_at _ d v s).trans (if_neg (Ne.symm ha))

theorem recomputeGrant (s : State) : GovernorDrives s (Machine.recomputeGrant s) :=
  fun d _ he => (recomputeGrant_drive d s).trans (if_neg fun k => he k.1)

theorem pass (f : Turbine → Turbine) (s : State) : GovernorDrives s (passTurbine f s) := (modTurbine f s).trans (recomputeGrant _)

theorem trip (c : TurbineTripCause) (v : Option Int) (s : State) : GovernorDrives s (tripTurbine c v s) := fun d ha he => by
  have same : (tripTurbine c v s).drives = (s.tripped c v).drives := post_only _ _ _ _ .drives (by decide)
  rw [same]
  exact (restDrives_at d _).trans (if_neg (by rintro (k | k) <;> contradiction))

theorem rolling (s : State) : GovernorDrives s (rollingWork s) :=
  ((modTurbine _ s).trans (admission _ _)).trans (.ite (.ite (pass _ _) (modTurbine _ _)) (modTurbine _ _))

theorem syncWait (s : State) : GovernorDrives s (syncWaitWork s) :=
  ((modTurbine _ s).trans (admission _ _)).trans (.ite (.refl _) (pass _ _))

theorem power (s : State) : GovernorDrives s (powerWork s) := (modTurbine _ s).trans (.ite (admission _ _) (.refl _))

theorem header (s : State) : GovernorDrives s (headerWork s) := (modTurbine _ s).trans (.ite (admission _ _) (.refl _))

theorem settleHeader (s : State) : GovernorDrives s (Machine.settleHeader s) := by
  unfold Machine.settleHeader
  dsimp only
  split
  · exact .refl s
  · exact .ite (.ite (trip _ _ _) (modTurbine _ _)) (modTurbine _ _)

theorem work (s : State) : GovernorDrives s (turbineWork s) := by
  unfold turbineWork
  split
  · exact rolling s
  · exact syncWait s
  · unfold loadedWork
    split
    · exact ((modTurbine _ s).trans (power _)).trans (settleHeader _)
    · exact (header s).trans (settleHeader _)
  · exact ((modTurbine _ s).trans (power _)).trans (.ite (modTurbine _ _) (.refl _))
  · exact modTurbine _ s
  · exact .refl s

theorem period (s : State) : GovernorDrives s (tgPeriodExpiry s) := by
  cases h : s.turbine.periodTimer with
  | none => rw [tgPeriodExpiry_idle h]; exact .refl s
  | some n =>
    rw [tgPeriodExpiry_running (by rw [h]; rfl)]
    exact .ite ((modTurbine _ s).trans (trip _ _ _))
      (((modTurbine _ s).trans (work _)).trans (.ite (.refl _) (recomputeGrant _)))

end GovernorDrives

/-! ### The state a period's work has reached -/

/-- The work has brought the record to w and DV8 to the drive given. -/
structure Reached (s b : State) (w : Turbine) (admission : Drive) : Prop where
  only : Only [.turbine, .drives] s b
  turbine : b.turbine = w
  drive : b.drives[admissionDrive] = admission
  extraction : b.drives[extractionDrive] = s.drives[extractionDrive]

namespace Reached
variable {s b : State} {w : Turbine} {a : Drive}

theorem measured (s : State) : Reached s s.turbineMeasured s.measuredTurbine s.drives[admissionDrive] :=
  ⟨(s.modTurbine_only _).mono (by decide), rfl, rfl, rfl⟩

theorem modTurbine (h : Reached s b w a) (f : Turbine → Turbine) : Reached s (b.modTurbine f) (f w) a :=
  ⟨(h.only.trans ((b.modTurbine_only f).mono (by decide))), congrArg f h.turbine, h.drive, h.extraction⟩

theorem write (h : Reached s b w a) (v : Int) : Reached s (writeAdmission v b) w (a.write v) := by
  refine ⟨h.only.trans ((writeDrive_only _ v b).mono (by decide)), h.turbine, ?_, ?_⟩
  · unfold writeAdmission; rw [writeDrive_at, if_pos rfl, h.drive]
  · unfold writeAdmission; rw [writeDrive_at, if_neg (by decide), h.extraction]

end Reached

/-- How a period ends: with the record w, DV8 and the grant computed again after a passage or a change of the power view. -/
def PeriodEnds (s t : State) (w : Turbine) (admission : Drive) (passes : Prop) : Prop :=
  let anew : Prop := passes ∨ s.measuredTurbine.powerView ≠ s.turbine.powerView
  (anew → t.turbine = w.settleGrant ∧ t.drives[extractionDrive] =
    if w.state.energised then s.drives[extractionDrive].write w.settleGrant.grant.valveDemand else s.drives[extractionDrive]) ∧
  (¬ anew → t.turbine = w ∧ t.drives[extractionDrive] = s.drives[extractionDrive]) ∧
  t.drives[admissionDrive] = admission ∧ Same .constraints s t

section
variable {s b t : State} {w : Turbine} {a : Drive}

theorem recomputeGrant_extraction (s : State) : (recomputeGrant s).drives[extractionDrive] =
    if s.turbine.state.energised then s.drives[extractionDrive].write s.turbine.settleGrant.grant.valveDemand
    else s.drives[extractionDrive] := by
  rw [recomputeGrant_drive]
  by_cases h : s.turbine.state.energised = true
  · rw [if_pos ⟨rfl, h⟩, if_pos h]
  · rw [if_neg (fun k => h k.2), if_neg h]

theorem recomputeGrant_admission (s : State) : (recomputeGrant s).drives[admissionDrive] = s.drives[admissionDrive] := by
  rw [recomputeGrant_drive, if_neg (fun k => absurd k.1 (by decide))]

/-- Whatever else the period does, the grant is computed again in a state whose record is w. -/
theorem Reached.regrants (h : Reached s b w a) {p : Prop} (hp : p) (ht : UnchangedBut [] (recomputeGrant b) t) : PeriodEnds s t w a p := by
  have drives : t.drives = _ := ht .drives (by decide)
  have turbine : t.turbine = _ := Eq.trans (ht .turbine (by decide)) (recomputeGrant_turbine b)
  rw [h.turbine] at turbine
  refine ⟨fun _ => ⟨turbine, ?_⟩, fun hn => absurd (.inl hp) hn, ?_, ?_⟩
  · rw [drives, recomputeGrant_extraction, h.turbine, h.extraction]
  · rw [drives, recomputeGrant_admission, h.drive]
  · exact Same.trans (by decide) (by decide) ((h.only.trans ((recomputeGrant_only b).mono (by decide))) .constraints (by decide)).same
      (ht .constraints (by decide))

/-- The work ends without a passage. -/
theorem Reached.stays (h : Reached s b w a) (hv : w.powerView = s.measuredTurbine.powerView)
    (ht : UnchangedBut [] (b.regrantOn s.turbine.powerView) t) : PeriodEnds s t w a False := by
  unfold State.regrantOn at ht
  rw [h.turbine, hv] at ht
  by_cases hp : s.measuredTurbine.powerView = s.turbine.powerView
  · rw [if_pos hp] at ht
    have drives : t.drives = _ := ht .drives (by decide)
    refine ⟨fun hn => hn.elim False.elim fun k => absurd hp k, fun _ => ⟨Eq.trans (ht .turbine (by decide)) h.turbine, ?_⟩, ?_, ?_⟩
    · rw [drives, h.extraction]
    · rw [drives, h.drive]
    · exact Same.trans (by decide) (by decide) (h.only .constraints (by decide)).same (ht .constraints (by decide))
  · rw [if_neg hp] at ht
    obtain ⟨anew, -, rest⟩ := h.regrants hp ht
    exact ⟨fun _ => anew (.inl hp), fun hn => absurd (.inr hp) hn, rest⟩

theorem Drive.write_twice (d : Drive) (v : Int) : (d.write v).write v = d.write v := by
  rw [show (d.write v).write v = (d.write v).write (d.write v).value by rw [d.write_value], Drive.write_same]

theorem writeDrive_twice (i : Fin 15) (v : Int) (s : State) : writeDrive i v (writeDrive i v s) = writeDrive i v s := by
  have same : (writeDrive i v (writeDrive i v s)).drives = (writeDrive i v s).drives := Vector.ext fun d hd => by
    have once (u : State) := writeDrive_at i ⟨d, hd⟩ v u
    refine (once _).trans ?_
    split
    · rename_i e
      refine Eq.trans ?_ ((once s).trans (if_pos e)).symm
      rw [writeDrive_at i i, if_pos rfl, Drive.write_twice]
    · rfl
  exact congrArg (fun x => ({ s with drives := x } : State)) same

theorem recomputeGrant_twice (s : State) : recomputeGrant (recomputeGrant s) = recomputeGrant s := by
  unfold recomputeGrant
  dsimp only
  by_cases h : (s.modTurbine Turbine.settleGrant).turbine.state.energised = true
  · have settled : (writeDrive extractionDrive (s.modTurbine Turbine.settleGrant).turbine.grant.valveDemand
        (s.modTurbine Turbine.settleGrant)).modTurbine Turbine.settleGrant =
        writeDrive extractionDrive (s.modTurbine Turbine.settleGrant).turbine.grant.valveDemand (s.modTurbine Turbine.settleGrant) := rfl
    rw [if_pos h, settled]
    exact (if_pos h).trans (writeDrive_twice _ _ _)
  · rw [if_neg h]
    exact if_neg h

/-- The work ends with a passage. -/
theorem Reached.passes (h : Reached s b w a) (f : Turbine → Turbine)
    (ht : UnchangedBut [] ((passTurbine f b).regrantOn s.turbine.powerView) t) : PeriodEnds s t (f w) a True := by
  have e : (passTurbine f b).regrantOn s.turbine.powerView = recomputeGrant (b.modTurbine f) := by
    unfold State.regrantOn passTurbine
    split
    · rfl
    · exact recomputeGrant_twice _
  rw [e] at ht
  exact (h.modTurbine f).regrants trivial ht

/-- The work ends with a trip: the grant is 0 already, so a change of the power view changes nothing more (R152, R156). -/
theorem Reached.trips (h : Reached s b w a) (hm : 1 ≤ w.cfg.extractionMax) (hr : w.cfg.runbackSpeed = s.turbine.cfg.runbackSpeed)
    (c : TurbineTripCause) (v : Option Int) (ht : UnchangedBut [] ((tripTurbine c v b).regrantOn s.turbine.powerView) t) :
    t.turbine = w.trip s.clock c v ∧ TripSpreads s t a := by
  have tripped : (tripTurbine c v b).turbine = w.trip b.clock c v :=
    Eq.trans (post_only _ _ _ _ .turbine (by decide)) (congrArg (Turbine.trip b.clock c v) h.turbine)
  have settled : (w.trip b.clock c v).settleGrant = w.trip b.clock c v := Turbine.settleGrant_unloaded (by nofun) hm
  have idle : recomputeGrant (tripTurbine c v b) = tripTurbine c v b := by
    have same : (tripTurbine c v b).modTurbine Turbine.settleGrant = tripTurbine c v b :=
      State.modTurbine_self (by rw [tripped, settled])
    unfold recomputeGrant
    dsimp only
    rw [same, tripped]; rfl
  have e : (tripTurbine c v b).regrantOn s.turbine.powerView = tripTurbine c v b := by
    unfold State.regrantOn
    rw [idle]
    exact ite_self _
  rw [e] at ht
  have clock : b.clock = s.clock := congrArg Prod.fst (h.only .clock (by decide))
  obtain ⟨turbine, spreads, -⟩ := tripTurbine_leaves (s := s) c v ht (h.only .constraints (by decide)).same clock
    (by rw [h.turbine]; exact hr) h.extraction
  rw [h.turbine, clock] at turbine
  rw [h.drive] at spreads
  exact ⟨turbine, spreads⟩

end

/-! ### The loops in use -/

/-- One run of the speed loop for a setpoint, started where it is pending (R142). -/
def Turbine.speedRun (sp : Int) (valve : Drive) (v : Turbine) : Turbine := { v with
  speedSetpoint := sp, pendingLoop := if v.pendingLoop = some .speed then none else v.pendingLoop,
  speedLoop :=
    if v.pendingLoop = some .speed then v.speedLoop.start sp v.speedView (sp - v.speedView) v.cfg.speedKp v.cfg.speedKi valve.value
    else v.speedLoop.run sp v.speedView (sp - v.speedView) v.cfg.speedKp v.cfg.speedKi }

theorem Turbine.runSpeedLoop_eq (sp : Int) (valve : Drive) (v : Turbine) :
    ({ v with speedSetpoint := sp } : Turbine).runSpeedLoop valve.value = v.speedRun sp valve := by
  unfold Turbine.runSpeedLoop Turbine.speedRun
  dsimp only
  split <;> rfl

/-- One run of the power loop for a setpoint, started where it is pending, with what it makes of DV8 (R145). -/
def Turbine.powerRun (sp : Int) (valve : Drive) (v : Turbine) : Turbine × Drive :=
  match v.powerView with
  | none => ({ v with powerSetpoint := sp }, valve)
  | some m =>
    let loop := if v.pendingLoop = some .power then v.powerLoop.start sp m (sp - m) v.cfg.powerKp v.cfg.powerKi valve.value
      else v.powerLoop.run sp m (sp - m) v.cfg.powerKp v.cfg.powerKi
    ({ v with powerSetpoint := sp, pendingLoop := if v.pendingLoop = some .power then none else v.pendingLoop, powerLoop := loop },
      valve.write loop.output)

/-- One run of the header loop, started where it is pending, with what it makes of DV8 (R145). -/
def Turbine.headerRun (valve : Drive) (v : Turbine) : Turbine × Drive :=
  match v.headerView with
  | none => (v, valve)
  | some m =>
    let loop :=
      if v.pendingLoop = some .header then
        v.headerLoop.start v.cfg.headerSetpoint m (m - v.cfg.headerSetpoint) v.cfg.headerKp v.cfg.headerKi valve.value
      else v.headerLoop.run v.cfg.headerSetpoint m (m - v.cfg.headerSetpoint) v.cfg.headerKp v.cfg.headerKi
    ({ v with pendingLoop := if v.pendingLoop = some .header then none else v.pendingLoop, headerLoop := loop }, valve.write loop.output)

section
variable {t : Turbine} {m : Int}

theorem Turbine.runPowerLoop_none {a : Int} (h : t.powerView = none) : t.runPowerLoop a = (t, false) := by
  unfold Turbine.runPowerLoop; rw [h]

theorem Turbine.runPowerLoop_some {a : Int} (h : t.powerView = some m) : t.runPowerLoop a =
    ({ t with
      pendingLoop := if t.pendingLoop = some .power then none else t.pendingLoop
      powerLoop := if t.pendingLoop = some .power then
          t.powerLoop.start t.powerSetpoint m (t.powerSetpoint - m) t.cfg.powerKp t.cfg.powerKi a
        else t.powerLoop.run t.powerSetpoint m (t.powerSetpoint - m) t.cfg.powerKp t.cfg.powerKi }, true) := by
  unfold Turbine.runPowerLoop
  rw [h]; dsimp only
  split <;> rfl

theorem Turbine.runHeaderLoop_none {a : Int} (h : t.headerView = none) : t.runHeaderLoop a = (t, false) := by
  unfold Turbine.runHeaderLoop; rw [h]

theorem Turbine.runHeaderLoop_some {a : Int} (h : t.headerView = some m) : t.runHeaderLoop a =
    ({ t with
      pendingLoop := if t.pendingLoop = some .header then none else t.pendingLoop
      headerLoop := if t.pendingLoop = some .header then
          t.headerLoop.start t.cfg.headerSetpoint m (m - t.cfg.headerSetpoint) t.cfg.headerKp t.cfg.headerKi a
        else t.headerLoop.run t.cfg.headerSetpoint m (m - t.cfg.headerSetpoint) t.cfg.headerKp t.cfg.headerKi }, true) := by
  unfold Turbine.runHeaderLoop
  rw [h]; dsimp only
  split <;> rfl

end

section
variable {v : Turbine} {valve : Drive} {m : Int}

theorem Turbine.powerRun_none {sp : Int} (h : v.powerView = none) : v.powerRun sp valve = ({ v with powerSetpoint := sp }, valve) := by
  unfold Turbine.powerRun; rw [h]

theorem Turbine.powerRun_some {sp : Int} (h : v.powerView = some m) : v.powerRun sp valve =
    let loop := if v.pendingLoop = some .power then v.powerLoop.start sp m (sp - m) v.cfg.powerKp v.cfg.powerKi valve.value
      else v.powerLoop.run sp m (sp - m) v.cfg.powerKp v.cfg.powerKi
    ({ v with powerSetpoint := sp, pendingLoop := if v.pendingLoop = some .power then none else v.pendingLoop, powerLoop := loop },
      valve.write loop.output) := by unfold Turbine.powerRun; rw [h]

theorem Turbine.headerRun_none (h : v.headerView = none) : v.headerRun valve = (v, valve) := by unfold Turbine.headerRun; rw [h]

theorem Turbine.headerRun_some (h : v.headerView = some m) : v.headerRun valve =
    let loop :=
      if v.pendingLoop = some .header then
        v.headerLoop.start v.cfg.headerSetpoint m (m - v.cfg.headerSetpoint) v.cfg.headerKp v.cfg.headerKi valve.value
      else v.headerLoop.run v.cfg.headerSetpoint m (m - v.cfg.headerSetpoint) v.cfg.headerKp v.cfg.headerKi
    ({ v with pendingLoop := if v.pendingLoop = some .header then none else v.pendingLoop, headerLoop := loop }, valve.write loop.output) := by
  unfold Turbine.headerRun; rw [h]

end

theorem Turbine.powerRun_keeps (sp : Int) (valve : Drive) (v : Turbine) : let w := (v.powerRun sp valve).1
    w.powerView = v.powerView ∧ w.headerView = v.headerView ∧ w.headerCount = v.headerCount ∧ w.cfg = v.cfg ∧ w.state = v.state ∧
      w.openCommanded = v.openCommanded ∧ w.powerSetpoint = sp := by
  unfold Turbine.powerRun
  split <;> exact ⟨rfl, rfl, rfl, rfl, rfl, rfl, rfl⟩

theorem Turbine.headerRun_keeps (valve : Drive) (v : Turbine) : let w := (v.headerRun valve).1
    w.powerView = v.powerView ∧ w.headerView = v.headerView ∧ w.headerCount = v.headerCount ∧ w.cfg = v.cfg ∧ w.state = v.state := by
  unfold Turbine.headerRun
  split <;> exact ⟨rfl, rfl, rfl, rfl, rfl⟩

namespace Reached
variable {s b t : State} {v w : Turbine} {a : Drive}

/-- The speed loop run for a setpoint, its output written to DV8. -/
theorem speedRun (h : Reached s b v a) {f : Turbine → Turbine} {sp : Int} (hf : f v = { v with speedSetpoint := sp }) :
    let c := b.modTurbine (fun t => (f t).runSpeedLoop b.drives[admissionDrive].value)
    Reached s (writeAdmission c.turbine.speedLoop.output c) (v.speedRun sp a) (a.write (v.speedRun sp a).speedLoop.output) := by
  have ran := h.modTurbine (fun t => (f t).runSpeedLoop b.drives[admissionDrive].value)
  rw [h.drive, hf, Turbine.runSpeedLoop_eq] at ran
  intro c
  have out : c.turbine.speedLoop.output = (v.speedRun sp a).speedLoop.output := by
    show (b.modTurbine (fun t => (f t).runSpeedLoop b.drives[admissionDrive].value)).turbine.speedLoop.output = _
    rw [h.drive, ran.turbine]
  rw [out]
  show Reached s (writeAdmission _ (b.modTurbine (fun t => (f t).runSpeedLoop b.drives[admissionDrive].value))) _ _
  rw [h.drive]
  exact ran.write _

theorem powerRun (h : Reached s b v a) (sp : Int) :
    Reached s (powerWork (b.modTurbine (fun t => { t with powerSetpoint := sp }))) (v.powerRun sp a).1 (v.powerRun sp a).2 := by
  have set := h.modTurbine (fun t => { t with powerSetpoint := sp })
  unfold powerWork
  dsimp only
  rw [set.drive, set.turbine]
  rcases Option.eq_none_or_eq_some v.powerView with e | ⟨m, e⟩
  · rw [Turbine.runPowerLoop_none (t := { v with powerSetpoint := sp }) e, Turbine.powerRun_none e]
    exact set.modTurbine (fun _ => { v with powerSetpoint := sp })
  · rw [Turbine.runPowerLoop_some (t := { v with powerSetpoint := sp }) e, Turbine.powerRun_some e]
    exact (set.modTurbine _).write _

theorem headerRun (h : Reached s b v a) : Reached s (headerWork b) (v.headerRun a).1 (v.headerRun a).2 := by
  unfold headerWork
  dsimp only
  rw [h.drive, h.turbine]
  rcases Option.eq_none_or_eq_some v.headerView with e | ⟨m, e⟩
  · rw [Turbine.runHeaderLoop_none e, Turbine.headerRun_none e]
    exact h.modTurbine (fun _ => v)
  · rw [Turbine.runHeaderLoop_some e, Turbine.headerRun_some e]
    exact (h.modTurbine _).write _

end Reached

/-! ### The work of each state -/

section
variable {s b t : State} {w : Turbine} {a : Drive}

/-- The test of lowHeader (R147). -/
theorem Reached.settleHeader (h : Reached s b w a) {c : TurbineConfig} {header : Option Int} {count : Nat} (hc : w.cfg = c)
    (hh : w.headerView = header) (hn : w.headerCount = count) (hm : 1 ≤ c.extractionMax) (hr : c.runbackSpeed = s.turbine.cfg.runbackSpeed)
    (hv : w.powerView = s.measuredTurbine.powerView) (ht : UnchangedBut [] ((settleHeader b).regrantOn s.turbine.powerView) t) :
    (header = none → PeriodEnds s t w a False) ∧
    (∀ x, header = some x → c.headerMin ≤ x → PeriodEnds s t { w with headerCount := 0 } a False) ∧
    (∀ x, header = some x → x < c.headerMin → satSucc 6000 count < 10 * c.headerConfirm →
      PeriodEnds s t { w with headerCount := satSucc 6000 count } a False) ∧
    (∀ x, header = some x → x < c.headerMin → 10 * c.headerConfirm ≤ satSucc 6000 count →
      t.turbine = w.trip s.clock .lowHeader (some x) ∧ TripSpreads s t a) := by
  unfold Machine.settleHeader at ht
  dsimp only at ht
  rw [h.turbine, hh, hc, hn] at ht
  refine ⟨fun e => ?_, fun x e hx => ?_, fun x e hx hn => ?_, fun x e hx hn => ?_⟩ <;> rw [e] at ht <;> dsimp only at ht
  · exact h.stays hv ht
  · rw [if_neg (by omega)] at ht
    exact (h.modTurbine fun t => { t with headerCount := 0 }).stays hv ht
  · rw [if_pos hx, if_neg (by omega)] at ht
    exact (h.modTurbine fun t => { t with headerCount := satSucc 6000 count }).stays hv ht
  · rw [if_pos hx, if_pos hn] at ht
    exact h.trips (by rw [hc]; exact hm) (by rw [hc]; exact hr) _ _ ht

/-- The speed unit measures a speed within the band (R142). -/
def InBand (s : State) : Prop := s.speedUnit.signal = .measuring ∧
  s.turbine.cfg.syncSpeed - s.turbine.cfg.syncBand ≤ s.measuredTurbine.speedView ∧
  s.measuredTurbine.speedView ≤ s.turbine.cfg.syncSpeed + s.turbine.cfg.syncBand

theorem Reached.inBand_iff (h : Reached s b w a) (hc : w.cfg = s.turbine.cfg) (hv : w.speedView = s.measuredTurbine.speedView) :
    inBand b = true ↔ InBand s := by
  have unit : b.speedUnit = s.speedUnit := h.only .speedUnit (by decide)
  unfold inBand InBand
  dsimp only
  rw [unit, h.turbine, hc, hv, Bool.and_eq_true, decide_eq_true_eq, within_iff]

end

/-- ROLLING (R142). -/
theorem rolling_ends {s t : State} (ht : UnchangedBut [] ((rollingWork s.turbineMeasured).regrantOn s.turbine.powerView) t) :
    let c := s.turbine.cfg
    let w := s.measuredTurbine.speedRun (min c.syncSpeed (s.turbine.speedSetpoint + (c.accelRate : Int) / 10)) s.drives[admissionDrive]
    let count := satSucc 600 s.turbine.syncCount
    let valve := s.drives[admissionDrive].write w.speedLoop.output
    (¬ InBand s → PeriodEnds s t { w with syncCount := 0 } valve False) ∧
    (InBand s → count < c.syncHold → PeriodEnds s t { w with syncCount := count } valve False) ∧
    (InBand s → c.syncHold ≤ count → PeriodEnds s t { w with syncCount := count, state := .syncWait } valve True) := by
  intro c w count valve
  have ran : Reached s _ w valve := (Reached.measured s).speedRun (f := Turbine.rampSpeed) rfl
  have band := ran.inBand_iff rfl rfl
  unfold rollingWork at ht
  dsimp only at ht
  rw [ran.turbine] at ht
  refine ⟨fun hb => ?_, fun hb hn => ?_, fun hb hn => ?_⟩
  · rw [if_neg (fun k => hb (band.mp k))] at ht
    exact (ran.modTurbine _).stays rfl ht
  · rw [if_pos (band.mpr hb), if_neg (show ¬ w.cfg.syncHold ≤ satSucc 600 w.syncCount from Nat.not_le_of_lt hn)] at ht
    exact (ran.modTurbine _).stays rfl ht
  · rw [if_pos (band.mpr hb), if_pos (show w.cfg.syncHold ≤ satSucc 600 w.syncCount from hn)] at ht
    exact ran.passes _ ht

/-- SYNC_WAIT (R142). -/
theorem syncWait_ends {s t : State} (ht : UnchangedBut [] ((syncWaitWork s.turbineMeasured).regrantOn s.turbine.powerView) t) :
    let w := s.measuredTurbine.speedRun s.turbine.cfg.syncSpeed s.drives[admissionDrive]
    let valve := s.drives[admissionDrive].write w.speedLoop.output
    (InBand s → PeriodEnds s t w valve False) ∧
    (¬ InBand s → PeriodEnds s t { w with state := .rolling, syncCount := 0 } valve True) := by
  intro w valve
  have ran : Reached s _ w valve :=
    (Reached.measured s).speedRun (f := fun t => { t with speedSetpoint := t.cfg.syncSpeed }) rfl
  have band := ran.inBand_iff rfl rfl
  unfold syncWaitWork at ht
  dsimp only at ht
  refine ⟨fun hb => ?_, fun hb => ?_⟩
  · rw [if_pos (band.mpr hb)] at ht
    exact ran.stays rfl ht
  · rw [if_neg (fun k => hb (band.mp k))] at ht
    exact ran.passes _ ht

/-- The loop of LOADED by the mode (R145, R146). -/
def State.loadedRun (s : State) : Turbine × Drive :=
  if s.turbine.mode = .load then
    s.measuredTurbine.powerRun (approach s.turbine.cfg.loadTarget s.turbine.cfg.loadStep s.turbine.powerSetpoint) s.drives[admissionDrive]
  else s.measuredTurbine.headerRun s.drives[admissionDrive]

/-- LOADED (R145 to R147). -/
theorem loaded_ends {s t : State} (hm : 1 ≤ s.turbine.cfg.extractionMax)
    (ht : UnchangedBut [] ((loadedWork s.turbineMeasured).regrantOn s.turbine.powerView) t) :
    let c := s.turbine.cfg; let r := s.loadedRun; let count := satSucc 6000 s.turbine.headerCount
    (s.measuredTurbine.headerView = none → PeriodEnds s t r.1 r.2 False) ∧
    (∀ x, s.measuredTurbine.headerView = some x → c.headerMin ≤ x → PeriodEnds s t { r.1 with headerCount := 0 } r.2 False) ∧
    (∀ x, s.measuredTurbine.headerView = some x → x < c.headerMin → count < 10 * c.headerConfirm →
      PeriodEnds s t { r.1 with headerCount := count } r.2 False) ∧
    (∀ x, s.measuredTurbine.headerView = some x → x < c.headerMin → 10 * c.headerConfirm ≤ count →
      t.turbine = r.1.trip s.clock .lowHeader (some x) ∧ TripSpreads s t r.2) := by
  intro c r count
  have kept : r.1.powerView = s.measuredTurbine.powerView ∧ r.1.headerView = s.measuredTurbine.headerView ∧
      r.1.headerCount = s.turbine.headerCount ∧ r.1.cfg = c := by
    show s.loadedRun.1.powerView = _ ∧ s.loadedRun.1.headerView = _ ∧ s.loadedRun.1.headerCount = _ ∧ s.loadedRun.1.cfg = _
    unfold State.loadedRun
    split
    · obtain ⟨power, header, counted, cfg, -⟩ := s.measuredTurbine.powerRun_keeps
        (approach s.turbine.cfg.loadTarget s.turbine.cfg.loadStep s.turbine.powerSetpoint) s.drives[admissionDrive]
      exact ⟨power, header, counted, cfg⟩
    · obtain ⟨power, header, counted, cfg, -⟩ := s.measuredTurbine.headerRun_keeps s.drives[admissionDrive]
      exact ⟨power, header, counted, cfg⟩
  obtain ⟨power, header, counted, cfg⟩ := kept
  have ran : ∃ b, Reached s b r.1 r.2 ∧ loadedWork s.turbineMeasured = settleHeader b := by
    show ∃ b, Reached s b s.loadedRun.1 s.loadedRun.2 ∧ _
    unfold State.loadedRun loadedWork
    rw [show s.turbineMeasured.turbine.mode = s.turbine.mode from rfl]
    cases s.turbine.mode
    · exact ⟨_, (Reached.measured s).powerRun _, rfl⟩
    · exact ⟨_, (Reached.measured s).headerRun, rfl⟩
  obtain ⟨b, ran, e⟩ := ran
  rw [e] at ht
  exact ran.settleHeader cfg header counted hm rfl power ht

/-- UNLOADING (R149). -/
theorem unloading_ends {s t : State} (ht : UnchangedBut [] ((unloadingWork s.turbineMeasured).regrantOn s.turbine.powerView) t) :
    let c := s.turbine.cfg
    let r := s.measuredTurbine.powerRun (approach c.minLoad c.loadStep s.turbine.powerSetpoint) s.drives[admissionDrive]
    (r.1.powerSetpoint = c.minLoad → s.turbine.openCommanded = false →
      PeriodEnds s t { r.1 with openCommanded := true, breakerTimer := some (c.breakerTimeout * 1000) } r.2 False) ∧
    (r.1.powerSetpoint ≠ c.minLoad ∨ s.turbine.openCommanded = true → PeriodEnds s t r.1 r.2 False) := by
  intro c r
  have ran : Reached s (powerWork (rampPower s.turbineMeasured.turbine.cfg.minLoad s.turbineMeasured)) r.1 r.2 :=
    (Reached.measured s).powerRun _
  obtain ⟨power, -, -, cfg, -, opened, -⟩ := s.measuredTurbine.powerRun_keeps
    (approach c.minLoad c.loadStep s.turbine.powerSetpoint) s.drives[admissionDrive]
  unfold unloadingWork at ht
  dsimp only at ht
  rw [ran.turbine, show r.1.cfg = c from cfg, show r.1.openCommanded = s.turbine.openCommanded from opened] at ht
  refine ⟨fun hp ho => ?_, fun hn => ?_⟩
  · rw [if_pos ⟨hp, ho⟩] at ht
    have ends := (ran.modTurbine fun t => { t with openCommanded := true, breakerTimer := some (t.cfg.breakerTimeout * 1000) }).stays power ht
    rwa [show r.1.cfg.breakerTimeout = c.breakerTimeout from congrArg TurbineConfig.breakerTimeout cfg] at ends
  · rw [if_neg] at ht
    · exact ran.stays power ht
    · rintro ⟨hp, ho⟩
      exact hn.elim (fun k => k hp) (fun k => by rw [k] at ho; cases ho)

/-- The verification of TRIPPED (R155). -/
theorem Turbine.verify_cases (v : Turbine) : (v.verifyCount = none ∨ v.flowView = none → v.verify = v) ∧
    ∀ n f, v.verifyCount = some n → v.flowView = some f →
      (f < v.cfg.verifyFlow → v.verify = { v with verifyCount := some 0 }) ∧
      (v.cfg.verifyFlow ≤ f → satSucc 6000 n < 10 * v.cfg.tripVerifyTime → v.verify = { v with verifyCount := some (satSucc 6000 n) }) ∧
      (v.cfg.verifyFlow ≤ f → 10 * v.cfg.tripVerifyTime ≤ satSucc 6000 n →
        v.verify = { v with verifyCount := none, stopValveFail := true }) := by
  unfold Turbine.verify
  refine ⟨fun h => ?_, fun n f hn hf => ?_⟩
  · rcases h with h | h
    · rw [h]
    · rw [h]; split <;> first | rfl | contradiction
  · rw [hn, hf]
    dsimp only
    refine ⟨fun h => if_neg (by omega), fun h k => ?_, fun h k => ?_⟩
    · rw [if_pos h, if_neg (by omega)]
    · rw [if_pos h, if_pos k]

theorem Turbine.verify_powerView (v : Turbine) : v.verify.powerView = v.powerView := by
  unfold Turbine.verify
  split
  · dsimp only
    split
    · split <;> rfl
    · rfl
  · rfl

theorem turbineWork_of {s : State} {st : TurbineState} : s.turbine.state = st → turbineWork s = match st with
    | .rolling => rollingWork s
    | .syncWait => syncWaitWork s
    | .loaded => loadedWork s
    | .unloading => unloadingWork s
    | .tripped => s.modTurbine Turbine.verify
    | .stopped => s := by
  rintro rfl
  rfl

/-- The record a period leaves is the work's, but for the grant. -/
theorem PeriodEnds.record {s t : State} {w : Turbine} {a : Drive} {p : Prop} (h : PeriodEnds s t w a p) :
    ∃ g, t.turbine = { w with grant := g } := by
  obtain ⟨anew, kept, -⟩ := h
  by_cases hp : p ∨ s.measuredTurbine.powerView ≠ s.turbine.powerView
  · exact ⟨_, (anew hp).1⟩
  · exact ⟨w.grant, (kept hp).1⟩

end Sys2Proof.Machine

open Sys2Proof Sys2Proof.Machine

/-- Settles O41: the measurements bring the governor to the work of its state, and each work ends with a record, DV8 and perhaps a
passage or a trip. -/
theorem turbinePeriod : Obligations.TurbinePeriod := by
  intro s hs hm
  refine ⟨fun h => idles_of hs (fun _ => rfl) (tgPeriodExpiry_idle h), fun h => ?_⟩
  refine happens_of hs (fun _ => rfl) (tgPeriodExpiry_only s) fun t ht rested => ?_
  have drives : t.drives = _ := ht .drives (by decide)
  have work {u : State} (e : turbineWork s.turbineMeasured = u) (hn : ¬ (s.turbine.state.energised = true ∧ AdmissionLost s)) :
      UnchangedBut [] (u.regrantOn s.turbine.powerView) t := by
    rw [tgPeriodExpiry_works h hn, e] at ht; exact ht
  refine ⟨fun d ha he => by rw [drives]; exact GovernorDrives.period s d ha he, fun he hl => ?_, fun hst hl => ?_, fun hst hl => ?_,
    fun hst hl => ?_, fun hst hl => ?_, fun hst => ?_, fun hst => ?_⟩
  · rw [tgPeriodExpiry_lost h he hl] at ht
    have started := Reached.measured s
    obtain ⟨turbine, spreads, -⟩ := tripTurbine_leaves (s := s) (u := s.turbineMeasured) _ _ ht (started.only .constraints (by decide)).same
      rfl rfl rfl
    exact ⟨turbine, spreads⟩
  · exact rolling_ends (work (turbineWork_of (s := s.turbineMeasured) hst) fun k => hl k.2)
  · exact syncWait_ends (work (turbineWork_of (s := s.turbineMeasured) hst) fun k => hl k.2)
  · exact loaded_ends hm (work (turbineWork_of (s := s.turbineMeasured) hst) fun k => hl k.2)
  · obtain ⟨opens, stays⟩ := unloading_ends (work (turbineWork_of (s := s.turbineMeasured) hst) fun k => hl k.2)
    refine ⟨fun hp ho => ⟨opens hp ho, ?_⟩, stays⟩
    obtain ⟨g, turbine⟩ := (opens hp ho).record
    obtain ⟨⟨-, -, -, follows, -⟩, -⟩ := rested
    have state := (s.measuredTurbine.powerRun_keeps
      (approach s.turbine.cfg.minLoad s.turbine.cfg.loadStep s.turbine.powerSetpoint) s.drives[admissionDrive]).2.2.2.2.1
    rw [follows]
    unfold breakerOpenDemand
    rw [turbine]
    dsimp only
    rw [state, show s.measuredTurbine.state = .unloading from hst]
  · exact (Reached.measured s).stays rfl (work (turbineWork_of (s := s.turbineMeasured) hst) fun k => by rw [hst] at k; cases k.1)
  · have ended : PeriodEnds s t s.measuredTurbine.verify s.drives[admissionDrive] False :=
      ((Reached.measured s).modTurbine Turbine.verify).stays (Turbine.verify_powerView _)
        (work (turbineWork_of (s := s.turbineMeasured) hst) fun k => by rw [hst] at k; cases k.1)
    obtain ⟨same, counts⟩ := s.measuredTurbine.verify_cases
    refine ⟨fun hn => by rw [same hn] at ended; exact ended, fun n f hn hf => ?_⟩
    obtain ⟨low, high, confirmed⟩ := counts n f hn hf
    exact ⟨fun h1 => by rw [low h1] at ended; exact ended, fun h1 h2 => by rw [high h1 h2] at ended; exact ended,
      fun h1 h2 => by rw [confirmed h1 h2] at ended; exact ended⟩
end

section
/-! PROOFS. The requests of the heat exchange unit, and the heating curve (R97, R160, R162 to R165). -/

namespace Sys2Proof.Machine

-- One after the other: see Laws/Frames.lean.
set_option Elab.async false

/-! ### The heating curve (R163) -/

/-- A curve rises (R162). -/
abbrev Rising (c : List (Int × Int)) : Prop := c.Pairwise (fun a b => a.1 < b.1)

theorem roundRatio_exact (t : Int) {b : Int} (hb : 0 < b) : roundRatio (t * b) b = t := by
  have near := (roundRatio_nearest (t * b) hb.ne').1
  rw [← sub_mul, abs_mul, abs_of_pos hb] at near
  have : |roundRatio (t * b) b - t| = 0 := by
    have := abs_nonneg (roundRatio (t * b) b - t)
    nlinarith
  exact sub_eq_zero.mp (abs_eq_zero.mp this)

theorem Rising.head_le {o t : Int} {rest : List (Int × Int)} (h : Rising ((o, t) :: rest)) {y : Int × Int} (hy : y ∈ (o, t) :: rest) :
    o ≤ y.1 := by
  rcases List.mem_cons.mp hy with e | hm
  · rw [e]
  · exact (List.rel_of_pairwise_cons h hm).le

/-- From the first breakpoint on, a curve is its segments. -/
theorem curveTarget_of_le {o t x : Int} {rest : List (Int × Int)} (h : Rising ((o, t) :: rest)) (hx : o ≤ x) :
    curveTarget ((o, t) :: rest) x = some (targetOn o t rest x) := by
  show some (if x ≤ o then t else targetOn o t rest x) = _
  split
  · have e : x = o := by omega
    subst e
    cases rest with
    | nil => rfl
    | cons b rest =>
      have below : x < b.1 := List.rel_of_pairwise_cons h (List.mem_cons_self ..)
      unfold targetOn
      rw [if_pos below, sub_self, mul_zero, add_zero, roundRatio_exact t (by omega)]
  · rfl

/-- Past its last breakpoint a curve keeps the end target. -/
theorem targetOn_end {o t x a v : Int} {rest before : List (Int × Int)} (h : Rising ((o, t) :: rest))
    (e : (o, t) :: rest = before ++ [(a, v)]) (hx : a ≤ x) : targetOn o t rest x = v := by
  induction rest generalizing o t before with
  | nil =>
    cases before with
    | nil => cases e; rfl
    | cons b before => simp at e
  | cons b rest ih =>
    cases before with
    | nil => simp at e
    | cons c before =>
      obtain ⟨-, e⟩ := List.cons.inj e
      have rising : Rising (b :: rest) := (List.pairwise_cons.mp h).2
      have : b.1 ≤ a := rising.head_le (y := (a, v)) (by rw [e]; simp)
      unfold targetOn
      rw [if_neg (by omega)]
      exact ih rising e

/-- On a segment a curve is the rounded line through its two breakpoints. -/
theorem targetOn_segment {o t x a v a2 v2 : Int} {rest before after : List (Int × Int)} (h : Rising ((o, t) :: rest))
    (e : (o, t) :: rest = before ++ (a, v) :: (a2, v2) :: after) (hx : a ≤ x) (hx2 : x < a2) :
    targetOn o t rest x = roundRatio (v * (a2 - a) + (v2 - v) * (x - a)) (a2 - a) := by
  induction rest generalizing o t before with
  | nil =>
    cases before with
    | nil => simp at e
    | cons b before => simp at e
  | cons b rest ih =>
    cases before with
    | nil =>
      cases e
      unfold targetOn
      rw [if_pos hx2]
    | cons c before =>
      obtain ⟨-, e⟩ := List.cons.inj e
      have rising : Rising (b :: rest) := (List.pairwise_cons.mp h).2
      have : b.1 ≤ a := rising.head_le (y := (a, v)) (by rw [e]; simp)
      unfold targetOn
      rw [if_neg (by omega)]
      exact ih rising e

theorem zip_tail_iff_pairwise (c : List (Int × Int)) : (∀ p ∈ c.zip c.tail, p.1.1 < p.2.1) ↔ Rising c := by
  have trans : IsTrans (Int × Int) (fun a b => a.1 < b.1) := ⟨fun _ _ _ => lt_trans⟩
  unfold Rising
  rw [← List.isChain_iff_pairwise]
  induction c with
  | nil => simp
  | cons a c ih =>
    cases c with
    | nil => simp
    | cons b c => simp only [List.tail_cons, List.zip_cons_cons, List.forall_mem_cons, List.isChain_cons_cons] at ih ⊢; exact and_congr_right' ih

/-- What SetCurve asks of a curve (R162). -/
def GoodCurve (curve : List (Int × Int)) : Prop :=
  2 ≤ curve.length ∧ curve.length ≤ 8 ∧
    (∀ b ∈ curve, (ValueClass.temp.lo ≤ b.1 ∧ b.1 ≤ ValueClass.temp.hi) ∧ ValueClass.temp.lo ≤ b.2 ∧ b.2 ≤ ValueClass.temp.hi) ∧
    Rising curve

theorem curveOk_iff (curve : List (Int × Int)) : curveOk curve = true ↔ GoodCurve curve := by
  rw [curveOk, Bool.and_eq_true, Bool.and_eq_true, List.all_eq_true, List.all_eq_true, withinNat_iff, GoodCurve, ← zip_tail_iff_pairwise]
  simp only [Bool.and_eq_true, ValueClass.has_iff, decide_eq_true_eq, and_assoc]

/-! ### Writes of the request (R156, R172) -/

theorem writeRequest_turbine (v : Int) (s : State) : (writeRequest v s).turbine =
    ({ s.turbine with grant := { s.turbine.grant with request := v } } : Turbine).settleGrant := recomputeGrant_turbine _

theorem writeRequest_drive (v : Int) (d : Fin 15) (s : State) : (writeRequest v s).drives[d] =
    if d = extractionDrive ∧ s.turbine.state.energised = true then
      s.drives[extractionDrive].write (writeRequest v s).turbine.grant.valveDemand
    else s.drives[d] := by
  rw [writeRequest_turbine]
  exact recomputeGrant_drive d _

/-- A request of 0 leaves no grant (R156). -/
theorem Turbine.settleGrant_unrequested (t : Turbine) (hm : 1 ≤ t.cfg.extractionMax) :
    ({ t with grant := { t.grant with request := 0 } } : Turbine).settleGrant = { t with grant := ⟨0, 0, 0⟩ } := by
  have grant : grantOf { t with grant := { t.grant with request := 0 } } = 0 := by
    unfold grantOf
    split
    · exact min_eq_left (by show (0 : Int) ≤ t.cfg.extractionMax; omega)
    · rfl
  have valve : roundHalfUp (0 * 10000) t.cfg.extractionMax = 0 := by
    unfold roundHalfUp
    rw [Int.zero_mul, Int.mul_zero, Int.zero_add]
    exact Int.ediv_eq_zero_of_lt (by omega) (by omega)
  unfold Turbine.settleGrant valveOf
  rw [grant]
  dsimp only
  rw [valve]

/-! ### ConfigureHeating (R160) -/

/-- The bindings of ConfigureHeating, raw. -/
abbrev HeatingFields.bindings (q : HeatingFields) : List (Option Nat) :=
  [q.outdoorPoint, q.supplyPoint, q.returnPoint, q.netFlowPoint, q.brineInPoint, q.brineOutPoint, q.brineFlowPoint]

/-- The ranges of R160. -/
def HeatingFields.InRange (q : HeatingFields) : Prop :=
  (∀ p ∈ HeatingFields.bindings q, ∀ n, p = some n → n ≤ 95) ∧
  (∀ x ∈ [q.brineFloorDefault, q.supplyMax], ValueClass.temp.lo ≤ x ∧ x ≤ ValueClass.temp.hi) ∧
  (0 ≤ q.supplyHys ∧ q.supplyHys ≤ 5000) ∧ (1 ≤ q.shortConfirm ∧ q.shortConfirm ≤ 3600) ∧
  (∀ g ∈ [q.supplyKp, q.supplyKi, q.floorKp, q.floorKi], g ≤ 10000)

theorem HeatingFields.numbers_iff (q : HeatingFields) :
    (ValueClass.temp.has q.brineFloorDefault && ValueClass.temp.has q.supplyMax && within 0 5000 q.supplyHys &&
      withinNat 1 3600 q.shortConfirm && withinNat 0 10000 q.supplyKp && withinNat 0 10000 q.supplyKi &&
      withinNat 0 10000 q.floorKp && withinNat 0 10000 q.floorKi) = true ↔
    (∀ x ∈ [q.brineFloorDefault, q.supplyMax], ValueClass.temp.lo ≤ x ∧ x ≤ ValueClass.temp.hi) ∧
    (0 ≤ q.supplyHys ∧ q.supplyHys ≤ 5000) ∧ (1 ≤ q.shortConfirm ∧ q.shortConfirm ≤ 3600) ∧
    (∀ g ∈ [q.supplyKp, q.supplyKi, q.floorKp, q.floorKi], g ≤ 10000) := by
  simp only [Bool.and_eq_true, ValueClass.has_iff, within_iff, withinNat_iff, List.forall_mem_cons, List.not_mem_nil, false_imp_iff,
    implies_true, and_true, and_assoc, Nat.zero_le, true_and]

theorem HeatingFields.points_iff (q : HeatingFields) : (∀ p ∈ HeatingFields.bindings q, ∀ n, p = some n → n ≤ 95) ↔
    (∃ i, optIdent 96 q.outdoorPoint = some i) ∧ (∃ i, optIdent 96 q.supplyPoint = some i) ∧ (∃ i, optIdent 96 q.returnPoint = some i) ∧
      (∃ i, optIdent 96 q.netFlowPoint = some i) ∧ (∃ i, optIdent 96 q.brineInPoint = some i) ∧
      (∃ i, optIdent 96 q.brineOutPoint = some i) ∧ ∃ i, optIdent 96 q.brineFlowPoint = some i := by
  simp only [HeatingFields.bindings, List.forall_mem_cons, List.not_mem_nil, false_imp_iff, implies_true, and_true, exists_optIdent, Option.mem_def]

theorem HeatingFields.check_some {q : HeatingFields} {new : HeatingConfig} (h : HeatingFields.check q = some new) :
    HeatingFields.InRange q ∧ new.fields = q := by
  simp only [HeatingFields.check, bind, Option.bind_eq_some_iff, require_eq_some, Option.some.injEq] at h
  obtain ⟨p1, h1, p2, h2, p3, h3, p4, h4, p5, h5, p6, h6, p7, h7, -, numbers, rfl⟩ := h
  refine ⟨⟨(HeatingFields.points_iff q).mpr ⟨⟨_, h1⟩, ⟨_, h2⟩, ⟨_, h3⟩, ⟨_, h4⟩, ⟨_, h5⟩, ⟨_, h6⟩, _, h7⟩,
    (HeatingFields.numbers_iff q).mp numbers⟩, ?_⟩
  simp only [HeatingConfig.fields, optIdent_eq_some.mp h1, optIdent_eq_some.mp h2, optIdent_eq_some.mp h3, optIdent_eq_some.mp h4,
    optIdent_eq_some.mp h5, optIdent_eq_some.mp h6, optIdent_eq_some.mp h7]

theorem HeatingFields.check_none_iff (q : HeatingFields) : HeatingFields.check q = none ↔ ¬ HeatingFields.InRange q := by
  refine ⟨fun h ⟨points, numbers⟩ => ?_, fun h => ?_⟩
  · obtain ⟨⟨p1, h1⟩, ⟨p2, h2⟩, ⟨p3, h3⟩, ⟨p4, h4⟩, ⟨p5, h5⟩, ⟨p6, h6⟩, p7, h7⟩ := (HeatingFields.points_iff q).mp points
    have numbers := (HeatingFields.numbers_iff q).mpr numbers
    have found : ∃ x, HeatingFields.check q = some x := by
      simp only [HeatingFields.check, bind, Option.bind_eq_some_iff, require_eq_some]
      exact ⟨_, p1, h1, p2, h2, p3, h3, p4, h4, p5, h5, p6, h6, p7, h7, (), numbers, rfl⟩
    obtain ⟨x, hx⟩ := found
    exact absurd (h.symm.trans hx) nofun
  · cases hc : HeatingFields.check q with
    | none => rfl
    | some x => exact absurd (HeatingFields.check_some hc).1 h

/-- A change of a binding (section 8.1). -/
def HeatingConfig.Rebinds (old new : HeatingConfig) : Prop :=
  old.outdoorPoint ≠ new.outdoorPoint ∨ old.supplyPoint ≠ new.supplyPoint ∨ old.returnPoint ≠ new.returnPoint ∨
    old.netFlowPoint ≠ new.netFlowPoint ∨ old.brineInPoint ≠ new.brineInPoint ∨ old.brineOutPoint ≠ new.brineOutPoint ∨
    old.brineFlowPoint ≠ new.brineFlowPoint

theorem structuralHeatingChange_iff (old new : HeatingConfig) : structuralHeatingChange old new = true ↔ old.Rebinds new := by
  simp only [structuralHeatingChange, HeatingConfig.Rebinds, Bool.or_eq_true, decide_eq_true_eq, or_assoc]

theorem storeHeating_heating (new : HeatingConfig) (s : State) : (storeHeating new s).heating = { s.heating with cfg := new } := by
  unfold storeHeating
  dsimp only
  split
  · rfl
  · exact recompute_only _ _ .heating (by decide)

/-- What storing does to the constraint table (R97, R160). -/
theorem storeHeating_constraints (new : HeatingConfig) (s : State) : let t := storeHeating new s
    t.slots = s.slots ∧ t.combined = s.combined ∧
    (∀ g : Target, g ≠ .brineFloor ∨ s.heating.cfg.brineFloorDefault = new.brineFloorDefault → t.bounds[g.index] = s.bounds[g.index]) ∧
    (s.heating.cfg.brineFloorDefault ≠ new.brineFloorDefault → t.bounds[Target.brineFloor.index] = boundOf t .brineFloor) := by
  unfold storeHeating
  dsimp only
  split
  · rename_i h
    exact ⟨rfl, rfl, fun _ _ => rfl, fun hn => absurd h hn⟩
  · rename_i h
    refine ⟨recompute_slots .., rfl, fun g hg => ?_, fun _ => ?_⟩
    · rw [recompute_bounds, if_neg (hg.resolve_right h)]; rfl
    · rw [recompute_bounds, if_pos rfl, boundOf_recompute]

section
variable {q : HeatingFields} {new : HeatingConfig} {s : State} (h : HeatingFields.check q = some new)
include h

theorem ownConfigureHeating_state (hs : s.phase = .run ∧ s.heating.cfg.Rebinds new) : ownConfigureHeating q s = (s, ⟨.state, []⟩) := by
  unfold ownConfigureHeating
  rw [h]; dsimp only
  rw [if_pos (by rw [decide_eq_true hs.1, (structuralHeatingChange_iff _ _).mpr hs.2]; rfl)]; rfl

theorem ownConfigureHeating_ok (hs : ¬ (s.phase = .run ∧ s.heating.cfg.Rebinds new)) :
    ownConfigureHeating q s = (storeHeating new s, ⟨.ok, Wire.putHeatingFields q ++ Wire.putBool new.complete⟩) := by
  unfold ownConfigureHeating
  rw [h]; dsimp only
  rw [if_neg (by rw [Bool.and_eq_true, decide_eq_true_eq, structuralHeatingChange_iff]; exact hs), storeHeating_heating]
  dsimp only
  rw [(HeatingFields.check_some h).2]; rfl

end

/-! ### HeatingCommand (R164, R165) -/

section
variable {s : State}

theorem heatingAnswer_eq (s : State) : heatingAnswer s = (s, ⟨.ok, [BitVec.ofNat 8 s.heating.state.code]⟩) := by
  unfold heatingAnswer; rw [putByte_eq]; rfl

theorem ownHeatingOn_on (h : s.heating.state ≠ .off) : ownHeatingOn s = (s, ⟨.ok, [BitVec.ofNat 8 s.heating.state.code]⟩) :=
  (if_pos h).trans (heatingAnswer_eq s)

theorem ownHeatingOn_ok (h : s.heating.state = .off) (hr : s.phase = .run) (hc : s.heating.cfg.complete = true) (hv : s.heating.curve.isSome = true) :
    ownHeatingOn s = (s.modHeating (fun h => { h with state := .active, targetHeld := false, loopsPending := true }),
      ⟨.ok, [BitVec.ofNat 8 HeatState.active.code]⟩) := by
  unfold ownHeatingOn
  rw [if_neg (not_not.mpr h), if_neg (not_not.mpr hr), if_neg (by rw [hc]; nofun),
    if_neg (by rw [Option.isNone_iff_eq_none]; intro e; rw [e] at hv; cases hv), heatingAnswer_eq]; rfl

theorem ownHeatingOn_refuses (h : s.heating.state = .off) (hn : s.phase ≠ .run ∨ s.heating.cfg.complete = false ∨ s.heating.curve = none) :
    ∃ reason : Byte, ownHeatingOn s = (s, ⟨.state, [reason]⟩) := by
  unfold ownHeatingOn
  rw [if_neg (not_not.mpr h)]
  split
  · exact ⟨_, by rw [putByte_eq]; rfl⟩
  · rename_i hr
    split
    · exact ⟨_, by rw [putByte_eq]; rfl⟩
    · rename_i hc
      have curve := (hn.resolve_left hr).resolve_left hc
      rw [if_pos (by rw [curve]; rfl)]
      exact ⟨_, by rw [putByte_eq]; rfl⟩

theorem turnHeatingOff_heating (s : State) : (turnHeatingOff s).heating = { s.heating with
    state := .off, extractionShare := some 0, target := none, targetHeld := false, holdFrom := none, holdReason := none,
    selected := none, loopsPending := false, shortCount := 0, supplyShort := false } := by
  have same : (writeRequest 0 (writeOpening 0 s)).heating = s.heating :=
    Eq.trans (writeRequest_only 0 _ .heating (by decide)) (writeDrive_only _ _ s .heating (by decide))
  unfold turnHeatingOff
  rw [State.modHeating_heating, same]

theorem turnHeatingOff_turbine (hm : 1 ≤ s.turbine.cfg.extractionMax) : (turnHeatingOff s).turbine = { s.turbine with grant := ⟨0, 0, 0⟩ } :=
  (writeRequest_turbine 0 _).trans (Turbine.settleGrant_unrequested s.turbine hm)

theorem writeOpening_drive (opening : Int) (d : Fin 15) (s : State) :
    (writeOpening opening s).drives[d] = if d = bypassDrive then s.drives[d].write (10000 - opening) else s.drives[d] := by
  unfold writeOpening
  rw [writeDrive_at]
  by_cases h : d = bypassDrive
  · rw [if_pos h.symm, if_pos h, h]
  · rw [if_neg (Ne.symm h), if_neg h]

theorem turnHeatingOff_drives (hm : 1 ≤ s.turbine.cfg.extractionMax) (d : Fin 15) : (turnHeatingOff s).drives[d] =
    if d = bypassDrive then s.drives[d].write 10000
    else if d = extractionDrive ∧ s.turbine.state.energised = true then s.drives[d].write 0 else s.drives[d] := by
  have drive := writeRequest_drive 0 d (writeOpening 0 s)
  rw [show (writeRequest 0 (writeOpening 0 s)).turbine = { s.turbine with grant := ⟨0, 0, 0⟩ } from turnHeatingOff_turbine hm,
    writeOpening_drive, writeOpening_drive] at drive
  refine drive.trans ?_
  by_cases hb : d = bypassDrive
  · rw [if_neg (fun k => absurd (hb.symm.trans k.1) (by decide)), if_pos hb, if_pos hb]; rfl
  · rw [if_neg hb, if_neg hb]
    by_cases he : d = extractionDrive ∧ s.turbine.state.energised = true
    · rw [if_pos he, if_pos (show d = extractionDrive ∧ (writeOpening 0 s).turbine.state.energised = true from he),
        if_neg (show ¬ extractionDrive = bypassDrive by decide), he.1]
    · rw [if_neg he, if_neg (show ¬ (d = extractionDrive ∧ (writeOpening 0 s).turbine.state.energised = true) from he)]

end

end Sys2Proof.Machine

open Sys2Proof Sys2Proof.Machine

/-- Settles O43: a curve that rises is its segments from the first breakpoint on. -/
theorem theHeatingCurve : Obligations.TheHeatingCurve := by
  refine ⟨fun tag curve s hs => ⟨fun h => refuses_of rfl hs fun v _ => ?_, fun h => replies_of rfl hs fun v _ =>
      ⟨State.modHeating { s with supervision := v } fun h => { h with curve := some curve }, ?_, State.modHeating_only _ _,
        fun t ht _ => ht .heating (by decide)⟩⟩,
    fun c x rising => ⟨?_, ?_, ?_⟩⟩
  · show ownSetCurve curve _ = _
    unfold ownSetCurve; rw [if_neg (fun k => h ((curveOk_iff curve).mp k))]; rfl
  · show ownSetCurve curve _ = _
    unfold ownSetCurve; rw [if_pos ((curveOk_iff curve).mpr h)]; rfl
  · rintro o v rest rfl hx
    exact congrArg some (if_pos hx)
  · intro before o v e hx
    obtain ⟨⟨a, t⟩, rest, e2⟩ := List.exists_cons_of_ne_nil (l := c) (by rw [e]; simp)
    subst e2
    have : a ≤ o := Rising.head_le rising (y := (o, v)) (by rw [e]; simp)
    rw [curveTarget_of_le rising (by omega), targetOn_end rising e hx]
  · intro before o v o2 v2 after e hx hx2
    obtain ⟨⟨a, t⟩, rest, e2⟩ := List.exists_cons_of_ne_nil (l := c) (by rw [e]; simp)
    subst e2
    have : a ≤ o := Rising.head_le rising (y := (o, v)) (by rw [e]; simp)
    intro span line
    have span_pos : 0 < span := by show 0 < o2 - o; omega
    obtain ⟨near, tie⟩ := roundRatio_nearest line span_pos.ne'
    rw [abs_of_pos span_pos] at near tie
    exact ⟨_, by rw [curveTarget_of_le rising (by omega), targetOn_segment rising e hx hx2], near, tie⟩

/-- Settles O42. -/
theorem heatingRequests : Obligations.HeatingRequests := by
  intro tag s hs hm
  refine ⟨fun q => ⟨fun h => refuses_of rfl hs fun v _ => ?_, HeatingFields.check_none_iff q, fun new h => ⟨(HeatingFields.check_some h).2,
      fun hr hb => refuses_of rfl hs fun v _ => by exact ownConfigureHeating_state (s := { s with supervision := v }) h ⟨hr, hb⟩,
      fun hn => replies_of rfl hs fun v _ => ⟨_, by exact ownConfigureHeating_ok (s := { s with supervision := v }) h hn,
        storeHeating_only new _, fun t ht _ => ?_⟩⟩⟩,
    fun h => replies_of rfl hs fun v _ => ⟨_, by exact ownHeatingOn_on (s := { s with supervision := v }) h, .refl _ _, fun _ _ _ => trivial⟩,
    fun h hr hc hv => replies_of rfl hs fun v _ => ⟨_, by exact ownHeatingOn_ok (s := { s with supervision := v }) h hr hc hv,
      State.modHeating_only _ _, fun t ht _ => ht .heating (by decide)⟩,
    fun h hn => ?_,
    fun h => replies_of rfl hs fun v _ => ⟨{ s with supervision := v }, ?_, .refl _ _, fun _ _ _ => trivial⟩,
    fun h => replies_of rfl hs fun v _ => ⟨turnHeatingOff { s with supervision := v }, ?_, turnHeatingOff_only _, fun t ht _ => ?_⟩⟩
  · show ownConfigureHeating q _ = _
    unfold ownConfigureHeating; rw [h]; rfl
  · obtain ⟨tslots, tbounds, tcombined⟩ := ht .constraints (by decide)
    obtain ⟨slots, combined, kept, anew⟩ := storeHeating_constraints new { s with supervision := v }
    have heating : t.heating = _ := ht .heating (by decide)
    have wells : t.wells = _ := ht .wells (by decide)
    refine ⟨heating.trans (storeHeating_heating new _), tslots.trans slots, tcombined.trans combined,
      fun g hg => by rw [tbounds]; exact kept g hg, fun hb => ?_⟩
    rw [tbounds, anew hb]
    exact (boundOf_eq (fun j => by rw [tslots]) (targetDefault_eq _ (fun j => by rw [wells]) (by rw [heating]) _)).symm
  · obtain ⟨_, ⟨reason, rfl⟩, refuses⟩ := refuses_with (c := .heatingOn tag) rfl hs (Q := fun d => ∃ reason, d = [reason]) (status := .state)
      fun v _ => by
        obtain ⟨reason, e⟩ := ownHeatingOn_refuses (s := { s with supervision := v }) h hn
        exact ⟨_, ⟨reason, rfl⟩, e⟩
    exact ⟨reason, refuses⟩
  · show ownHeatingOff _ = _
    unfold ownHeatingOff
    rw [if_pos h, heatingAnswer_eq, h]
  · show ownHeatingOff _ = _
    unfold ownHeatingOff
    rw [if_neg h, heatingAnswer_eq, turnHeatingOff_heating]
  · have drives : t.drives = _ := ht .drives (by decide)
    exact ⟨Eq.trans (ht .heating (by decide)) (turnHeatingOff_heating _), Eq.trans (ht .turbine (by decide)) (turnHeatingOff_turbine hm),
      fun d => by rw [drives]; exact turnHeatingOff_drives (s := { s with supervision := v }) hm d⟩
end

section
/-! PROOFS. The HX period (R163, R166 to R178). -/

namespace Sys2Proof.Machine

-- One after the other: see Laws/Frames.lean.
set_option Elab.async false

/-! ### The inputs, and the state they settle (R166 to R169) -/

/-- The record with its inputs read and the period started again (R166). -/
def State.measuredHeating (s : State) : Heating := { s.heating with
  periodTimer := some 1000, floorView := s.bounds[Target.brineFloor.index],
  views := ⟨readView s s.heating.cfg.outdoorPoint, readView s s.heating.cfg.supplyPoint, readView s s.heating.cfg.returnPoint,
    readView s s.heating.cfg.netFlowPoint, readView s s.heating.cfg.brineInPoint, readView s s.heating.cfg.brineOutPoint,
    readView s s.heating.cfg.brineFlowPoint⟩ }

/-- The part with the inputs read. -/
def State.heatingMeasured (s : State) : State := s.modHeating (fun _ => s.measuredHeating)

theorem hxPeriodExpiry_idle {s : State} (h : s.heating.periodTimer = none) : hxPeriodExpiry s = s := by unfold hxPeriodExpiry; rw [h]

theorem hxPeriodExpiry_running {s : State} (h : s.heating.periodTimer.isSome = true) :
    hxPeriodExpiry s = heatingWork (settleHeating s.heatingMeasured) := by
  obtain ⟨n, h⟩ := Option.isSome_iff_exists.mp h
  unfold hxPeriodExpiry; rw [h]; rfl

/-- The essential points in the order they are asked for (R167). -/
def HeatViews.essential (v : HeatViews) : List (HoldReason × Option PointView) :=
  [(.supplyPoint, v.supply), (.returnPoint, v.ret), (.netFlowPoint, v.netFlow), (.brineInPoint, v.brineIn), (.brineOutPoint, v.brineOut),
    (.brineFlowPoint, v.brineFlow)]

theorem find?_cons_ite {α : Type} (p : α → Bool) (a : α) (l : List α) :
    (a :: l).find? p = if p a = true then some a else l.find? p := by
  rw [List.find?_cons]
  cases p a <;> rfl

theorem firstUnusable_eq (v : HeatViews) :
    firstUnusable v = (v.essential.find? (fun e => decide (viewValue e.2 = none))).map Prod.fst := by
  simp only [firstUnusable, HeatViews.essential, find?_cons_ite, List.find?_nil, apply_ite (Option.map Prod.fst), Option.map_some,
    Option.map_none, decide_eq_true_eq, Option.isNone_iff_eq_none]

/-- No target can be formed and none is kept (R167). -/
def Heating.NoTarget (h : Heating) : Prop := viewValue h.views.outdoor = none ∧ h.target = none

theorem Heating.holdCause_unusable {h : Heating} {e : HoldReason × Option PointView}
    (he : h.views.essential.find? (fun e => decide (viewValue e.2 = none)) = some e) : h.holdCause = some e.1 := by
  unfold Heating.holdCause
  rw [firstUnusable_eq, he]; rfl

theorem Heating.holdCause_noTarget {h : Heating} (he : h.views.essential.find? (fun e => decide (viewValue e.2 = none)) = none)
    (hn : h.NoTarget) : h.holdCause = some .noTarget := by
  unfold Heating.holdCause
  rw [firstUnusable_eq, he, hn.1, hn.2]; rfl

/-- What a period that works knows of its inputs. -/
structure Heating.Usable (h : Heating) (net sup ret flow inlet outlet : Int) : Prop where
  net : viewValue h.views.netFlow = some net
  sup : viewValue h.views.supply = some sup
  ret : viewValue h.views.ret = some ret
  flow : viewValue h.views.brineFlow = some flow
  inlet : viewValue h.views.brineIn = some inlet
  outlet : viewValue h.views.brineOut = some outlet

theorem Heating.Usable.congr {h k : Heating} {net sup ret flow inlet outlet : Int} (hu : h.Usable net sup ret flow inlet outlet)
    (e : k.views = h.views) : k.Usable net sup ret flow inlet outlet :=
  ⟨e ▸ hu.net, e ▸ hu.sup, e ▸ hu.ret, e ▸ hu.flow, e ▸ hu.inlet, e ▸ hu.outlet⟩

theorem Heating.holdCause_none {h : Heating} {net sup ret flow inlet outlet : Int} (hu : h.Usable net sup ret flow inlet outlet)
    (hn : ¬ h.NoTarget) : h.holdCause = none := by
  have usable : firstUnusable h.views = none := by
    unfold firstUnusable
    rw [hu.sup, hu.ret, hu.net, hu.inlet, hu.outlet, hu.flow]; rfl
  unfold Heating.holdCause
  rw [usable, if_neg]
  · rfl
  · rw [Bool.and_eq_true, Option.isNone_iff_eq_none, Option.isNone_iff_eq_none]; exact hn

section
variable {s : State}

theorem settleHeating_off (h : s.heating.state = .off) : settleHeating s = s := by
  unfold settleHeating; dsimp only; rw [h]

/-- A cause of HOLD (R167). -/
theorem settleHeating_holds {r : HoldReason} (h : s.heating.state ≠ .off) (hr : s.heating.holdCause = some r) :
    settleHeating s = enterHold r s := by
  unfold settleHeating
  dsimp only
  rw [hr]
  cases e : s.heating.state
  · exact absurd e h
  · rfl
  · rfl
  · rfl

/-- The supply is too hot (R169). -/
def Heating.Hot (h : Heating) (sup : Int) : Prop :=
  (h.state ≠ .cut ∧ h.cfg.supplyMax ≤ sup) ∨ (h.state = .hold ∧ h.holdFrom = some .cut ∧ h.cfg.supplyMax - h.cfg.supplyHys ≤ sup)

/-- CUT has not cooled down yet (R169). -/
def Heating.StillCut (h : Heating) (sup : Int) : Prop := h.state = .cut ∧ h.cfg.supplyMax - h.cfg.supplyHys ≤ sup

theorem settleHeating_cuts {sup : Int} (h : s.heating.state ≠ .off) (hc : s.heating.holdCause = none) (hs : s.heating.supplyNow = sup)
    (hot : s.heating.Hot sup) : settleHeating s = enterCut s := by
  unfold settleHeating
  dsimp only
  rw [hc, hs]
  cases e : s.heating.state
  · exact absurd e h
  · exact if_pos (hot.elim And.right fun k => nomatch e.symm.trans k.1)
  · exact absurd hot (by rintro (k | k) <;> [exact k.1 e; exact nomatch e.symm.trans k.1])
  · exact if_pos (hot.imp And.right And.right)

theorem settleHeating_staysCut {sup : Int} (hc : s.heating.holdCause = none) (hs : s.heating.supplyNow = sup)
    (cut : s.heating.StillCut sup) : settleHeating s = s := by
  unfold settleHeating
  dsimp only
  rw [hc, hs, cut.1]
  exact if_neg (not_lt.mpr cut.2)

theorem settleHeating_active {sup : Int} (h : s.heating.state ≠ .off) (hc : s.heating.holdCause = none) (hs : s.heating.supplyNow = sup)
    (hot : ¬ s.heating.Hot sup) (cut : ¬ s.heating.StillCut sup) :
    settleHeating s = if s.heating.state = .active then s else enterActive s := by
  unfold settleHeating
  dsimp only
  rw [hc, hs]
  cases e : s.heating.state
  · exact absurd e h
  · exact if_neg fun k => hot (.inl ⟨by rw [e]; nofun, k⟩)
  · exact if_pos (by by_contra k; exact cut ⟨e, not_lt.mp k⟩)
  · exact if_neg fun k => hot (k.imp (fun k => ⟨by rw [e]; nofun, k⟩) fun k => ⟨e, k⟩)

end

/-! ### The target (R163) -/

theorem Heating.formTarget_eq (h : Heating) : h.formTarget = { h with target := h.formTarget.target, targetHeld := h.formTarget.targetHeld } := by
  unfold Heating.formTarget
  split <;> rfl

theorem Heating.formTarget_congr {h k : Heating} (hv : h.views = k.views) (hc : h.curve = k.curve) (ht : h.target = k.target) :
    h.formTarget.target = k.formTarget.target ∧ h.formTarget.targetHeld = k.formTarget.targetHeld := by
  unfold Heating.formTarget
  rw [hv, hc, ht]
  cases viewValue k.views.outdoor <;> exact ⟨rfl, rfl⟩

/-! ### The allocation and the loops (R170 to R175) -/

section
variable {h : Heating} {target net sup ret flow inlet outlet : Int}

theorem needed_of {v : Option PointView} {x : Int} (h : viewValue v = some x) : needed v = x := by unfold needed; rw [h]; rfl

/-- The allocation in terms of what was read. -/
theorem Heating.shares (hu : h.Usable net sup ret flow inlet outlet) (ht : h.target = some target) :
    h.required = heatOf net (target - ret) ∧ h.capacity = heatOf flow (inlet - h.floorView.value) := by
  unfold Heating.required Heating.capacity
  rw [needed_of hu.net, needed_of hu.ret, needed_of hu.flow, needed_of hu.inlet, ht]
  exact ⟨rfl, rfl⟩

/-- What the unit records of an allocation (R172, R178). -/
theorem Heating.account_eq {required capacity grant : Int} (hr : h.required = required) (hc : h.capacity = capacity) :
    let shortfall := required - min required capacity - grant
    let count := if 0 < shortfall then satSucc 3600 h.shortCount else 0
    h.account grant = { h with
      requiredHeat := some required, brineCapacity := some capacity, brineShare := some (min required capacity),
      extractionShare := some grant, shortfall := some shortfall, shortCount := count,
      supplyShort := decide (0 < shortfall) && (h.supplyShort || decide (h.cfg.shortConfirm ≤ count)) } := by
  intro shortfall count
  unfold Heating.account Heating.share
  rw [hr, hc]
  refine congrArg (fun b => ({ h with
      requiredHeat := some required, brineCapacity := some capacity, brineShare := some (min required capacity),
      extractionShare := some grant, shortfall := some shortfall, shortCount := count, supplyShort := b } : Heating)) ?_
  by_cases hp : 0 < shortfall
  · rw [decide_eq_true hp, Bool.true_and]; exact if_pos hp
  · rw [decide_eq_false hp, Bool.false_and]; exact if_neg hp

/-- The two loops at a start (R173). -/
def Heating.supplyStarted (h : Heating) (target sup opening : Int) : Loop :=
  h.supplyLoop.start target sup (target - sup) h.cfg.supplyKp h.cfg.supplyKi opening

def Heating.floorStarted (h : Heating) (outlet opening : Int) : Loop :=
  h.floorLoop.start h.floorView.value outlet (outlet - h.floorView.value) h.cfg.floorKp h.cfg.floorKi opening

/-- The supply loop is the lower (R174). -/
abbrev Heating.SupplyFirst (h : Heating) (target sup outlet : Int) : Prop :=
  clamp 0 10000 (Int.tdiv ((target - sup) * h.cfg.supplyKp) 1000 + h.supplyLoop.integral) <
    clamp 0 10000 (Int.tdiv ((outlet - h.floorView.value) * h.cfg.floorKp) 1000 + h.floorLoop.integral)

/-- The loops' part of ACTIVE work (R173 to R175). -/
theorem Heating.control_cases (hu : h.Usable net sup ret flow inlet outlet) (ht : h.target = some target) (opening : Int) (failing : Bool) :
    let floor := h.floorView.value; let c := h.cfg
    let supplyFree := h.supplyLoop.run target sup (target - sup) c.supplyKp c.supplyKi
    let floorFree := h.floorLoop.run floor outlet (outlet - floor) c.floorKp c.floorKi
    let supplyHeld := h.supplyLoop.runHeld target sup (target - sup) c.supplyKp c.supplyKi
    let floorHeld := h.floorLoop.runHeld floor outlet (outlet - floor) c.floorKp c.floorKi
    let ends (l m : Loop) (selected : Option Selected) : Heating :=
      { h with loopsPending := false, supplyLoop := l, floorLoop := m, selected := selected }
    (h.loopsPending = true → h.control opening failing = ends (h.supplyStarted target sup opening) (h.floorStarted outlet opening)
      (some (if (h.supplyStarted target sup opening).output < (h.floorStarted outlet opening).output then .supply else .floor))) ∧
    (h.loopsPending = false → failing = true → h.control opening failing = ends supplyHeld floorHeld none) ∧
    (h.loopsPending = false → failing = false → h.SupplyFirst target sup outlet →
      h.control opening failing = ends supplyFree floorHeld (some .supply)) ∧
    (h.loopsPending = false → failing = false → ¬ h.SupplyFirst target sup outlet →
      h.control opening failing = ends supplyHeld floorFree (some .floor)) := by
  have supplyError : h.supplyError = target - sup := by unfold Heating.supplyError; rw [ht, needed_of hu.sup]; rfl
  have floorError : h.floorError = outlet - h.floorView.value := by unfold Heating.floorError; rw [needed_of hu.outlet]
  have goal : h.target.getD 0 = target := by rw [ht]; rfl
  have select : h.select = if h.SupplyFirst target sup outlet then .supply else .floor := by
    unfold Heating.select provisional
    rw [supplyError, floorError]; rfl
  intro floor c supplyFree floorFree supplyHeld floorHeld ends
  unfold Heating.control
  refine ⟨fun hp => ?_, fun hp hf => ?_, fun hp hf hs => ?_, fun hp hf hs => ?_⟩
  · rw [if_pos hp]
    unfold Heating.startLoops
    rw [supplyError, floorError, goal, needed_of hu.sup, needed_of hu.outlet]; rfl
  all_goals
    rw [if_neg (by rw [hp]; nofun), hf]
  · rw [if_pos rfl]
    unfold Heating.runHeldLoops
    rw [supplyError, floorError, goal, needed_of hu.sup, needed_of hu.outlet, hp]
  · rw [if_neg Bool.false_ne_true]
    unfold Heating.runLoops
    dsimp only
    rw [select, if_pos hs, supplyError, floorError, goal, needed_of hu.sup, needed_of hu.outlet, hp]
  · rw [if_neg Bool.false_ne_true]
    unfold Heating.runLoops
    dsimp only
    rw [select, if_neg hs, supplyError, floorError, goal, needed_of hu.sup, needed_of hu.outlet, hp]

end

/-! ### What each work leaves -/

/-- The state in which CUT begins, before its record is written. -/
def State.cutting (s : State) : State := writeRequest 0 (writeOpening 0 s)

theorem cutting_turbine (s : State) : s.cutting.turbine =
    ({ s.turbine with grant := { s.turbine.grant with request := 0 } } : Turbine).settleGrant := writeRequest_turbine 0 _

theorem cutting_heating (s : State) : s.cutting.heating = s.heating :=
  Eq.trans (writeRequest_only 0 _ .heating (by decide)) (writeDrive_only _ _ s .heating (by decide))

theorem cutting_drives (d : Fin 15) (s : State) : s.cutting.drives[d] =
    if d = bypassDrive then s.drives[d].write 10000
    else if d = extractionDrive ∧ s.turbine.state.energised = true then s.drives[d].write s.cutting.turbine.grant.valveDemand
    else s.drives[d] := by
  refine (writeRequest_drive 0 d (writeOpening 0 s)).trans ?_
  rw [writeOpening_drive, writeOpening_drive]
  by_cases hb : d = bypassDrive
  · rw [if_neg (fun k => absurd (hb.symm.trans k.1) (by decide)), if_pos hb, if_pos hb]; rfl
  · rw [if_neg hb, if_neg hb]
    by_cases he : d = extractionDrive ∧ s.turbine.state.energised = true
    · rw [if_pos he, if_pos (show d = extractionDrive ∧ (writeOpening 0 s).turbine.state.energised = true from he),
        if_neg (show ¬ extractionDrive = bypassDrive by decide), he.1]; rfl
    · rw [if_neg he, if_neg (show ¬ (d = extractionDrive ∧ (writeOpening 0 s).turbine.state.energised = true) from he)]

/-- Entry to CUT in a period, its target formed (R163, R169). -/
theorem heatingWork_enterCut (s : State) : heatingWork (enterCut s) = s.cutting.modHeating (fun h => Heating.formTarget { h with
    state := .cut, holdFrom := none, holdReason := none, extractionShare := some s.cutting.turbine.grant.grant, shortfall := some 0,
    shortCount := 0, supplyShort := false }) := rfl

section
variable {s : State}

/-- The record ACTIVE work leaves, the target formed. -/
def State.controlled (s : State) : Heating :=
  (s.heating.account (writeRequest s.heating.requestNow s).turbine.grant.grant).control (10000 - s.drives[bypassDrive].value)
    (decide (s.drives[bypassDrive].delivery = .failing))

theorem runBypass_heating (s : State) : (runBypass s).heating =
    s.heating.control (10000 - s.drives[bypassDrive].value) (decide (s.drives[bypassDrive].delivery = .failing)) := rfl

theorem runBypass_drives (d : Fin 15) (s : State) : (runBypass s).drives[d] =
    if d = bypassDrive then s.drives[d].write (10000 - (runBypass s).heating.opening) else s.drives[d] := by
  have e : runBypass s = writeOpening (runBypass s).heating.opening
      (s.modHeating (Heating.control (openingOf s) (decide (s.drives[bypassDrive].delivery = .failing)))) := rfl
  rw [show (runBypass s).drives[d] = _ from congrArg (fun u : State => u.drives[d]) e, writeOpening_drive]; rfl

theorem allocate_heating (s : State) : (allocate s).heating =
    s.heating.account (writeRequest s.heating.requestNow s).turbine.grant.grant := by
  have heating : (writeRequest s.heating.requestNow s).heating = s.heating := writeRequest_only _ s .heating (by decide)
  unfold allocate
  dsimp only
  rw [State.modHeating_heating, heating]

theorem allocate_drives (s : State) : (allocate s).drives = (writeRequest s.heating.requestNow s).drives := rfl

theorem writeRequest_bypassDrive (v : Int) (s : State) : (writeRequest v s).drives[bypassDrive] = s.drives[bypassDrive] := by
  rw [writeRequest_drive, if_neg (fun k => absurd k.1 (by decide))]

/-- ACTIVE work once the target is formed: the record it leaves, and the bypass (R170 to R175). -/
theorem runBypass_allocate (s : State) :
    (runBypass (allocate s)).heating = s.controlled ∧
    (runBypass (allocate s)).turbine = (writeRequest s.heating.requestNow s).turbine ∧
    ∀ d : Fin 15, (runBypass (allocate s)).drives[d] =
      if d = bypassDrive then s.drives[d].write (10000 - s.controlled.opening) else (writeRequest s.heating.requestNow s).drives[d] := by
  have heating : (runBypass (allocate s)).heating = s.controlled := by
    unfold State.controlled
    rw [runBypass_heating, allocate_heating, allocate_drives, ← writeRequest_bypassDrive s.heating.requestNow s]
  refine ⟨heating, rfl, fun d => ?_⟩
  rw [runBypass_drives, heating, allocate_drives]
  split
  · rename_i hd; subst hd; exact congrArg (Drive.write _) (writeRequest_bypassDrive _ s)
  · rfl

end

/-- The record a period of ACTIVE work begins with: both loops are to be started where the state was another (R168, R169). -/
def State.activeHeating (s : State) : Heating := { s.measuredHeating with
  state := .active, holdFrom := if s.heating.state = .active then s.heating.holdFrom else none,
  holdReason := if s.heating.state = .active then s.heating.holdReason else none,
  loopsPending := s.heating.loopsPending || decide (s.heating.state ≠ .active) }

/-- A period that settles in ACTIVE is the allocation and the bypass of a state with the target formed. -/
theorem heatingWork_active {s : State} {sup target : Int} (h : s.heating.state ≠ .off) (hc : s.heatingMeasured.heating.holdCause = none)
    (hs : s.heatingMeasured.heating.supplyNow = sup) (hot : ¬ s.heatingMeasured.heating.Hot sup)
    (cut : ¬ s.heatingMeasured.heating.StillCut sup) (ht : s.measuredHeating.formTarget.target = some target) :
    ∃ x : State, heatingWork (settleHeating s.heatingMeasured) = runBypass (allocate x) ∧
      x.heating = { s.activeHeating with target := some target, targetHeld := s.measuredHeating.formTarget.targetHeld } ∧
      x.turbine = s.turbine ∧ x.drives = s.drives := by
  have formed : s.activeHeating.formTarget =
      { s.activeHeating with target := some target, targetHeld := s.measuredHeating.formTarget.targetHeld } := by
    obtain ⟨target, held⟩ := Heating.formTarget_congr (h := s.activeHeating) (k := s.measuredHeating) rfl rfl rfl
    rw [Heating.formTarget_eq, target, held, ht]
  rw [settleHeating_active (s := s.heatingMeasured) h hc hs hot cut]
  by_cases e : s.heating.state = .active
  · have same : s.activeHeating = s.measuredHeating := by
      unfold State.activeHeating
      rw [if_pos e, if_pos e, decide_eq_false (not_not.mpr e), Bool.or_false, ← e]; rfl
    rw [if_pos (show s.heatingMeasured.heating.state = .active from e)]
    refine ⟨s.heatingMeasured.modHeating Heating.formTarget, ?_, ?_, rfl, rfl⟩
    · unfold heatingWork
      rw [show s.heatingMeasured.heating.state = .active from e]
    · rw [← formed, same]; rfl
  · have same : s.activeHeating = (enterActive s.heatingMeasured).heating := by
      unfold State.activeHeating
      rw [if_neg e, if_neg e, decide_eq_true e, Bool.or_true]; rfl
    rw [if_neg (show ¬ s.heatingMeasured.heating.state = .active from e)]
    refine ⟨(enterActive s.heatingMeasured).modHeating Heating.formTarget, rfl, ?_, rfl, rfl⟩
    rw [← formed, same]; rfl

end Sys2Proof.Machine

open Sys2Proof Sys2Proof.Machine

/-- Settles O44: the inputs settle the state, and each state's work follows. -/
theorem heatExchangePeriod : Obligations.HeatExchangePeriod := by
  intro s hs hm
  refine ⟨fun h => idles_of hs (fun _ => rfl) (hxPeriodExpiry_idle h), fun h => ?_⟩
  refine happens_of hs (fun _ => rfl) (hxPeriodExpiry_only s) fun t ht _ => ?_
  rw [hxPeriodExpiry_running h] at ht
  have rests {u : State} {w : Heating} (e : heatingWork (settleHeating s.heatingMeasured) = u) (hu : Only [.heating] s u) (hw : u.heating = w) :
      t.heating = w ∧ t.turbine = s.turbine ∧ t.drives = s.drives := by
    rw [e] at ht
    exact ⟨Eq.trans (ht .heating (by decide)) hw, Eq.trans (ht .turbine (by decide)) (hu .turbine (by decide)),
      Eq.trans (ht .drives (by decide)) (hu .drives (by decide))⟩
  have holds {r : HoldReason} (hst : s.heating.state ≠ .off) (hr : s.measuredHeating.holdCause = some r) :
      heatingWork (settleHeating s.heatingMeasured) = enterHold r s.heatingMeasured := by
    rw [settleHeating_holds (s := s.heatingMeasured) hst hr]; rfl
  have only : Only [.heating] s s.heatingMeasured := s.modHeating_only _
  refine ⟨fun hst => rests (by rw [settleHeating_off (s := s.heatingMeasured) hst]; unfold heatingWork; rw [show s.heatingMeasured.heating.state = .off from hst]) only rfl,
    fun hst => ⟨fun e he => rests (holds hst (Heating.holdCause_unusable he)) (only.trans (State.modHeating_only _ _)) rfl,
      fun he hn => rests (holds hst (Heating.holdCause_noTarget he hn)) (only.trans (State.modHeating_only _ _)) rfl, ?_⟩⟩
  intro hn net hnet sup hsup ret hret flow hflow inlet hinlet outlet houtlet hot stillCut
  have usable : s.measuredHeating.Usable net sup ret flow inlet outlet := ⟨hnet, hsup, hret, hflow, hinlet, houtlet⟩
  have cause : s.heatingMeasured.heating.holdCause = none := Heating.holdCause_none usable hn
  have supply : s.heatingMeasured.heating.supplyNow = sup := by
    show (viewValue s.measuredHeating.views.supply).getD 0 = sup
    rw [usable.sup]; rfl
  refine ⟨fun hh => ?_, fun hc => rests ?_ (only.trans (State.modHeating_only _ Heating.formTarget)) rfl, fun hh hc target htarget => ?_⟩
  · rw [settleHeating_cuts (s := s.heatingMeasured) hst cause supply hh, heatingWork_enterCut] at ht
    have turbine : t.turbine = _ := Eq.trans (ht .turbine (by decide)) (cutting_turbine s.heatingMeasured)
    have drives : t.drives = _ := ht .drives (by decide)
    have heating : t.heating = _ := ht .heating (by decide)
    have grant : t.turbine.grant.grant = 0 := by
      rw [turbine]
      exact congrArg (fun g : Turbine => g.grant.grant) (Turbine.settleGrant_unrequested s.turbine hm)
    have drive (d : Fin 15) := cutting_drives d s.heatingMeasured
    refine ⟨⟨turbine, fun d hd => ?_⟩, grant, ?_, ?_⟩
    · rw [drives, turbine, ← cutting_turbine]
      exact (drive d).trans (if_neg hd)
    · rw [drives]
      exact drive bypassDrive
    · rw [turbine, ← cutting_turbine] at grant
      rw [heating, State.modHeating_heating, cutting_heating, grant]; rfl
  · rw [settleHeating_staysCut (s := s.heatingMeasured) cause supply hc]
    unfold heatingWork
    rw [show s.heatingMeasured.heating.state = .cut from hc.1]
  · obtain ⟨x, e, xheating, xturbine, xdrives⟩ := heatingWork_active (s := s) hst cause supply hh hc (target := target) htarget
    rw [e] at ht
    obtain ⟨heating, turbine, drive⟩ := runBypass_allocate x
    have theating : t.heating = x.controlled := Eq.trans (ht .heating (by decide)) heating
    have tturbine : t.turbine = _ := Eq.trans (ht .turbine (by decide)) turbine
    have tdrives : t.drives = _ := ht .drives (by decide)
    have formed := s.measuredHeating.formTarget_eq
    rw [show s.measuredHeating.formTarget.target = some target from htarget] at formed
    intro floor opening required capacity share grant shortfall count supplyP floorP starting supplyFirst supplyStarted floorStarted
      supplyFree floorFree supplyHeld floorHeld Ends
    have usable : x.heating.Usable net sup ret flow inlet outlet := by rw [xheating]; exact ⟨hnet, hsup, hret, hflow, hinlet, houtlet⟩
    have goal : x.heating.target = some target := by rw [xheating]
    obtain ⟨hrequired, hcapacity⟩ := Heating.shares usable goal
    have hrequired : x.heating.required = required := hrequired
    have hcapacity : x.heating.capacity = capacity := by rw [hcapacity, xheating]; rfl
    have request : x.heating.requestNow = clamp 0 100000 (required - share) := by
      unfold Heating.requestNow Heating.share
      rw [hrequired, hcapacity]
    have granted : (writeRequest x.heating.requestNow x).turbine.grant.grant = grant := by rw [← tturbine]
    obtain ⟨w, hw⟩ : ∃ w : Heating, w = { s.activeHeating with
        target := some target, targetHeld := s.measuredHeating.formTarget.targetHeld, requiredHeat := some required,
        brineCapacity := some capacity, brineShare := some share, extractionShare := some grant, shortfall := some shortfall,
        shortCount := count,
        supplyShort := decide (0 < shortfall) && (s.heating.supplyShort || decide (s.heating.cfg.shortConfirm ≤ count)) } := ⟨_, rfl⟩
    have accounted : x.heating.account grant = w := by
      rw [Heating.account_eq hrequired hcapacity, hw, xheating]; rfl
    have controlled : x.controlled = w.control opening (decide (s.drives[bypassDrive].delivery = .failing)) := by
      unfold State.controlled
      rw [granted, xdrives, accounted]
    have ends {l m : Loop} {selected : Option Selected} (e : w.control opening (decide (s.drives[bypassDrive].delivery = .failing)) =
        { w with loopsPending := false, supplyLoop := l, floorLoop := m, selected := selected }) : Ends l m selected := by
      refine ⟨?_, ?_⟩
      · refine Eq.trans ?_ (congrArg (fun f : Heating => ({ f with
          state := .active, holdFrom := if s.heating.state = .active then s.heating.holdFrom else none,
          holdReason := if s.heating.state = .active then s.heating.holdReason else none, loopsPending := false,
          requiredHeat := some required, brineCapacity := some capacity, brineShare := some share, extractionShare := some grant,
          shortfall := some shortfall, shortCount := count,
          supplyShort := decide (0 < shortfall) && (s.heating.supplyShort || decide (s.heating.cfg.shortConfirm ≤ count)),
          supplyLoop := l, floorLoop := m, selected := selected } : Heating)) formed).symm
        rw [theating, controlled, e, hw]; rfl
      · rw [tdrives, drive, if_pos rfl, controlled, e, xdrives]; rfl
    obtain ⟨started, held, supplyLower, floorLower⟩ := Heating.control_cases (h := w) (target := target)
      (usable.congr (by rw [hw, xheating])) (by rw [hw]) opening (decide (s.drives[bypassDrive].delivery = .failing))
    have pending : w.loopsPending = starting := by rw [hw]; rfl
    have first : w.SupplyFirst target sup outlet ↔ supplyFirst := by rw [hw]; exact Iff.rfl
    rw [pending] at started held supplyLower floorLower
    rw [first] at supplyLower floorLower
    refine ⟨⟨?_, fun d hd => ?_⟩, fun h => ends ((started h).trans (by rw [hw]; rfl)),
      fun h hf => ends ((held h (decide_eq_true hf)).trans (by rw [hw]; rfl)),
      fun h hf hp => ends ((supplyLower h (decide_eq_false hf) hp).trans (by rw [hw]; rfl)),
      fun h hf hp => ends ((floorLower h (decide_eq_false hf) hp).trans (by rw [hw]; rfl))⟩
    · rw [tturbine, writeRequest_turbine, request, xturbine]
    · rw [tdrives, drive, if_neg hd, writeRequest_drive, tturbine, xturbine, xdrives]
      by_cases he : d = extractionDrive ∧ s.turbine.state.energised = true
      · rw [if_pos he, if_pos he, he.1]
      · rw [if_neg he, if_neg he]
end

section
/-! PROOFS. The requests of the scaling sites (R71, R86, R94). -/

namespace Sys2Proof.Machine

-- One after the other: see Laws/Frames.lean.
set_option Elab.async false

/-! ### The fields of ConfigureSite -/

theorem SiteKind.choice_eq {n : Nat} {k : SiteKind} : choice SiteKind.choices n = some k ↔ k.code = n := by
  match n with
  | 0 => cases k <;> decide
  | 1 => cases k <;> decide
  | 2 => cases k <;> decide
  | n + 3 =>
    refine ⟨nofun, fun h => ?_⟩
    cases k <;> simp only [SiteKind.code] at h <;> omega

theorem SiteKind.exists_choice {n : Nat} : (∃ k, choice SiteKind.choices n = some k) ↔ n ≤ 2 := by
  refine ⟨fun ⟨k, h⟩ => ?_, fun h => choice_of_lt (Nat.lt_succ_of_le h)⟩
  rw [← SiteKind.choice_eq.mp h]
  cases k <;> decide

theorem concSourceOf_eq_some {kind point : Nat} {c : ConcSource} : concSourceOf kind point = some c ↔ c.bytes = (kind, point) := by
  unfold concSourceOf
  split
  · cases c <;> simp [ConcSource.bytes, eq_comm]
  · cases c with
    | fixed => simp [ConcSource.bytes]
    | point p => simp only [ConcSource.bytes, Option.map_eq_some_iff, ident_some]; simp [eq_comm]
  · rename_i h0 h1
    cases c <;> simp [ConcSource.bytes] <;> intro h <;> [exact absurd h.symm h0; exact absurd h.symm h1]

theorem exists_concSource {kind point : Nat} :
    (∃ c, concSourceOf kind point = some c) ↔ (kind = 0 ∧ point = 0) ∨ (kind = 1 ∧ point ≤ 95) := by
  simp only [concSourceOf_eq_some]
  refine ⟨?_, ?_⟩
  · rintro ⟨c, h⟩
    cases c with
    | fixed => cases h; exact .inl ⟨rfl, rfl⟩
    | point p => cases h; exact .inr ⟨rfl, Nat.le_of_lt_succ p.isLt⟩
  · rintro (⟨rfl, rfl⟩ | ⟨rfl, h⟩)
    · exact ⟨.fixed, rfl⟩
    · exact ⟨.point ⟨point, Nat.lt_succ_of_le h⟩, rfl⟩

theorem actionOf_eq_some {kind well : Nat} {a : SiteAction} : actionOf kind well = some a ↔ a.bytes = (kind, well) := by
  unfold actionOf
  split
  · cases a <;> simp [SiteAction.bytes, eq_comm]
  · cases a <;> simp [SiteAction.bytes, eq_comm]
  · cases a with
    | none => simp [SiteAction.bytes]
    | brineFloor => simp [SiteAction.bytes]
    | wellFloor k => simp only [SiteAction.bytes, Option.map_eq_some_iff, ident_some]; simp [eq_comm]
  · rename_i h0 h1 h2
    cases a <;> simp [SiteAction.bytes] <;> intro h <;> [exact absurd h.symm h0; exact absurd h.symm h1; exact absurd h.symm h2]

theorem exists_action {kind well : Nat} :
    (∃ a, actionOf kind well = some a) ↔ (kind ≤ 1 ∧ well = 0) ∨ (kind = 2 ∧ well ≤ 7) := by
  simp only [actionOf_eq_some]
  refine ⟨?_, ?_⟩
  · rintro ⟨a, h⟩
    cases a with
    | none => cases h; exact .inl ⟨by decide, rfl⟩
    | brineFloor => cases h; exact .inl ⟨by decide, rfl⟩
    | wellFloor k => cases h; exact .inr ⟨rfl, Nat.le_of_lt_succ k.isLt⟩
  · rintro (⟨h, rfl⟩ | ⟨rfl, h⟩)
    · interval_cases kind
      · exact ⟨.none, rfl⟩
      · exact ⟨.brineFloor, rfl⟩
    · exact ⟨.wellFloor ⟨well, Nat.lt_succ_of_le h⟩, rfl⟩

theorem exists_optIdent_of {n : Nat} (hn : 0 < n) {v : Option Nat} : (∃ i, optIdent n v = some i) ↔ ∀ p, v = some p → p ≤ n - 1 := by
  cases v with
  | none => exact ⟨fun _ => nofun, fun _ => ⟨none, rfl⟩⟩
  | some v =>
    simp only [optIdent, Option.map_eq_some_iff, Option.some.injEq]
    refine ⟨fun ⟨_, i, h, _⟩ p hp => ?_, fun h => ?_⟩
    · have := ident_some.mp h
      omega
    · obtain ⟨i, hi⟩ := exists_ident.mpr (show v < n by have := h v rfl; omega)
      exact ⟨_, i, hi, rfl⟩

theorem marginOk_iff (k : SiteKind) (m : Int) :
    marginOk k m = true ↔ (k.code = 1 → 0 ≤ m ∧ m ≤ 5000) ∧ (k.code = 2 → 0 ≤ m ∧ m ≤ 1000) := by
  cases k <;> simp [marginOk, SiteKind.code, within_iff]

theorem fallbackOk_iff (k : SiteKind) (v : Int) : fallbackOk k v = true ↔
    (k.code = 1 → ValueClass.temp.lo ≤ v ∧ v ≤ ValueClass.temp.hi) ∧ (k.code = 2 → ValueClass.pres.lo ≤ v ∧ v ≤ ValueClass.pres.hi) := by
  cases k <;> simp [fallbackOk, SiteKind.code, ValueClass.has_iff]

theorem actionOk_iff (k : SiteKind) (a : SiteAction) :
    actionOk k a = true ↔ ¬ (a.bytes.1 = 1 ∧ k.code = 2) ∧ ¬ (a.bytes.1 = 2 ∧ k.code = 1) := by
  cases k <;> cases a <;> simp [actionOk, SiteKind.code, SiteAction.bytes]

/-- The choices and identifiers of R71. -/
def SiteFields.Choices (q : SiteFields) : Prop :=
  (q.site ≤ 11 ∧ q.kind ≤ 2) ∧ (∀ p ∈ [q.tempPoint, q.presPoint], ∀ n, p = some n → n ≤ 95) ∧
  ((q.concKind = 0 ∧ q.concPoint = 0) ∨ (q.concKind = 1 ∧ q.concPoint ≤ 95)) ∧
  ((q.actionKind ≤ 1 ∧ q.actionWell = 0) ∨ (q.actionKind = 2 ∧ q.actionWell ≤ 7)) ∧ (∀ n, q.station = some n → n ≤ 3)

/-- The numbers of R71, and the action's kind of site. -/
def SiteFields.Numbers (q : SiteFields) : Prop :=
  ¬ (q.actionKind = 1 ∧ q.kind = 2) ∧ ¬ (q.actionKind = 2 ∧ q.kind = 1) ∧
  (ValueClass.conc.lo ≤ q.fixedConc ∧ q.fixedConc ≤ ValueClass.conc.hi) ∧ (800 ≤ q.onset ∧ q.onset ≤ 3000) ∧
  (q.kind = 1 → (∀ m ∈ [q.margin, q.alarmMargin, q.inhibitorLostMargin], 0 ≤ m ∧ m ≤ 5000) ∧
    ValueClass.temp.lo ≤ q.fallbackFloor ∧ q.fallbackFloor ≤ ValueClass.temp.hi) ∧
  (q.kind = 2 → (∀ m ∈ [q.margin, q.alarmMargin, q.inhibitorLostMargin], 0 ≤ m ∧ m ≤ 1000) ∧
    ValueClass.pres.lo ≤ q.fallbackFloor ∧ q.fallbackFloor ≤ ValueClass.pres.hi) ∧
  (0 ≤ q.doseBase ∧ q.doseBase ≤ 10000) ∧ q.doseGain ≤ 10000 ∧ (1 ≤ q.alertDose ∧ q.alertDose ≤ 36000000) ∧
  q.clearDose < q.alertDose ∧ (60 ≤ q.confirmTime ∧ q.confirmTime ≤ 3600) ∧ (1 ≤ q.serviceDose ∧ q.serviceDose ≤ 4294967295) ∧
  (ValueClass.pres.lo ≤ q.flashBase ∧ q.flashBase ≤ ValueClass.pres.hi) ∧
  (ValueClass.temp.lo ≤ q.flashTemp ∧ q.flashTemp ≤ ValueClass.temp.hi) ∧ -10000 ≤ q.slope ∧ q.slope ≤ 10000

theorem SiteFields.numbers_iff {q : SiteFields} {kind : SiteKind} {action : SiteAction} (hk : kind.code = q.kind)
    (ha : action.bytes = (q.actionKind, q.actionWell)) :
    (ValueClass.conc.has q.fixedConc && withinNat 800 3000 q.onset && actionOk kind action &&
      marginOk kind q.margin && marginOk kind q.alarmMargin && marginOk kind q.inhibitorLostMargin &&
      fallbackOk kind q.fallbackFloor && ValueClass.frac.has q.doseBase && withinNat 0 10000 q.doseGain &&
      withinNat 1 36000000 q.alertDose && decide (q.clearDose < q.alertDose) && withinNat 60 3600 q.confirmTime &&
      withinNat 1 4294967295 q.serviceDose && ValueClass.pres.has q.flashBase && ValueClass.temp.has q.flashTemp &&
      within (-10000) 10000 q.slope) = true ↔ SiteFields.Numbers q := by
  simp only [SiteFields.Numbers, Bool.and_eq_true, ValueClass.has_iff, within_iff, withinNat_iff, marginOk_iff, fallbackOk_iff,
    actionOk_iff, hk, ha, decide_eq_true_eq, List.forall_mem_cons, List.not_mem_nil, false_imp_iff, implies_true, and_true,
    ValueClass.lo, ValueClass.hi]
  constructor <;> intro h <;> refine ⟨?_, ?_, ?_⟩ <;> grind

/-- The ranges of R71. -/
def SiteFields.InRange (q : SiteFields) : Prop := SiteFields.Choices q ∧ SiteFields.Numbers q

theorem SiteFields.choices_iff (q : SiteFields) : SiteFields.Choices q ↔
    (∃ i, ident 12 q.site = some i) ∧ (∃ k, choice SiteKind.choices q.kind = some k) ∧ (∃ p, optIdent 96 q.tempPoint = some p) ∧
      (∃ c, concSourceOf q.concKind q.concPoint = some c) ∧ (∃ p, optIdent 96 q.presPoint = some p) ∧
      (∃ a, actionOf q.actionKind q.actionWell = some a) ∧ ∃ j, optIdent 4 q.station = some j := by
  simp only [SiteFields.Choices, exists_ident, SiteKind.exists_choice, exists_concSource, exists_action, exists_optIdent_of (n := 96) (by decide),
    exists_optIdent_of (n := 4) (by decide), List.forall_mem_cons, List.not_mem_nil, false_imp_iff, implies_true, and_true]
  rw [Nat.lt_succ_iff]
  exact ⟨fun ⟨⟨h1, h2⟩, ⟨h3, h5⟩, h4, h6, h7⟩ => ⟨h1, h2, h3, h4, h5, h6, h7⟩, fun ⟨h1, h2, h3, h4, h5, h6, h7⟩ => ⟨⟨h1, h2⟩, ⟨h3, h5⟩, h4, h6, h7⟩⟩

theorem SiteFields.check_some {q : SiteFields} {i : Fin 12} {new : SiteConfig} (h : SiteFields.check q = some (i, new)) :
    SiteFields.InRange q ∧ i.val = q.site ∧ new.fields = { q with site := 0 } := by
  simp only [SiteFields.check, bind, Option.bind_eq_some_iff, require_eq_some, Option.some.injEq, Prod.mk.injEq] at h
  obtain ⟨site, h1, kind, h2, temp, h3, conc, h4, pres, h5, action, h6, station, h7, -, numbers, rfl, rfl⟩ := h
  have hk := SiteKind.choice_eq.mp h2
  have ha := actionOf_eq_some.mp h6
  refine ⟨⟨(SiteFields.choices_iff q).mpr ⟨⟨_, h1⟩, ⟨_, h2⟩, ⟨_, h3⟩, ⟨_, h4⟩, ⟨_, h5⟩, ⟨_, h6⟩, _, h7⟩,
    (SiteFields.numbers_iff hk ha).mp numbers⟩, (ident_some.mp h1).symm, ?_⟩
  simp only [SiteConfig.fields, hk, ha, concSourceOf_eq_some.mp h4, optIdent_eq_some.mp h3, optIdent_eq_some.mp h5, optIdent_eq_some.mp h7]

theorem SiteFields.check_none_iff (q : SiteFields) : SiteFields.check q = none ↔ ¬ SiteFields.InRange q := by
  refine ⟨fun h ⟨choices, numbers⟩ => ?_, fun h => ?_⟩
  · obtain ⟨⟨site, h1⟩, ⟨kind, h2⟩, ⟨temp, h3⟩, ⟨conc, h4⟩, ⟨pres, h5⟩, ⟨action, h6⟩, station, h7⟩ := (SiteFields.choices_iff q).mp choices
    have numbers := (SiteFields.numbers_iff (SiteKind.choice_eq.mp h2) (actionOf_eq_some.mp h6)).mpr numbers
    have found : ∃ x, SiteFields.check q = some x := by
      simp only [SiteFields.check, bind, Option.bind_eq_some_iff, require_eq_some]
      exact ⟨_, site, h1, kind, h2, temp, h3, conc, h4, pres, h5, action, h6, station, h7, (), numbers, rfl⟩
    obtain ⟨x, hx⟩ := found
    exact absurd (h.symm.trans hx) nofun
  · cases hc : SiteFields.check q with
    | none => rfl
    | some x => exact absurd (SiteFields.check_some hc).1 h

theorem SiteFields.inRange_iff (q : SiteFields) : SiteFields.InRange q ↔
    (q.site ≤ 11 ∧ q.kind ≤ 2) ∧ (∀ p ∈ [q.tempPoint, q.presPoint], ∀ n, p = some n → n ≤ 95) ∧
    ((q.concKind = 0 ∧ q.concPoint = 0) ∨ (q.concKind = 1 ∧ q.concPoint ≤ 95)) ∧
    ((q.actionKind ≤ 1 ∧ q.actionWell = 0) ∨ (q.actionKind = 2 ∧ q.actionWell ≤ 7)) ∧
    ¬ (q.actionKind = 1 ∧ q.kind = 2) ∧ ¬ (q.actionKind = 2 ∧ q.kind = 1) ∧ (∀ n, q.station = some n → n ≤ 3) ∧
    (ValueClass.conc.lo ≤ q.fixedConc ∧ q.fixedConc ≤ ValueClass.conc.hi) ∧ (800 ≤ q.onset ∧ q.onset ≤ 3000) ∧
    (q.kind = 1 → (∀ m ∈ [q.margin, q.alarmMargin, q.inhibitorLostMargin], 0 ≤ m ∧ m ≤ 5000) ∧
      ValueClass.temp.lo ≤ q.fallbackFloor ∧ q.fallbackFloor ≤ ValueClass.temp.hi) ∧
    (q.kind = 2 → (∀ m ∈ [q.margin, q.alarmMargin, q.inhibitorLostMargin], 0 ≤ m ∧ m ≤ 1000) ∧
      ValueClass.pres.lo ≤ q.fallbackFloor ∧ q.fallbackFloor ≤ ValueClass.pres.hi) ∧
    (0 ≤ q.doseBase ∧ q.doseBase ≤ 10000) ∧ q.doseGain ≤ 10000 ∧ (1 ≤ q.alertDose ∧ q.alertDose ≤ 36000000) ∧
    q.clearDose < q.alertDose ∧ (60 ≤ q.confirmTime ∧ q.confirmTime ≤ 3600) ∧ (1 ≤ q.serviceDose ∧ q.serviceDose ≤ 4294967295) ∧
    (ValueClass.pres.lo ≤ q.flashBase ∧ q.flashBase ≤ ValueClass.pres.hi) ∧
    (ValueClass.temp.lo ≤ q.flashTemp ∧ q.flashTemp ≤ ValueClass.temp.hi) ∧ -10000 ≤ q.slope ∧ q.slope ≤ 10000 :=
  ⟨fun ⟨⟨h1, h2, h3, h4, h5⟩, n1, n2, rest⟩ => ⟨h1, h2, h3, h4, n1, n2, h5, rest⟩,
    fun ⟨h1, h2, h3, h4, n1, n2, h5, rest⟩ => ⟨⟨h1, h2, h3, h4, h5⟩, n1, n2, rest⟩⟩

/-! ### Storing a site (R71) -/

/-- The structural change of a site (section 4.1). -/
def SiteConfig.Structural (old new : SiteConfig) : Prop :=
  old.kind ≠ new.kind ∨ old.tempPoint ≠ new.tempPoint ∨ old.concSource ≠ new.concSource ∨ old.presPoint ≠ new.presPoint ∨
    old.action ≠ new.action ∨ old.station ≠ new.station

theorem structuralSiteChange_iff (old new : SiteConfig) : structuralSiteChange old new = true ↔ old.Structural new := by
  simp only [structuralSiteChange, SiteConfig.Structural, Bool.or_eq_true, decide_eq_true_eq, or_assoc]

theorem Site.configure_cases (new : SiteConfig) (x : Site) :
    (x.cfg.kind ≠ new.kind → x.configure new = ⟨new, false, 0, 0, false, false, .normal, none, 0, 0, [], 0, 0, none, none⟩) ∧
    (x.cfg.kind = new.kind → x.cfg.Structural new → x.configure new =
      { x with cfg := new, ratio := 0, excess := 0, level := .normal, alertAge := none, inputsLost := false, floorUnreachable := false,
               minuteDose := 0, minuteCover := 0, siteFloor := none }) ∧
    (¬ x.cfg.Structural new → x.configure new = { x with cfg := new }) := by
  unfold Site.configure
  refine ⟨fun h => if_pos h, fun h hs => ?_, fun hn => ?_⟩
  · rw [if_neg (not_not.mpr h), if_pos ((structuralSiteChange_iff _ _).mpr hs)]; rfl
  · rw [if_neg (fun h => hn (.inl h)), if_neg (fun h => hn ((structuralSiteChange_iff _ _).mp h))]

theorem modSite_site (i : Fin 12) (f : Site → Site) (s : State) : (s.modSite i f).sites[i] = f s.sites[i] := by
  rw [State.modSite_at, if_pos rfl]

theorem modSite_other {i j : Fin 12} (h : j ≠ i) (f : Site → Site) (s : State) : (s.modSite i f).sites[j] = s.sites[j] := by
  rw [State.modSite_at, if_neg (Ne.symm h)]

section
variable {q : SiteFields} {i : Fin 12} {new : SiteConfig} {s : State} (h : SiteFields.check q = some (i, new))
include h

theorem ownConfigureSite_state (hs : s.phase = .run ∧ s.sites[i].cfg.Structural new) : ownConfigureSite q s = (s, ⟨.state, []⟩) := by
  unfold ownConfigureSite
  rw [h]; dsimp only
  rw [if_pos (by rw [decide_eq_true hs.1, (structuralSiteChange_iff _ _).mpr hs.2]; rfl)]; rfl

theorem ownConfigureSite_ok (hs : ¬ (s.phase = .run ∧ s.sites[i].cfg.Structural new)) :
    ownConfigureSite q s = (s.modSite i (Site.configure new), ⟨.ok, Wire.putSiteConfig new.fields⟩) := by
  have cfg : (s.sites[i].configure new).cfg = new := by
    unfold Site.configure
    split
    · rfl
    · split <;> rfl
  unfold ownConfigureSite
  rw [h]; dsimp only
  rw [if_neg (by rw [Bool.and_eq_true, decide_eq_true_eq, structuralSiteChange_iff]; exact hs), modSite_site, cfg]; rfl

end

/-! ### SiteCommand (R86, R94) -/

/-- A site that DISABLE takes out of use (R94). -/
def Site.disabled (x : Site) : Site :=
  { x with enabled := false, level := .normal, alertAge := none, inputsLost := false, minuteDose := 0, minuteCover := 0, demand := none }

theorem siteAnswer_eq (i : Fin 12) (s : State) :
    siteAnswer i s = (s, ⟨.ok, [BitVec.ofNat 8 s.sites[i].enabled.toNat, BitVec.ofNat 8 s.sites[i].level.code]⟩) := by
  unfold siteAnswer Wire.putBool
  rw [putByte_eq, putByte_eq]; rfl

section
variable {i : Fin 12} {s : State}

theorem ownSiteEnable_refuses (h : s.sites[i].cfg.kind = .none) : ownSiteEnable i.val s = (s, ⟨.state, []⟩) := by
  unfold ownSiteEnable; rw [ident_val]; exact if_pos h

theorem ownSiteEnable_on (h : s.sites[i].cfg.kind ≠ .none) (he : s.sites[i].enabled = true) :
    ownSiteEnable i.val s = (s, ⟨.ok, [1, BitVec.ofNat 8 s.sites[i].level.code]⟩) := by
  unfold ownSiteEnable
  rw [ident_val]; dsimp only
  rw [if_neg h, if_pos he, siteAnswer_eq, he]; rfl

theorem ownSiteEnable_off (h : s.sites[i].cfg.kind ≠ .none) (he : s.sites[i].enabled = false) : ownSiteEnable i.val s =
    (s.modSite i (fun x => { x.restart with enabled := true, demand := some x.cfg.doseBase }),
      ⟨.ok, [1, BitVec.ofNat 8 SiteLevel.normal.code]⟩) := by
  unfold ownSiteEnable
  rw [ident_val]; dsimp only
  rw [if_neg h, if_neg (by rw [he]; nofun), siteAnswer_eq, modSite_site]; rfl

theorem disableSite_eq (i : Fin 12) (s : State) : disableSite i s = withdraw (siteSlot i) (s.modSite i Site.disabled) := rfl

theorem disableSite_sites (i : Fin 12) (s : State) : (disableSite i s).sites = (s.modSite i Site.disabled).sites :=
  withdraw_only _ _ .sites (by decide)

theorem ownSiteDisable_off (he : s.sites[i].enabled = false) :
    ownSiteDisable i.val s = (s, ⟨.ok, [0, BitVec.ofNat 8 s.sites[i].level.code]⟩) := by
  unfold ownSiteDisable
  rw [ident_val]; dsimp only
  rw [if_neg (by rw [he]; nofun), siteAnswer_eq, he]; rfl

theorem ownSiteDisable_on (he : s.sites[i].enabled = true) :
    ownSiteDisable i.val s = (disableSite i s, ⟨.ok, [0, BitVec.ofNat 8 SiteLevel.normal.code]⟩) := by
  unfold ownSiteDisable
  rw [ident_val]; dsimp only
  rw [if_pos he, siteAnswer_eq, disableSite_sites, modSite_site]; rfl

theorem ownMarkCleaned_refuses (h : s.sites[i].cfg.kind = .none) : ownMarkCleaned i.val s = (s, ⟨.state, []⟩) := by
  unfold ownMarkCleaned; rw [ident_val]; exact if_pos h

theorem ownMarkCleaned_ok (h : s.sites[i].cfg.kind ≠ .none) :
    ownMarkCleaned i.val s = (s.modSite i (fun x => { x with cumulativeDose := 0 }), ⟨.ok, Wire.putNat 4 0⟩) := by
  unfold ownMarkCleaned; rw [ident_val]; exact if_neg h

theorem ownRestoreDose_beyond {value : Nat} (h : 4294967295 < value) : ownRestoreDose i.val value s = (s, ⟨.badField, []⟩) := by
  unfold ownRestoreDose; rw [ident_val]; exact if_pos h

theorem ownRestoreDose_refuses {value : Nat} (hv : value ≤ 4294967295) (h : s.sites[i].cfg.kind = .none ∨ s.phase = .run) :
    ownRestoreDose i.val value s = (s, ⟨.state, []⟩) := by
  unfold ownRestoreDose; rw [ident_val]; dsimp only
  rw [if_neg (by omega), if_pos h]; rfl

theorem ownRestoreDose_ok {value : Nat} (hv : value ≤ 4294967295) (hk : s.sites[i].cfg.kind ≠ .none) (hp : s.phase = .config) :
    ownRestoreDose i.val value s = (s.modSite i (fun x => { x with cumulativeDose := value }), ⟨.ok, Wire.putNat 4 value⟩) := by
  unfold ownRestoreDose; rw [ident_val]; dsimp only
  rw [if_neg (by omega), if_neg (by rw [hp]; rintro (h | h) <;> [exact hk h; exact nomatch h])]; rfl

end

/-- A request that changes one site alone. -/
theorem siteReplies {c : Instr} {tag : Byte} {r : Request} {s : State} (hc : c.request = some (tag, r)) (hs : Ready s) {i : Fin 12} {g : Site → Site}
    {status : Status} {content : List Byte}
    (own : ∀ v : Supervision, applyRequest r { s with supervision := v } = (State.modSite { s with supervision := v } i g, ⟨status, content⟩))
    {kind : Nat} (hk : r.kind = kind := by rfl) :
    Replies c s kind tag status content [.sites] (fun t => t.sites[i] = g s.sites[i] ∧ ∀ j : Fin 12, j ≠ i → t.sites[j] = s.sites[j]) :=
  replies_of hc hs (fun v _ => ⟨_, own v, State.modSite_only _ i g, fun t ht _ => by
    have sites : t.sites = _ := ht .sites (by decide)
    rw [sites]
    exact ⟨modSite_site i g _, fun j hj => modSite_other hj g _⟩⟩) (by decide) hk

end Sys2Proof.Machine

open Sys2Proof Sys2Proof.Machine

/-- Settles O46. -/
theorem siteRequests : Obligations.SiteRequests := by
  intro tag s hs
  refine ⟨fun q => ⟨fun h => refuses_of rfl hs fun v _ => ?_, (SiteFields.check_none_iff q).trans (not_congr (SiteFields.inRange_iff q)),
    fun i new h => ⟨(SiteFields.check_some h).2,
      fun hr hst => refuses_of rfl hs fun v _ => by exact ownConfigureSite_state (s := { s with supervision := v }) h ⟨hr, hst⟩,
      fun hn => (siteReplies (c := .configureSite tag q) (i := i) (g := Site.configure new) rfl hs fun v => by
        exact ownConfigureSite_ok (s := { s with supervision := v }) h hn).weaken fun t ⟨own, others⟩ => ⟨others, ?_⟩⟩⟩,
    fun site value => ⟨fun h => ⟨refuses_of rfl hs fun v _ => ?_, refuses_of rfl hs fun v _ => ?_, refuses_of rfl hs fun v _ => ?_,
      refuses_of rfl hs fun v _ => ?_⟩, ?_⟩⟩
  · show ownConfigureSite q _ = _
    unfold ownConfigureSite; rw [h]; rfl
  · rw [own]; exact Site.configure_cases new s.sites[i]
  · show ownSiteEnable site _ = _
    unfold ownSiteEnable; rw [ident_none h]; rfl
  · show ownSiteDisable site _ = _
    unfold ownSiteDisable; rw [ident_none h]; rfl
  · show ownMarkCleaned site _ = _
    unfold ownMarkCleaned; rw [ident_none h]; rfl
  · show ownRestoreDose site value _ = _
    unfold ownRestoreDose; rw [ident_none h]; rfl
  rintro i rfl
  refine ⟨fun h => ⟨refuses_of rfl hs fun v _ => by exact ownSiteEnable_refuses (s := { s with supervision := v }) h,
      refuses_of rfl hs fun v _ => by exact ownMarkCleaned_refuses (s := { s with supervision := v }) h⟩,
    fun h he => replies_of rfl hs fun v _ => ⟨_, by exact ownSiteEnable_on (s := { s with supervision := v }) h he, .refl _ _, fun _ _ _ => trivial⟩,
    fun h he => siteReplies (g := fun x => { x.restart with enabled := true, demand := some x.cfg.doseBase }) rfl hs fun v => by
      exact ownSiteEnable_off (s := { s with supervision := v }) h he,
    fun he => replies_of rfl hs fun v _ => ⟨_, by exact ownSiteDisable_off (s := { s with supervision := v }) he, .refl _ _, fun _ _ _ => trivial⟩,
    fun he => replies_of rfl hs fun v _ => ⟨_, by exact ownSiteDisable_on (s := { s with supervision := v }) he, disableSite_only _ _,
      fun t ht _ => ?_⟩,
    fun h => siteReplies (g := fun x => { x with cumulativeDose := 0 }) rfl hs fun v => by
      exact ownMarkCleaned_ok (s := { s with supervision := v }) h,
    fun h => refuses_of rfl hs fun v _ => by exact ownRestoreDose_beyond (s := { s with supervision := v }) h,
    fun h hn => refuses_of rfl hs fun v _ => by exact ownRestoreDose_refuses (s := { s with supervision := v }) h hn,
    fun h hk hp => siteReplies (g := fun x => { x with cumulativeDose := value }) rfl hs fun v => by
      exact ownRestoreDose_ok (s := { s with supervision := v }) h hk hp⟩
  have sites : t.sites = _ := Eq.trans (ht .sites (by decide)) (disableSite_sites i _)
  refine ⟨⟨by rw [sites, modSite_site]; rfl, fun j hj => by rw [sites, modSite_other hj]⟩, ?_⟩
  rw [disableSite_eq] at ht
  exact withdraw_leaves (s := s) ht ⟨rfl, rfl, rfl⟩
end

section
/-! PROOFS. The SM period (R73, R74, R76 to R86, R88 to R93). -/

namespace Sys2Proof.Machine

-- One after the other: see Laws/Frames.lean.
set_option Elab.async false

/-! ### The work of a site on its own record -/

/-- What a computation finds: SR, the base floor, and whether the floor is unreachable. -/
def Reckoning.triple (r : Reckoning) : Nat × Int × Bool := (r.ratio, r.base, r.unreachable)

/-- What a site computes, by its kind and its inputs (R74, R76 to R81). -/
theorem reckon_triple (s : State) (c : SiteConfig) : (reckon s c).map Reckoning.triple =
    match c.kind, boundValue s c.tempPoint, concentration s c, boundValue s c.presPoint with
    | .silica, some x, some conc, _ =>
      some ((silicaRatio conc x).toNat, (silicaFloor conc c.onset).1, (silicaFloor conc c.onset).2)
    | .calcite, some x, _, some p => some ((calciteRatio (flashPressure c x) p).toNat, flashPressure c x, false)
    | _, _, _, _ => none := by
  unfold reckon
  rcases boundValue s c.tempPoint with _ | x <;> cases c.kind
  · rfl
  · rfl
  · rfl
  · rfl
  · cases concentration s c <;> rfl
  · cases boundValue s c.presPoint <;> cases concentration s c <;> rfl

/-- A site's inputs taken (R82 to R84). -/
theorem Site.compute_eq (r : Option Reckoning) (x : Site) : x.compute r = { x with
    ratio := (r.map Reckoning.ratio).getD x.ratio
    excess := (r.map (fun r => r.ratio - x.cfg.onset)).getD x.excess
    floorUnreachable := (r.map Reckoning.unreachable).getD x.floorUnreachable
    inputsLost := r.isNone
    minuteDose := x.minuteDose + (r.map (fun r => r.ratio - x.cfg.onset)).getD 0
    minuteCover := x.minuteCover + if r.isSome then 1 else 0 } := by
  cases r <;> rfl

/-- The ring with one more minute (R85). -/
def Site.ringWith (clock : Nat) (x : Site) : List MinuteRecord :=
  (x.ring ++ [(⟨x.minuteDose, x.minuteCover, clock⟩ : MinuteRecord)]).drop (x.ring.length - 59)

theorem Site.closeMinute_eq (clock : Nat) (x : Site) : x.closeMinute clock = { x with
    ring := x.ringWith clock, minuteDose := 0, minuteCover := 0, hourlyDose := ringDose (x.ringWith clock),
    cumulativeDose := min 4294967295 (x.cumulativeDose + x.minuteDose) } := by
  have e : (x.ring ++ [(⟨x.minuteDose, x.minuteCover, clock⟩ : MinuteRecord)]).length - 60 = x.ring.length - 59 := by
    rw [List.length_append, List.length_singleton]; omega
  unfold Site.closeMinute Site.ringWith
  dsimp only
  rw [e]

/-- Level and alertAge after part (a) of R88. -/
def Site.aged (x : Site) : SiteLevel × Option Nat :=
  if x.level = .alert then
    let age := satSucc 3600 (x.alertAge.getD 0)
    if x.cfg.confirmTime ≤ age then (.alarm, none) else (.alert, some age)
  else (x.level, x.alertAge)

theorem Site.ageAlert_eq (x : Site) : x.ageAlert = { x with level := x.aged.1, alertAge := x.aged.2 } := by
  unfold Site.ageAlert Site.aged
  split
  · rename_i h
    dsimp only
    split
    · rfl
    · rw [← h]
  · rfl

/-- Level and alertAge after part (b) of R88. -/
def Site.tested (closing : Bool) (x : Site) (aged : SiteLevel × Option Nat) : SiteLevel × Option Nat :=
  if closing = true ∧ (aged.1 = .normal ∨ aged.1 = .watch) ∧ x.cfg.alertDose ≤ x.hourlyDose then (.alert, some 0)
  else if closing = true ∧ (aged.1 = .alert ∨ aged.1 = .alarm) ∧ x.hourlyDose < x.cfg.clearDose then (.normal, none)
  else aged

theorem Site.testDose_eq (x : Site) : let p := x.tested true (x.level, x.alertAge)
    x.testDose = { x with level := p.1, alertAge := p.2 } := by
  intro p
  have quiet (h : x.level = .normal ∨ x.level = .watch) : (if x.cfg.alertDose ≤ x.hourlyDose then { x with level := .alert, alertAge := some 0 } else x) =
      { x with level := p.1, alertAge := p.2 } := by
    show _ = { x with level := (x.tested true (x.level, x.alertAge)).1, alertAge := (x.tested true (x.level, x.alertAge)).2 }
    unfold Site.tested
    split
    · rename_i hd; rw [if_pos ⟨rfl, h, hd⟩]
    · rename_i hd
      rw [if_neg (fun k => hd k.2.2), if_neg]
      rintro ⟨-, k | k, -⟩ <;> rcases h with h | h <;> exact nomatch h.symm.trans k
  have loud (h : x.level = .alert ∨ x.level = .alarm) : (if x.hourlyDose < x.cfg.clearDose then { x with level := .normal, alertAge := none } else x) =
      { x with level := p.1, alertAge := p.2 } := by
    show _ = { x with level := (x.tested true (x.level, x.alertAge)).1, alertAge := (x.tested true (x.level, x.alertAge)).2 }
    have other : ¬ (true = true ∧ (x.level = .normal ∨ x.level = .watch) ∧ x.cfg.alertDose ≤ x.hourlyDose) := by
      rintro ⟨-, k | k, -⟩ <;> rcases h with h | h <;> exact nomatch h.symm.trans k
    unfold Site.tested
    rw [if_neg other]
    split
    · rename_i hd; rw [if_pos ⟨rfl, h, hd⟩]
    · rename_i hd; rw [if_neg (fun k => hd k.2.2)]
  unfold Site.testDose
  split
  · rename_i h; exact quiet (.inl h)
  · rename_i h; exact quiet (.inr h)
  · rename_i h; exact loud (.inl h)
  · rename_i h; exact loud (.inr h)

theorem Site.watchLevel_eq (x : Site) : x.watchLevel = { x with
    level := if x.level = .normal ∨ x.level = .watch then (if x.cfg.onset ≤ x.ratio then .watch else .normal) else x.level } := by
  unfold Site.watchLevel
  split
  · rename_i h; rw [if_pos (show x.level = .normal ∨ x.level = .watch from .inl h)]
  · rename_i h; rw [if_pos (show x.level = .normal ∨ x.level = .watch from .inr h)]
  · rename_i h; rw [if_neg (show ¬ (x.level = .normal ∨ x.level = .watch) by rw [h]; decide)]
  · rename_i h; rw [if_neg (show ¬ (x.level = .normal ∨ x.level = .watch) by rw [h]; decide)]

/-- Step (3) of the period (R88). -/
theorem Site.settleLevel_eq (closing : Bool) (x : Site) : let p := x.tested closing x.aged
    x.settleLevel closing = { x with
      level := if p.1 = .normal ∨ p.1 = .watch then (if x.cfg.onset ≤ x.ratio then .watch else .normal) else p.1, alertAge := p.2 } := by
  unfold Site.settleLevel
  dsimp only
  rw [Site.ageAlert_eq]
  cases closing
  · rw [if_neg Bool.false_ne_true, Site.watchLevel_eq]
    have same : x.tested false x.aged = x.aged := by
      unfold Site.tested
      rw [if_neg (fun k => nomatch k.1), if_neg (fun k => nomatch k.1)]
    rw [same]
  · rw [if_pos rfl, Site.testDose_eq, Site.watchLevel_eq]; rfl

/-- The site floor, by what was found (R78, R81, R82). -/
def Site.floorOf (r : Option Reckoning) (lost : Bool) (x : Site) : Int :=
  match r with
  | none => x.cfg.fallback
  | some r => x.floorFrom r.base lost

theorem Site.formFloor_eq (r : Option Reckoning) (lost : Bool) (x : Site) : x.formFloor r lost = { x with
    siteFloor := some (x.floorOf r lost), demand := if r.isSome then some (x.cfg.demand x.excess) else x.demand } := by
  cases r <;> rfl

/-! ### One site's turn -/

theorem Site.floorOf_eq (r : Option Reckoning) (lost : Bool) (x : Site) : x.floorOf r lost =
    match x.cfg.kind, r.map Reckoning.triple with
    | .calcite, some r => ValueClass.pres.clamp (ceilDiv (r.2.1 * (1000 + x.marginSum lost)) 1000)
    | .calcite, none => ValueClass.pres.clamp x.cfg.fallbackFloor
    | _, some r => ValueClass.temp.clamp (r.2.1 + x.marginSum lost)
    | _, none => ValueClass.temp.clamp x.cfg.fallbackFloor := by
  unfold Site.floorOf Site.floorFrom SiteConfig.fallback
  cases r <;> cases x.cfg.kind <;> rfl

/-- What the steps of an enabled site make of its record (R74). -/
def Site.worked (closing : Bool) (clock : Nat) (r : Option Reckoning) (lost : Bool) (x : Site) : Site :=
  ((if closing then (x.compute r).closeMinute clock else x.compute r).settleLevel closing).formFloor r lost

theorem siteWork_eq (closing : Bool) (i : Fin 12) (s : State) : siteWork closing i s =
    postSite i (s.modSite i (Site.worked closing s.clock (reckon s s.sites[i].cfg) (inhibitorLost s s.sites[i].cfg))) := rfl

/-- What a site's own turn reads beside the site stands through the turns of the others. -/
structure SiteSees (s a : State) : Prop where
  points : a.points = s.points
  drives : a.drives = s.drives
  clock : a.clock = s.clock

theorem SiteSees.of_only {qs : List Part} {s a : State} (h : Only qs s a)
    (apart : Part.points ∉ qs ∧ Part.drives ∉ qs ∧ Part.clock ∉ qs := by decide) : SiteSees s a :=
  ⟨h .points apart.1, h .drives apart.2.1, congrArg Prod.fst (h .clock apart.2.2)⟩

theorem SiteSees.reckon {s a : State} (h : SiteSees s a) (c : SiteConfig) : reckon a c = Machine.reckon s c := by
  unfold Machine.reckon Machine.concentration Machine.boundValue
  rw [h.points]

theorem SiteSees.inhibitorLost {s a : State} (h : SiteSees s a) (c : SiteConfig) : inhibitorLost a c = Machine.inhibitorLost s c := by
  unfold Machine.inhibitorLost
  rw [h.drives]

/-- The slot a site posts to (R93). -/
theorem postSite_slots (i : Fin 12) (s : State) :
    (∀ k : Fin 22, k ≠ siteSlot i → (postSite i s).slots[k] = s.slots[k]) ∧
    (s.sites[i].cfg.action = .none → (postSite i s).slots[siteSlot i] = s.slots[siteSlot i]) ∧
    ∀ g v, s.sites[i].cfg.action.target = some g → s.sites[i].siteFloor = some v →
      (postSite i s).slots[siteSlot i] = some ⟨g, g.cls.clamp v, s.clock⟩ := by
  unfold postSite
  refine ⟨fun k hk => ?_, fun h => ?_, fun g v hg hv => ?_⟩
  · split
    · exact (post_posted _ _ _ s).2.1 k hk
    · rfl
  · rw [h]; rfl
  · rw [hg, hv]
    exact (post_posted _ _ _ s).1

section
variable {closing : Bool} {i : Fin 12} {s : State}

theorem sitePeriod_none (h : s.sites[i].cfg.kind = .none ∨ (s.sites[i].enabled = false ∧ closing = false)) : sitePeriod closing i s = s := by
  unfold sitePeriod
  by_cases hk : s.sites[i].cfg.kind = .none
  · rw [if_pos hk]
  · obtain ⟨he, hc⟩ := h.resolve_left hk
    rw [if_neg hk, he, hc]; rfl

theorem sitePeriod_disabled (hk : s.sites[i].cfg.kind ≠ .none) (he : s.sites[i].enabled = false) (hc : closing = true) : sitePeriod closing i s =
    s.modSite i (fun x => ({ x with minuteDose := 0, minuteCover := 0 } : Site).closeMinute s.clock) := by
  unfold sitePeriod
  rw [if_neg hk, he, hc]; rfl

theorem sitePeriod_enabled (hk : s.sites[i].cfg.kind ≠ .none) (he : s.sites[i].enabled = true) :
    sitePeriod closing i s = siteWork closing i s := by
  unfold sitePeriod
  rw [if_neg hk, if_pos he]

/-- A site's turn leaves the other sites and the other slots alone. -/
theorem sitePeriod_others (closing : Bool) (i : Fin 12) (s : State) :
    (∀ j : Fin 12, j ≠ i → (sitePeriod closing i s).sites[j] = s.sites[j]) ∧
    ∀ k : Fin 22, k ≠ siteSlot i → (sitePeriod closing i s).slots[k] = s.slots[k] := by
  unfold sitePeriod
  split
  · exact ⟨fun _ _ => rfl, fun _ _ => rfl⟩
  · split
    · rw [siteWork_eq]
      refine ⟨fun j hj => ?_, fun k hk => (postSite_slots i _).1 k hk⟩
      have sites := postSite_only i (s.modSite i (Site.worked closing s.clock (reckon s s.sites[i].cfg) (inhibitorLost s s.sites[i].cfg)))
        .sites (by decide)
      exact (congrArg (fun v : Vector Site 12 => v[j]) sites).trans (modSite_other hj _ s)
    · split
      · exact ⟨fun j hj => modSite_other hj _ s, fun _ _ => rfl⟩
      · exact ⟨fun _ _ => rfl, fun _ _ => rfl⟩

end

theorem siteSlot_inj {i j : Fin 12} (h : siteSlot i = siteSlot j) : i = j := by
  have : (siteSlot i).val = (siteSlot j).val := congrArg Fin.val h
  exact Fin.ext this

/-- The turns of all the sites, seen at one of them. -/
theorem sites_turn (closing : Bool) (s : State) (i : Fin 12) :
    ∃ a, SiteSees s a ∧ a.sites[i] = s.sites[i] ∧ a.slots[siteSlot i] = s.slots[siteSlot i] ∧
      (forEach 12 (sitePeriod closing) s).sites[i] = (sitePeriod closing i a).sites[i] ∧
      (forEach 12 (sitePeriod closing) s).slots[siteSlot i] = (sitePeriod closing i a).slots[siteSlot i] := by
  obtain ⟨a, only, before, after⟩ := forEach_turn (fun i (a : State) => (a.sites[i], a.slots[siteSlot i]))
    (fun a => Only [.sites, .constraints] s a) (sitePeriod closing)
    (fun j k a h => Prod.ext ((sitePeriod_others closing j a).1 k h.symm)
      ((sitePeriod_others closing j a).2 _ fun e => h (siteSlot_inj e).symm))
    (fun j a h => h.trans (sitePeriod_only closing j a)) s (.refl _ s) i
  obtain ⟨site, slot⟩ := Prod.mk.inj before
  obtain ⟨siteAfter, slotAfter⟩ := Prod.mk.inj after
  exact ⟨a, .of_only only, site, slot, siteAfter, slotAfter⟩

theorem Site.worked_cfg (closing : Bool) (clock : Nat) (r : Option Reckoning) (lost : Bool) (x : Site) :
    (x.worked closing clock r lost).cfg = x.cfg := by
  have kept (x : Site) : x.keeps ((x.settleLevel closing).formFloor r lost) :=
    Site.keeps_trans (Site.settleLevel_keeps closing x) (Site.formFloor_keeps r lost _)
  unfold Site.worked
  cases closing
  · exact (Site.keeps_trans (Site.compute_keeps r x) (kept _)).2.1
  · exact (Site.keeps_trans (Site.keeps_trans (Site.compute_keeps r x) (Site.closeMinute_keeps clock _)) (kept _)).2.1

/-- What a site's turn does to it and to its slot. -/
theorem site_turned {s a : State} {i : Fin 12} (closing : Bool) (sees : SiteSees s a) (site : a.sites[i] = s.sites[i])
    (slot : a.slots[siteSlot i] = s.slots[siteSlot i]) :
    let x := s.sites[i]; let y := (sitePeriod closing i a).sites[i]; let k := (sitePeriod closing i a).slots[siteSlot i]
    (x.cfg.kind = .none ∨ (x.enabled = false ∧ closing = false) → y = x ∧ k = s.slots[siteSlot i]) ∧
    (x.cfg.kind ≠ .none → x.enabled = false → closing = true →
      y = ({ x with minuteDose := 0, minuteCover := 0 } : Site).closeMinute s.clock ∧ k = s.slots[siteSlot i]) ∧
    (x.cfg.kind ≠ .none → x.enabled = true →
      y = x.worked closing s.clock (reckon s x.cfg) (inhibitorLost s x.cfg) ∧
      (x.cfg.action = .none → k = s.slots[siteSlot i]) ∧
      ∀ g v, x.cfg.action.target = some g → y.siteFloor = some v → k = some ⟨g, g.cls.clamp v, s.clock⟩) := by
  dsimp only
  rw [← site, ← slot]
  refine ⟨fun h => by rw [sitePeriod_none h]; exact ⟨rfl, rfl⟩, fun hk he hc => ?_, fun hk he => ?_⟩
  · rw [sitePeriod_disabled hk he hc, modSite_site, sees.clock]
    exact ⟨rfl, rfl⟩
  · obtain ⟨f, hf⟩ : ∃ f, f = Site.worked closing a.clock (reckon a a.sites[i].cfg) (inhibitorLost a a.sites[i].cfg) := ⟨_, rfl⟩
    have e : sitePeriod closing i a = postSite i (a.modSite i f) := by rw [sitePeriod_enabled hk he, siteWork_eq, hf]
    have sites : (postSite i (a.modSite i f)).sites[i] = f a.sites[i] :=
      (congrArg (fun v : Vector Site 12 => v[i]) (postSite_only i _ .sites (by decide))).trans (modSite_site i f a)
    have cfg : (a.modSite i f).sites[i].cfg = a.sites[i].cfg := by rw [modSite_site, hf, Site.worked_cfg]
    obtain ⟨-, same, posts⟩ := postSite_slots i (a.modSite i f)
    rw [cfg, modSite_site] at posts
    rw [cfg] at same
    rw [e, sites]
    refine ⟨by rw [hf, sees.reckon, sees.inhibitorLost, sees.clock], fun h => same h, fun g v hg hv => ?_⟩
    exact (posts g v hg hv).trans (by rw [← sees.clock]; rfl)

/-- The record an enabled site's steps leave (R74), for what it computed. -/
theorem Site.worked_eq (closing : Bool) (clock : Nat) (r : Option Reckoning) (lost : Bool) (x : Site) :
    let c := x.cfg; let found := r.map Reckoning.triple
    let ratio := (found.map (fun r => r.1)).getD x.ratio
    let excess := (found.map (fun r => r.1 - c.onset)).getD x.excess
    let dose := x.minuteDose + (found.map (fun r => r.1 - c.onset)).getD 0
    let cover := x.minuteCover + (if found.isSome then 1 else 0)
    let ring := if closing then (x.ring ++ [(⟨dose, cover, clock⟩ : MinuteRecord)]).drop (x.ring.length - 59) else x.ring
    let hourly := if closing then ringDose ring else x.hourlyDose
    let tested := Site.tested closing { x with hourlyDose := hourly } x.aged
    let level : SiteLevel := if tested.1 = .normal ∨ tested.1 = .watch then (if c.onset ≤ ratio then .watch else .normal) else tested.1
    x.worked closing clock r lost = { x with
      ratio := ratio, excess := excess, floorUnreachable := (found.map (fun r => r.2.2)).getD x.floorUnreachable,
      inputsLost := found.isNone, minuteDose := if closing then 0 else dose, minuteCover := if closing then 0 else cover,
      ring := ring, hourlyDose := hourly,
      cumulativeDose := if closing then min 4294967295 (x.cumulativeDose + dose) else x.cumulativeDose,
      level := level, alertAge := tested.2, siteFloor := some (Site.floorOf r lost { x with level := level }),
      demand := if found.isSome then some (c.demand excess) else x.demand } := by
  have floor (r : Option Reckoning) (y z : Site) (hc : y.cfg = z.cfg) (hl : y.level = z.level) : y.floorOf r lost = z.floorOf r lost := by
    unfold Site.floorOf Site.floorFrom Site.marginSum
    rw [hc, hl]
  intro c found ratio excess dose cover ring hourly tested level
  have f1 : (r.map Reckoning.ratio).getD x.ratio = ratio := by cases r <;> rfl
  have f2 : (r.map (fun r => r.ratio - x.cfg.onset)).getD x.excess = excess := by cases r <;> rfl
  have f3 : x.minuteDose + (r.map (fun r => r.ratio - x.cfg.onset)).getD 0 = dose := by cases r <;> rfl
  have f4 : (x.minuteCover + if r.isSome then 1 else 0) = cover := by cases r <;> rfl
  have f5 : (r.map Reckoning.unreachable).getD x.floorUnreachable = (found.map (fun r => r.2.2)).getD x.floorUnreachable := by cases r <;> rfl
  have f6 : r.isNone = found.isNone := by cases r <;> rfl
  have f7 : r.isSome = found.isSome := by cases r <;> rfl
  unfold Site.worked
  rw [Site.formFloor_eq, Site.settleLevel_eq, Site.compute_eq, f1, f2, f3, f4, f5, f6, f7]
  cases closing
  · rw [if_neg Bool.false_ne_true]
    refine congrArg (fun v => ({ x with
      ratio := ratio, excess := excess, floorUnreachable := (found.map (fun r => r.2.2)).getD x.floorUnreachable,
      inputsLost := found.isNone, minuteDose := dose, minuteCover := cover, level := level, alertAge := tested.2, siteFloor := some v,
      demand := if found.isSome then some (c.demand excess) else x.demand } : Site)) (floor r _ _ rfl rfl)
  · rw [if_pos rfl, Site.closeMinute_eq]
    refine congrArg (fun v => ({ x with
      ratio := ratio, excess := excess, floorUnreachable := (found.map (fun r => r.2.2)).getD x.floorUnreachable,
      inputsLost := found.isNone, minuteDose := 0, minuteCover := 0, ring := ring, hourlyDose := hourly,
      cumulativeDose := min 4294967295 (x.cumulativeDose + dose), level := level, alertAge := tested.2, siteFloor := some v,
      demand := if found.isSome then some (c.demand excess) else x.demand } : Site)) (floor r _ _ rfl rfl)

/-! ### The dosing drives (R92) -/

/-- The greatest demand met on the way through a list of sites. -/
theorem foldl_demand (p : Site → Prop) [DecidablePred p] (l : List Site) (acc : Int) :
    let v := l.foldl (fun acc x => if p x then max acc (x.demand.getD 0) else acc) acc
    acc ≤ v ∧ (∀ x ∈ l, p x → x.demand.getD 0 ≤ v) ∧ (v = acc ∨ ∃ x ∈ l, p x ∧ x.demand.getD 0 = v) := by
  induction l generalizing acc with
  | nil => exact ⟨le_refl _, fun x hx => absurd hx List.not_mem_nil, .inl rfl⟩
  | cons y l ih =>
    show acc ≤ l.foldl _ (if p y then max acc (y.demand.getD 0) else acc) ∧
      (∀ x ∈ y :: l, p x → x.demand.getD 0 ≤ l.foldl _ (if p y then max acc (y.demand.getD 0) else acc)) ∧
      (l.foldl _ (if p y then max acc (y.demand.getD 0) else acc) = acc ∨
        ∃ x ∈ y :: l, p x ∧ x.demand.getD 0 = l.foldl _ (if p y then max acc (y.demand.getD 0) else acc))
    obtain ⟨above, all, found⟩ := ih (if p y then max acc (y.demand.getD 0) else acc)
    have later (x : Site) (hx : x ∈ y :: l) (hn : x ≠ y) : x ∈ l := (List.mem_cons.mp hx).resolve_left hn
    by_cases hp : p y
    · simp only [if_pos hp] at above all found ⊢
      refine ⟨(le_max_left _ _).trans above, fun x hx hpx => ?_, ?_⟩
      · by_cases e : x = y
        · rw [e]; exact (le_max_right _ _).trans above
        · exact all x (later x hx e) hpx
      · rcases found with found | ⟨x, hx, hpx, e⟩
        · rcases max_choice acc (y.demand.getD 0) with k | k
          · exact .inl (found.trans k)
          · exact .inr ⟨y, List.mem_cons_self .., hp, (found.trans k).symm⟩
        · exact .inr ⟨x, List.mem_cons_of_mem _ hx, hpx, e⟩
    · simp only [if_neg hp] at above all found ⊢
      refine ⟨above, fun x hx hpx => all x (later x hx fun e => hp (e ▸ hpx)) hpx, found.imp_right fun ⟨x, hx, hpx, e⟩ =>
        ⟨x, List.mem_cons_of_mem _ hx, hpx, e⟩⟩

theorem stationDemand_greatest (s : State) (j : Fin 4) : 0 ≤ stationDemand s j ∧
    (∀ i : Fin 12, s.sites[i].enabled = true → s.sites[i].cfg.station = some j → s.sites[i].demand.getD 0 ≤ stationDemand s j) ∧
    (stationDemand s j = 0 ∨ ∃ i : Fin 12, s.sites[i].enabled = true ∧ s.sites[i].cfg.station = some j ∧
      s.sites[i].demand = some (stationDemand s j)) := by
  obtain ⟨above, all, found⟩ := foldl_demand (fun x : Site => x.enabled = true ∧ x.cfg.station = some j) s.sites.toList 0
  refine ⟨above, fun i he hs => all _ (by simp) ⟨he, hs⟩, ?_⟩
  rcases found with found | ⟨x, hx, ⟨he, hs⟩, e⟩
  · exact .inl found
  · obtain ⟨i, hi, rfl⟩ := Vector.getElem_of_mem (Vector.mem_toList_iff.mp hx)
    cases hd : s.sites[i].demand with
    | none =>
      rw [hd] at e
      exact .inl e.symm
    | some v =>
      rw [hd] at e
      exact .inr ⟨⟨i, hi⟩, he, hs, hd.trans (congrArg some e)⟩

theorem stationDemand_seen {s t : State} (h : t.sites = s.sites) (j : Fin 4) : 0 ≤ stationDemand s j ∧
    (∀ i : Fin 12, t.sites[i].enabled = true → t.sites[i].cfg.station = some j → t.sites[i].demand.getD 0 ≤ stationDemand s j) ∧
    (stationDemand s j = 0 ∨ ∃ i : Fin 12, t.sites[i].enabled = true ∧ t.sites[i].cfg.station = some j ∧
      t.sites[i].demand = some (stationDemand s j)) := by
  unfold stationDemand
  rw [← h]
  exact stationDemand_greatest t j

theorem dosingDrive_inj {i j : Fin 4} (h : dosingDrive i = dosingDrive j) : i = j := by
  have : 11 + i.val = 11 + j.val := congrArg Fin.val h
  exact Fin.ext (by omega)

/-- The dosing drives take the greatest demand of their stations; no other drive is written (R92). -/
theorem setDosing_at (s : State) :
    (∀ d : Fin 15, d.val < 11 → (setDosing s).drives[d] = s.drives[d]) ∧
    ∀ j : Fin 4, (setDosing s).drives[dosingDrive j] = s.drives[dosingDrive j].write (stationDemand s j) := by
  refine ⟨fun d hd => ?_, fun j => ?_⟩
  · refine forEach_rel (fun a b : State => b.drives[d] = a.drives[d]) (fun _ => rfl) (fun _ _ _ h k => k.trans h) 4 _ (fun j a => ?_) s
    exact (writeDrive_at _ d _ a).trans (if_neg fun e => by
      have : 11 + j.val = d.val := congrArg Fin.val e
      omega)
  · obtain ⟨a, same, before, after⟩ := forEach_turn (fun j (a : State) => a.drives[dosingDrive j]) (fun a => a.sites = s.sites)
      (fun j s => writeDrive (dosingDrive j) (stationDemand s j) s)
      (fun j k a h => (writeDrive_at _ _ _ a).trans (if_neg fun e => h (dosingDrive_inj e))) (fun _ _ h => h) s rfl j
    have demand : stationDemand a j = stationDemand s j := by unfold stationDemand; rw [same]
    rw [show (setDosing s).drives[dosingDrive j] = _ from after, writeDrive_at, if_pos rfl, demand]
    exact congrArg (Drive.write _) before

/-! ### The period -/

/-- The part with the minute counted and the period started again. -/
def State.minuteCounted (s : State) : State :=
  { s with smTimer := some 1000, minuteCounter := if decide (60 ≤ s.minuteCounter + 1) then 0 else s.minuteCounter + 1 }

/-- The part after the turns of the sites. -/
def State.sitesWorked (s : State) : State := forEach 12 (sitePeriod (decide (60 ≤ s.minuteCounter + 1))) s.minuteCounted

theorem smPeriodExpiry_idle {s : State} (h : s.smTimer = none) : smPeriodExpiry s = s := by unfold smPeriodExpiry; rw [h]

theorem smPeriodExpiry_running {s : State} (h : s.smTimer.isSome = true) : smPeriodExpiry s = setDosing s.sitesWorked := by
  obtain ⟨n, h⟩ := Option.isSome_iff_exists.mp h
  unfold smPeriodExpiry; rw [h]; rfl

theorem sitesWorked_only (s : State) : Only [.sites, .constraints] s.minuteCounted s.sitesWorked :=
  .forEach 12 _ (sitePeriod_only _) _

end Sys2Proof.Machine

open Sys2Proof Sys2Proof.Machine

/-- Settles O47: each site's turn is its own, and the dosing drives follow the sites. -/
theorem scalingPeriod : Obligations.ScalingPeriod := by
  intro s hs
  refine ⟨fun h => idles_of hs (fun _ => rfl) (smPeriodExpiry_idle h), fun h => ?_⟩
  refine happens_of hs (fun _ => rfl) ((smPeriodExpiry_only s).mono (by decide)) fun t ht _ => ?_
  have table : TableLaw s → TableLaw (smPeriodExpiry s) := tableLaw_steady.field .smPeriodExpiry _ s rfl
  rw [smPeriodExpiry_running h] at ht table
  have dosing := setDosing_only s.sitesWorked
  have worked := sitesWorked_only s
  have sites : t.sites = s.sitesWorked.sites := Eq.trans (ht .sites (by decide)) (dosing .sites (by decide))
  have constraints : Same .constraints s.sitesWorked t :=
    Same.trans (by decide) (by decide) (dosing .constraints (by decide)).same (ht .constraints (by decide))
  obtain ⟨slots, -⟩ := constraints
  have drives : t.drives = _ := ht .drives (by decide)
  have monitor : t.smTimer = s.minuteCounted.smTimer ∧ t.minuteCounter = s.minuteCounted.minuteCounter :=
    Same.trans (by decide) (by decide) (Same.trans (by decide) (by decide) (worked .monitor (by decide)).same (dosing .monitor (by decide)).same)
      (ht .monitor (by decide))
  have before : s.sitesWorked.drives = s.drives := worked .drives (by decide)
  refine ⟨monitor.1, monitor.2, fun hl => ?_, fun k hk => ?_, fun i => ?_, fun d hd => ?_, fun j => ⟨stationDemand s.sitesWorked j, ?_, ?_⟩⟩
  · obtain ⟨c1, c2, c3⟩ := ht .constraints (by decide)
    have wells : t.wells = _ := ht .wells (by decide)
    have heating : t.heating = _ := ht .heating (by decide)
    exact TableLaw.of_eq c1 c2 c3 (targetDefault_eq _ (fun k => by rw [wells]) (by rw [heating])) (table hl)
  · rw [slots]
    refine forEach_rel (fun a b : State => b.slots[k] = a.slots[k]) (fun _ => rfl) (fun _ _ _ h k => k.trans h) 12 _ (fun j a => ?_) s.minuteCounted
    exact (sitePeriod_others _ j a).2 k fun e => by
      have : k.val = j.val := congrArg Fin.val e
      omega
  · obtain ⟨a, sees, site, slot, siteAfter, slotAfter⟩ := sites_turn (decide (60 ≤ s.minuteCounter + 1)) s.minuteCounted i
    have sees : SiteSees s a := ⟨sees.points, sees.drives, sees.clock⟩
    have own : t.sites[i] = _ := (congrArg (fun v : Vector Site 12 => v[i]) sites).trans siteAfter
    have posted : t.slots[siteSlot i] = _ := (congrArg (fun v : Vector (Option Post) 22 => v[siteSlot i]) slots).trans slotAfter
    obtain ⟨idle, disabled, enabled⟩ := site_turned (s := s) (decide (60 ≤ s.minuteCounter + 1)) sees site slot
    rw [own, posted]
    intro x c y ringWith
    refine ⟨idle, fun hk he hc => ?_, fun hk he => ?_⟩
    · obtain ⟨record, kept⟩ := disabled hk he hc
      exact ⟨record.trans (Site.closeMinute_eq _ _), kept⟩
    · intro temp concentration found ratio excess dose cover ring hourly aged tested level lost margins floor
      obtain ⟨record, kept, posts⟩ := enabled hk he
      have hfound : (reckon s c).map Reckoning.triple = found := reckon_triple s c
      have worked := record.trans (Site.worked_eq _ _ _ _ _)
      rw [Site.floorOf_eq, hfound] at worked
      exact ⟨worked, kept, fun g hg => posts g floor hg (congrArg Site.siteFloor worked)⟩
  · rw [drives, (setDosing_at _).1 d hd, before]
  · rw [drives, (setDosing_at _).2 j, before]
  · exact stationDemand_seen sites j
end

section
/-! PROOFS. The default, the bound and the binding origin of a target, the combined ceiling of a well, and the requests of the pool
(R97 to R102, R104, R105). -/

namespace Sys2Proof.Machine

-- One after the other: see Laws/Frames.lean.
set_option Elab.async false

/-! ### The first index at which a test holds -/

theorem firstIndex_eq_none {n : Nat} {p : Fin n → Bool} : firstIndex n p = none ↔ ∀ k, p k = false := by
  simp [firstIndex, List.find?_eq_none, mem_indexes]

theorem firstIndex_eq_some {n : Nat} {p : Fin n → Bool} {k : Fin n} :
    firstIndex n p = some k ↔ p k = true ∧ ∀ j, j < k → p j = false := by
  unfold firstIndex indexes
  rw [List.find?_eq_some_iff_getElem]
  refine and_congr_right fun _ => ⟨fun ⟨i, hi, e, before⟩ j hj => ?_, fun before => ⟨k.val, by simp, by simp, fun j hj => ?_⟩⟩
  · have : i = k.val := by rw [← e]; simp
    subst this
    simpa using before j.val hj
  · simpa using before ⟨j, by omega⟩ hj

/-! ### The stricter bound -/

/-- What a slot posts for a target (section 5.2). -/
theorem postedFor_eq_some {slots : Vector (Option Post) 22} {g : Target} {k : Fin 22} {x : Int} :
    postedFor slots g k = some x ↔ ∃ p, slots[k] = some p ∧ p.target = g ∧ p.value = x := by
  unfold postedFor
  rw [Option.bind_eq_some_iff]
  refine exists_congr fun p => and_congr_right fun _ => ?_
  split <;> simp_all

theorem mem_postedValues {slots : Vector (Option Post) 22} {g : Target} {x : Int} :
    x ∈ (indexes 22).filterMap (postedFor slots g) ↔ ∃ k : Fin 22, ∃ p, slots[k] = some p ∧ p.target = g ∧ p.value = x := by
  simp only [List.mem_filterMap, mem_indexes, true_and, postedFor_eq_some]

theorem foldl_max (xs : List Int) (d : Int) :
    (xs.foldl max d = d ∨ xs.foldl max d ∈ xs) ∧ d ≤ xs.foldl max d ∧ ∀ x ∈ xs, x ≤ xs.foldl max d := by
  induction xs generalizing d with
  | nil => simp
  | cons a xs ih =>
    obtain ⟨one, least, all⟩ := ih (max d a)
    simp only [List.foldl_cons, List.mem_cons, forall_eq_or_imp]
    refine ⟨?_, by omega, by omega, all⟩
    rcases one with e | e
    · rcases max_choice d a with c | c <;> rw [e, c] <;> simp
    · exact .inr (.inr e)

theorem foldl_min (xs : List Int) (d : Int) :
    (xs.foldl min d = d ∨ xs.foldl min d ∈ xs) ∧ xs.foldl min d ≤ d ∧ ∀ x ∈ xs, xs.foldl min d ≤ x := by
  induction xs generalizing d with
  | nil => simp
  | cons a xs ih =>
    obtain ⟨one, least, all⟩ := ih (min d a)
    simp only [List.foldl_cons, List.mem_cons, forall_eq_or_imp]
    refine ⟨?_, by omega, by omega, all⟩
    rcases one with e | e
    · rcases min_choice d a with c | c <;> rw [e, c] <;> simp
    · exact .inr (.inr e)

theorem effectiveBound_floor {g : Target} (h : g.isFloor = true) (slots : Vector (Option Post) 22) (d : Int) :
    effectiveBound slots d g = ((indexes 22).filterMap (postedFor slots g)).foldl max d := by
  simp [effectiveBound, funext fun a => funext fun b => show stricter g a b = max a b from if_pos h]

theorem effectiveBound_ceiling {g : Target} (h : g.isFloor = false) (slots : Vector (Option Post) 22) (d : Int) :
    effectiveBound slots d g = ((indexes 22).filterMap (postedFor slots g)).foldl min d := by
  simp [effectiveBound, funext fun a => funext fun b => show stricter g a b = min a b from if_neg (by rw [h]; nofun)]

/-! ### The pool -/

theorem targetOf_eq_some {kind well : Nat} {g : Target} : targetOf kind well = some g ↔
    (kind = 0 ∧ well = 0 ∧ g = .brineFloor) ∨ (∃ k : Fin 8, kind = 1 ∧ well = k.val ∧ g = .wellFloor k) ∨
      (∃ k : Fin 8, kind = 2 ∧ well = k.val ∧ g = .pumpCeil k) ∨ (kind = 3 ∧ well = 0 ∧ g = .pumpCeilAll) := by
  unfold targetOf
  split <;> simp_all [ident_some, eq_comm (b := g)]

/-- A POSTED slot of the pool names its target. -/
theorem names_iff {u : Option Post} {g : Target} : u.any (fun p => decide (p.target = g)) = true ↔ u.map Post.target = some g := by
  cases u <;> simp

theorem poolSlotFor_eq_none {s : State} {g : Target} :
    poolSlotFor s g = none ↔ ∀ j, ¬ s.slots[poolSlot j].map Post.target = some g := by
  simp only [poolSlotFor, firstIndex_eq_none, Bool.eq_false_iff, ne_eq, names_iff]

theorem poolSlotFor_eq_some {s : State} {g : Target} {j : Fin 8} : poolSlotFor s g = some j ↔
    s.slots[poolSlot j].map Post.target = some g ∧ ∀ i, i < j → ¬ s.slots[poolSlot i].map Post.target = some g := by
  simp only [poolSlotFor, firstIndex_eq_some, Bool.eq_false_iff, ne_eq, names_iff]

theorem poolSlotFree_eq_none {s : State} : poolSlotFree s = none ↔ ∀ j, ¬ s.slots[poolSlot j] = none := by
  simp only [poolSlotFree, firstIndex_eq_none, Bool.eq_false_iff, ne_eq, Option.isNone_iff_eq_none]

theorem poolSlotFree_eq_some {s : State} {j : Fin 8} :
    poolSlotFree s = some j ↔ s.slots[poolSlot j] = none ∧ ∀ i, i < j → ¬ s.slots[poolSlot i] = none := by
  simp only [poolSlotFree, firstIndex_eq_some, Bool.eq_false_iff, ne_eq, Option.isNone_iff_eq_none]

/-- What a reply says of a bound after a slot was set (R104, R105). -/
theorem Posted.putBound {s t : State} {k : Fin 22} {p : Option Post} (h : Posted s t k p) {g : Target}
    (hg : s.slots[k].map Post.target = some g ∨ p.map Post.target = some g) (hw : t.wells = s.wells) (hh : t.heating = s.heating) :
    putBound t g = let b := boundOf { s with slots := s.slots.set k.val p } g
      Wire.putClass b.value ++ putOrigin b.origin := by
  obtain ⟨at_k, others, bounds, -⟩ := h
  have slots : t.slots = s.slots.set k.val p := Vector.ext fun i hi => by
    by_cases e : i = k.val
    · subst e; simpa using at_k
    · rw [Vector.getElem_set_ne _ _ (Ne.symm e)]
      exact others ⟨i, hi⟩ fun c => e (congrArg Fin.val c)
  unfold Machine.putBound
  rw [(bounds g).1 hg, boundOf_eq (s := { s with slots := s.slots.set k.val p }) (fun j => by rw [slots]) (targetDefault_congr hw hh g)]

theorem ValueClass.clamp_clamp (c : ValueClass) (v : Int) : c.clamp (c.clamp v) = c.clamp v := by
  have : c.lo ≤ c.hi := by cases c <;> decide
  unfold ValueClass.clamp Machine.clamp; omega

section

variable {kind well : Nat} {value : Int} {g : Target} {j : Fin 8} {s : State}

theorem ownPostLimit_badField (h : targetOf kind well = none) (value : Int) (s : State) :
    ownPostLimit kind well value s = (s, ⟨.badField, []⟩) := by unfold ownPostLimit; rw [h]; rfl

theorem ownPostLimit_inUse (h : targetOf kind well = some g) (held : poolSlotFor s g = none) (free : poolSlotFree s = none) :
    ownPostLimit kind well value s = (s, ⟨.inUse, []⟩) := by
  unfold ownPostLimit
  simp only [h, held, free]
  rfl

/-- The slot a post takes is the one POSTED for its target, else the first EMPTY one (R104). -/
theorem ownPostLimit_posts (h : targetOf kind well = some g) (slot : (poolSlotFor s g).or (poolSlotFree s) = some j) :
    ownPostLimit kind well value s = (post (poolSlot j) g (g.cls.clamp value) s,
      ⟨if g.cls.clamp value = value then .ok else .clamped, Wire.putByte (14 + j.val) ++ Wire.putClass (g.cls.clamp value) ++
        let b := boundOf { s with slots := s.slots.set (poolSlot j).val (some ⟨g, g.cls.clamp value, s.clock⟩) } g
        Wire.putClass b.value ++ putOrigin b.origin⟩) := by
  have posted := post_posted (poolSlot j) g (g.cls.clamp value) s
  rw [g.cls.clamp_clamp] at posted
  have bound := posted.putBound (g := g) (.inr rfl) (post_only _ _ _ s .wells (by decide)) (post_only _ _ _ s .heating (by decide))
  unfold ownPostLimit
  simp only [h, slot]
  rw [okOr_eq, bound]
  rfl

theorem ownWithdrawLimit_badField (h : targetOf kind well = none) (s : State) :
    ownWithdrawLimit kind well s = (s, ⟨.badField, []⟩) := by unfold ownWithdrawLimit; rw [h]; rfl

theorem ownWithdrawLimit_empty (h : targetOf kind well = some g) (held : poolSlotFor s g = none) :
    ownWithdrawLimit kind well s = (s, ⟨.ok, putIdent (none : Option (Fin 22)) ++ Wire.putClass s.bounds[g.index].value ++
      putOrigin s.bounds[g.index].origin⟩) := by
  unfold ownWithdrawLimit
  simp only [h, held]
  rw [List.append_assoc]
  rfl

theorem ownWithdrawLimit_withdraws (h : targetOf kind well = some g) (held : poolSlotFor s g = some j) :
    ownWithdrawLimit kind well s = (withdraw (poolSlot j) s, ⟨.ok, putIdent (some (poolSlot j)) ++
      let b := boundOf { s with slots := s.slots.set (poolSlot j).val none } g
      Wire.putClass b.value ++ putOrigin b.origin⟩) := by
  have bound := (withdraw_posted (poolSlot j) s).putBound (g := g) (.inl (poolSlotFor_eq_some.mp held).1)
    (withdraw_only _ s .wells (by decide)) (withdraw_only _ s .heating (by decide))
  unfold ownWithdrawLimit
  simp only [h, held]
  rw [bound]
  rfl

end

end Sys2Proof.Machine

open Sys2Proof Sys2Proof.Machine

/-- Settles O48: the bound is the greatest or the least of the default and the posted values, and the origin the first slot that
posts it. -/
theorem theStricterBoundHolds : Obligations.TheStricterBoundHolds := by
  refine ⟨fun s => ⟨rfl, rfl, fun k => ⟨rfl, rfl⟩⟩, fun slots d g => ?_, fun g => ?_, fun s g => ⟨rfl, fun v => ?_⟩, fun s w => ⟨rfl, ?_⟩⟩
  · simp only [← mem_postedValues]
    cases h : g.isFloor with
    | true =>
      rw [effectiveBound_floor h]
      obtain ⟨one, least, all⟩ := foldl_max ((indexes 22).filterMap (postedFor slots g)) d
      exact ⟨one, fun _ => ⟨least, all⟩, nofun⟩
    | false =>
      rw [effectiveBound_ceiling h]
      obtain ⟨one, greatest, all⟩ := foldl_min ((indexes 22).filterMap (postedFor slots g)) d
      exact ⟨one, nofun, fun _ => ⟨greatest, all⟩⟩
  · cases g <;> simp [Target.isFloor]
  · simp only [bindingSlot, firstIndex_eq_none, firstIndex_eq_some, decide_eq_true_eq, decide_eq_false_iff_not, postedFor_eq_some]
    simp
  · have posts (v : Int) (k : Fin 22) :
        (decide (postedFor s.slots (.pumpCeil w) k = some v) || decide (postedFor s.slots .pumpCeilAll k = some v)) = true ↔
          ∃ p, s.slots[k] = some p ∧ (p.target = .pumpCeil w ∨ p.target = .pumpCeilAll) ∧ p.value = v := by
      rw [Bool.or_eq_true, decide_eq_true_eq, decide_eq_true_eq, postedFor_eq_some, postedFor_eq_some, ← exists_or]
      exact exists_congr fun p => by rw [← and_or_left, ← or_and_right]
    simp only [combinedOf, firstIndex_eq_none, firstIndex_eq_some, Bool.eq_false_iff, ne_eq, posts]
    simp

/-- Settles O49: a post takes the slot that is POSTED for its target, else the first EMPTY one of the pool. -/
theorem poolRequests : Obligations.PoolRequests := by
  intro tag kind well value s hs
  refine ⟨fun h => ⟨refuses_of rfl hs fun v _ => by exact ownPostLimit_badField h value _, refuses_of rfl hs fun v _ => by exact ownWithdrawLimit_badField h _⟩,
    fun g => targetOf_eq_some, ?_⟩
  rintro g stored h rfl
  dsimp only
  have posts {j : Fin 8} (slot : (poolSlotFor s g).or (poolSlotFree s) = some j) :
      Replies (.postLimit tag kind well value) s 0x20 tag (if g.cls.clamp value = value then .ok else .clamped)
        (Wire.putByte (14 + j.val) ++ Wire.putClass (g.cls.clamp value) ++
          let b := boundOf { s with slots := s.slots.set (poolSlot j).val (some ⟨g, g.cls.clamp value, s.clock⟩) } g
          Wire.putClass b.value ++ putOrigin b.origin)
        [.constraints] (fun t => Posted s t (poolSlot j) (some ⟨g, g.cls.clamp value, s.clock⟩)) := replies_of rfl hs
    fun v _ => ⟨_, by exact ownPostLimit_posts (s := { s with supervision := v }) h slot, post_only _ _ _ _, fun t ht _ => by
      have posted := post_leaves (s := s) ht ⟨rfl, rfl, rfl⟩ rfl
      rwa [g.cls.clamp_clamp] at posted⟩
  refine ⟨fun j held first => ?_, fun j unheld free first => ?_, fun unheld full => ?_, fun unheld => ?_⟩
  · have slot : poolSlotFor s g = some j := poolSlotFor_eq_some.mpr ⟨held, first⟩
    exact ⟨posts (by rw [slot]; rfl), replies_of rfl hs fun v _ =>
      ⟨_, by exact ownWithdrawLimit_withdraws (s := { s with supervision := v }) h slot, withdraw_only _ _, fun t ht _ =>
        withdraw_leaves ht ⟨rfl, rfl, rfl⟩⟩⟩
  · exact posts (by rw [poolSlotFor_eq_none.mpr unheld, poolSlotFree_eq_some.mpr ⟨free, first⟩]; rfl)
  · exact refuses_of rfl hs fun v _ => by
      exact ownPostLimit_inUse (s := { s with supervision := v }) h (poolSlotFor_eq_none.mpr unheld) (poolSlotFree_eq_none.mpr full)
  · exact replies_of rfl hs fun v _ => ⟨_, by exact ownWithdrawLimit_empty (s := { s with supervision := v }) h (poolSlotFor_eq_none.mpr unheld),
      Only.refl _ _, fun _ _ _ => trivial⟩

end

section
/-! PROOFS. ArmSupervision and Resume (R212, R213, R215). -/

namespace Sys2Proof.Machine

-- One after the other: see Laws/Frames.lean.
set_option Elab.async false

/-- A request whose owner is supervision itself is answered as its owner answers it. -/
theorem takes_of {c : Instr} {tag : Byte} {r : Request} {s : State} (hc : c.request = some (tag, r)) (h : Ready s) {status : Status}
    {content : List Byte} {changed : List Part} {P : State → Prop}
    (own : ∀ v : Supervision, SupervisionRefreshed s.supervision v →
      ∃ u, applyRequest r { s with supervision := v } = (u, ⟨status, content⟩) ∧
        Only (.supervision :: changed) { s with supervision := v } u ∧ ∀ t, UnchangedBut [.outgoing] u t → Rested t → P t)
    (apart : Part.requests ∉ Part.supervision :: changed ∧ Part.outgoing ∉ Part.supervision :: changed := by decide)
    {kind : Nat} (hk : r.kind = kind := by rfl) :
    Completes c s (fun t => P t ∧ Answered s t kind tag status content ∧ SupervisionFrame changed s t) := by
  subst hk
  obtain ⟨v, hv, -, refreshed⟩ := refreshSupervision_eq s
  obtain ⟨u, answer, only, outcome⟩ := own v refreshed
  rw [← hv] at answer only
  obtain ⟨t, he, hu, answered, frame⟩ := onRequest_completes tag r h (by rw [answer]; exact only) apart.1 apart.2
  rw [answer] at hu answered
  refine ⟨t, (exec_request hc s).trans he, outcome t hu (event_rested h.1.1 he), answered, fun p hp => frame p fun hm => hp ?_⟩
  simp only [List.mem_cons] at hm ⊢
  tauto

theorem SupervisionRefreshed.unarmed {v w : Supervision} (h : SupervisionRefreshed v w) (hv : v.state ≠ .armed) : w = v := by
  unfold SupervisionRefreshed at h
  rw [h, if_neg hv]

theorem SupervisionRefreshed.armed {v w : Supervision} (h : SupervisionRefreshed v w) (hv : v.state = .armed) :
    w = { v with supervisionTimer := v.period.map (fun p => p * 100) } := by
  unfold SupervisionRefreshed at h
  rw [h, if_pos hv]

/-! ### The ranges -/

theorem armInRange_iff {period hold : Nat} : armInRange period hold = true ↔ 5 ≤ period ∧ period ≤ 600 ∧ hold ≤ 3600 := by
  unfold armInRange
  rw [Bool.and_eq_true, withinNat_iff, decide_eq_true_eq, and_assoc]

theorem speedInRange_iff {speed : Int} : speedInRange speed = true ↔ 0 ≤ speed ∧ speed ≤ 10000 := by
  unfold speedInRange
  rw [Bool.and_eq_true, decide_eq_true_eq, decide_eq_true_eq]

/-! ### ArmSupervision by the state it finds -/

section

variable {period hold : Nat} {speed : Int} {s : State}

theorem ownArm_disarmed_badField (h : s.supervision.state = .disarmed) (bad : armInRange period hold = false) :
    ownArmSupervision period hold speed s = (s, ⟨.badField, []⟩) := by
  unfold ownArmSupervision
  dsimp only
  rw [h]
  exact if_neg (by rw [bad]; nofun)

theorem ownArm_locked (h : s.supervision.state ≠ .disarmed) : ownArmSupervision 0 hold speed s = (s, ⟨.locked, []⟩) := by
  unfold ownArmSupervision
  dsimp only
  split
  · exact absurd ‹_› h
  · rfl
  · rfl

theorem ownArm_badField (h : s.supervision.state ≠ .disarmed) (hp : period ≠ 0)
    (bad : (armInRange period hold && speedInRange speed) = false) :
    ownArmSupervision period hold speed s = (s, ⟨.badField, []⟩) := by
  unfold ownArmSupervision
  dsimp only
  split
  · exact absurd ‹_› h
  · rw [if_neg hp, bad]; rfl
  · rw [if_neg hp, bad]; rfl

theorem ownArm_disarmed (h : s.supervision.state = .disarmed) (good : armInRange period hold = true) :
    ownArmSupervision period hold speed s =
      (s.modSupervision (fun v => ({ v.store period hold (clamp 0 10000 speed) with state := .armed } : Supervision).restart),
        ⟨if clamp 0 10000 speed = speed then .ok else .clamped, Wire.putByte SupervisionState.armed.code ++ putWord period ++
          putWord hold ++ Wire.putClass (clamp 0 10000 speed)⟩) := by
  unfold ownArmSupervision
  dsimp only
  rw [h]
  refine (if_pos good).trans ?_
  unfold armAnswer
  rw [okOr_eq]
  rfl

theorem ownArm_armed (h : s.supervision.state = .armed) (good : (armInRange period hold && speedInRange speed) = true) (hp : period ≠ 0) :
    ownArmSupervision period hold speed s = (s.modSupervision (fun v => (v.store period hold speed).restart),
      ⟨.ok, Wire.putByte SupervisionState.armed.code ++ putWord period ++ putWord hold ++ Wire.putClass speed⟩) := by
  unfold ownArmSupervision
  dsimp only
  rw [h]
  refine (if_neg hp).trans ((if_pos good).trans ?_)
  unfold armAnswer
  rw [okOr_false]
  show (_, Answer.mk _ (Wire.putByte s.supervision.state.code ++ _ ++ _ ++ _)) = _
  rw [h]

theorem armAnswer_ok {state : SupervisionState} (h : s.supervision.state = state) : armAnswer false period hold speed s =
    (s, ⟨.ok, Wire.putByte state.code ++ putWord period ++ putWord hold ++ Wire.putClass speed⟩) := by
  subst h; rfl

/-- The store of the fields in FALLBACK or SAFE_STOP, with the bound posted anew where fallbackSpeed changes. -/
def storeFallen (period hold : Nat) (speed : Int) (s : State) : State :=
  if s.supervision.fallbackSpeed = some speed then s.modSupervision (Supervision.store period hold speed)
  else post fallbackSlot .pumpCeilAll speed (s.modSupervision (Supervision.store period hold speed))

theorem storeFallen_supervision (period hold : Nat) (speed : Int) (s : State) :
    (storeFallen period hold speed s).supervision = s.supervision.store period hold speed := by
  unfold storeFallen
  split
  · rfl
  · exact post_only _ _ _ _ .supervision (by decide)

theorem ownArm_fallen (h : s.supervision.state = .fallback ∨ s.supervision.state = .safeStop)
    (good : (armInRange period hold && speedInRange speed) = true) (hp : period ≠ 0) :
    ownArmSupervision period hold speed s = (storeFallen period hold speed s,
      ⟨.ok, Wire.putByte s.supervision.state.code ++ putWord period ++ putWord hold ++ Wire.putClass speed⟩) := by
  have answer := armAnswer_ok (period := period) (hold := hold) (speed := speed)
    (congrArg Supervision.state (storeFallen_supervision period hold speed s))
  have stored : storeFallen period hold speed s = if decide (s.supervision.fallbackSpeed ≠ some speed) = true then
      post fallbackSlot .pumpCeilAll speed (s.modSupervision (Supervision.store period hold speed))
      else s.modSupervision (Supervision.store period hold speed) := by
    unfold storeFallen
    by_cases e : s.supervision.fallbackSpeed = some speed <;> simp [e]
  rw [stored] at answer ⊢
  unfold ownArmSupervision
  dsimp only
  rcases h with h | h <;> rw [h] <;> exact (if_neg hp).trans ((if_pos good).trans (answer.trans (by rw [← h]; rfl)))

end

/-! ### Resume -/

theorem ownResume_stands {s : State} (h : s.supervision.state = .disarmed ∨ s.supervision.state = .armed) :
    ownResume s = (s, ⟨.ok, Wire.putByte s.supervision.state.code⟩) := by
  unfold ownResume
  dsimp only
  rw [if_neg (by rcases h with h | h <;> rw [h] <;> decide)]
  rfl

theorem ownResume_fallen {s : State} (h : s.supervision.state = .fallback ∨ s.supervision.state = .safeStop) :
    ownResume s = (resumeSupervision s, ⟨.ok, Wire.putByte SupervisionState.armed.code⟩) := by
  have supervision : (resumeSupervision s).supervision.state = .armed :=
    congrArg Supervision.state (withdraw_only fallbackSlot _ .supervision (by decide))
  unfold ownResume
  dsimp only
  rw [if_pos h, supervision]
  rfl

theorem Rested.noFallback {t : State} (h : Rested t) (ha : t.supervision.state = .armed) : t.conditions.live[(41 : Fin 42)] = false := by
  obtain ⟨-, ⟨live, -⟩, -⟩ := h
  rw [live, liveNow_get]
  show (decide (t.supervision.state = .fallback) || decide (t.supervision.state = .safeStop)) = false
  rw [ha]; rfl

end Sys2Proof.Machine

open Sys2Proof Sys2Proof.Machine

/-- Settles O52: by the state ArmSupervision and Resume find. -/
theorem supervisionRequests : Obligations.SupervisionRequests := by
  intro tag period hold speed s hs
  dsimp only
  refine ⟨fun h bad => ?_, fun h zero => ?_, fun h hp bad => ?_, ?_, fun h => ?_, fun h => ?_⟩
  · exact refuses_of rfl hs fun v hv => by
      exact ownArm_disarmed_badField (hv.trans h) (Bool.eq_false_iff.mpr (armInRange_iff.not.mpr bad))
  · subst zero
    exact refuses_of rfl hs fun v hv => by exact ownArm_locked (fun e => h (hv.symm.trans e))
  · have out : (armInRange period hold && speedInRange speed) = false := by
      rw [Bool.eq_false_iff, ne_eq, Bool.and_eq_true, armInRange_iff, speedInRange_iff]
      tauto
    exact refuses_of rfl hs fun v hv => by exact ownArm_badField (fun e => h (hv.symm.trans e)) hp out
  · rintro stored rfl range hspeed
    have good := armInRange_iff.mpr range
    have hp : period ≠ 0 := by omega
    have exactly (h : s.supervision.state ≠ .disarmed) : clamp 0 10000 speed = speed ∧ (armInRange period hold && speedInRange speed) = true := by
      obtain ⟨low, high⟩ := hspeed.resolve_left h
      exact ⟨clamp_within low high, by rw [good, speedInRange_iff.mpr ⟨low, high⟩]; rfl⟩
    refine ⟨fun h => ?_, fun h => ?_⟩
    · rcases h with h | h
      · exact takes_of rfl hs fun v hv => by
          obtain rfl := hv.unarmed (by rw [h]; nofun)
          exact ⟨_, ownArm_disarmed h good, State.modSupervision_only _ _, fun t ht _ => ht .supervision (by decide)⟩
      · obtain ⟨same, goods⟩ := exactly (by rw [h]; nofun)
        rw [same, if_pos rfl]
        exact takes_of rfl hs fun v hv => by
          obtain rfl := hv.armed h
          refine ⟨_, ownArm_armed h goods hp, State.modSupervision_only _ _, fun t ht _ => Eq.trans (ht .supervision (by decide)) ?_⟩
          exact congrArg (fun x => Supervision.mk x _ _ _ _ _) h
    · obtain ⟨same, goods⟩ := exactly (by rcases h with h | h <;> rw [h] <;> nofun)
      rw [same]
      exact takes_of rfl hs fun v hv => by
        obtain rfl := hv.unarmed (by rcases h with h | h <;> rw [h] <;> nofun)
        have only : Only [.supervision, .constraints] s (storeFallen period hold speed s) := by
          unfold storeFallen
          exact .ite ((State.modSupervision_only _ _).mono (by decide))
            ((State.modSupervision_only _ _).seq (post_only _ _ _ _))
        refine ⟨_, ownArm_fallen h goods hp, only, fun t ht _ =>
          ⟨Eq.trans (ht .supervision (by decide)) (storeFallen_supervision _ _ _ _), fun e => ?_, fun e => ?_⟩⟩
        · unfold storeFallen at ht
          rw [if_pos e] at ht
          exact ht .constraints (by decide)
        · unfold storeFallen at ht
          rw [if_neg e] at ht
          have posted := post_leaves (s := s) ht ⟨rfl, rfl, rfl⟩ rfl
          obtain ⟨low, high⟩ := speedInRange_iff.mp (Bool.and_eq_true_iff.mp goods).2
          rwa [show Target.pumpCeilAll.cls.clamp speed = speed from clamp_within low high] at posted
  · exact replies_of rfl hs fun v hv => ⟨_, by
      rw [← hv] at h ⊢
      exact ownResume_stands (s := { s with supervision := v }) h, Only.refl _ _, fun _ _ _ => trivial⟩
  · exact takes_of rfl hs fun v hv => by
      obtain rfl := hv.unarmed (by rcases h with h | h <;> rw [h] <;> nofun)
      refine ⟨_, ownResume_fallen h, (State.modSupervision_only _ _).seq (withdraw_only _ _), fun t ht rested => ?_⟩
      have supervision : t.supervision = _ := Eq.trans (ht .supervision (by decide)) (withdraw_only _ _ .supervision (by decide))
      exact ⟨supervision, withdraw_leaves ht ⟨rfl, rfl, rfl⟩, rested.noFallback (by rw [supervision]; rfl)⟩

end

section
/-! PROOFS. The checks of Commission and Decommission, and the three requests that change the phase or ask for a reset (R73, R206,
R210, R211, R216). -/

namespace Sys2Proof.Machine

-- One after the other: see Laws/Frames.lean.
set_option Elab.async false

/-! ### Bindings (R210 stage 1) -/

/-- A binding whose point, where there is one, is configured and of the class its field requires. -/
def State.Binds (s : State) (p : Option (Fin 96)) (required : Bool) (cls : ValueClass) : Prop :=
  (required = true → p.isSome = true) ∧ ∀ i, p = some i → s.points[i].cfg.source ≠ .none ∧ s.points[i].cfg.cls = cls

theorem Binding.ok_iff {s : State} {b : Binding} : b.ok s = true ↔
    s.Binds b.point b.required b.cls ∧ (b.speed = true → ∀ i, b.point = some i → s.points[i].cfg.source = .speed) := by
  obtain ⟨field, point, required, cls, speed⟩ := b
  cases point with
  | none => cases required <;> simp [Binding.ok, State.Binds]
  | some p => cases speed <;> simp [Binding.ok, State.Binds, Point.configured]

theorem failingBinding_eq_none {s : State} {kind : ItemKind} {n : Nat} {l : List Binding} :
    failingBinding s kind n l = none ↔ ∀ b ∈ l, b.ok s = true := by
  simp [failingBinding, List.find?_eq_none]

/-- Stage 1 passes. -/
def BindingsPass (s : State) : Prop :=
  (∀ k : Fin 8, let c := s.wells[k].cfg
    s.Binds c.intakePoint c.enabled .pres ∧ s.Binds c.windingPoint c.enabled .temp ∧ s.Binds c.flowPoint false .flow) ∧
  (let c := s.turbine.cfg; s.Binds c.headerPoint false .pres ∧ s.Binds c.flowPoint false .flow ∧ s.Binds c.powerPoint false .power ∧
      s.Binds c.speedPoint false .speed ∧ ∀ i, c.speedPoint = some i → s.points[i].cfg.source = .speed) ∧
  (let c := s.heating.cfg; s.Binds c.outdoorPoint false .temp ∧ s.Binds c.supplyPoint false .temp ∧ s.Binds c.returnPoint false .temp ∧
      s.Binds c.netFlowPoint false .flow ∧ s.Binds c.brineInPoint false .temp ∧ s.Binds c.brineOutPoint false .temp ∧
      s.Binds c.brineFlowPoint false .flow) ∧
  ∀ i : Fin 12, let c := s.sites[i].cfg
    (c.kind = .silica → s.Binds c.tempPoint true .temp ∧ ∀ p, c.concSource = .point p → s.Binds (some p) true .conc) ∧
    (c.kind = .calcite → s.Binds c.tempPoint true .temp ∧ s.Binds c.presPoint true .pres)

theorem siteBindings_ok {s : State} {c : SiteConfig} : (∀ b ∈ siteBindings c, b.ok s = true) ↔
    (c.kind = .silica → s.Binds c.tempPoint true .temp ∧ ∀ p, c.concSource = .point p → s.Binds (some p) true .conc) ∧
    (c.kind = .calcite → s.Binds c.tempPoint true .temp ∧ s.Binds c.presPoint true .pres) := by
  unfold siteBindings
  cases c.kind with
  | none => simp
  | calcite => simp [Binding.ok_iff]
  | silica =>
    cases e : c.concSource with
    | fixed => simp [Binding.ok_iff, ConcSource.bound, State.Binds]
    | point p => simp [Binding.ok_iff, ConcSource.bound, State.Binds]

theorem failedBindings_eq_none {s : State} : failedBindings s = none ↔ BindingsPass s := by
  unfold failedBindings BindingsPass
  simp only [Option.or_eq_none_iff, List.findSome?_eq_none_iff, failingBinding_eq_none, siteBindings_ok, mem_indexes, forall_const,
    and_assoc]
  simp [wellBindings, turbineBindings, heatingBindings, Binding.ok_iff, and_assoc]

/-! ### Drives (R210 stage 2) -/

/-- A drive that an active schedule names. -/
def State.Bound (s : State) (d : Fin 15) : Prop :=
  ∃ i : Fin 3, ∃ e ∈ s.lines[i].active, e.entry.kind = .writeDrive ∧ e.entry.target = .drive d

theorem driveBound_iff {s : State} {d : Fin 15} : driveBound s d = true ↔ s.Bound d := by
  unfold driveBound State.Bound
  rw [any_toList]
  exact exists_congr fun i => by simp [Line.names, Entry.writes]

theorem forall_drive {P : Fin 15 → Prop} : (∀ d, P d) ↔
    (∀ k, P (wellDrive k)) ∧ (P admissionDrive ∧ P extractionDrive) ∧ P bypassDrive ∧ ∀ j, P (dosingDrive j) := by
  refine ⟨fun h => ⟨fun k => h _, ⟨h _, h _⟩, h _, fun j => h _⟩, fun ⟨wells, ⟨admission, extraction⟩, bypass, dosing⟩ d => ?_⟩
  by_cases h8 : d.val < 8
  · exact wells ⟨d.val, h8⟩
  by_cases h11 : 11 ≤ d.val
  · have := dosing ⟨d.val - 11, by omega⟩
    rwa [show dosingDrive ⟨d.val - 11, by omega⟩ = d from Fin.ext (show 11 + (d.val - 11) = d.val by omega)] at this
  obtain h | h | h : d = admissionDrive ∨ d = extractionDrive ∨ d = bypassDrive := by
    simp only [Fin.ext_iff, admissionDrive, extractionDrive, bypassDrive]
    show d.val = 8 ∨ d.val = 9 ∨ d.val = 10
    omega
  all_goals rw [h]; assumption

theorem HeatingConfig.complete_iff {c : HeatingConfig} : c.complete = true ↔
    c.outdoorPoint.isSome = true ∧ c.supplyPoint.isSome = true ∧ c.returnPoint.isSome = true ∧ c.netFlowPoint.isSome = true ∧
      c.brineInPoint.isSome = true ∧ c.brineOutPoint.isSome = true ∧ c.brineFlowPoint.isSome = true := by
  simp only [HeatingConfig.complete, Bool.and_eq_true, and_assoc]

theorem driveRequired_well {s : State} {k : Fin 8} : driveRequired s (wellDrive k) = s.wells[k].cfg.enabled := by
  unfold driveRequired
  rw [dif_pos (show (wellDrive k).val < 8 from k.isLt)]
  rfl

theorem driveRequired_dosing {s : State} {j : Fin 4} : driveRequired s (dosingDrive j) = true ↔
    ∃ i : Fin 12, s.sites[i].cfg.kind ≠ .none ∧ s.sites[i].cfg.station = some j := by
  have e : (dosingDrive j).val = 11 + j.val := rfl
  unfold driveRequired
  rw [dif_neg (by omega), if_neg (by omega), if_neg (by omega), any_toList]
  refine exists_congr fun i => ?_
  rw [Bool.and_eq_true, decide_eq_true_eq]
  refine and_congr_right fun _ => ?_
  cases s.sites[i].cfg.station with
  | none => simp
  | some m =>
    rw [Option.any_some, decide_eq_true_eq, e, Option.some.injEq, Fin.ext_iff]
    omega

/-- Stage 2 passes. -/
def DrivesPass (s : State) : Prop :=
  let c := s.turbine.cfg
  (∀ k : Fin 8, s.wells[k].cfg.enabled = true → s.Bound (wellDrive k)) ∧
  (c.headerPoint.isSome = true ∨ c.flowPoint.isSome = true ∨ c.powerPoint.isSome = true ∨ c.speedPoint.isSome = true →
    s.Bound admissionDrive ∧ s.Bound extractionDrive) ∧
  (s.heating.cfg.complete = true → s.Bound bypassDrive) ∧
  ∀ i : Fin 12, ∀ j, s.sites[i].cfg.kind ≠ .none → s.sites[i].cfg.station = some j → s.Bound (dosingDrive j)

theorem failedDrives_eq_none {s : State} : failedDrives s = none ↔ DrivesPass s := by
  have required {d : Fin 15} : (driveRequired s d && !driveBound s d) = false ↔ (driveRequired s d = true → s.Bound d) := by
    rw [← driveBound_iff]
    cases driveRequired s d <;> cases driveBound s d <;> simp
  have turbine {d : Fin 15} (h : d = admissionDrive ∨ d = extractionDrive) : driveRequired s d = true ↔
      s.turbine.cfg.headerPoint.isSome = true ∨ s.turbine.cfg.flowPoint.isSome = true ∨ s.turbine.cfg.powerPoint.isSome = true ∨
        s.turbine.cfg.speedPoint.isSome = true := by
    rcases h with rfl | rfl <;>
      exact (show (_ || _ || _ || _) = true ↔ _ by simp only [Bool.or_eq_true, or_assoc])
  have heating : driveRequired s bypassDrive = s.heating.cfg.complete := rfl
  unfold failedDrives DrivesPass
  simp only [Option.map_eq_none_iff, firstIndex_eq_none, required, forall_drive (P := fun d => driveRequired s d = true → s.Bound d),
    driveRequired_well, turbine, driveRequired_dosing, heating, true_or, or_true]
  refine and_congr_right fun _ => and_congr imp_and.symm (and_congr_right fun _ => ?_)
  exact ⟨fun h i j hk hj => h j ⟨i, hk, hj⟩, fun h j ⟨i, hk, hj⟩ => h i j hk hj⟩

/-! ### Floors and the curve (R210 stages 3 and 4) -/

theorem failedFloors_eq_none {s : State} : failedFloors s = none ↔
    ∀ i : Fin 12, ∀ k, s.sites[i].cfg.kind ≠ .none → s.sites[i].cfg.action = .wellFloor k → s.wells[k].cfg.enabled = true := by
  unfold failedFloors
  rw [Option.map_eq_none_iff, firstIndex_eq_none]
  refine forall_congr' fun i => ?_
  unfold floorOfDisabled
  split
  · simp_all
  · simp_all
  · rename_i floor
    refine iff_of_true rfl fun k _ ha => absurd ha (floor k)

theorem failedCurve_eq_none {s : State} : failedCurve s = none ↔ (s.heating.cfg.complete = true → s.heating.curve.isSome = true) := by
  unfold failedCurve
  cases s.heating.cfg.complete <;> cases s.heating.curve <;> simp

theorem commissionFailure_eq_none {s : State} : commissionFailure s = none ↔
    BindingsPass s ∧ DrivesPass s ∧
      (∀ i : Fin 12, ∀ k, s.sites[i].cfg.kind ≠ .none → s.sites[i].cfg.action = .wellFloor k → s.wells[k].cfg.enabled = true) ∧
      (s.heating.cfg.complete = true → s.heating.curve.isSome = true) := by
  unfold commissionFailure
  rw [Option.or_eq_none_iff, Option.or_eq_none_iff, Option.or_eq_none_iff, failedBindings_eq_none, failedDrives_eq_none,
    failedFloors_eq_none, failedCurve_eq_none, and_assoc]

/-! ### Rest (R211) -/

theorem WellState.atRest_iff {x : WellState} : x.atRest = true ↔ x = .off ∨ x = .tripped ∨ x = .lockedOut := by
  cases x <;> simp [WellState.atRest]

theorem TurbineState.rests_iff {x : TurbineState} : x.energised = false ↔ x = .stopped ∨ x = .tripped := by
  cases x <;> simp [TurbineState.energised]

theorem firstAtWork_eq_none {s : State} : firstAtWork s = none ↔
    (∀ k : Fin 8, s.wells[k].state = .off ∨ s.wells[k].state = .tripped ∨ s.wells[k].state = .lockedOut) ∧
      (s.turbine.state = .stopped ∨ s.turbine.state = .tripped) ∧ s.heating.state = .off := by
  unfold firstAtWork
  simp only [Option.or_eq_none_iff, Option.map_eq_none_iff, firstIndex_eq_none, Bool.not_eq_false', WellState.atRest_iff,
    ← TurbineState.rests_iff]
  refine and_congr_right fun _ => ?_
  cases s.turbine.state.energised <;> simp

/-! ### The requests -/

theorem ownCommission_state {s : State} (h : s.phase = .run) : ownCommission s = (s, ⟨.state, []⟩) := if_pos h

theorem ownCommission_badConfig {s : State} {x : Item} (h : s.phase = .config) (hx : commissionFailure s = some x) :
    ownCommission s = (s, ⟨.badConfig, putItem x⟩) := by
  unfold ownCommission
  rw [if_neg (by rw [h]; nofun), hx]; rfl

theorem ownCommission_ok {s : State} (h : s.phase = .config) (hx : commissionFailure s = none) :
    ownCommission s = ({ startMonitor s with phase := .run }, ⟨.ok, []⟩) := by
  unfold ownCommission
  rw [if_neg (by rw [h]; nofun), hx]; rfl

theorem ownDecommission_phase {s : State} (h : s.phase = .config) : ownDecommission s = (s, ⟨.state, []⟩) := if_pos h

theorem ownDecommission_atWork {s : State} {x : Item} (h : s.phase = .run) (hx : firstAtWork s = some x) :
    ownDecommission s = (s, ⟨.state, putItem x⟩) := by
  unfold ownDecommission
  rw [if_neg (by rw [h]; nofun), hx]; rfl

/-- The part back in CONFIG with its monitor stopped. -/
def State.decommissioned (s : State) : State := stopMonitor { s with phase := .config }

theorem ownDecommission_ok {s : State} (h : s.phase = .run) (hx : firstAtWork s = none) :
    ownDecommission s = (s.decommissioned, ⟨.ok, []⟩) := by
  unfold ownDecommission
  rw [if_neg (by rw [h]; nofun), hx]; rfl

theorem ownSoftReset_atWork {s : State} {x : Item} (hx : firstAtWork s = some x) : ownSoftReset s = (s, ⟨.state, putItem x⟩) := by
  unfold ownSoftReset
  rw [hx]; rfl

theorem ownSoftReset_ok {s : State} (hx : firstAtWork s = none) :
    ownSoftReset s = (s.modLink (fun l => { l with softResetPending := true }), ⟨.ok, []⟩) := by
  unfold ownSoftReset
  rw [hx]; rfl

/-! ### What Decommission leaves -/

theorem withdrawSites_slots (s : State) (k : Fin 22) :
    (forEach 12 (fun i s => withdraw (siteSlot i) s) s).slots[k] = if k.val < 12 then none else s.slots[k] := by
  have other (j : Fin 12) (a : State) (h : k ≠ siteSlot j) : (withdraw (siteSlot j) a).slots[k] = a.slots[k] :=
    (withdraw_posted (siteSlot j) a).2.1 k h
  split
  · rename_i h
    obtain ⟨a, -, -, turn⟩ := forEach_turn (fun j (a : State) => a.slots[siteSlot j]) (fun _ => True)
      (fun i s => withdraw (siteSlot i) s) (fun j k a h => (withdraw_posted (siteSlot j) a).2.1 _ fun e => h (siteSlot_inj e).symm)
      (fun _ _ _ => trivial) s trivial ⟨k.val, h⟩
    exact turn.trans (withdraw_posted _ a).1
  · rename_i h
    refine forEach_rel (fun a b : State => b.slots[k] = a.slots[k]) (fun _ => rfl) (fun _ _ _ h k => k.trans h) 12 _ (fun j a => ?_) s
    exact other j a fun e => h (e ▸ j.isLt)

theorem dosingSafe_drives (s : State) (d : Fin 15) :
    (forEach 4 (fun j s => writeDrive (dosingDrive j) 0 s) s).drives[d] =
      if 11 ≤ d.val then s.drives[d].write 0 else s.drives[d] := by
  split
  · rename_i h
    obtain ⟨j, rfl⟩ : ∃ j, dosingDrive j = d := ⟨⟨d.val - 11, by omega⟩, Fin.ext (show 11 + (d.val - 11) = d.val by omega)⟩
    obtain ⟨a, -, before, turn⟩ := forEach_turn (fun j (a : State) => a.drives[dosingDrive j]) (fun _ => True)
      (fun j s => writeDrive (dosingDrive j) 0 s)
      (fun j k a h => (writeDrive_at _ _ _ a).trans (if_neg fun e => h (dosingDrive_inj e))) (fun _ _ _ => trivial) s trivial j
    rw [writeDrive_at, if_pos rfl] at turn
    exact turn.trans (congrArg (Drive.write 0) before)
  · rename_i h
    refine forEach_rel (fun a b : State => b.drives[d] = a.drives[d]) (fun _ => rfl) (fun _ _ _ h k => k.trans h) 4 _ (fun j a => ?_) s
    exact (writeDrive_at _ d _ a).trans (if_neg fun e => by
      have : 11 + j.val = d.val := congrArg Fin.val e
      omega)

/-- The part in CONFIG with the monitor's timer and partial minutes cleared. -/
def State.monitorIdle (s : State) : State :=
  { s with
    phase := .config
    smTimer := none
    minuteCounter := 0
    sites := modifyAll s.sites (fun _ x => { x with minuteDose := 0, minuteCover := 0 }) }

/-- The part with the slots of the sites withdrawn. -/
def State.sitesWithdrawn (s : State) : State := forEach 12 (fun i s => withdraw (siteSlot i) s) s.monitorIdle

theorem decommissioned_eq (s : State) :
    s.decommissioned = forEach 4 (fun j s => writeDrive (dosingDrive j) 0 s) s.sitesWithdrawn := rfl

theorem sitesWithdrawn_only (s : State) : Only [.constraints] s.monitorIdle s.sitesWithdrawn := withdrawSites_only _

theorem decommissioned_safe (s : State) : Only [.drives] s.sitesWithdrawn s.decommissioned := setDosingSafe_only _

theorem decommissioned_monitor (s : State) : s.decommissioned.phase = .config ∧ s.decommissioned.smTimer = none ∧
    s.decommissioned.minuteCounter = 0 := by
  have only : Only [.constraints, .drives] s.monitorIdle s.decommissioned := (sitesWithdrawn_only s).seq (decommissioned_safe s)
  have phase := only .phase (by decide)
  have monitor := only .monitor (by decide)
  simp only [Exact, Prod.mk.injEq] at phase monitor
  exact ⟨phase.2.2.2.2, monitor⟩

theorem decommissioned_sites (s : State) (i : Fin 12) :
    s.decommissioned.sites[i] = { s.sites[i] with minuteDose := 0, minuteCover := 0 } := by
  have only : Only [.constraints, .drives] s.monitorIdle s.decommissioned := (sitesWithdrawn_only s).seq (decommissioned_safe s)
  have sites : s.decommissioned.sites = s.monitorIdle.sites := only .sites (by decide)
  have cleared : s.monitorIdle.sites[i] = { s.sites[i] with minuteDose := 0, minuteCover := 0 } :=
    modifyAll_get s.sites i (fun _ x => { x with minuteDose := 0, minuteCover := 0 })
  rw [← cleared]
  exact congrArg (fun v : Vector Site 12 => v[i]) sites

theorem decommissioned_slots (s : State) (k : Fin 22) : s.decommissioned.slots[k] = if k.val < 12 then none else s.slots[k] := by
  have constraints := decommissioned_safe s .constraints (by decide)
  simp only [Exact, Prod.mk.injEq] at constraints
  rw [constraints.1]
  exact withdrawSites_slots s.monitorIdle k

theorem decommissioned_table (s : State) (h : TableLaw s) : TableLaw s.decommissioned :=
  TableLaw.on.only (by decide) (decommissioned_safe s) ((withdrawSites_moves s.monitorIdle).table h)

theorem decommissioned_drives (s : State) (d : Fin 15) :
    s.decommissioned.drives[d] = if 11 ≤ d.val then s.drives[d].write 0 else s.drives[d] := by
  have before : s.sitesWithdrawn.drives = s.drives := sitesWithdrawn_only s .drives (by decide)
  rw [decommissioned_eq, dosingSafe_drives, before]

theorem decommissioned_causes (s : State) : s.decommissioned.initialising = s.initialising ∧
    s.decommissioned.powerApplied = s.powerApplied ∧ s.decommissioned.resetHeldLow = s.resetHeldLow ∧
    s.decommissioned.resetCause = s.resetCause := by
  have only : Only [.constraints, .drives] s.monitorIdle s.decommissioned := (sitesWithdrawn_only s).seq (decommissioned_safe s)
  have phase := only .phase (by decide)
  simp only [Exact, Prod.mk.injEq] at phase
  exact ⟨phase.1, phase.2.1, phase.2.2.1, phase.2.2.2.1⟩

/-- What is left of Decommission at the end of its event. -/
theorem decommissioned_leaves {s t : State} (running : s.initialising = false) (ht : UnchangedBut [.outgoing] s.decommissioned t) :
    t.phase = .config ∧ t.initialising = false ∧ t.resetCause = s.resetCause ∧ t.powerApplied = s.powerApplied ∧
      t.resetHeldLow = s.resetHeldLow ∧ t.smTimer = none ∧ t.minuteCounter = 0 ∧
      (∀ i : Fin 12, t.sites[i] = { s.sites[i] with minuteDose := 0, minuteCover := 0 }) ∧
      (∀ k : Fin 22, t.slots[k] = if k.val < 12 then none else s.slots[k]) ∧ (TableLaw s → TableLaw t) ∧
      ∀ d : Fin 15, t.drives[d] = if 11 ≤ d.val then s.drives[d].write 0 else s.drives[d] := by
  obtain ⟨initialising, power, low, cause, phase⟩ : Same .phase _ t := ht .phase (by decide)
  obtain ⟨timer, counter⟩ : Same .monitor _ t := ht .monitor (by decide)
  have sites : t.sites = s.decommissioned.sites := ht .sites (by decide)
  have wells : t.wells = s.decommissioned.wells := ht .wells (by decide)
  have heating : t.heating = s.decommissioned.heating := ht .heating (by decide)
  have drives : t.drives = s.decommissioned.drives := ht .drives (by decide)
  obtain ⟨slots, bounds, combined⟩ : Same .constraints _ t := ht .constraints (by decide)
  obtain ⟨initialising₀, power₀, low₀, cause₀⟩ := decommissioned_causes s
  obtain ⟨phase₀, timer₀, counter₀⟩ := decommissioned_monitor s
  refine ⟨phase.trans phase₀, initialising.trans (initialising₀.trans running), cause.trans cause₀, power.trans power₀, low.trans low₀,
    timer.trans timer₀, counter.trans counter₀, fun i => ?_, fun k => ?_, fun law => ?_, fun d => ?_⟩
  · exact (congrArg (fun v : Vector Site 12 => v[i]) sites).trans (decommissioned_sites s i)
  · exact (congrArg (fun v : Vector (Option Post) 22 => v[k]) slots).trans (decommissioned_slots s k)
  · exact .of_eq slots bounds combined (targetDefault_congr wells heating) (decommissioned_table s law)
  · exact (congrArg (fun v : Vector Drive 15 => v[d]) drives).trans (decommissioned_drives s d)

theorem decommissioned_only (s : State) : Only [.phase, .monitor, .sites, .constraints, .drives] s s.decommissioned :=
  (setConfig_only s).seq (stopMonitor_only _)

end Sys2Proof.Machine

open Sys2Proof Sys2Proof.Machine

/-- Settles O54: Commission passes where each of its four stages finds no failing item. -/
theorem phaseRequests : Obligations.PhaseRequests := by
  intro tag s hs
  dsimp only
  rw [← firstAtWork_eq_none]
  refine ⟨fun h => ?_, fun h fails => ?_, fun h passes => ?_, fun h => ?_, fun h works => ?_, fun h rests => ?_, fun rests => ?_,
    fun works => ?_⟩
  · exact refuses_of rfl hs fun v _ => by exact ownCommission_state (s := { s with supervision := v }) h
  · rcases Option.eq_none_or_eq_some (commissionFailure s) with e | ⟨x, e⟩
    · obtain ⟨⟨wells, turbine, heating, sites⟩, ⟨demand, governor, bypass, dosing⟩, floors, curve⟩ := commissionFailure_eq_none.mp e
      rw [HeatingConfig.complete_iff] at bypass curve
      exact absurd ⟨wells, turbine, heating, sites, demand, governor, bypass, dosing, floors, curve⟩ fails
    · exact ⟨_, refuses_of rfl hs fun v _ => by exact ownCommission_badConfig (s := { s with supervision := v }) h e⟩
  · obtain ⟨wells, turbine, heating, sites, demand, governor, bypass, dosing, floors, curve⟩ := passes
    rw [← HeatingConfig.complete_iff] at bypass curve
    have e := commissionFailure_eq_none.mpr ⟨⟨wells, turbine, heating, sites⟩, ⟨demand, governor, bypass, dosing⟩, floors, curve⟩
    exact replies_of rfl hs fun v _ => ⟨_, by exact ownCommission_ok (s := { s with supervision := v }) h e, setRun_only _, fun t ht _ => by
      obtain ⟨initialising, power, low, cause, phase⟩ : Same .phase _ t := ht .phase (by decide)
      obtain ⟨timer, counter⟩ : Same .monitor _ t := ht .monitor (by decide)
      exact ⟨phase, initialising.trans hs.1.1, cause, power, low, timer, counter⟩⟩
  · exact refuses_of rfl hs fun v _ => by exact ownDecommission_phase (s := { s with supervision := v }) h
  · obtain ⟨x, e⟩ := Option.ne_none_iff_exists'.mp works
    exact ⟨_, refuses_of rfl hs fun v _ => by exact ownDecommission_atWork (s := { s with supervision := v }) h e⟩
  · exact replies_of rfl hs fun v _ => ⟨_, by exact ownDecommission_ok (s := { s with supervision := v }) h rests,
      decommissioned_only _, fun t ht _ => by
        exact decommissioned_leaves (s := { s with supervision := v }) hs.1.1 ht⟩
  · exact replies_of rfl hs fun v _ => ⟨_, by exact ownSoftReset_ok (s := { s with supervision := v }) rests,
      setResetPending_only _ true, fun t ht _ => ht .resetPending (by decide)⟩
  · obtain ⟨x, e⟩ := Option.ne_none_iff_exists'.mp works
    exact ⟨_, refuses_of rfl hs fun v _ => by exact ownSoftReset_atWork (s := { s with supervision := v }) e⟩

end

section
/-! PROOFS. The bytes of replies, the record of a point and the reading requests (R18, R209). -/

namespace Sys2Proof.Machine

-- One after the other: see Laws/Frames.lean.
set_option Elab.async false

/-! ### Numbers (R209) -/

theorem putWord_eq (n : Nat) : putWord n = [BitVec.ofNat 8 (n / 256), BitVec.ofNat 8 n] := by
  simp [putWord, Wire.putNat]

theorem putLong_eq (n : Nat) : putLong n = putWord (n / 65536) ++ putWord n := by
  simp [putLong, putWord, Wire.putNat, Nat.div_div_eq_div_mul]

theorem putBool_eq (b : Bool) : Wire.putBool b = [if b then 1 else 0] := by cases b <;> rfl

/-- A class value is the 24 bits of its two's complement, high byte first. -/
theorem putClass_eq (v : Int) : Wire.putClass v = let w := BitVec.ofInt 24 v
    [w.extractLsb' 16 8, w.extractLsb' 8 8, w.extractLsb' 0 8] := by
  have number (k : Nat) : (BitVec.ofInt 24 v).extractLsb' k 8 = BitVec.ofNat 8 ((v % (256 ^ 3 : Nat)).toNat >>> k) := by
    rw [BitVec.extractLsb', BitVec.toNat_ofInt]
    rfl
  simp [Wire.putClass, Wire.putInt, Wire.putNat, number, Nat.shiftRight_eq_div_pow]

/-! ### The point record (section 10.8) -/

theorem Point.usableValue_eq (p : Point) : p.usableValue = if p.quality = .good ∨ p.quality = .held then p.value
    else if p.quality = .subst then p.cfg.substitute else none := by
  unfold Point.usableValue
  cases p.quality <;> rfl

/-- Two numbers of four bits in one byte. -/
theorem nibbles (f l : Fin 16) : BitVec.ofNat 8 (16 * f.val + l.val) = BitVec.ofNat 4 f.val ++ BitVec.ofNat 4 l.val := by
  revert f l; decide

theorem flagByte_bits (u c a b v : Bool) (q : Quality) :
    let flags : Byte := BitVec.ofNat 8 (bit 128 u + bit 64 c + bit 32 a + bit 16 b + bit 8 v + q.code)
    flags.getLsbD 7 = u ∧ flags.getLsbD 6 = c ∧ flags.getLsbD 5 = a ∧ flags.getLsbD 4 = b ∧ flags.getLsbD 3 = v ∧
      flags.extractLsb' 0 3 = BitVec.ofNat 3 q.code := by
  revert u c a b v
  cases q <;> decide

theorem putPointRecord_eq (p : Point) : putPointRecord p =
    [BitVec.ofNat 8 (16 * p.cfg.source.code + p.cfg.cls.code),
      BitVec.ofNat 8 (bit 128 p.usableValue.isSome + bit 64 p.clampedFlag + bit 32 p.lastAttemptOk + bit 16 p.cfg.substitute.isSome +
        bit 8 p.value.isSome + p.quality.code),
      BitVec.ofNat 8 (16 * p.failCount + p.cfg.failLimit)] ++
    putWord p.age ++ Wire.putClass (p.value.getD 0) ++ Wire.putClass (p.usableValue.getD 0) ++
    Wire.putClass (p.cfg.substitute.getD 0) := by
  unfold putPointRecord
  simp only [putByte_eq, List.cons_append, List.nil_append, List.append_assoc]

/-! ### The requests -/

/-- A reading request replies with the content its owner forms, and nothing changes. -/
theorem reads_of {c : Instr} {tag : Byte} {r : Request} {s : State} (hc : c.request = some (tag, r)) (hs : Ready s) {content : List Byte}
    (own : ∀ v : Supervision, v.state = s.supervision.state →
      applyRequest r { s with supervision := v } = ({ s with supervision := v }, ⟨.ok, content⟩))
    {kind : Nat} (hk : r.kind = kind := by rfl) : Replies c s kind tag .ok content [] (fun _ => True) :=
  refuses_of hc hs own hk

theorem ownIdentify_eq {s : State} (h : s.link.requests = []) : ownIdentify s = let l := s.link
    (s, ⟨.ok, putWord 4620 ++ Wire.putByte 1 ++ putLong (linkRate l.baud1 l.baud0) ++ Wire.putByte (2 * l.baud1.toNat + l.baud0.toNat) ++
      Wire.putByte s.resetCause.code ++ Wire.putByte s.phase.code ++ Wire.putByte s.supervision.state.code ++ putLong s.clock ++
      Wire.putByte 0 ++ Wire.putByte l.replies.length ++ Wire.putBool l.busyPlace.isSome ++ Wire.putBool l.started.isSome ++
      Wire.putBool l.condition.isSome ++ Wire.putBool l.edge.isSome ++ putWord l.discardCount ++ putWord l.busyCount ++
      putWord l.busyLostCount⟩) := by
  unfold ownIdentify
  dsimp only
  rw [h]; rfl

theorem ownReadPoints_ok {first count : Nat} (h : 1 ≤ count ∧ count ≤ 16 ∧ first + count ≤ 96) (s : State) :
    ownReadPoints first count s = (s, ⟨.ok,
      Wire.putByte first ++ Wire.putByte count ++ putAll putPointRecord ((s.points.toList.drop first).take count)⟩) := by
  obtain ⟨low, high, last⟩ := h
  unfold ownReadPoints
  rw [withinNat_iff.mpr ⟨low, high⟩, decide_eq_true last]; rfl

theorem ownReadPoints_badField {first count : Nat} (h : ¬ (1 ≤ count ∧ count ≤ 16 ∧ first + count ≤ 96)) (s : State) :
    ownReadPoints first count s = (s, ⟨.badField, []⟩) := by
  unfold ownReadPoints
  rw [if_neg (by rwa [Bool.and_eq_true, withinNat_iff, decide_eq_true_eq, and_assoc])]; rfl

theorem ownReadLine_ok {view : Nat} {v : LineView} (h : LineView.choices[view]? = some v) (i : Fin 3) (s : State) :
    ownReadLine i.val view s = (s, ⟨.ok, putLineView s.lines[i] v⟩) := by
  have chosen : choice LineView.choices view = some v := h
  unfold ownReadLine
  rw [ident_val, chosen]; rfl

theorem ownReadLine_badField {line view : Nat} (h : 3 ≤ line ∨ 4 ≤ view) (s : State) :
    ownReadLine line view s = (s, ⟨.badField, []⟩) := by
  unfold ownReadLine
  rcases h with h | h
  · rw [ident_none h]; rfl
  · have chosen : choice LineView.choices view = none := List.getElem?_eq_none h
    rw [chosen]
    cases ident 3 line <;> rfl

theorem ownReadWell_ok (k : Fin 8) (s : State) : ownReadWell k.val s = (s, ⟨.ok, putWell k s⟩) := by
  unfold ownReadWell
  rw [ident_val]; rfl

theorem ownReadWell_badField {well : Nat} (h : 8 ≤ well) (s : State) : ownReadWell well s = (s, ⟨.badField, []⟩) := by
  unfold ownReadWell
  rw [ident_none h]; rfl

theorem ownReadSite_badField {site : Nat} (h : 12 ≤ site) (view : SiteView) (s : State) :
    ownReadSite site view s = (s, ⟨.badField, []⟩) := by
  unfold ownReadSite
  rw [ident_none h]; rfl

theorem ownReadSite_status (i : Fin 12) (s : State) : ownReadSite i.val .status s = (s, ⟨.ok, putSiteStatus s s.sites[i]⟩) := by
  unfold ownReadSite
  rw [ident_val]; rfl

theorem ownReadSite_ring {first count : Nat} (h : first ≤ 59 ∧ 1 ≤ count ∧ count ≤ 30) (i : Fin 12) (s : State) :
    ownReadSite i.val (.ring first count) s = (s, ⟨.ok,
      Wire.putByte s.sites[i].ring.length ++ putList putMinute ((s.sites[i].ring.drop first).take count)⟩) := by
  unfold ownReadSite
  rw [ident_val]; dsimp only
  rw [withinNat_iff.mpr h.2, decide_eq_true h.1]; rfl

theorem ownReadSite_noRing {first count : Nat} (h : ¬ (first ≤ 59 ∧ 1 ≤ count ∧ count ≤ 30)) (i : Fin 12) (s : State) :
    ownReadSite i.val (.ring first count) s = (s, ⟨.badField, []⟩) := by
  unfold ownReadSite
  rw [ident_val]; dsimp only
  rw [if_neg (by rwa [Bool.and_eq_true, withinNat_iff, decide_eq_true_eq])]; rfl

theorem ownReadConstraints_badField {view : Nat} (h : 2 ≤ view) (s : State) : ownReadConstraints view s = (s, ⟨.badField, []⟩) := by
  obtain ⟨n, rfl⟩ := Nat.exists_eq_add_of_le h
  rw [Nat.add_comm]; rfl

/-- What the views of one well, the governor, heating and a site tell does not depend on supervision. -/
theorem putRecords_heard (s : State) (v : Supervision) :
    (∀ k, putWell k { s with supervision := v } = putWell k s) ∧ putTurbine { s with supervision := v } = putTurbine s ∧
      putHeating { s with supervision := v } = putHeating s ∧ ∀ x, putSiteStatus { s with supervision := v } x = putSiteStatus s x :=
  ⟨fun _ => rfl, rfl, rfl, fun _ => rfl⟩

end Sys2Proof.Machine

open Sys2Proof Sys2Proof.Machine

/-- Settles O55: each reading request answers with the record its owner forms and leaves the part as it is. -/
theorem readingChangesNothing : Obligations.ReadingChangesNothing := by
  refine ⟨fun v n b => ⟨putClass_eq v, putWord_eq n, ?_, putByte_eq n, putBool_eq b, rfl, ?_⟩, Point.usableValue_eq, fun p hf hl => ?_,
    fun tag s hs => ?_⟩
  · rw [putLong_eq, putWord_eq, putWord_eq]
  · exact congrArg (List.cons 1) (putClass_eq v)
  · obtain ⟨usable, clamped, ok, substitute, value, quality⟩ := flagByte_bits p.usableValue.isSome p.clampedFlag p.lastAttemptOk
      p.cfg.substitute.isSome p.value.isSome p.quality
    refine ⟨_, (putPointRecord_eq p).trans ?_, usable, clamped, ok, substitute, value, quality.trans (by cases p.quality <;> rfl)⟩
    have kinds := nibbles ⟨p.cfg.source.code, by cases p.cfg.source <;> decide⟩ ⟨p.cfg.cls.code, by cases p.cfg.cls <;> decide⟩
    have limits := nibbles ⟨p.failCount, by omega⟩ ⟨p.cfg.failLimit, by omega⟩
    dsimp only at kinds limits ⊢
    rw [kinds, limits, putWord_eq, putClass_eq, putClass_eq, putClass_eq]
    cases p.cfg.source <;> cases p.cfg.cls <;> rfl
  · dsimp only
    refine ⟨?_, fun first count => ⟨fun low high last => ?_, fun out => ?_⟩, fun line view => ⟨?_, fun out => ?_⟩, fun well => ⟨?_, fun out => ?_⟩,
      ?_, ?_, fun site view => ⟨fun out => ?_, ?_⟩, fun view => ⟨?_, ?_, fun out => ?_⟩, ?_⟩
    · exact reads_of rfl hs fun v hv => by
        rw [← hv]
        exact ownIdentify_eq (s := { s with supervision := v }) hs.2.1
    · exact reads_of rfl hs fun v _ => by exact ownReadPoints_ok ⟨low, high, last⟩ _
    · exact refuses_of rfl hs fun v _ => by exact ownReadPoints_badField out _
    · rintro i view' rfl chosen
      exact reads_of rfl hs fun v _ => by exact ownReadLine_ok chosen i _
    · exact refuses_of rfl hs fun v _ => by exact ownReadLine_badField out _
    · rintro k rfl
      exact reads_of rfl hs fun v _ => by exact (ownReadWell_ok k _).trans (by rw [(putRecords_heard s v).1])
    · exact refuses_of rfl hs fun v _ => by exact ownReadWell_badField out _
    · exact reads_of rfl hs fun v _ => by exact congrArg (fun x => (_, Answer.mk .ok x)) (putRecords_heard s v).2.1
    · exact reads_of rfl hs fun v _ => by exact congrArg (fun x => (_, Answer.mk .ok x)) (putRecords_heard s v).2.2.1
    · exact refuses_of rfl hs fun v _ => by exact ownReadSite_badField out _ _
    · rintro i rfl
      refine ⟨?_, ?_⟩
      · rintro rfl
        exact reads_of rfl hs fun v _ => by exact (ownReadSite_status i _).trans (by rw [(putRecords_heard s v).2.2.2])
      · rintro first count rfl
        refine ⟨fun h1 h2 h3 => ?_, fun out => ?_⟩
        · exact reads_of rfl hs fun v _ => by exact ownReadSite_ring ⟨h1, h2, h3⟩ i _
        · exact refuses_of rfl hs fun v _ => by exact ownReadSite_noRing (by omega) i _
    · rintro rfl
      exact reads_of rfl hs fun v _ => by rfl
    · rintro rfl
      exact reads_of rfl hs fun v _ => by rfl
    · exact refuses_of rfl hs fun v _ => by exact ownReadConstraints_badField out _
    · exact reads_of rfl hs fun v _ => by rfl

end

section
/-! PROOFS. The table of the condition set, and what the end of an event does to the condition unit (R182 to R191). -/

namespace Sys2Proof.Machine

-- One after the other: see Laws/Frames.lean.
set_option Elab.async false

/-! ### The table (section 9.1) -/

theorem serviceDue_iff (s : State) : Member.serviceDue.found s = true ↔
    ∃ i : Fin 12, s.sites[i].cfg.kind ≠ .none ∧ s.sites[i].cfg.serviceDose ≤ s.sites[i].cumulativeDose := by
  unfold Member.found
  rw [any_toList]
  exact exists_congr fun i => by rw [Bool.and_eq_true, decide_eq_true_eq, decide_eq_true_eq]

theorem scaleInputLost_iff (s : State) : Member.scaleInputLost.found s = true ↔
    ∃ i : Fin 12, s.sites[i].enabled = true ∧ s.sites[i].inputsLost = true := by
  unfold Member.found
  rw [any_toList]
  exact exists_congr fun i => by rw [Bool.and_eq_true]

theorem pointFailed_iff (s : State) : Member.pointFailed.found s = true ↔
    ∃ i : Fin 96, s.points[i].cfg.source ≠ .none ∧ (s.points[i].quality = .failed ∨ s.points[i].quality = .subst) := by
  unfold Member.found
  rw [any_toList]
  refine exists_congr fun i => ?_
  rw [Bool.and_eq_true, Point.configured, decide_eq_true_eq]
  refine and_congr_right fun _ => ?_
  cases s.points[i].quality <;> simp [Quality.isFailed]

theorem estop_iff (s : State) : Member.estop.found s = true ↔
    let l := s.discretes[(19 : Fin 24)]; l.cfg.role = true ∧ l.cfg.out = false ∧ l.level = true := by
  show (_ && !_ && _) = true ↔ _
  rw [Bool.and_eq_true, Bool.and_eq_true, Bool.not_eq_true', and_assoc]
  rfl

/-- What the owner of a member finds is the column "Set while" of its number. -/
theorem found_iff (s : State) (n : Fin 42) : (Member.ofNumber n).found s = true ↔ SetWhile s n := by
  unfold Member.ofNumber SetWhile
  by_cases is0 : n.val < 8
  · rw [dif_pos is0, dif_pos is0]; exact decide_eq_true_iff
  rw [dif_neg is0, dif_neg is0]
  by_cases is1 : n.val < 16
  · rw [dif_pos is1, dif_pos is1]; exact decide_eq_true_iff
  rw [dif_neg is1, dif_neg is1]
  by_cases is2 : n.val = 16
  · rw [if_pos is2, if_pos is2]; exact decide_eq_true_iff
  rw [if_neg is2, if_neg is2]
  by_cases is3 : n.val = 17
  · rw [if_pos is3, if_pos is3]; exact .rfl
  rw [if_neg is3, if_neg is3]
  by_cases is4 : n.val = 18
  · rw [if_pos is4, if_pos is4]; exact .rfl
  rw [if_neg is4, if_neg is4]
  by_cases is5 : n.val = 19
  · rw [if_pos is5, if_pos is5]; exact .rfl
  rw [if_neg is5, if_neg is5]
  by_cases is6 : n.val = 20
  · rw [if_pos is6, if_pos is6]; exact decide_eq_true_iff
  rw [if_neg is6, if_neg is6]
  by_cases is7 : n.val < 33
  · rw [dif_pos is7, dif_pos is7]; exact decide_eq_true_iff
  rw [dif_neg is7, dif_neg is7]
  by_cases is8 : n.val = 33
  · rw [if_pos is8, if_pos is8]; exact serviceDue_iff s
  rw [if_neg is8, if_neg is8]
  by_cases is9 : n.val = 34
  · rw [if_pos is9, if_pos is9]; exact scaleInputLost_iff s
  rw [if_neg is9, if_neg is9]
  by_cases is10 : n.val < 38
  · rw [dif_pos is10, dif_pos is10]; exact decide_eq_true_iff
  rw [dif_neg is10, dif_neg is10]
  by_cases is11 : n.val = 38
  · rw [if_pos is11, if_pos is11]; exact pointFailed_iff s
  rw [if_neg is11, if_neg is11]
  by_cases is12 : n.val = 39
  · rw [if_pos is12, if_pos is12]; exact any_toList _ _
  rw [if_neg is12, if_neg is12]
  by_cases is13 : n.val = 40
  · rw [if_pos is13, if_pos is13]; exact estop_iff s
  rw [if_neg is13, if_neg is13]
  exact (Bool.or_eq_true _ _).to_iff.trans (or_congr decide_eq_true_iff decide_eq_true_iff)

theorem setOnly_iff : ∀ n : Fin 42, (Member.ofNumber n).either = false ↔ SetOnly n := by
  unfold SetOnly
  decide

/-! ### An end of an event that finds everything settled -/

theorem modifyAt_self {α : Type} {n : Nat} (v : Vector α n) (i : Fin n) (f : α → α) (h : f v[i] = v[i]) : modifyAt v i f = v := by
  refine Vector.ext fun j hj => ?_
  have at_j := modifyAt_get v i ⟨j, hj⟩ f
  by_cases e : i = ⟨j, hj⟩
  · subst e
    rw [if_pos rfl, h] at at_j
    exact at_j
  · rw [if_neg e] at at_j
    exact at_j

theorem commandRole_follows_self {d : Fin 24} {c : Bool} {s : State} (h : s.discretes[d].Follows c) : commandRole d c s = s := by
  obtain ⟨role, driven⟩ := h
  have stands : s.discretes[d].setRoleCommand c = s.discretes[d] := by
    subst role
    unfold Discrete.setRoleCommand
    split
    · rename_i inRole
      exact if_pos (driven inRole)
    · rfl
  unfold commandRole State.modDiscrete
  rw [modifyAt_self _ _ _ stands]

theorem forEach_self {σ : Type} (n : Nat) (f : Fin n → σ → σ) (s : σ) (h : ∀ i, f i s = s) : forEach n f s = s := by
  unfold forEach
  generalize indexes n = l
  induction l with
  | nil => rfl
  | cons i l ih => rw [List.foldl_cons, h i, ih]

theorem settleOutputs_self {s : State} (h : OwnersFollowed s) : settleOutputs s = s := by
  obtain ⟨runs, valve, breaker⟩ := h
  unfold settleOutputs
  rw [forEach_self 8 (fun k s => commandRole (runLine k) s.wells[k].state.energised s) s fun k => commandRole_follows_self (runs k)]
  dsimp only
  rw [commandRole_follows_self valve, commandRole_follows_self breaker]

theorem takeUpLive_self {s : State} (live : LiveFollows s) (alarm : s.discretes[alarmLine].Follows s.conditions.unsilenced.nonempty) :
    takeUpLive s = s := by
  obtain ⟨now, held⟩ := live
  have same : s.conditions.takeUp s.conditions.live (liveNow s) = s.conditions := by
    rw [← now]
    unfold Conditions.takeUp
    rw [unsilencedAfter_same held]
  have stands : s.modConditions (Conditions.takeUp s.conditions.live (liveNow s)) = s := by
    unfold State.modConditions
    rw [same]
  rw [takeUpLive_eq, stands]
  exact commandRole_follows_self alarm

theorem watchedChange_iff {before after watch : MemberSet} : watchedChange before after watch = true ↔
    ∃ n : Fin 42, watch[n] = true ∧ before[n] ≠ after[n] ∧ (¬ SetOnly n ∨ after[n] = true) := by
  unfold watchedChange
  rw [any_indexes]
  refine exists_congr fun n => ?_
  rw [← setOnly_iff n, Bool.not_eq_false, Bool.and_eq_true, Bool.and_eq_true, Bool.or_eq_true, bne_iff_ne, and_assoc]

theorem settleConditions_self {s : State} (live : LiveFollows s)
    (alarm : s.discretes[alarmLine].Follows s.conditions.unsilenced.nonempty) : settleConditions s = s := by
  have none : watchedChange s.conditions.live s.conditions.live s.conditions.watch = false := by
    rw [Bool.eq_false_iff, ne_eq, watchedChange_iff]
    rintro ⟨n, -, differs, -⟩
    exact differs rfl
  unfold settleConditions
  dsimp only
  rw [takeUpLive_self live alarm, takeUpLive_self live alarm, none, Bool.and_false]
  rfl

/-- Where outputs and conditions stand settled the end of an event changes nothing. -/
theorem settle_self {s : State} (outputs : OutputsFollow s) (live : LiveFollows s) : settle s = s := by
  obtain ⟨owners, alarm⟩ := (outputsFollow_iff s).mp outputs
  unfold settle
  rw [settleOutputs_self owners]
  exact settleConditions_self live alarm

/-! ### An end of an event that takes up changes -/

/-- A watched change that is counted (R183). -/
def Counted (watch before after : MemberSet) : Prop :=
  ∃ n : Fin 42, watch[n] = true ∧ before[n] ≠ after[n] ∧ (¬ SetOnly n ∨ after[n] = true)

/-- The number of the next snapshot (R184). -/
def Conditions.next (c : Conditions) : Nat := if c.number < 65535 then c.number + 1 else 0

/-- The members of a snapshot's changed set: those of a notice still pending and those that differ from the last frozen ones (R184,
R187). -/
def changedSince (notice : Option ConditionNotice) (live frozen : MemberSet) (n : Fin 42) : Bool :=
  (notice.map (fun m => m.changed[n])).getD false || live[n] != frozen[n]

/-- What the condition unit has done at the end of an event with the changes since a record and a pending notice (R182 to R189). -/
structure TookUp (a : Conditions) (notice : Option ConditionNotice) (t : State) : Prop where
  live : t.conditions.live = liveNow t
  watch : t.conditions.watch = a.watch
  horn : t.conditions.horn = a.horn
  unsilenced : ∀ n : Fin 42, t.conditions.unsilenced[n] = (t.conditions.live[n] && (a.unsilenced[n] || (a.horn[n] && !a.live[n])))
  stands : a.held = true ∨ ¬ Counted a.watch a.live t.conditions.live →
    t.conditions.held = a.held ∧ t.conditions.number = a.number ∧ t.conditions.frozen = a.frozen ∧ t.conditions.changed = a.changed ∧
      t.conditions.frozenAt = a.frozenAt ∧ t.link.condition = notice
  freezes : a.held = false → Counted a.watch a.live t.conditions.live →
    t.conditions.held = true ∧ t.conditions.number = a.next ∧ t.conditions.frozen = t.conditions.live ∧
      t.conditions.frozenAt = t.clock ∧ (∀ n : Fin 42, t.conditions.changed[n] = changedSince notice t.conditions.live a.frozen n) ∧
      t.link.condition = some ⟨a.next, t.conditions.live, t.conditions.changed, t.clock⟩

theorem MemberSet.union_get (a b : MemberSet) (n : Fin 42) : (a.union b)[n] = (a[n] || b[n]) := by simp [MemberSet.union]

theorem MemberSet.differ_get (a b : MemberSet) (n : Fin 42) : (a.differ b)[n] = (a[n] != b[n]) := by simp [MemberSet.differ]

/-- A freeze, by the values it stores. -/
theorem freeze_stores (s : State) : ∃ changed : MemberSet,
    (∀ n : Fin 42, changed[n] = changedSince s.link.condition s.conditions.live s.conditions.frozen n) ∧
    (freeze s).conditions = { s.conditions with
      held := true, number := s.conditions.next, frozen := s.conditions.live, changed := changed, frozenAt := s.clock } ∧
    (freeze s).link = { s.link with condition := some ⟨s.conditions.next, s.conditions.live, changed, s.clock⟩ } := by
  refine ⟨match s.link.condition with
    | some n => MemberSet.union n.changed (MemberSet.differ s.conditions.live s.conditions.frozen)
    | none => MemberSet.differ s.conditions.live s.conditions.frozen, fun n => ?_, rfl, rfl⟩
  unfold changedSince
  cases s.link.condition with
  | none => exact MemberSet.differ_get _ _ n
  | some m => exact (MemberSet.union_get _ _ n).trans (by rw [MemberSet.differ_get]; rfl)

/-- What the second taking up finds anew was found by the first (log 30). -/
theorem liveNow_takeUpLive (s : State) (n : Fin 42) (h : (liveNow (takeUpLive s))[n] = true) : (liveNow s)[n] = true := by
  rw [liveNow_get] at *
  rcases found_congr (takeUpLive_only s) (takeUpLive_estop s) (Member.ofNumber n) with e | e
  · rw [e] at h ⊢
    exact takeUpLive_mismatch s h
  · rw [← e]; exact h

theorem takenUp_conditions (s : State) : ∃ live unsilenced : MemberSet,
    (takeUpLive (takeUpLive s)).conditions = { s.conditions with live := live, unsilenced := unsilenced } ∧
    ∀ n : Fin 42, unsilenced[n] = (live[n] && (s.conditions.unsilenced[n] || (s.conditions.horn[n] && !s.conditions.live[n]))) := by
  have twice : (takeUpLive (takeUpLive s)).conditions =
      (s.conditions.takeUp s.conditions.live (liveNow s)).takeUp (liveNow s) (liveNow (takeUpLive s)) := by
    rw [takeUpLive_conditions, takeUpLive_conditions, Conditions.takeUp_live]
  have shrinks := liveNow_takeUpLive s
  generalize liveNow (takeUpLive s) = second at *
  generalize liveNow s = first at *
  refine ⟨second, _, twice, fun n => ?_⟩
  rw [unsilencedAfter_get, Conditions.takeUp_unsilenced, unsilencedAfter_get]
  cases e : second[n] with
  | false => rfl
  | true => rw [shrinks n e]; simp

/-- The snapshot frozen where the changes since a live set hold a counted one (R183, R184). -/
def reported (before : MemberSet) (s : State) : State :=
  if !s.conditions.held && watchedChange before s.conditions.live s.conditions.watch then freeze s else s

theorem reported_tookUp {a : Conditions} {live unsilenced : MemberSet} {s : State}
    (conditions : s.conditions = { a with live := live, unsilenced := unsilenced })
    (rings : ∀ n : Fin 42, unsilenced[n] = (live[n] && (a.unsilenced[n] || (a.horn[n] && !a.live[n])))) (follows : LiveFollows s) :
    TookUp a s.link.condition (reported a.live s) := by
  unfold reported
  rw [conditions]
  dsimp only
  by_cases freezes : a.held = false ∧ Counted a.watch a.live live
  · rw [if_pos (by rw [freezes.1, Bool.not_false, Bool.true_and]; exact watchedChange_iff.mpr freezes.2)]
    obtain ⟨changed, differs, stored, notice⟩ := freeze_stores s
    have now := (freeze_follows.1 follows).1
    have clock : (freeze s).clock = s.clock := rfl
    rw [conditions] at stored differs notice
    refine ⟨now, by rw [stored], by rw [stored], fun n => by rw [stored]; exact rings n, fun h => ?_, fun _ _ => ?_⟩
    · rw [stored] at h
      exact absurd h (not_or.mpr ⟨by rw [freezes.1]; nofun, not_not.mpr freezes.2⟩)
    · rw [stored, notice, clock]
      exact ⟨rfl, rfl, rfl, rfl, differs, rfl⟩
  · rw [if_neg (by rw [Bool.and_eq_true, Bool.not_eq_true', watchedChange_iff]; exact freezes)]
    refine ⟨follows.1, by rw [conditions], by rw [conditions], fun n => by rw [conditions]; exact rings n, fun _ => ?_, fun free counted => ?_⟩
    · rw [conditions]
      exact ⟨rfl, rfl, rfl, rfl, rfl, rfl⟩
    · rw [conditions] at counted
      exact absurd ⟨free, counted⟩ freezes

theorem settleConditions_tookUp (s : State) : TookUp s.conditions s.link.condition (settleConditions s) := by
  obtain ⟨live, unsilenced, conditions, rings⟩ := takenUp_conditions s
  have link : (takeUpLive (takeUpLive s)).link.condition = s.link.condition := by rw [takeUpLive_eq, takeUpLive_eq]; rfl
  have took := reported_tookUp conditions rings (takenUp_live s)
  rw [link] at took
  exact took

theorem settle_tookUp (s : State) : TookUp s.conditions s.link.condition (settle s) := by
  have before := settleOutputs_only s .conditions (by decide)
  simp only [Exact, Prod.mk.injEq] at before
  have took := settleConditions_tookUp (settleOutputs s)
  rw [before.1, before.2] at took
  exact took

/-! ### The transmitter at the end of such an event -/

theorem modLink_found (s : State) (g : Link → Link) (m : Member) : m.found (s.modLink g) = m.found s := by cases m <;> rfl

theorem queueEdgeNotice_discrete (s : State) (d : Fin 24) : (queueEdgeNotice s).discretes[d] =
    if s.discretes[d].edgeSeen then { s.discretes[d] with edgeReported := true } else s.discretes[d] :=
  modifyAll_get s.discretes d (fun _ l => if l.edgeSeen then { l with edgeReported := true } else l)

theorem queueEdgeNotice_bank (s : State) : (queueEdgeNotice s).discretes =
    modifyAll s.discretes (fun _ l => if l.edgeSeen then { l with edgeReported := true } else l) := rfl

theorem queueEdgeNotice_found (s : State) (m : Member) : m.found (queueEdgeNotice s) = m.found s := by
  have flag (l : Discrete) : (if l.edgeSeen then { l with edgeReported := true } else l).mismatch = l.mismatch := by split <;> rfl
  have mismatch : (queueEdgeNotice s).discretes.toList.any (fun l => l.mismatch) = s.discretes.toList.any (fun l => l.mismatch) :=
    any_modifyAll _ (queueEdgeNotice_bank s) (fun _ l => flag l)
  have estop : estopActive (queueEdgeNotice s) = estopActive s := by
    unfold estopActive
    rw [queueEdgeNotice_discrete]
    split <;> rfl
  have only := queueEdgeNotice_only s
  have wells : (queueEdgeNotice s).wells = s.wells := only .wells (by decide)
  have turbine : (queueEdgeNotice s).turbine = s.turbine := only .turbine (by decide)
  have heating : (queueEdgeNotice s).heating = s.heating := only .heating (by decide)
  have sites : (queueEdgeNotice s).sites = s.sites := only .sites (by decide)
  have lines : (queueEdgeNotice s).lines = s.lines := only .lines (by decide)
  have points : (queueEdgeNotice s).points = s.points := only .points (by decide)
  have supervision : (queueEdgeNotice s).supervision = s.supervision := only .supervision (by decide)
  cases m <;> unfold Member.found <;>
    simp only [wells, turbine, heating, sites, lines, points, supervision, mismatch, estop]

/-- A part whose outputs and conditions stand settled, and what an operation of the link that leaves them does. -/
structure Keeps (s t : State) : Prop where
  live : liveNow t = liveNow s
  conditions : t.conditions = s.conditions
  clock : t.clock = s.clock
  settled : OutputsFollow s ∧ LiveFollows s → OutputsFollow t ∧ LiveFollows t

theorem Keeps.refl (s : State) : Keeps s s := ⟨rfl, rfl, rfl, id⟩

theorem Keeps.trans {a b c : State} (h : Keeps a b) (k : Keeps b c) : Keeps a c :=
  ⟨k.live.trans h.live, k.conditions.trans h.conditions, k.clock.trans h.clock, fun s => k.settled (h.settled s)⟩

theorem modLink_keeps (s : State) (g : Link → Link) : Keeps s (s.modLink g) :=
  ⟨liveNow_eq (modLink_found s g), rfl, rfl,
    settled_congr (modLink_found s g) rfl (fun _ => ⟨rfl, rfl, rfl, rfl⟩) (fun _ => rfl) ⟨rfl, rfl⟩⟩

theorem queueEdgeNotice_keeps (s : State) : Keeps s (queueEdgeNotice s) := by
  have only := queueEdgeNotice_only s
  have wells : (queueEdgeNotice s).wells = s.wells := only .wells (by decide)
  have turbine : (queueEdgeNotice s).turbine = s.turbine := only .turbine (by decide)
  have conditions := only .conditions (by decide)
  have clock := only .clock (by decide)
  simp only [Exact, Prod.mk.injEq] at conditions clock
  refine ⟨liveNow_eq (queueEdgeNotice_found s), conditions.1, clock.1, settled_congr (queueEdgeNotice_found s) conditions.1 (fun d => ?_)
    (fun k => by rw [wells]) (by rw [turbine]; exact ⟨rfl, rfl⟩)⟩
  rw [queueEdgeNotice_discrete]
  split <;> exact ⟨rfl, rfl, rfl, rfl⟩

theorem followEdges_keeps (s : State) : Keeps s (followEdges s) := by
  unfold followEdges
  split
  · exact queueEdgeNotice_keeps s
  · exact .refl s

/-- The beginning of a reply takes no request. -/
def Link.TakesNone (l : Link) : Prop := l.replies ≠ [] → l.requests = [] ∨ l.softResetPending = true

theorem takeRequests_waits (n : Nat) {s : State} (h : s.link.requests = [] ∨ s.link.softResetPending = true) : takeRequests n s = s := by
  cases n with
  | zero => rfl
  | succ n =>
    unfold takeRequests
    split
    · rfl
    · rename_i waits
      rw [h.resolve_left (by rw [waits]; nofun), Bool.not_true, Bool.and_false]
      rfl

/-- What the arbiter chooses stands where it chose it. -/
theorem arbiter_reply {l : Link} {f : Frame} (h : arbiter l = some (.reply f)) : l.replies ≠ [] := by
  unfold arbiter noticeChoice at h
  repeat' split at h
  all_goals simp_all

theorem arbiter_condition {l : Link} {f : Frame} (h : arbiter l = some (.condition f)) :
    l.replies = [] ∧ ∃ n, l.condition = some n ∧ f = conditionFrame n := by
  unfold arbiter noticeChoice at h
  repeat' split at h
  all_goals simp_all

theorem beginChoice_keeps {c : Choice} {s : State} (chosen : arbiter s.link = some c) (free : s.link.TakesNone) :
    Keeps s (beginChoice c s) := by
  cases c with
  | reply f =>
    have waits := free (arbiter_reply chosen)
    have taken := takeRequests_waits 4 (s := s.modLink (fun l => { l with sending := some f, replies := l.replies.drop 1 })) waits
    exact Eq.subst (motive := Keeps s) taken.symm (modLink_keeps s (fun l => { l with sending := some f, replies := l.replies.drop 1 }))
  | busy f => exact modLink_keeps s (fun l => { l with sending := some f, busyPlace := none })
  | started f => exact modLink_keeps s (fun l => { l with sending := some f, started := none })
  | condition f => exact modLink_keeps s (fun l => { l with sending := some f, condition := none })
  | edge f => exact (modLink_keeps s _).trans (followEdges_keeps _)

/-- The chosen CONDITION notice leaves its place; any other choice leaves a pending one there. -/
theorem beginChoice_notice {c : Choice} {s : State} (chosen : arbiter s.link = some c) (free : s.link.TakesNone) :
    (beginChoice c s).link.condition = s.link.condition ∨ s.link.replies = [] ∧ ∃ n, s.link.condition = some n ∧
      (beginChoice c s).link.condition = none ∧ (beginChoice c s).link.sending = some (conditionFrame n) := by
  cases c with
  | reply f =>
    have waits := free (arbiter_reply chosen)
    have taken := takeRequests_waits 4 (s := s.modLink (fun l => { l with sending := some f, replies := l.replies.drop 1 })) waits
    exact .inl (Eq.trans (congrArg (fun s : State => s.link.condition) taken) rfl)
  | busy f => exact .inl rfl
  | started f => exact .inl rfl
  | condition f =>
    obtain ⟨clear, n, pending, rfl⟩ := arbiter_condition chosen
    exact .inr ⟨clear, n, pending, rfl, rfl⟩
  | edge f =>
    left
    show (followEdges _).link.condition = _
    unfold followEdges
    split <;> rfl

/-- What is left of a pending CONDITION notice at the end of an event that began it or let it wait. -/
def NoticeGoes (s : State) (notice : Option ConditionNotice) (t : State) : Prop :=
  t.link.condition = notice ∨
    s.link.sending = none ∧ s.link.replies = [] ∧ ∃ n, notice = some n ∧ t.link.condition = none ∧ t.link.sending = some (conditionFrame n)

/-- An idle transmitter that begins a frame without taking a request changes the link alone. -/
theorem transmit_keeps {s : State} (settled : OutputsFollow s ∧ LiveFollows s) (free : s.link.TakesNone) :
    Keeps s (transmit s) ∧ NoticeGoes s s.link.condition (transmit s) := by
  unfold transmit
  split
  · rename_i c idle chosen
    have kept := beginChoice_keeps chosen free
    obtain ⟨outputs, live⟩ := kept.settled settled
    rw [settle_self outputs live]
    exact ⟨kept, (beginChoice_notice chosen free).imp_right fun h => ⟨idle, h⟩⟩
  · exact ⟨.refl s, .inl rfl⟩

end Sys2Proof.Machine
end

section
/-! PROOFS. ReleaseSnapshot, SetMasks and Silence (R185 to R191). -/

namespace Sys2Proof.Machine

-- One after the other: see Laws/Frames.lean.
set_option Elab.async false

/-- The end of an event with a reply, stretch by stretch. -/
theorem finish_reply_settling (kind tag : Byte) (a : Answer) (u : State) (hr : u.link.requests = [])
    (hi : u.link.sending = none → u.link.replies = [] ∧ u.link.busyPlace = none) : Settling u (finish (placeReply kind tag a u)) := by
  have placed := (placeReply_only kind tag a u).settling
  have settled := settle_settling (placeReply kind tag a u)
  have only := settle_only (placeReply kind tag a u)
  have waiting := only .requests (by decide)
  have under := only .outgoing (by decide)
  simp only [Exact, Prod.mk.injEq] at waiting under
  unfold finish transmit
  split
  · rename_i c idle chosen
    obtain ⟨none, free⟩ := hi (under.2.2.symm.trans idle)
    have replies : (settle (placeReply kind tag a u)).link.replies = [⟨⟨replyKind kind, tag, a.body⟩, u.link.placings⟩] := by
      rw [under.1]
      show u.link.replies ++ _ = _
      rw [none]; rfl
    have busy : (settle (placeReply kind tag a u)).link.busyPlace = Option.none := waiting.2.1.trans free
    unfold arbiter at chosen
    rw [replies, busy] at chosen
    cases chosen
    exact ((placed.trans settled).trans (beginReply_only _ _ (waiting.1.trans hr)).settling).trans (settle_settling _)
  · exact placed.trans settled

/-- What an owner that commands ALARM, and the end of its event, leave of the lines. -/
theorem lines_settled {s u t : State} (wells : u.wells = s.wells) (turbine : u.turbine = s.turbine)
    (lines : ∀ d, LineAsked d (asks s d) s.discretes[d] u.discretes[d]) (settling : Settling u t) : Same .discretes s t := fun d => by
  have closed : u.discretes[breakerClosedLine] = s.discretes[breakerClosedLine] := by
    rcases lines breakerClosedLine with e | ⟨ho, -⟩
    · exact e
    · exact absurd ho (by decide)
  have after := settling.2 d
  rw [asks_eq wells turbine closed d] at after
  exact ((lines d).trans after).settled

/-- A request about the condition unit is answered as its owner answers it, and the end of the event settles what its owner left. -/
theorem reports_of {c : Instr} {tag : Byte} {r : Request} {s : State} (hc : c.request = some (tag, r)) (h : Ready s) {status : Status}
    {content : List Byte} {P : State → Prop}
    (own : ∀ v : Supervision, v.state = s.supervision.state →
      ∃ u, applyRequest r { s with supervision := v } = (u, ⟨status, content⟩) ∧
        Only [.conditions, .discretes] { s with supervision := v } u ∧
        (∀ d, LineAsked d (asks { s with supervision := v } d) s.discretes[d] u.discretes[d]) ∧
        ∀ g t, (u.modLink g).link.condition = u.link.condition → Keeps (settle (u.modLink g)) t →
          t.link.condition = (settle (u.modLink g)).link.condition → Rested t → P t)
    {kind : Nat} (hk : r.kind = kind := by rfl) : Replies c s kind tag status content [.conditions] P := by
  subst hk
  obtain ⟨v, hv, hstate, refreshed⟩ := refreshSupervision_eq s
  obtain ⟨u, answer, only, lines, outcome⟩ := own v hstate
  rw [← hv] at answer only
  obtain ⟨t, he, hu, answered, frame⟩ := onRequest_completes tag r h (by rw [answer]; exact only) (by decide) (by decide)
  have rested : Rested t := event_rested h.1.1 he
  have ended : t = finish (placeReply (BitVec.ofNat 8 r.kind) tag ⟨status, content⟩ u) := by
    have e : onRequest tag r s = .next (finish (arriveRequest tag r s)) := event_running h.1.1
    rw [arriveRequest_ready tag r h, answer] at e
    exact Host.Outcome.next.inj (he.symm.trans e)
  rw [answer] at hu answered
  have waiting := only .requests (by decide)
  have under := only .outgoing (by decide)
  simp only [Exact, Prod.mk.injEq, refreshSupervision_link] at waiting under
  have requests : u.link.requests = [] := waiting.1.trans h.2.1
  have wells : u.wells = s.wells := Eq.trans (only .wells (by decide)) (by rw [hv])
  have turbine : u.turbine = s.turbine := Eq.trans (only .turbine (by decide)) (by rw [hv])
  have settling := finish_reply_settling (BitVec.ofNat 8 r.kind) tag ⟨status, content⟩ u requests fun idle => by
    obtain ⟨replies, busy, -⟩ := h.1.2 (under.2.2.symm.trans idle)
    exact ⟨under.1.trans replies, waiting.2.1.trans busy⟩
  rw [← ended] at settling
  have discretes : Same .discretes s t := lines_settled wells turbine lines settling
  have supervision : t.supervision = v := Eq.trans (hu .supervision (by decide))
    (Eq.trans (only .supervision (by decide)) (congrArg State.supervision hv))
  refine ⟨t, (exec_request hc s).trans he, ?_, answered, by rw [supervision]; exact refreshed, fun p hp => ?_⟩
  · have placed : placeReply (BitVec.ofNat 8 r.kind) tag ⟨status, content⟩ u = u.modLink (fun l =>
      { l with replies := l.replies ++ [⟨⟨replyKind (BitVec.ofNat 8 r.kind), tag, Answer.body ⟨status, content⟩⟩, l.placings⟩],
               placings := l.placings + 1 }) := rfl
    obtain ⟨outputs, live⟩ := settle_follows (placeReply (BitVec.ofNat 8 r.kind) tag ⟨status, content⟩ u)
    have onlySettle := settle_only (placeReply (BitVec.ofNat 8 r.kind) tag ⟨status, content⟩ u)
    have none := onlySettle .requests (by decide)
    have replies := onlySettle .outgoing (by decide)
    simp only [Exact, Prod.mk.injEq] at none replies
    obtain ⟨kept, notice⟩ := transmit_keeps ⟨outputs, live⟩ fun _ => .inl (none.1.trans requests)
    have stays := notice.resolve_right fun ⟨_, clear, _⟩ => by
      rw [replies.1, placed] at clear
      exact absurd clear (List.append_ne_nil_of_right_ne_nil _ (List.cons_ne_nil _ _))
    rw [placed] at ended kept stays
    subst ended
    exact outcome (fun l =>
      { l with replies := l.replies ++ [⟨⟨replyKind (BitVec.ofNat 8 r.kind), tag, Answer.body ⟨status, content⟩⟩, l.placings⟩],
               placings := l.placings + 1 }) _ rfl kept stays rested
  · by_cases e : p = .discretes
    · rw [e]; exact discretes
    · refine frame p fun hm => hp ?_
      simp only [List.mem_cons, List.not_mem_nil, or_false] at hm ⊢
      tauto

/-! ### What the owner leaves settled -/

/-- A condition unit changed in anything but the live and the unsilenced set stands as settled as it stood. -/
theorem modConditions_keeps (s : State) (f : Conditions → Conditions) (live : (f s.conditions).live = s.conditions.live)
    (unsilenced : (f s.conditions).unsilenced = s.conditions.unsilenced) (h : OutputsFollow s ∧ LiveFollows s) :
    OutputsFollow (s.modConditions f) ∧ LiveFollows (s.modConditions f) := by
  obtain ⟨outputs, follows⟩ := h
  have now : liveNow (s.modConditions f) = liveNow s := liveNow_eq fun m => by cases m <;> rfl
  refine ⟨?_, ?_⟩
  · rw [outputsFollow_iff] at *
    obtain ⟨owners, alarm⟩ := outputs
    refine ⟨owners, ?_⟩
    show s.discretes[alarmLine].Follows (f s.conditions).unsilenced.nonempty
    rw [unsilenced]; exact alarm
  · unfold LiveFollows at *
    rw [now]
    show (f s.conditions).live = _ ∧ ∀ n : Fin 42, (f s.conditions).unsilenced[n] = true → (f s.conditions).live[n] = true
    rw [live, unsilenced]
    exact follows

theorem differenceToReport_iff {live frozen watch : MemberSet} : differenceToReport live frozen watch = true ↔
    ∃ n : Fin 42, watch[n] = true ∧ live[n] ≠ frozen[n] ∧ (¬ SetOnly n ∨ live[n] = true) := by
  unfold differenceToReport
  rw [any_indexes]
  refine exists_congr fun n => ?_
  rw [← setOnly_iff n, Bool.not_eq_false, Bool.and_eq_true, Bool.and_eq_true, Bool.or_eq_true, bne_iff_ne, and_assoc]

/-! ### ReleaseSnapshot (R186) -/

theorem ownReleaseSnapshot_free {s : State} (h : s.conditions.held = false) (number : Nat) :
    ownReleaseSnapshot number s = (s, ⟨.ok, Wire.putBool false ++ putWord s.conditions.number⟩) := by
  unfold ownReleaseSnapshot snapshotAnswer
  rw [h]; rfl

theorem ownReleaseSnapshot_other {s : State} {number : Nat} (h : s.conditions.held = true) (hn : number ≠ s.conditions.number) :
    ownReleaseSnapshot number s = (s, ⟨.state, putWord s.conditions.number⟩) := by
  unfold ownReleaseSnapshot
  rw [h, if_neg (by decide), if_pos hn]; rfl

/-- The part with its snapshot FREE. -/
def State.released (s : State) : State := s.modConditions (fun c => { c with held := false })

theorem ownReleaseSnapshot_frees {s : State} (h : s.conditions.held = true)
    (same : ¬ ∃ n : Fin 42, s.conditions.watch[n] = true ∧ s.conditions.live[n] ≠ s.conditions.frozen[n] ∧
      (¬ SetOnly n ∨ s.conditions.live[n] = true)) :
    ownReleaseSnapshot s.conditions.number s = (s.released, ⟨.ok, Wire.putBool false ++ putWord s.conditions.number⟩) := by
  have released : releaseHeld s = s.released := if_neg (differenceToReport_iff.not.mpr same)
  unfold ownReleaseSnapshot
  rw [h, if_neg (by decide), if_neg (not_not.mpr rfl), released]; rfl

theorem ownReleaseSnapshot_freezes {s : State} (h : s.conditions.held = true)
    (differs : ∃ n : Fin 42, s.conditions.watch[n] = true ∧ s.conditions.live[n] ≠ s.conditions.frozen[n] ∧
      (¬ SetOnly n ∨ s.conditions.live[n] = true)) :
    ownReleaseSnapshot s.conditions.number s = (freeze s.released, ⟨.ok, Wire.putBool true ++ putWord s.conditions.next⟩) := by
  have released : releaseHeld s = freeze s.released := if_pos (differenceToReport_iff.mpr differs)
  unfold ownReleaseSnapshot
  rw [h, if_neg (by decide), if_neg (not_not.mpr rfl), released]; rfl

/-! ### ALARM commanded anew -/

theorem MemberSet.le_of_settleAlarm (s : State) (n : Fin 42) (h : (liveNow (settleAlarm s))[n] = true) : (liveNow s)[n] = true := by
  rw [liveNow_get] at *
  rcases found_congr ((settleAlarm_only s).mono (by decide)) (commandRole_roleLevel _ _ _ s) (Member.ofNumber n) with e | e
  · rw [e] at h ⊢
    exact settleAlarm_mismatch s h
  · rw [← e]; exact h

theorem settleConditions_le (s : State) (n : Fin 42) (h : (settleConditions s).conditions.live[n] = true) : (liveNow s)[n] = true := by
  have live : (settleConditions s).conditions.live = liveNow (takeUpLive s) := by
    rw [← takeUpLive_live]
    rcases settleConditions_cases s with e | e <;> rw [e]
    rfl
  rw [live] at h
  exact liveNow_takeUpLive s n h

theorem Discrete.setRoleCommand_noMismatch (c : Bool) (l : Discrete) (h : l.mismatch = false) : (l.setRoleCommand c).mismatch = false :=
  Bool.eq_false_iff.mpr fun e => by rw [Discrete.setRoleCommand_mismatch c l e] at h; cases h

/-- Where D20 shows no mismatch its command leaves the live set as it is. -/
theorem settleAlarm_live {s : State} (h : s.discretes[alarmLine].mismatch = false) : liveNow (settleAlarm s) = liveNow s := by
  refine liveNow_congr ((settleAlarm_only s).mono (by decide)) (commandRole_roleLevel _ _ _ s) ?_
  rw [Bool.eq_iff_iff, anyMismatch_iff, anyMismatch_iff]
  refine exists_congr fun d => ?_
  by_cases e : d = alarmLine
  · subst e
    have after : (settleAlarm s).discretes[alarmLine].mismatch = false := by
      unfold settleAlarm
      rw [commandRole_at, if_pos rfl]
      exact Discrete.setRoleCommand_noMismatch _ _ h
    rw [after, h]
  · rw [settleAlarm_at s e]

/-- The part with an unsilenced set, ALARM following it. -/
def State.rings (f : Conditions → Conditions) (s : State) : State := settleAlarm (s.modConditions f)

section

variable {s : State} {f : Conditions → Conditions} (settled : OutputsFollow s ∧ LiveFollows s)
include settled

theorem rings_owners : OwnersFollowed (s.rings f) :=
  ((outputsFollow_iff s).mp settled.1).1.of_eq (fun d hd => by
    unfold State.rings
    rw [settleAlarm_at _ hd, State.modConditions_discretes]
    exact ⟨rfl, rfl, rfl, rfl⟩) (fun _ => rfl) ⟨rfl, rfl⟩

theorem rings_le (n : Fin 42) (h : (liveNow (s.rings f))[n] = true) : s.conditions.live[n] = true := by
  have shrinks := MemberSet.le_of_settleAlarm _ n h
  have same : liveNow (s.modConditions f) = liveNow s := liveNow_eq fun m => by cases m <;> rfl
  rw [same, ← settled.2.1] at shrinks
  exact shrinks

variable (live : (f s.conditions).live = s.conditions.live)
include live

/-- Where D20 shows no mismatch and the unsilenced set holds members that are set, nothing is left to settle. -/
theorem rings_settled (calm : s.discretes[alarmLine].mismatch = false)
    (held : ∀ n : Fin 42, (f s.conditions).unsilenced[n] = true → s.conditions.live[n] = true) :
    OutputsFollow (s.rings f) ∧ LiveFollows (s.rings f) := by
  have same : liveNow (s.modConditions f) = liveNow s := liveNow_eq fun m => by cases m <;> rfl
  refine ⟨(outputsFollow_iff _).mpr ⟨rings_owners settled, commandRole_follows _ _ _⟩, ?_, fun n hn => ?_⟩
  · unfold State.rings
    rw [settleAlarm_live (s := s.modConditions f) calm, same, ← settled.2.1]
    exact live
  · show (f s.conditions).live[n] = true
    rw [live]
    exact held n hn

end

theorem rings_only (f : Conditions → Conditions) (s : State) : Only [.conditions, .discretes] s (s.rings f) :=
  (State.modConditions_only _ _).seq (settleAlarm_only _)

theorem rings_lines (f : Conditions → Conditions) (s : State) (d : Fin 24) :
    LineAsked d (asks s d) s.discretes[d] (s.rings f).discretes[d] :=
  (settleAlarm_settling (s.modConditions f)).2 d

/-! ### SetMasks (R188, R189) -/

/-- The set of a mask that is given, or the one that stood. -/
def maskGiven (given : Option MemberMask) (kept : MemberSet) : MemberSet :=
  match given with
  | none => kept
  | some m => Vector.ofFn (fun n : Fin 42 => m.getLsbD n.val)

theorem maskOr_eq (given : Option MemberMask) (kept : MemberSet) :
    ((∀ m ∈ given.toList, m.toNat < 2 ^ 42) → maskOr given kept = some (maskGiven given kept)) ∧
      (¬ (∀ m ∈ given.toList, m.toNat < 2 ^ 42) → maskOr given kept = none) := by
  cases given with
  | none => exact ⟨fun _ => rfl, fun h => absurd nofun h⟩
  | some m => exact ⟨fun h => if_pos (h m (by simp)), fun h => if_neg fun hm => h fun k hk => by simp at hk; rw [hk]; exact hm⟩

/-- The members of the unsilenced set that a given horn mask contains. -/
def Conditions.ringing (horn : Option MemberMask) (h : MemberSet) (c : Conditions) : MemberSet :=
  Vector.ofFn (fun n => c.unsilenced[n] && (horn.isNone || h[n]))

theorem Conditions.ringing_get (horn : Option MemberMask) (h : MemberSet) (c : Conditions) (n : Fin 42) :
    (c.ringing horn h)[n] = (c.unsilenced[n] && (horn.isNone || h[n])) := by simp [Conditions.ringing]

theorem storeHorn_eq (horn : Option MemberMask) (h : MemberSet) (s : State) :
    storeHorn horn h s = s.rings (fun c => { c with horn := h, unsilenced := c.ringing horn h }) := by
  have kept : (if horn.isSome then MemberSet.inter s.conditions.unsilenced h else s.conditions.unsilenced) = s.conditions.ringing horn h := by
    refine MemberSet.ext fun n => ?_
    rw [Conditions.ringing_get]
    cases horn with
    | none => simp
    | some m => exact MemberSet.inter_get _ _ n
  unfold storeHorn State.rings State.modConditions
  dsimp only
  rw [kept]

/-- The part after SetMasks. -/
def State.masked (w : MemberSet) (horn : Option MemberMask) (h : MemberSet) (s : State) : State :=
  (settleConditions (s.rings (fun c => { c with horn := h, unsilenced := c.ringing horn h }))).modConditions (fun c => { c with watch := w })

theorem masked_only (w : MemberSet) (horn : Option MemberMask) (h : MemberSet) (s : State) :
    Only [.conditions, .discretes] s (s.masked w horn h) :=
  ((rings_only _ s).trans (settleConditions_only _)).seq (State.modConditions_only _ _)

theorem masked_lines (w : MemberSet) (horn : Option MemberMask) (h : MemberSet) (s : State) (d : Fin 24) :
    LineAsked d (asks s d) s.discretes[d] (s.masked w horn h).discretes[d] :=
  ((settleAlarm_settling (s.modConditions _)).trans (settleConditions_settling _)).2 d

theorem ownSetMasks_ok {watch horn : Option MemberMask} (good : ∀ m ∈ watch.toList ++ horn.toList, m.toNat < 2 ^ 42) (s : State) :
    let w := maskGiven watch s.conditions.watch
    let h := maskGiven horn s.conditions.horn
    ownSetMasks watch horn s = (s.masked w horn h, ⟨.ok, putMembers w ++ putMembers h⟩) := by
  have watches := (maskOr_eq watch s.conditions.watch).1 fun m hm => good m (List.mem_append_left _ hm)
  have horns := (maskOr_eq horn s.conditions.horn).1 fun m hm => good m (List.mem_append_right _ hm)
  have stored : (s.masked (maskGiven watch s.conditions.watch) horn (maskGiven horn s.conditions.horn)).conditions.horn =
      maskGiven horn s.conditions.horn := (settleConditions_tookUp (s.rings _)).horn
  unfold ownSetMasks
  rw [watches, horns]
  dsimp only
  rw [storeHorn_eq]
  exact congrArg (fun x => (s.masked _ horn _, Answer.mk .ok (putMembers (maskGiven watch s.conditions.watch) ++ putMembers x))) stored

theorem ownSetMasks_badField {watch horn : Option MemberMask} (bad : ¬ ∀ m ∈ watch.toList ++ horn.toList, m.toNat < 2 ^ 42) (s : State) :
    ownSetMasks watch horn s = (s, ⟨.badField, []⟩) := by
  unfold ownSetMasks
  by_cases hw : ∀ m ∈ watch.toList, m.toNat < 2 ^ 42
  · have hh : ¬ ∀ m ∈ horn.toList, m.toNat < 2 ^ 42 := fun hh => bad fun m hm => (List.mem_append.mp hm).elim (hw m) (hh m)
    rw [(maskOr_eq watch _).1 hw, (maskOr_eq horn _).2 hh]; rfl
  · rw [(maskOr_eq watch _).2 hw]; rfl

/-! ### What the snapshot does with the changes a request brought -/

/-- The snapshot after the changes since a record and a pending notice, at a plant clock (R184 to R187). -/
def SnapshotFollows (c : Conditions) (notice : Option ConditionNotice) (clock : Nat) (t : State) : Prop :=
  (∀ n : Fin 42, t.conditions.live[n] = true ↔ SetWhile t n) ∧
  (c.held = true ∨ ¬ Counted c.watch c.live t.conditions.live →
    t.conditions.held = c.held ∧ t.conditions.number = c.number ∧ t.conditions.frozen = c.frozen ∧ t.conditions.changed = c.changed ∧
      t.conditions.frozenAt = c.frozenAt ∧ t.link.condition = notice) ∧
  (c.held = false → Counted c.watch c.live t.conditions.live →
    t.conditions.held = true ∧ t.conditions.number = c.next ∧ t.conditions.frozen = t.conditions.live ∧
      t.conditions.frozenAt = clock ∧ (∀ n : Fin 42, t.conditions.changed[n] = changedSince notice t.conditions.live c.frozen n) ∧
      t.link.condition = some ⟨c.next, t.conditions.live, t.conditions.changed, clock⟩)

theorem TookUp.keeps {a : Conditions} {notice : Option ConditionNotice} {s t : State} (h : TookUp a notice s) (k : Keeps s t)
    (link : t.link.condition = s.link.condition) : TookUp a notice t := by
  obtain ⟨live, conditions, clock, -⟩ := k
  exact ⟨by rw [conditions, live]; exact h.live, by rw [conditions]; exact h.watch, by rw [conditions]; exact h.horn,
    by rw [conditions]; exact h.unsilenced, by rw [conditions, link]; exact h.stands, by rw [conditions, clock, link]; exact h.freezes⟩

theorem TookUp.setWhile {a : Conditions} {notice : Option ConditionNotice} {t : State} (h : TookUp a notice t) (n : Fin 42) :
    t.conditions.live[n] = true ↔ SetWhile t n := by
  rw [h.live, liveNow_get]; exact found_iff t n

theorem Rested.setWhile {t : State} (h : Rested t) (n : Fin 42) : t.conditions.live[n] = true ↔ SetWhile t n := by
  rw [h.2.1.1, liveNow_get]; exact found_iff t n

theorem Rested.alarm {t : State} (h : Rested t) : t.discretes[alarmLine].roleCommand = t.conditions.unsilenced.nonempty :=
  h.1.2.2.2.2.2.1

theorem LiveFollows.setWhile {t : State} (h : LiveFollows t) (n : Fin 42) : t.conditions.live[n] = true ↔ SetWhile t n := by
  rw [h.1, liveNow_get]; exact found_iff t n

theorem SnapshotFollows.keeps {c : Conditions} {notice : Option ConditionNotice} {clock : Nat} {s t : State}
    (h : SnapshotFollows c notice clock s) (k : Keeps s t) (link : t.link.condition = s.link.condition) :
    SnapshotFollows c notice clock t := by
  obtain ⟨live, conditions, -, -⟩ := k
  obtain ⟨sets, stands, freezes⟩ := h
  refine ⟨fun n => ?_, by rw [conditions, link]; exact stands, by rw [conditions, link]; exact freezes⟩
  rw [conditions, sets n, ← found_iff, ← found_iff, ← liveNow_get, ← liveNow_get, live]

theorem settleConditions_clock (s : State) : (settleConditions s).clock = s.clock := by
  have clock := settleConditions_only s .clock (by decide)
  simp only [Exact, Prod.mk.injEq] at clock
  exact clock.1

theorem settle_clock (s : State) : (settle s).clock = s.clock := by
  have clock := settle_only s .clock (by decide)
  simp only [Exact, Prod.mk.injEq] at clock
  exact clock.1

/-! ### What SetMasks leaves -/

section

variable (w : MemberSet) (horn : Option MemberMask) (h : MemberSet) {s : State} (settled : OutputsFollow s ∧ LiveFollows s)
include settled

theorem masked_settled : OutputsFollow (s.masked w horn h) ∧ LiveFollows (s.masked w horn h) :=
  modConditions_keeps _ _ rfl rfl ⟨settleConditions_outputs (rings_owners settled), settleConditions_live _⟩

theorem masked_snapshot : SnapshotFollows s.conditions s.link.condition s.clock (s.masked w horn h) := by
  have took := settleConditions_tookUp (s.rings (fun c => { c with horn := h, unsilenced := c.ringing horn h }))
  have freezes := took.freezes
  rw [settleConditions_clock] at freezes
  exact ⟨(masked_settled w horn h settled).2.setWhile, took.stands, freezes⟩

theorem masked_masks : (s.masked w horn h).conditions.watch = w ∧ (s.masked w horn h).conditions.horn = h ∧
    ∀ n : Fin 42, (s.masked w horn h).conditions.unsilenced[n] =
      ((s.conditions.ringing horn h)[n] && (s.masked w horn h).conditions.live[n]) := by
  have took := settleConditions_tookUp (s.rings (fun c => { c with horn := h, unsilenced := c.ringing horn h }))
  refine ⟨rfl, took.horn, fun n => (took.unsilenced n).trans ?_⟩
  have shrinks : (s.masked w horn h).conditions.live[n] = true → s.conditions.live[n] = true :=
    fun hn => rings_le settled n (settleConditions_le _ n hn)
  show ((s.masked w horn h).conditions.live[n] && ((s.conditions.ringing horn h)[n] || (h[n] && !s.conditions.live[n]))) = _
  cases e : (s.masked w horn h).conditions.live[n] with
  | false => simp
  | true => rw [shrinks e]; simp

theorem masked_calm (calm : s.discretes[alarmLine].mismatch = false) :
    (s.masked w horn h).conditions = { s.conditions with watch := w, horn := h, unsilenced := s.conditions.ringing horn h } ∧
      (s.masked w horn h).link.condition = s.link.condition := by
  obtain ⟨outputs, live⟩ := rings_settled (f := fun c => { c with horn := h, unsilenced := c.ringing horn h }) settled rfl calm
    fun n hn => settled.2.2 n (by
      have e : (s.conditions.unsilenced[n] && (horn.isNone || h[n])) = true := (Conditions.ringing_get horn h _ n).symm.trans hn
      exact (Bool.and_eq_true_iff.mp e).1)
  have stands := settleConditions_self live ((outputsFollow_iff _).mp outputs).2
  unfold State.masked
  rw [stands]
  exact ⟨rfl, rfl⟩

end

/-! ### Silence (R190) -/

/-- The part silenced. -/
def State.silenced (s : State) : State := s.rings (fun c => { c with unsilenced := MemberSet.empty })

theorem ownSilence_eq (s : State) : ownSilence s =
    (s.silenced, ⟨.ok, putMembers s.conditions.unsilenced⟩) := rfl

theorem MemberSet.empty_get (n : Fin 42) : MemberSet.empty[n] = false := by simp [MemberSet.empty]

section

variable {s : State} {g : Link → Link} (settled : OutputsFollow s ∧ LiveFollows s)
include settled

/-- The end of the event of Silence. -/
theorem silenced_settle : settle (s.silenced.modLink g) =
    settleConditions (s.silenced.modLink g) := by
  have owners : OwnersFollowed (s.silenced.modLink g) := rings_owners settled
  unfold settle
  rw [settleOutputs_self owners]

theorem silenced_tookUp (notice : (s.silenced.modLink g).link.condition = s.link.condition) :
    TookUp { s.conditions with unsilenced := MemberSet.empty } s.link.condition (settle (s.silenced.modLink g)) := by
  rw [silenced_settle settled, ← notice]
  exact settleConditions_tookUp (s.silenced.modLink g)

theorem silenced_empty (n : Fin 42) :
    (settle (s.silenced.modLink g)).conditions.unsilenced[n] = false := by
  have shrinks : (settle (s.silenced.modLink g)).conditions.live[n] = true →
      s.conditions.live[n] = true := fun hn => by
    rw [silenced_settle settled] at hn
    have found := settleConditions_le _ n hn
    rw [(modLink_keeps _ g).live] at found
    exact rings_le settled n found
  have rings := (settleConditions_tookUp (s.silenced.modLink g)).unsilenced n
  rw [← silenced_settle settled] at rings
  refine rings.trans ?_
  show (_ && (MemberSet.empty[n] || (s.conditions.horn[n] && !s.conditions.live[n]))) = false
  rw [MemberSet.empty_get]
  cases e : (settle (s.silenced.modLink g)).conditions.live[n] with
  | false => rfl
  | true => rw [shrinks e]; simp

end

/-- A request is heard by a part as settled as the one it arrived at. -/
theorem settled_heard {s : State} (h : OutputsFollow s ∧ LiveFollows s) {v : Supervision} (hv : v.state = s.supervision.state) :
    OutputsFollow { s with supervision := v } ∧ LiveFollows { s with supervision := v } := by
  refine settled_congr (s := s) (fun m => ?_) rfl (fun _ => ⟨rfl, rfl, rfl, rfl⟩) (fun _ => rfl) ⟨rfl, rfl⟩ h
  cases m
  case fallback =>
    show (decide (v.state = _) || decide (v.state = _)) = _
    rw [hv]; rfl
  all_goals rfl

/-- Where nothing is left to settle, the end of the event leaves the condition unit as the owner left it. -/
theorem placed_settled {u t : State} {g : Link → Link} (settled : OutputsFollow u ∧ LiveFollows u)
    (notice : (u.modLink g).link.condition = u.link.condition) (kept : Keeps (settle (u.modLink g)) t)
    (stays : t.link.condition = (settle (u.modLink g)).link.condition) : Keeps u t ∧ t.link.condition = u.link.condition := by
  obtain ⟨outputs, live⟩ := (modLink_keeps u g).settled settled
  rw [settle_self outputs live] at kept stays
  exact ⟨(modLink_keeps u g).trans kept, stays.trans notice⟩

end Sys2Proof.Machine

open Sys2Proof Sys2Proof.Machine

/-- Settles O50: what each of the three requests leaves is settled at the end of its event, by the watch mask it found. -/
theorem conditionRequests : Obligations.ConditionRequests := by
  intro tag s hs hset
  have settled := hset hs.1.1
  refine ⟨fun number => ⟨fun free => ?_, fun held other => ?_, fun held same => ⟨fun alike => ?_, fun differs => ?_⟩⟩,
    fun watch horn => ⟨fun bad => ?_, fun good => ?_⟩, ?_⟩
  · exact replies_of rfl hs fun v _ => ⟨_, by exact ownReleaseSnapshot_free (s := { s with supervision := v }) free number, Only.refl _ _,
      fun _ _ _ => trivial⟩
  · exact refuses_of rfl hs fun v _ => by exact ownReleaseSnapshot_other (s := { s with supervision := v }) held other
  · subst same
    exact reports_of rfl hs fun v hv => ⟨_, by exact ownReleaseSnapshot_frees (s := { s with supervision := v }) held alike,
      (State.modConditions_only _ _).mono (by decide), fun d => LineAsked.refl d _ _, fun g t notice kept stays _ => by
        have freed := modConditions_keeps { s with supervision := v } (fun c => { c with held := false }) rfl rfl (settled_heard settled hv)
        obtain ⟨keeps, link⟩ := placed_settled freed notice kept stays
        exact ⟨keeps.conditions, link⟩⟩
  · subst same
    obtain ⟨changed, members, stored, queued⟩ := freeze_stores s.released
    have named : changed = Vector.ofFn (fun n : Fin 42 =>
        (s.link.condition.map (fun m => m.changed[n])).getD false || s.conditions.live[n] != s.conditions.frozen[n]) := by
      refine MemberSet.ext fun n => ?_
      rw [members]
      simp [changedSince]
      rfl
    exact reports_of rfl hs fun v hv => ⟨_, by exact ownReleaseSnapshot_freezes (s := { s with supervision := v }) held differs,
      ((State.modConditions_only _ _).trans (freeze_only _)).mono (by decide), fun d => LineAsked.refl d _ _,
      fun g t notice kept stays _ => by
        obtain ⟨outputs, live⟩ := modConditions_keeps { s with supervision := v } (fun c => { c with held := false }) rfl rfl
          (settled_heard settled hv)
        obtain ⟨keeps, link⟩ := placed_settled ⟨freeze_follows.2 outputs, freeze_follows.1 live⟩ notice kept stays
        have conditions : t.conditions = (freeze s.released).conditions := keeps.conditions
        have pending : t.link.condition = (freeze s.released).link.condition := link
        rw [conditions, pending, stored, queued, ← named]
        refine ⟨?_, rfl⟩
        exact congrArg (fun x => ({ s.conditions with
          held := x, number := s.conditions.next, frozen := s.conditions.live, changed := changed, frozenAt := s.clock } : Conditions)) held.symm⟩
  · exact refuses_of rfl hs fun v _ => by exact ownSetMasks_badField bad _
  · have own (v : Supervision) := ownSetMasks_ok good { s with supervision := v }
    exact reports_of rfl hs fun v hv => ⟨_, by exact own v, masked_only _ _ _ _, masked_lines _ _ _ _,
      fun g t notice kept stays rested => by
        have heard := settled_heard settled hv
        obtain ⟨keeps, link⟩ := placed_settled (masked_settled _ horn _ heard) notice kept stays
        obtain ⟨watches, horns, unsilenced⟩ := masked_masks (maskGiven watch s.conditions.watch) horn (maskGiven horn s.conditions.horn) heard
        refine ⟨?_, ?_, fun n => ?_, rested.alarm, (masked_snapshot _ horn _ heard).keeps keeps link, fun calm => ?_⟩
        · rw [keeps.conditions]; exact watches
        · rw [keeps.conditions]; exact horns
        · rw [keeps.conditions]; exact unsilenced n
        · obtain ⟨conditions, pending⟩ := masked_calm (maskGiven watch s.conditions.watch) horn (maskGiven horn s.conditions.horn) heard calm
          exact ⟨keeps.conditions.trans conditions, link.trans pending⟩⟩
  · exact reports_of rfl hs fun v hv => ⟨_, by exact ownSilence_eq { s with supervision := v },
      rings_only _ _, rings_lines _ _, fun g t notice kept stays rested => by
        have heard := settled_heard settled hv
        have after := (silenced_tookUp (g := g) heard notice).keeps kept stays
        have silent : t.conditions.unsilenced = MemberSet.empty := by
          refine MemberSet.ext fun n => ?_
          exact (congrArg (fun c : Conditions => c.unsilenced[n]) kept.conditions).trans
            ((silenced_empty heard n).trans (MemberSet.empty_get n).symm)
        refine ⟨silent, after.watch, after.horn, ?_, ?_, fun calm => ?_⟩
        · rw [rested.alarm, silent]; rfl
        · have clock : t.clock = s.clock := kept.clock.trans (settle_clock _)
          have freezes := after.freezes
          rw [clock] at freezes
          exact ⟨rested.setWhile, after.stands, freezes⟩
        · obtain ⟨keeps, link⟩ := placed_settled (rings_settled (s := { s with supervision := v }) heard rfl calm (fun n hn => by
            rw [MemberSet.empty_get] at hn; cases hn)) notice kept stays
          exact ⟨keeps.conditions, link⟩⟩

end

section
/-! PROOFS. The receiver: characters, faults and whole frames (R195 to R199). -/

namespace Sys2Proof.Machine

-- One after the other: see Laws/Frames.lean.
set_option Elab.async false

/-! ### Bits -/

theorem ofBoolListLE_bits (b : Byte) : BitVec.ofBoolListLE [b.getLsbD 0, b.getLsbD 1, b.getLsbD 2, b.getLsbD 3, b.getLsbD 4,
    b.getLsbD 5, b.getLsbD 6, b.getLsbD 7] = b := by
  refine BitVec.eq_of_getLsbD_eq fun i hi => ?_
  rw [BitVec.getLsbD_ofBoolListLE]
  match i, hi with
  | 0, _ | 1, _ | 2, _ | 3, _ | 4, _ | 5, _ | 6, _ | 7, _ => rfl

theorem receivedEvent_characterBits (b : Byte) : receivedEvent (characterBits b) = some (.characterReceived b) :=
  congrArg (fun x => some (Instr.characterReceived x)) (ofBoolListLE_bits b)

/-- The j-th bit of the k-th character. -/
theorem flatten_characterBits (bytes : List Byte) (k : Nat) (j : Fin 10) :
    ((bytes.map characterBits).flatten)[10 * k + j.val]? = (bytes[k]?).bind (fun b => (characterBits b)[j.val]?) := by
  have width (b : Byte) : (characterBits b).length = 10 := rfl
  induction bytes generalizing k with
  | nil => simp
  | cons b bytes ih =>
    rw [List.map_cons, List.flatten_cons]
    cases k with
    | zero =>
      rw [Nat.mul_zero, Nat.zero_add, List.getElem?_append_left (by rw [width]; exact j.isLt)]
      rfl
    | succ k =>
      rw [List.getElem?_append_right (by rw [width]; omega), width, show 10 * (k + 1) + j.val - 10 = 10 * k + j.val by omega, ih k]
      rfl

/-! ### A whole frame (R196) -/

theorem Receiver.complete_iff (r : Receiver) : r.complete = true ↔
    r.state = .body ∧ ∃ (length : Byte) (rest : List Byte), r.bytes = length :: rest ∧ length.toNat + 2 ≤ rest.length := by
  unfold Receiver.complete frameSize
  split
  · rename_i length rest hs hb
    rw [decide_eq_true_eq]
    refine ⟨fun h => ⟨hs, length, rest, hb, by omega⟩, fun ⟨_, length', rest', hb', h⟩ => ?_⟩
    obtain ⟨rfl, rfl⟩ := List.cons.inj (hb.symm.trans hb')
    omega
  · rename_i other
    exact ⟨nofun, fun ⟨hs, length, rest, hb, _⟩ => absurd hb (other length rest hs)⟩

/-! ### Operations of the receiver -/

theorem setReceiver_only (s : State) (g : Receiver → Receiver) : Only [.receiver] s (s.modLink (fun l => { l with receiver := g l.receiver })) := by
  intro p hp; cases p <;> first | rfl | simp at hp

theorem discardFrame_only (s : State) : Only [.discards] s (discardFrame s) := by
  intro p hp; cases p <;> first | rfl | simp at hp

theorem judgeHeld_waits {s : State} (h : s.link.receiver.complete = false) : judgeHeld s = s := by
  unfold judgeHeld; rw [h]; rfl

theorem abandonFrame_hunting {s : State} (h : s.link.receiver.state = .hunting) : abandonFrame s = s := if_pos h

/-- A partial frame abandoned: the receiver hunts and the frame is counted (R198). -/
def State.abandoned (s : State) : State := discardFrame (s.modLink (fun l => { l with receiver := l.receiver.hunt }))

theorem abandonFrame_partial {s : State} (h : s.link.receiver.state ≠ .hunting) : abandonFrame s = s.abandoned := if_neg h

theorem abandoned_only (s : State) : Only [.receiver, .discards] s s.abandoned :=
  (setReceiver_only s Receiver.hunt).seq (discardFrame_only _)

/-! ### What the taking of requests leaves of the receiver -/

theorem settleRequest_receiver (p : Parsed) (s : State) : (settleRequest p s).1.link.receiver = s.link.receiver := by
  cases p with
  | ok r => exact applyRequest_only r s .receiver (by cases r <;> simp [owned])
  | _ => rfl

theorem takeRequests_receiver (n : Nat) (s : State) : (takeRequests n s).link.receiver = s.link.receiver := by
  induction n generalizing s with
  | zero => rfl
  | succ n ih =>
    unfold takeRequests
    split
    · rfl
    · split
      · rw [ih]; exact settleRequest_receiver _ _
      · rfl

theorem goodFrame_receiver (kind tag : Byte) (body : List Byte) (s : State) :
    (goodFrame kind tag body s).link.receiver = s.link.receiver := by
  unfold goodFrame offerRequest
  split
  · split
    · rw [takeRequests_receiver]
      show (refreshSupervision s).link.receiver = _
      rw [refreshSupervision_link]
    · show (answerBusy kind tag (refreshSupervision s)).link.receiver = _
      unfold answerBusy
      rw [← refreshSupervision_link s]
      show Link.receiver (match (refreshSupervision s).link.busyPlace with | some _ => _ | none => _) = _
      split <;> rfl
  · rfl

theorem judge_receiver (bytes : List Byte) (s : State) : (judge bytes s).link.receiver = s.link.receiver := by
  unfold judge
  repeat' split
  · exact goodFrame_receiver _ _ _ s
  · rfl
  · rfl

theorem judgeHeld_receiver {s : State} (h : s.link.receiver.complete = true) : (judgeHeld s).link.receiver = s.link.receiver.hunt := by
  unfold judgeHeld
  rw [h]
  exact judge_receiver _ _

/-! ### Characters and faults -/

theorem characterReceived_inBreak {s : State} (h : s.link.receiver.complete = false) (hb : s.link.receiver.inBreak = true) (b : Byte) :
    characterReceived b s = s := by
  unfold characterReceived
  dsimp only
  rw [judgeHeld_waits h, hb]; rfl

theorem characterReceived_taken {s : State} (h : s.link.receiver.complete = false) (hb : s.link.receiver.inBreak = false) (b : Byte) :
    characterReceived b s = s.modLink (fun l => { l with receiver := l.receiver.take b }) := by
  unfold characterReceived
  dsimp only
  rw [judgeHeld_waits h, hb]; rfl

theorem gap_running {s : State} (h : s.link.receiver.complete = false) (hg : s.link.receiver.gapTimer.isSome = true) :
    gap s = abandonFrame s := by
  unfold gap
  dsimp only
  rw [judgeHeld_waits h, hg]; rfl

theorem gap_idle {s : State} (h : s.link.receiver.complete = false) (hg : s.link.receiver.gapTimer = none) : gap s = s := by
  unfold gap
  dsimp only
  rw [judgeHeld_waits h, hg]; rfl

theorem framingError_inBreak {s : State} (h : s.link.receiver.complete = false) (hb : s.link.receiver.inBreak = true) :
    framingError s = s := by
  unfold framingError
  dsimp only
  rw [judgeHeld_waits h, hb]; rfl

theorem framingError_received {s : State} (h : s.link.receiver.complete = false) (hb : s.link.receiver.inBreak = false) :
    framingError s = abandonFrame s := by
  unfold framingError
  dsimp only
  rw [judgeHeld_waits h, hb]; rfl

theorem lineBreak_eq {s : State} (h : s.link.receiver.complete = false) :
    lineBreak s = (abandonFrame s).modLink (fun l => { l with receiver := { l.receiver with inBreak := true } }) := by
  unfold lineBreak
  rw [judgeHeld_waits h]

/-- What a character does to a receiver outside a break (R196). -/
theorem Receiver.take_cases {r : Receiver} (h : r.inBreak = false) (b : Byte) : (r.take b).inBreak = false ∧
    (r.state = .hunting → b = 0xE7 → r.take b = ⟨.length, [], some gapTime, false⟩) ∧
    (r.state = .hunting → b ≠ 0xE7 → r.take b = r) ∧
    (r.state = .length → 2 ≤ b.toNat → b.toNat ≤ 242 → r.take b = ⟨.body, [b], some gapTime, false⟩) ∧
    (r.state = .length → b.toNat < 2 ∨ 242 < b.toNat → r.take b = ⟨.hunting, [], none, false⟩) ∧
    (r.state = .body → (r.take b).state = .body ∧ (r.take b).bytes = r.bytes ++ [b] ∧
      (r.take b).gapTimer = if (r.take b).complete then none else some gapTime) := by
  obtain ⟨state, bytes, gapTimer, inBreak⟩ := r
  obtain rfl : inBreak = false := h
  refine ⟨?_, ?_, ?_, ?_, ?_, ?_⟩
  · unfold Receiver.take
    split
    · split <;> rfl
    · split <;> rfl
    · rfl
  · rintro rfl rfl; rfl
  · rintro rfl other; exact if_neg other
  · rintro rfl low high; exact if_pos ⟨low, high⟩
  · rintro rfl out; exact if_neg (by omega)
  · rintro rfl; exact ⟨rfl, rfl, rfl⟩

/-- An event that abandons a partial frame. -/
theorem happens_abandoned {c : Instr} {f : State → State} {s : State} (h : Running s) (hc : ∀ s, exec c s = event f s)
    (hf : f s = s.abandoned) : Happens c s [.receiver, .discards] (fun t =>
      t.link.receiver = { s.link.receiver with state := .hunting, bytes := [], gapTimer := none } ∧
      t.link.discardCount = satSucc 65535 s.link.discardCount) :=
  happens_of h hc (by rw [hf]; exact abandoned_only s) fun t ht _ => by
    rw [hf] at ht
    have receiver : t.link.receiver = _ := ht .receiver (by decide)
    have discards : t.link.discardCount = _ := ht .discards (by decide)
    exact ⟨receiver, discards⟩

/-- A fault in HUNTING or within a break is none. -/
theorem framingError_ignored {s : State} (h : s.link.receiver.complete = false)
    (hn : s.link.receiver.state = .hunting ∨ s.link.receiver.inBreak = true) : framingError s = s := by
  cases hb : s.link.receiver.inBreak with
  | true => exact framingError_inBreak h hb
  | false =>
    rw [framingError_received h hb]
    exact abandonFrame_hunting (hn.resolve_right (by rw [hb]; nofun))

/-! ### A whole frame judged (R197, R199) -/

/-- A frame that passes its check is a good frame of its Kind, Tag and Body. -/
theorem judgeHeld_good {s : State} {length kind tag : Byte} {rest : List Byte}
    (hb : s.link.receiver.bytes = length :: kind :: tag :: rest) (h : s.link.receiver.complete = true)
    (check : crcOf s.link.receiver.bytes = 0) : judgeHeld s =
      goodFrame kind tag (rest.take (rest.length - 2)) (s.modLink (fun l => { l with receiver := l.receiver.hunt })) := by
  unfold judgeHeld judge
  rw [if_pos h, if_pos check, hb]
  rfl

theorem goodFrame_foreign {kind : Byte} (h : kind.toNat = 0 ∨ 0x40 ≤ kind.toNat) (tag : Byte) (body : List Byte) (s : State) :
    goodFrame kind tag body s = discardFrame s := if_neg (by omega)

end Sys2Proof.Machine

open Sys2Proof Sys2Proof.Machine

/-- Settles O7. -/
theorem theReceiver : Obligations.TheReceiver := by
  refine ⟨fun b s hs => ⟨fun h hb => ?_, fun h hb => ?_, fun h => ?_⟩, fun s hs h => ⟨fun hg hp => ?_, fun hg => ?_, fun hp hb => ?_,
    fun hn => ?_, fun hp => ?_, fun hn => ?_, ?_⟩, fun b => ⟨rfl, rfl, rfl, fun i => ?_, receivedEvent_characterBits b, rfl⟩,
    fun f l => ⟨fun k j => flatten_characterBits f.bytes k j, fun h => ?_, fun h => ?_⟩, Receiver.complete_iff⟩
  · exact idles_of hs (fun _ => rfl) (characterReceived_inBreak h hb b)
  · refine happens_of hs (fun _ => rfl) (f := characterReceived b) (by rw [characterReceived_taken h hb]; exact setReceiver_only s _)
      fun t ht _ => ?_
    rw [characterReceived_taken h hb] at ht
    have receiver : t.link.receiver = s.link.receiver.take b := ht .receiver (by decide)
    rw [receiver]
    exact Receiver.take_cases hb b
  · have hunts := judgeHeld_receiver h
    have waits : (judgeHeld s).link.receiver.complete = false := by rw [hunts]; rfl
    refine ⟨waits, ?_⟩
    show event (characterReceived b) s = _
    unfold event characterReceived
    dsimp only
    rw [judgeHeld_waits waits]
  · exact happens_abandoned hs (fun _ => rfl) ((gap_running h hg).trans (abandonFrame_partial hp))
  · exact idles_of hs (fun _ => rfl) (gap_idle h hg)
  · exact happens_abandoned hs (fun _ => rfl) ((framingError_received h hb).trans (abandonFrame_partial hp))
  · exact idles_of hs (fun _ => rfl) (framingError_ignored h hn)
  · have broken : lineBreak s = s.abandoned.modLink (fun l => { l with receiver := { l.receiver with inBreak := true } }) := by
      rw [lineBreak_eq h, abandonFrame_partial hp]
    refine happens_of hs (fun _ => rfl) (f := lineBreak)
      (by rw [broken]; exact (abandoned_only s).seq (setReceiver_only _ (fun r => { r with inBreak := true }))) fun t ht _ => ?_
    rw [broken] at ht
    have receiver : t.link.receiver = _ := ht .receiver (by decide)
    have discards : t.link.discardCount = _ := ht .discards (by decide)
    exact ⟨receiver, discards⟩
  · have broken : lineBreak s = s.modLink (fun l => { l with receiver := { l.receiver with inBreak := true } }) := by
      rw [lineBreak_eq h, abandonFrame_hunting hn]
    refine happens_of hs (fun _ => rfl) (f := lineBreak) (by rw [broken]; exact setReceiver_only s (fun r => { r with inBreak := true })) fun t ht _ => ?_
    rw [broken] at ht
    exact ht .receiver (by decide)
  · exact happens_of hs (fun _ => rfl) (f := returnToMark) (setReceiver_only s (fun r => { r with inBreak := false })) fun t ht _ =>
      ht .receiver (by decide)
  · match i with
    | 0 | 1 | 2 | 3 | 4 | 5 | 6 | 7 => rfl
  · unfold Link.wire; rw [h]; rfl
  · unfold Link.wire; rw [h]; rfl

/-- Settles O8. -/
theorem aWholeFrameIsJudged : Obligations.AWholeFrameIsJudged := by
  refine fun s hs => ⟨fun h => idles_of hs (fun _ => rfl) (judgeHeld_waits h), fun length kind tag rest hb h => ⟨fun check foreign => ?_,
    fun check low high => ?_⟩⟩
  · exact happens_abandoned hs (fun _ => rfl) ((judgeHeld_good hb h check).trans (goodFrame_foreign foreign tag _ _))
  · show event judgeHeld s = event (goodFrame kind tag (rest.take (rest.length - 2)))
      (s.modLink (fun l => { l with receiver := l.receiver.hunt }))
    have running : (s.modLink (fun l => { l with receiver := l.receiver.hunt })).initialising = false := hs.1
    rw [event_running hs.1, event_running running, judgeHeld_good hb h check]

end

section
/-! PROOFS. A Body written is read back. A reader, given the bytes its writer put in front of others, takes them off and answers the
value; a record is read field by field. -/

namespace Sys2Proof

-- One after the other: see Laws/Frames.lean.
set_option Elab.async false

open Fits

namespace Wire

/-! ### Reading one field after another -/

section

variable {α β : Type}

/-- What a sequence of two readers does with a Body. -/
theorem bind_apply (g : Reader α) (k : α → Reader β) (bs : List Byte) :
    (g >>= k) bs = match g bs with
      | .ok (a, rest) => k a rest
      | .error e => .error e := by
  show (StateT.bind g k bs : Except ReadError _) = _
  unfold StateT.bind
  show Except.bind _ _ = _
  rcases g bs with e | ⟨a, rest⟩ <;> rfl

theorem bind_of_ok {g : Reader α} {k : α → Reader β} {bs rest : List Byte} {a : α} (h : g bs = .ok (a, rest)) :
    (g >>= k) bs = k a rest := by rw [bind_apply, h]

/-- The reader takes these bytes off the front of a Body and answers the value. -/
def Reads (g : Reader α) (bytes : List Byte) (a : α) : Prop := ∀ rest, g (bytes ++ rest) = .ok (a, rest)

namespace Reads

theorem done (a : α) : Reads (pure a) [] a := fun _ => rfl

theorem before {g : Reader α} {k : α → Reader β} {first others : List Byte} {a : α} {b : β} (h : Reads g first a)
    (hk : Reads (k a) others b) : Reads (g >>= k) (first ++ others) b := fun rest => by
  rw [List.append_assoc, bind_of_ok (h _), hk rest]

theorem last {g : Reader α} {f : α → β} {bytes : List Byte} {a : α} (h : Reads g bytes a) :
    Reads (g >>= fun x => pure (f x)) bytes (f a) := fun rest => bind_of_ok (h rest)

theorem final {g : Reader α} {k : α → Reader β} {bytes : List Byte} {a : α} {b : β} (h : Reads g bytes a) (hk : Reads (k a) [] b) :
    Reads (g >>= k) bytes b := fun rest => (bind_of_ok (h rest)).trans (hk rest)

end Reads

end

/-! ### A field that fits its width is read back -/

theorem getByte_reads (b : Byte) : Reads getByte [b] b.toNat := fun _ => rfl

theorem getNatFrom_reads (n v acc : Nat) : Reads (getNatFrom n acc) (putNat n v) (acc * 256 ^ n + v % 256 ^ n) := by
  induction n generalizing acc with
  | zero =>
    rw [pow_zero, Nat.mod_one, Nat.mul_one, Nat.add_zero]
    exact .done acc
  | succ n ih =>
    have e : acc * 256 ^ (n + 1) + v % 256 ^ (n + 1) = (acc * 256 + v / 256 ^ n % 2 ^ 8) * 256 ^ n + v % 256 ^ n := by
      rw [Nat.mod_pow_succ, show 2 ^ 8 = 256 from rfl]
      ring
    rw [e, ← BitVec.toNat_ofNat]
    exact (getByte_reads _).before (ih _)

namespace Reads

theorem number {n v : Nat} (h : nat n v = true) : Reads (getNat n) (putNat n v) v := by
  have read := getNatFrom_reads n v 0
  rwa [Nat.mod_eq_of_lt (of_decide_eq_true h), Nat.zero_mul, Nat.zero_add] at read

theorem byte {v : Nat} (h : nat 1 v = true) : Reads (getNat 1) (putByte v) v := number h

end Reads

/-- Two's complement, read back (R209). -/
theorem signed_of_fits {n : Nat} {v : Int} (h : int n v = true) : signed n ((v % (256 ^ n : Nat)).toNat % 256 ^ n) = v := by
  have positive : 0 < 256 ^ n := Nat.pow_pos (by decide)
  obtain ⟨low, high⟩ : -(256 ^ n : Nat) ≤ 2 * v ∧ 2 * v < (256 ^ n : Nat) := by simpa [int] using h
  unfold signed
  generalize 256 ^ n = m at *
  rcases Int.lt_or_le v 0 with negative | natural
  · have e : v % (m : Int) = v + m := by
      rw [← Int.add_emod_right, Int.emod_eq_of_lt (by omega) (by omega)]
    rw [e, Nat.mod_eq_of_lt (by omega)]
    split <;> omega
  · rw [Int.emod_eq_of_lt natural (by omega), Nat.mod_eq_of_lt (by omega)]
    split <;> omega

theorem getSet_reads (n v : Nat) : Reads (getSet n) (putSet n v) (v % 256 ^ n) := by
  induction n generalizing v with
  | zero => rw [pow_zero, Nat.mod_one]; exact .done 0
  | succ n ih =>
    rw [pow_succ' 256 n, Nat.mod_mul]
    exact (getByte_reads (BitVec.ofNat 8 v)).before (ih (v / 256)).last

namespace Reads

theorem integer {n : Nat} {v : Int} (h : int n v = true) : Reads (getInt n) (putInt n v) v := by
  have read : Reads (getInt n) (putInt n v) (signed n (0 * 256 ^ n + (v % (256 ^ n : Nat)).toNat % 256 ^ n)) :=
    (getNatFrom_reads n (v % (256 ^ n : Nat)).toNat 0).last
  rwa [Nat.zero_mul, Nat.zero_add, signed_of_fits h] at read

theorem classValue {v : Int} (h : cls v = true) : Reads getClass (putClass v) v := integer h

theorem optional {α : Type} {get : Reader α} {put : α → List Byte} {v : Option α} (h : ∀ a, v = some a → Reads get (put a) a) :
    Reads (getOption get) (putOption put v) v := by
  rcases v with _ | a
  · exact (getByte_reads 0).before (.done none)
  · exact (getByte_reads 1).before (h a rfl).last

theorem identifier {v : Option Nat} (h : opt v = true) : Reads (getOption (getNat 1)) (putOption putByte v) v :=
  optional fun a e => byte (by simpa [opt, e] using h)

theorem maskBytes {n : Nat} (m : BitVec (8 * n)) : Reads (getSet n) (putSet n m.toNat) m.toNat := by
  have read := getSet_reads n m.toNat
  rwa [Nat.mod_eq_of_lt (by rw [show 256 = 2 ^ 8 from rfl, ← pow_mul]; exact m.isLt)] at read

theorem breakpoints {ps : List (Int × Int)} (h : (ps.all fun b => cls b.1 && cls b.2) = true) :
    Reads (getBreakpoints ps.length) (putBreakpoints ps) ps := by
  induction ps with
  | nil => exact .done []
  | cons p ps ih =>
    obtain ⟨⟨first, second⟩, others⟩ : (cls p.1 = true ∧ cls p.2 = true) ∧ (ps.all fun b => cls b.1 && cls b.2) = true := by
      simpa using h
    rw [putBreakpoints, List.append_assoc]
    exact (classValue first).before <| (classValue second).before (ih others).last

end Reads

/-! ### The records of the configuring requests -/

open Reads

theorem reads_pointFields {q : PointFields} (h : q.wf = true) : Reads getPointFields (putPointFields q) q := by
  simp only [PointFields.wf, Bool.and_eq_true, and_assoc] at h
  obtain ⟨point, source, hCls, hLine, rawLo, rawHi, engLo, engHi, faultBand, staleLimit, failLimit, recoveryPeriod⟩ := h
  unfold putPointFields putPointConfig
  simp only [List.append_assoc]
  exact (byte point).before <| (byte source).before <| (byte hCls).before <| (byte hLine).before <| (integer rawLo).before <|
      (integer rawHi).before <| (integer engLo).before <| (integer engHi).before <| (number faultBand).before <|
      (number staleLimit).before <| (byte failLimit).before <| (byte recoveryPeriod).last

theorem reads_lineFields {q : LineFields} (h : q.wf = true) : Reads getLineFields (putLineFields q) q := by
  simp only [LineFields.wf, Bool.and_eq_true, and_assoc] at h
  obtain ⟨hLine, enabled, rate, clockHold, passInterval, autoRecover⟩ := h
  unfold putLineFields putLineConfig
  simp only [List.append_assoc]
  exact (byte hLine).before <| (byte enabled).before <| (byte rate).before <| (byte clockHold).before <|
      (number passInterval).before <| (byte autoRecover).last

theorem reads_entry {q : EntryFields} (h : q.wf = true) : Reads getEntry (putEntry q) q := by
  simp only [EntryFields.wf, Bool.and_eq_true, and_assoc] at h
  obtain ⟨station, kind, item, target, errorPolicy, every, phase⟩ := h
  unfold putEntry
  simp only [List.append_assoc]
  exact (byte station).before <| (byte kind).before <| (identifier item).before <| (identifier target).before <|
      (byte errorPolicy).before <| (byte every).before <| (byte phase).last

theorem reads_discreteFields {q : DiscreteFields} (h : q.wf = true) : Reads getDiscreteFields (putDiscreteFields q) q := by
  simp only [DiscreteFields.wf, Bool.and_eq_true, and_assoc] at h
  obtain ⟨hLine, select, direction, polarity, sense, edgeKind, debounce, mismatchTime⟩ := h
  unfold putDiscreteFields putDiscreteConfig
  simp only [List.append_assoc]
  exact (byte hLine).before <| (byte select).before <| (byte direction).before <| (byte polarity).before <| (byte sense).before <|
      (byte edgeKind).before <| (byte debounce).before <| (byte mismatchTime).last

theorem reads_wellFields {q : WellFields} (h : q.wf = true) : Reads getWellFields (putWellFields q) q := by
  simp only [WellFields.wf, Bool.and_eq_true, and_assoc] at h
  obtain ⟨well, enabled, intakePoint, windingPoint, flowPoint, minSpeed, maxSpeed, rampRate, target, ownFloor, floorBand,
    floorGain, floorHys, floorConfirm, windTrip, windDelta, windHys, startTimeout, stopTimeout, minOff, maxStarts, tripLimit,
    tripRecovery, deliveryLimit, autoRestart⟩ := h
  unfold putWellFields putWellConfig
  simp only [List.append_assoc]
  exact (byte well).before <| (byte enabled).before <| (identifier intakePoint).before <| (identifier windingPoint).before <|
      (identifier flowPoint).before <| (classValue minSpeed).before <| (classValue maxSpeed).before <|
      (number rampRate).before <| (classValue target).before <| (classValue ownFloor).before <|
      (classValue floorBand).before <| (number floorGain).before <| (classValue floorHys).before <|
      (number floorConfirm).before <| (classValue windTrip).before <| (classValue windDelta).before <|
      (classValue windHys).before <| (byte startTimeout).before <| (byte stopTimeout).before <| (number minOff).before <|
      (byte maxStarts).before <| (byte tripLimit).before <| (byte tripRecovery).before <| (byte deliveryLimit).before <|
      (byte autoRestart).last

theorem reads_turbineFields {q : TurbineFields} (h : q.wf = true) : Reads getTurbineFields (putTurbineFields q) q := by
  simp only [TurbineFields.wf, Bool.and_eq_true, and_assoc] at h
  obtain ⟨headerPoint, flowPoint, powerPoint, speedPoint, teeth, ovsLimit, lossTime, syncSpeed, syncBand, syncHold, accelRate,
    rollTimeout, minLoad, maxLoad, loadRate, loadTarget, headerSetpoint, headerMin, headerConfirm, extractionMax,
    extractionMinLoad, breakerTimeout, verifyFlow, tripVerifyTime, runbackSpeed, speedKp, speedKi, powerKp, powerKi, headerKp,
    headerKi, deliveryLimit⟩ := h
  unfold putTurbineFields
  simp only [List.append_assoc]
  exact (identifier headerPoint).before <| (identifier flowPoint).before <| (identifier powerPoint).before <|
      (identifier speedPoint).before <| (byte teeth).before <| (classValue ovsLimit).before <| (number lossTime).before <|
      (classValue syncSpeed).before <| (classValue syncBand).before <| (number syncHold).before <| (number accelRate).before <|
      (number rollTimeout).before <| (classValue minLoad).before <| (classValue maxLoad).before <| (number loadRate).before <|
      (classValue loadTarget).before <| (classValue headerSetpoint).before <| (classValue headerMin).before <|
      (number headerConfirm).before <| (classValue extractionMax).before <| (classValue extractionMinLoad).before <|
      (byte breakerTimeout).before <| (classValue verifyFlow).before <| (number tripVerifyTime).before <|
      (classValue runbackSpeed).before <| (number speedKp).before <| (number speedKi).before <| (number powerKp).before <|
      (number powerKi).before <| (number headerKp).before <| (number headerKi).before <| (byte deliveryLimit).last

theorem reads_heatingFields {q : HeatingFields} (h : q.wf = true) : Reads getHeatingFields (putHeatingFields q) q := by
  simp only [HeatingFields.wf, Bool.and_eq_true, and_assoc] at h
  obtain ⟨outdoorPoint, supplyPoint, returnPoint, netFlowPoint, brineInPoint, brineOutPoint, brineFlowPoint, brineFloorDefault,
    supplyMax, supplyHys, shortConfirm, supplyKp, supplyKi, floorKp, floorKi⟩ := h
  unfold putHeatingFields
  simp only [List.append_assoc]
  exact (identifier outdoorPoint).before <| (identifier supplyPoint).before <| (identifier returnPoint).before <|
      (identifier netFlowPoint).before <| (identifier brineInPoint).before <| (identifier brineOutPoint).before <|
      (identifier brineFlowPoint).before <| (classValue brineFloorDefault).before <| (classValue supplyMax).before <|
      (classValue supplyHys).before <| (number shortConfirm).before <| (number supplyKp).before <| (number supplyKi).before <|
      (number floorKp).before <| (number floorKi).last

theorem reads_siteFields {q : SiteFields} (h : q.wf = true) : Reads getSiteFields (putSiteFields q) q := by
  simp only [SiteFields.wf, Bool.and_eq_true, and_assoc] at h
  obtain ⟨site, kind, tempPoint, concKind, concPoint, fixedConc, presPoint, onset, actionKind, actionWell, margin, alarmMargin,
    inhibitorLostMargin, fallbackFloor, station, doseBase, doseGain, alertDose, clearDose, confirmTime, serviceDose, flashBase,
    flashTemp, slope⟩ := h
  unfold putSiteFields putSiteConfig
  simp only [List.append_assoc]
  exact (byte site).before <| (byte kind).before <| (identifier tempPoint).before <| (byte concKind).before <|
      (byte concPoint).before <| (classValue fixedConc).before <| (identifier presPoint).before <| (number onset).before <|
      (byte actionKind).before <| (byte actionWell).before <| (classValue margin).before <| (classValue alarmMargin).before <|
      (classValue inhibitorLostMargin).before <| (classValue fallbackFloor).before <| (identifier station).before <|
      (classValue doseBase).before <| (number doseGain).before <| (number alertDose).before <| (number clearDose).before <|
      (number confirmTime).before <| (number serviceDose).before <| (classValue flashBase).before <|
      (classValue flashTemp).before <| (integer slope).last

theorem reads_masks (m : Option (BitVec 48)) :
    Reads (getOption (getSet 6)) (putOption (fun m => putSet 6 (BitVec.toNat m)) m) (m.map BitVec.toNat) := by
  rcases m with _ | m
  · exact (getByte_reads 0).before (.done none)
  · exact (getByte_reads 1).before (maskBytes (n := 6) m).last

theorem map_ofNat_toNat {n : Nat} (m : Option (BitVec n)) : (m.map BitVec.toNat).map (BitVec.ofNat n) = m := by
  cases m <;> simp

end Wire

/-! ### Requests -/

open Wire Reads

/-- A Body is read by the reader of its Kind. -/
theorem decodeRequest_of_reads {kind : Nat} {reader : Reader Request} {body : List Byte} {r : Request}
    (assigned : readerOf kind = some reader) (h : Reads reader body r) : decodeRequest kind body = .ok r := by
  have read := h []
  rw [List.append_nil] at read
  rw [decodeRequest, assigned]
  dsimp only
  rw [read]
  rfl

theorem decodeRequest_body (r : Request) (h : r.wf = true) : decodeRequest r.kind r.body = .ok r := by
  cases r with
  | identify | readDiscrete | readTurbine | readHeating | readConditions | silence | resume | commission | decommission
  | softReset => exact decodeRequest_of_reads rfl (.done _)
  | heatingOn | heatingOff => rfl
  | setClock clock => exact decodeRequest_of_reads rfl (number h).last
  | configurePoint q => exact decodeRequest_of_reads rfl (reads_pointFields h).last
  | configureLine q => exact decodeRequest_of_reads rfl (reads_lineFields h).last
  | configureDiscrete q => exact decodeRequest_of_reads rfl (reads_discreteFields h).last
  | configureWell q => exact decodeRequest_of_reads rfl (reads_wellFields h).last
  | configureTurbine q => exact decodeRequest_of_reads rfl (reads_turbineFields h).last
  | configureHeating q => exact decodeRequest_of_reads rfl (reads_heatingFields h).last
  | configureSite q => exact decodeRequest_of_reads rfl (reads_siteFields h).last
  | clearStaged v | swapSchedule v | resetLine v | readWell v | readConstraints v =>
    exact decodeRequest_of_reads rfl (byte h).last
  | releaseSnapshot v => exact decodeRequest_of_reads rfl (number h).last
  | readPoints v w | removeEntry v w | readLine v w | setDiscrete v w | withdrawLimit v w =>
    obtain ⟨first, second⟩ := Bool.and_eq_true_iff.mp h
    exact decodeRequest_of_reads rfl ((byte first).before (byte second).last)
  | writePoint point value =>
    obtain ⟨first, second⟩ := Bool.and_eq_true_iff.mp h
    exact decodeRequest_of_reads rfl ((byte first).before (classValue second).last)
  | setSubstitute point substitute =>
    obtain ⟨first, second⟩ := Bool.and_eq_true_iff.mp h
    have value : ∀ v, substitute = some v → Reads getClass (putClass v) v := fun v e => classValue (by simpa [e] using second)
    exact decodeRequest_of_reads rfl ((byte first).before (optional value).last)
  | editEntry line position entry | insertEntry line position entry =>
    obtain ⟨first, third⟩ := Bool.and_eq_true_iff.mp h
    obtain ⟨first, second⟩ := Bool.and_eq_true_iff.mp first
    refine decodeRequest_of_reads rfl ?_
    rw [Request.body, List.append_assoc]
    exact (byte first).before <| (byte second).before (reads_entry third).last
  | clearEdges lines =>
    have read : Reads (getSet 3 >>= fun m => pure (Request.clearEdges (BitVec.ofNat 24 m))) (putSet 3 lines.toNat)
        (Request.clearEdges (BitVec.ofNat 24 lines.toNat)) := (maskBytes (n := 3) lines).last
    rw [BitVec.ofNat_toNat, BitVec.setWidth_eq] at read
    exact decodeRequest_of_reads rfl read
  | start well | stop well | wellResetTrip well | unlock well | siteEnable site | siteDisable site | markCleaned site =>
    exact decodeRequest_of_reads rfl ((byte h).before ((byte rfl).final (.done _)))
  | setTarget well value =>
    obtain ⟨first, second⟩ := Bool.and_eq_true_iff.mp h
    refine decodeRequest_of_reads rfl ?_
    rw [Request.body, List.append_assoc]
    exact (byte first).before <| (byte rfl).before (classValue second).last
  | restoreDose site value =>
    obtain ⟨first, second⟩ := Bool.and_eq_true_iff.mp h
    refine decodeRequest_of_reads rfl ?_
    rw [Request.body, List.append_assoc]
    exact (byte first).before <| (byte rfl).before (number second).last
  | roll | unload | trip | turbineResetTrip => exact decodeRequest_of_reads rfl ((byte rfl).final (.done _))
  | setMode mode => exact decodeRequest_of_reads rfl ((byte rfl).before (byte h).last)
  | setLoad value => exact decodeRequest_of_reads rfl ((byte rfl).before (classValue h).last)
  | setCurve breakpoints =>
    obtain ⟨count, points⟩ := Bool.and_eq_true_iff.mp h
    exact decodeRequest_of_reads rfl ((byte count).before (Reads.breakpoints points).last)
  | readSite site view =>
    obtain ⟨first, second⟩ := Bool.and_eq_true_iff.mp h
    cases view with
    | status => exact decodeRequest_of_reads rfl ((byte first).before ((byte rfl).final (.done _)))
    | ring from_ count =>
      obtain ⟨second, third⟩ := Bool.and_eq_true_iff.mp second
      refine decodeRequest_of_reads rfl ?_
      rw [Request.body, List.append_assoc, List.append_assoc]
      exact (byte first).before <| (byte rfl).before <| (byte second).before (byte third).last
  | postLimit targetKind targetWell value | armSupervision targetKind targetWell value =>
    obtain ⟨first, third⟩ := Bool.and_eq_true_iff.mp h
    obtain ⟨first, second⟩ := Bool.and_eq_true_iff.mp first
    refine decodeRequest_of_reads rfl ?_
    rw [Request.body, List.append_assoc]
    exact (number first).before <| (number second).before (classValue third).last
  | setMasks watch horn =>
    have read : Reads (getOption (getSet 6) >>= fun w => getOption (getSet 6) >>= fun h =>
        pure (Request.setMasks (w.map (BitVec.ofNat 48)) (h.map (BitVec.ofNat 48)))) (Request.setMasks watch horn).body
        (Request.setMasks ((watch.map BitVec.toNat).map (BitVec.ofNat 48)) ((horn.map BitVec.toNat).map (BitVec.ofNat 48))) :=
      (reads_masks watch).before (reads_masks horn).last
    rw [map_ofNat_toNat, map_ofNat_toNat] at read
    exact decodeRequest_of_reads rfl read

end Sys2Proof

open Sys2Proof

/-- Settles O10. -/
theorem everyRequestBodyIsReadBack : Obligations.EveryRequestBodyIsReadBack := decodeRequest_body

end

section
/-! PROOFS. How a good frame arrives: it is taken at once, it waits in the request queue, or it is answered BUSY. -/

namespace Sys2Proof.Machine

-- One after the other: see Laws/Frames.lean.
set_option Elab.async false

/-! ### The Kinds of requests -/

theorem Request.kind_range (r : Request) : 1 ≤ r.kind ∧ r.kind ≤ 0x2B := by cases r <;> simp [Request.kind]

theorem Request.kind_toNat (r : Request) : (BitVec.ofNat 8 r.kind).toNat = r.kind := by
  obtain ⟨_, high⟩ := Request.kind_range r
  exact Nat.mod_eq_of_lt (by omega)

/-! ### Taking -/

theorem answerRequest_requests (kind tag : Byte) (p : Parsed) (s : State) :
    (answerRequest kind tag p s).link.requests = s.link.requests := by
  show (settleRequest p s).1.link.requests = _
  cases p with
  | ok r => exact (applyRequest_link r s).1
  | _ => rfl

/-- A frame that nothing is in the way of is taken in its arrival. -/
theorem offerRequest_taken {s : State} (h : takenAtOnce s = true) (kind tag : Byte) (body : List Byte) :
    offerRequest kind tag body s = answerRequest kind tag (decodeRequest kind.toNat body) s := by
  simp only [takenAtOnce, Bool.and_eq_true, List.isEmpty_iff] at h
  obtain ⟨⟨empty, room⟩, free⟩ := h
  have back : ({ s with link := { s.link with requests := [] } } : State) = s := by rw [← empty]
  unfold offerRequest takeRequests
  simp only [empty, State.modLink, room, free, back, List.length_nil, List.nil_append, Bool.and_self, if_true, Nat.zero_lt_succ]
  exact takeRequests_none 3 _ ((answerRequest_requests _ _ _ _).trans empty)

theorem goodFrame_request {kind : Byte} (h : 1 ≤ kind.toNat ∧ kind.toNat ≤ 63) (tag : Byte) (body : List Byte) (s : State) :
    goodFrame kind tag body s = offerRequest kind tag body (refreshSupervision s) := if_pos h

theorem arriveRequest_frame (tag : Byte) {r : Request} (h : r.wf = true) (s : State) :
    arriveRequest tag r s = goodFrame (BitVec.ofNat 8 r.kind) tag r.body s := by
  obtain ⟨low, high⟩ := Request.kind_range r
  rw [goodFrame_request (by rw [Request.kind_toNat]; omega)]
  unfold arriveRequest
  dsimp only
  split
  · rename_i taken
    rw [offerRequest_taken taken, Request.kind_toNat, decodeRequest_body r h]
  · rfl

/-! ### Waiting -/

theorem takeRequests_full (n : Nat) {s : State} (h : 4 ≤ s.link.replies.length ∨ s.link.softResetPending = true) :
    takeRequests n s = s := by
  rcases h with full | pending
  · cases n with
    | zero => rfl
    | succ n =>
      unfold takeRequests
      split
      · rfl
      · rw [decide_eq_false (by omega), Bool.false_and]
        rfl
  · exact takeRequests_waits n (.inr pending)

/-- The request queue with one more. -/
def State.enqueue (s : State) (q : QueuedRequest) : State := s.modLink fun l => { l with requests := l.requests ++ [q] }

theorem State.enqueue_only (s : State) (q : QueuedRequest) : Only [.requests] s (s.enqueue q) := by
  intro p hp; cases p <;> first | rfl | simp at hp

/-- The BUSY place filled. -/
def State.placeBusy (s : State) (kind tag : Byte) : State := s.modLink fun l =>
  { l with busyPlace := some ⟨⟨replyKind kind, tag, [8]⟩, l.placings⟩, placings := l.placings + 1,
           busyCount := satSucc 65535 l.busyCount }

theorem State.placeBusy_only (s : State) (kind tag : Byte) : Only [.requests, .outgoing] s (s.placeBusy kind tag) := by
  intro p hp; cases p <;> first | rfl | simp at hp

theorem answerBusy_placed {s : State} (h : s.link.busyPlace = none) (kind tag : Byte) :
    answerBusy kind tag s = s.placeBusy kind tag := by
  simp only [answerBusy, State.placeBusy, State.modLink, h]
  rfl

/-- One more BUSY reply that found no place. -/
def State.loseBusy (s : State) : State := s.modLink fun l => { l with busyLostCount := satSucc 65535 l.busyLostCount }

theorem State.loseBusy_only (s : State) : Only [.requests] s s.loseBusy := by
  intro p hp; cases p <;> first | rfl | simp at hp

theorem answerBusy_lost {s : State} {b : WaitingReply} (h : s.link.busyPlace = some b) (kind tag : Byte) :
    answerBusy kind tag s = s.loseBusy := by
  simp only [answerBusy, State.loseBusy, State.modLink, h]

section

variable {s : State} (tag : Byte) (r : Request)

/-- A request that cannot be taken joins the queue where that has room. -/
theorem arriveRequest_waits (room : s.link.requests.length < 4) (h : s.link.replies.length = 4 ∨ s.link.softResetPending = true) :
    arriveRequest tag r s = (refreshSupervision s).enqueue ⟨BitVec.ofNat 8 r.kind, tag, r.body⟩ := by
  have blocked : takenAtOnce (refreshSupervision s) = false := by
    unfold takenAtOnce
    rw [refreshSupervision_link]
    rcases h with full | pending
    · rw [decide_eq_false (by omega), Bool.and_false, Bool.false_and]
    · rw [pending, Bool.not_true, Bool.and_false]
  unfold arriveRequest offerRequest
  dsimp only
  rw [blocked, if_neg Bool.false_ne_true, refreshSupervision_link, if_pos room]
  refine takeRequests_full 4 ?_
  show 4 ≤ (refreshSupervision s).link.replies.length ∨ (refreshSupervision s).link.softResetPending = true
  rw [refreshSupervision_link]
  exact h.imp_left fun full => full.ge

theorem arriveRequest_busy (full : s.link.requests.length = 4) :
    arriveRequest tag r s = answerBusy (BitVec.ofNat 8 r.kind) tag (refreshSupervision s) := by
  have blocked : takenAtOnce (refreshSupervision s) = false := by
    unfold takenAtOnce
    rw [refreshSupervision_link, List.isEmpty_eq_false_iff.mpr (by rintro e; rw [e] at full; cases full)]
    rfl
  unfold arriveRequest offerRequest
  dsimp only
  rw [blocked, if_neg Bool.false_ne_true, refreshSupervision_link]
  exact if_neg (by omega)

/-- The arrival of a request while a frame is under transmission: what it changes stands, and nothing begins. -/
theorem arrives_of {c : Instr} {f : Frame} (hc : c.request = some (tag, r)) (runs : s.initialising = false)
    (sends : s.link.sending = some f) {changed : List Part} {u : State} (arrival : arriveRequest tag r s = u)
    (only : Only changed (refreshSupervision s) u) (link : u.link.sending = some f) (apart : Part.supervision ∉ changed)
    (quiet : Part.conditions ∉ changed) {P : State → Prop}
    (outcome : ∀ t, UnchangedBut [] u t → t.link.sending = s.link.sending → SupervisionRefreshed s.supervision t.supervision → P t) :
    ∃ t, exec c s = .next t ∧ P t ∧ UnchangedBut (.supervision :: changed) s t := by
  have frame := finish_frame u fun idle => by rw [link] at idle; cases idle
  have refreshed : SupervisionRefreshed s.supervision (finish u).supervision := by
    obtain ⟨v, hv, -, refreshed⟩ := refreshSupervision_eq s
    have stands : (finish u).supervision = u.supervision := frame .supervision (by decide)
    rw [stands, show u.supervision = (refreshSupervision s).supervision from only .supervision apart, hv]
    exact refreshed
  have sent : SendingSettled u (finish u) := (frame .outgoing (by decide)).2.2
  refine ⟨finish u, ?_, outcome _ frame ?_ refreshed, ?_⟩
  · rw [exec_request hc, ← arrival]
    exact event_running runs
  · rw [sent.1 (by rw [link]; nofun), link, sends]
  · exact (((refreshSupervision_only s).mono (by simp)).trans (only.mono fun _ => List.mem_cons_of_mem _)).settled (frame.mono (by simp)) fun _ => by simp [quiet]

end

end Sys2Proof.Machine

open Sys2Proof Sys2Proof.Machine

/-- Settles O11. -/
theorem aRequestRowIsItsFrame : Obligations.ARequestRowIsItsFrame := by
  intro c tag r s hc h
  rw [exec_request hc]
  show event (arriveRequest tag r) s = event (goodFrame (BitVec.ofNat 8 r.kind) tag r.body) s
  unfold event
  rw [arriveRequest_frame tag h]

/-- Settles O12. -/
theorem aRequestWaitsOrIsAnsweredBusy : Obligations.ARequestWaitsOrIsAnsweredBusy := by
  intro c tag r s f hc runs sends
  have stands := refreshSupervision_link s
  refine ⟨fun room h => ?_, fun full free => ?_, fun b full taken => ?_⟩
  · obtain ⟨t, he, ⟨⟨e1, e2, e3, e4⟩, refreshed⟩, frame⟩ := arrives_of tag r hc runs sends (arriveRequest_waits tag r room h)
      (State.enqueue_only _ _) ((congrArg Link.sending stands).trans sends) (by decide) (by decide)
      fun t ht _ refreshed => And.intro (ht .requests (by decide)) refreshed
    rw [State.enqueue, State.modLink, stands] at e1 e2 e3 e4
    exact ⟨t, he, e1, e2, e3, e4, refreshed, frame⟩
  · have busy : (refreshSupervision s).link.busyPlace = none := (congrArg Link.busyPlace stands).trans free
    have link := answerBusy_placed busy (BitVec.ofNat 8 r.kind) tag
    obtain ⟨t, he, ⟨⟨e1, e2, e3, e4⟩, e5, e6, refreshed⟩, frame⟩ := arrives_of tag r hc runs sends (arriveRequest_busy tag r full)
      (changed := [.requests, .outgoing]) (by rw [link]; exact State.placeBusy_only _ _ _) (by rw [link]; exact (congrArg Link.sending stands).trans sends) (by decide) (by decide)
      fun t ht sent refreshed => And.intro (ht .requests (by decide)) (And.intro (ht .outgoing (by decide)).1 (And.intro sent refreshed))
    rw [link, State.placeBusy, State.modLink, stands] at e1 e2 e3 e4 e5
    refine ⟨t, he, e1, ?_, e3, e4, e5, e6, refreshed, frame⟩
    rw [e2, BitVec.ofNat_add]
    rfl
  · have busy : (refreshSupervision s).link.busyPlace = some b := (congrArg Link.busyPlace stands).trans taken
    have link := answerBusy_lost busy (BitVec.ofNat 8 r.kind) tag
    obtain ⟨t, he, ⟨⟨e1, e2, e3, e4⟩, refreshed⟩, frame⟩ := arrives_of tag r hc runs sends (arriveRequest_busy tag r full)
      (changed := [.requests]) (by rw [link]; exact State.loseBusy_only _) (by rw [link]; exact (congrArg Link.sending stands).trans sends)
      (by decide) (by decide) fun t ht _ refreshed => And.intro (ht .requests (by decide)) refreshed
    rw [link, State.loseBusy, State.modLink, stands] at e1 e2 e3 e4
    exact ⟨t, he, e1, e2.trans taken, e3, e4, refreshed, frame⟩
end

section
/-! PROOFS. What the link makes of a frame it refuses. The readers of the Bodies measure what section 10.7 lists: each field takes its
bytes off the front, so the comparison of a record's length follows its fields one by one. -/

namespace Sys2Proof

-- One after the other: see Laws/Frames.lean.
set_option Elab.async false

namespace Wire

/-! ### A reader measures a Body -/

/-- What the end of a reading comes to. -/
def verdictOf {α : Type} : Except ReadError (α × List Byte) → Machine.BodyVerdict
  | .ok (_, rest) => if rest = [] then .fits else .badLength
  | .error .short => .badLength
  | .error .badChoice => .badField

open Machine (BodyPiece)

/-- The reader reads exactly the Bodies that these pieces measure. -/
def Takes {α : Type} (g : Reader α) (ps : List BodyPiece) : Prop := ∀ body, verdictOf (g body) = Machine.measure ps body

theorem getByte_cons {α : Type} (k : Nat → Reader α) (c : Byte) (rest : List Byte) : (getByte >>= k) (c :: rest) = k c.toNat rest := rfl

namespace Takes

section

variable {α β : Type} {b n : Nat} {qs : List BodyPiece}

theorem done (a : α) : Takes (pure a) [] := fun _ => rfl

theorem map {g : Reader α} {ps : List BodyPiece} (h : Takes g ps) (f : α → β) : Takes (g >>= fun a => pure (f a)) ps := fun body => by
  rw [← h body, bind_apply]
  rcases g body with (_ | _) | ⟨a, rest⟩ <;> rfl

theorem zero {g : Reader α} (h : Takes g qs) : Takes g (.bytes 0 :: qs) := h

theorem last (a : α) : Takes (pure a) [.bytes 0] := zero (done a)

theorem byteRead {k : Nat → Reader α} (h : ∀ x, Takes (k x) (.bytes b :: qs)) : Takes (getByte >>= k) (.bytes (b + 1) :: qs) := by
  intro body
  cases body with
  | nil => rfl
  | cons c rest =>
    rw [getByte_cons, h]
    simp only [Machine.measure, List.length_cons, Nat.add_lt_add_iff_right, List.drop_succ_cons]

theorem numberFrom {k : Nat → Reader α} (n acc : Nat) (h : ∀ x, Takes (k x) (.bytes b :: qs)) :
    Takes (getNatFrom n acc >>= k) (.bytes (b + n) :: qs) := by
  induction n generalizing acc with
  | zero => rw [getNatFrom, pure_bind]; exact h acc
  | succ n ih =>
    rw [getNatFrom, bind_assoc]
    exact byteRead fun x => ih _

theorem number {k : Nat → Reader α} (h : ∀ x, Takes (k x) (.bytes b :: qs)) : Takes (getNat n >>= k) (.bytes (b + n) :: qs) :=
  numberFrom n 0 h

theorem integer {k : Int → Reader α} (h : ∀ x, Takes (k x) (.bytes b :: qs)) : Takes (getInt n >>= k) (.bytes (b + n) :: qs) := by
  rw [getInt, bind_assoc]
  exact number fun x => by rw [pure_bind]; exact h _

theorem classValue {k : Int → Reader α} (h : ∀ x, Takes (k x) (.bytes b :: qs)) : Takes (getClass >>= k) (.bytes (b + 3) :: qs) :=
  integer h

theorem set {k : Nat → Reader α} (n : Nat) (h : ∀ x, Takes (k x) (.bytes b :: qs)) : Takes (getSet n >>= k) (.bytes (b + n) :: qs) := by
  induction n generalizing k with
  | zero => rw [getSet, pure_bind]; exact h 0
  | succ n ih =>
    rw [getSet, bind_assoc]
    refine byteRead fun x => ?_
    rw [bind_assoc]
    exact ih fun v => by rw [pure_bind]; exact h _

theorem breakpoints {k : List (Int × Int) → Reader α} (n : Nat) (h : ∀ x, Takes (k x) (.bytes b :: qs)) :
    Takes (getBreakpoints n >>= k) (.bytes (b + 6 * n) :: qs) := by
  induction n generalizing k with
  | zero => rw [getBreakpoints, pure_bind]; exact h []
  | succ n ih =>
    rw [getBreakpoints, bind_assoc, show b + 6 * (n + 1) = b + 6 * n + 3 + 3 by omega]
    refine classValue fun o => ?_
    rw [bind_assoc]
    refine classValue fun t => ?_
    rw [bind_assoc]
    exact ih fun rest => by rw [pure_bind]; exact h _

/-- A field behind its presence byte. -/
theorem option {get : Reader β} {k : Option β → Reader α} (hget : ∀ j : β → Reader α, (∀ x, Takes (j x) qs) → Takes (get >>= j) (.bytes n :: qs))
    (h : ∀ o, Takes (k o) qs) : Takes (getOption get >>= k) (.optional n :: qs) := by
  intro body
  rw [getOption, bind_assoc]
  cases body with
  | nil => rfl
  | cons c rest =>
    rw [getByte_cons]
    unfold Machine.measure
    by_cases absent : c = 0
    · subst absent
      exact h none rest
    · by_cases present : c = 1
      · subst present
        rw [if_neg absent, if_pos rfl]
        show verdictOf (((get >>= fun a => pure (some a)) >>= k) rest) = _
        rw [bind_assoc]
        exact hget _ (fun a => by rw [pure_bind]; exact h _) rest
      · rw [if_neg absent, if_neg present]
        split
        · rename_i zero
          exact absurd (BitVec.eq_of_toNat_eq zero) absent
        · rename_i one
          exact absurd (BitVec.eq_of_toNat_eq one) present
        · rfl

theorem identifier {k : Option Nat → Reader α} (h : ∀ o, Takes (k o) qs) : Takes (getOption (getNat 1) >>= k) (.optional 1 :: qs) :=
  option (fun _ hj => number (b := 0) fun x => (hj x).zero) h

end

end Takes

/-! ### The records of the configuring requests -/

theorem takes_pointFields : Takes getPointFields [.bytes 26] :=
  .number fun _ => .number fun _ => .number fun _ => .number fun _ => .integer fun _ => .integer fun _ => .integer fun _ =>
    .integer fun _ => .number fun _ => .number fun _ => .number fun _ => .number fun _ => .last _

theorem takes_lineFields : Takes getLineFields [.bytes 7] :=
  .number fun _ => .number fun _ => .number fun _ => .number fun _ => .number fun _ => .number fun _ => .last _

theorem takes_entry : Takes getEntry [.bytes 2, .optional 1, .optional 1, .bytes 3] :=
  .number fun _ => .number fun _ => .zero <| .identifier fun _ => .identifier fun _ => .number fun _ => .number fun _ =>
    .number fun _ => .last _

theorem takes_discreteFields : Takes getDiscreteFields [.bytes 8] :=
  .number fun _ => .number fun _ => .number fun _ => .number fun _ => .number fun _ => .number fun _ => .number fun _ =>
    .number fun _ => .last _

theorem takes_wellFields : Takes getWellFields [.bytes 2, .optional 1, .optional 1, .optional 1, .bytes 42] :=
  .number fun _ => .number fun _ => .zero <| .identifier fun _ => .identifier fun _ => .identifier fun _ =>
    .classValue fun _ => .classValue fun _ => .number fun _ => .classValue fun _ => .classValue fun _ => .classValue fun _ =>
    .number fun _ => .classValue fun _ => .number fun _ => .classValue fun _ => .classValue fun _ => .classValue fun _ =>
    .number fun _ => .number fun _ => .number fun _ => .number fun _ => .number fun _ => .number fun _ => .number fun _ =>
    .number fun _ => .last _

theorem takes_turbineFields : Takes getTurbineFields [.optional 1, .optional 1, .optional 1, .optional 1, .bytes 65] :=
  .identifier fun _ => .identifier fun _ => .identifier fun _ => .identifier fun _ => .number fun _ => .classValue fun _ =>
    .number fun _ => .classValue fun _ => .classValue fun _ => .number fun _ => .number fun _ => .number fun _ =>
    .classValue fun _ => .classValue fun _ => .number fun _ => .classValue fun _ => .classValue fun _ => .classValue fun _ =>
    .number fun _ => .classValue fun _ => .classValue fun _ => .number fun _ => .classValue fun _ => .number fun _ =>
    .classValue fun _ => .number fun _ => .number fun _ => .number fun _ => .number fun _ => .number fun _ => .number fun _ =>
    .number fun _ => .last _

theorem takes_heatingFields : Takes getHeatingFields [.optional 1, .optional 1, .optional 1, .optional 1, .optional 1, .optional 1, .optional 1, .bytes 19] :=
  .identifier fun _ => .identifier fun _ => .identifier fun _ => .identifier fun _ => .identifier fun _ => .identifier fun _ =>
    .identifier fun _ => .classValue fun _ => .classValue fun _ => .classValue fun _ => .number fun _ => .number fun _ =>
    .number fun _ => .number fun _ => .number fun _ => .last _

theorem takes_siteFields : Takes getSiteFields [.bytes 2, .optional 1, .bytes 5, .optional 1, .bytes 16, .optional 1, .bytes 27] :=
  .number fun _ => .number fun _ => .zero <| .identifier fun _ => .number fun _ => .number fun _ => .classValue fun _ =>
    .zero <| .identifier fun _ => .number fun _ => .number fun _ => .number fun _ => .classValue fun _ => .classValue fun _ =>
    .classValue fun _ => .classValue fun _ => .zero <| .identifier fun _ => .classValue fun _ => .number fun _ =>
    .number fun _ => .number fun _ => .number fun _ => .number fun _ => .classValue fun _ => .classValue fun _ =>
    .integer fun _ => .last _

end Wire

/-! ### The comparison of a Body's length -/

open Wire Machine

/-- What the link makes of a Body; none for a Kind without a request. -/
def Parsed.verdict : Parsed → Option BodyVerdict
  | .unknownKind => none
  | .badLength => some .badLength
  | .badField => some .badField
  | .ok _ => some .fits

theorem decodeRequest_verdict {kind : Nat} {reader : Reader Request} (assigned : readerOf kind = some reader) (body : List Byte) :
    (decodeRequest kind body).verdict = some (verdictOf (reader body)) := by
  rw [decodeRequest, assigned]
  dsimp only
  rcases reader body with (_ | _) | ⟨r, rest⟩
  · rfl
  · rfl
  · cases rest <;> rfl

/-! ### Commands and views -/

/-- The Body that one piece of so many bytes measures. -/
theorem measure_bytes (n : Nat) (body : List Byte) :
    Machine.measure [.bytes n] body = if body.length = n then .fits else .badLength := by
  simp only [Machine.measure, List.drop_eq_nil_iff]
  split
  · rw [if_neg (by omega)]
  · split
    · rw [if_pos (by omega)]
    · rw [if_neg (by omega)]

theorem getNat_cons {α : Type} (k : Nat → Reader α) (c : Byte) (rest : List Byte) : (getNat 1 >>= k) (c :: rest) = k c.toNat rest := by
  have e : getNat 1 = getByte >>= fun b => pure (0 * 256 + b) := rfl
  rw [e, bind_assoc, getByte_cons, pure_bind, Nat.zero_mul, Nat.zero_add]

theorem some_eq_iff_toNat {b : Byte} {n : Nat} (h : n < 256) : some b = some (BitVec.ofNat 8 n) ↔ b.toNat = n := by
  rw [Option.some_inj, ← BitVec.toNat_inj, BitVec.toNat_ofNat, Nat.mod_eq_of_lt h]

/-- A Body of an identifier, a command byte, and what the command carries: the one command that carries something is `longer`. -/
theorem commandAt_verdict {k : Nat → Nat → Reader Request} {kind top longer width : Nat} (small : longer < 256)
    (beyond : ∀ body, commandBeyond kind body = body[1]?.any fun b => decide (top < b.toNat))
    (pieces : ∀ body, bodyPieces kind body = [.bytes (if body[1]? = some (BitVec.ofNat 8 longer) then 2 + width else 2)])
    (h : ∀ a n rest, verdictOf (k a n rest) =
      if top < n then .badField else Machine.measure [.bytes (if n = longer then width else 0)] rest) (body : List Byte) :
    verdictOf ((getNat 1 >>= fun a => getNat 1 >>= fun n => k a n) body) = bodyVerdict kind body := by
  unfold bodyVerdict
  rw [beyond, pieces]
  rcases body with _ | ⟨a, _ | ⟨b, rest⟩⟩
  · rfl
  · rfl
  · rw [getNat_cons, getNat_cons, h, measure_bytes, measure_bytes]
    show _ = if decide (top < b.toNat) = true then BodyVerdict.badField else
      if rest.length + 2 = (if some b = some (BitVec.ofNat 8 longer) then 2 + width else 2) then .fits else .badLength
    simp only [some_eq_iff_toNat small, decide_eq_true_eq]
    split_ifs <;> first | rfl | omega

theorem wellCommand_verdict (body : List Byte) : verdictOf (getWellCommand body) = bodyVerdict 0x14 body := by
  refine commandAt_verdict (top := 4) (longer := 2) (width := 3) (by decide) (fun _ => rfl) (fun _ => rfl) (fun a n rest => ?_) body
  rcases n with _ | _ | _ | _ | _ | n
  · exact Takes.last _ rest
  · exact Takes.last _ rest
  · exact Takes.classValue (fun _ => .last _) rest
  · exact Takes.last _ rest
  · exact Takes.last _ rest
  · rw [if_pos (by omega)]
    rfl

theorem siteCommand_verdict (body : List Byte) : verdictOf (getSiteCommand body) = bodyVerdict 0x1E body := by
  refine commandAt_verdict (top := 3) (longer := 3) (width := 4) (by decide) (fun _ => rfl) (fun _ => rfl) (fun a n rest => ?_) body
  rcases n with _ | _ | _ | _ | n
  · exact Takes.last _ rest
  · exact Takes.last _ rest
  · exact Takes.last _ rest
  · exact Takes.number (fun _ => .last _) rest
  · rw [if_pos (by omega)]
    rfl

theorem readSite_verdict (body : List Byte) : verdictOf (getReadSite body) = bodyVerdict 0x1F body := by
  refine commandAt_verdict (top := 1) (longer := 1) (width := 2) (by decide) (fun _ => rfl) (fun _ => rfl) (fun a n rest => ?_) body
  rcases n with _ | _ | n
  · exact Takes.last _ rest
  · exact Takes.number (fun _ => .number fun _ => .last _) rest
  · rw [if_pos (by omega)]
    rfl

theorem turbineCommand_verdict (body : List Byte) : verdictOf (getTurbineCommand body) = bodyVerdict 0x17 body := by
  rcases body with _ | ⟨b, rest⟩
  · rfl
  · have width : ∀ n rest, verdictOf (((match n with
        | 0 => pure .roll
        | 1 => getNat 1 >>= fun mode => pure (.setMode mode)
        | 2 => getClass >>= fun value => pure (.setLoad value)
        | 3 => pure .unload
        | 4 => pure .trip
        | 5 => pure .turbineResetTrip
        | _ => throw .badChoice) : Reader Request) rest) = if 5 < n then .badField else
          Machine.measure [.bytes (if n = 1 then 1 else if n = 2 then 3 else 0)] rest := by
      intro n rest
      rcases n with _ | _ | _ | _ | _ | _ | n
      · exact Takes.last _ rest
      · exact Takes.number (fun _ => .last _) rest
      · exact Takes.classValue (fun _ => .last _) rest
      · exact Takes.last _ rest
      · exact Takes.last _ rest
      · exact Takes.last _ rest
      · rw [if_pos (by omega)]
        rfl
    show verdictOf (getTurbineCommand (b :: rest)) = if decide (5 < b.toNat) = true then BodyVerdict.badField else
      Machine.measure [.bytes (if some b = some (BitVec.ofNat 8 1) then 2 else if some b = some (BitVec.ofNat 8 2) then 4 else 1)] (b :: rest)
    rw [getTurbineCommand, getNat_cons]
    refine (width b.toNat rest).trans ?_
    rw [measure_bytes, measure_bytes, List.length_cons]
    simp only [some_eq_iff_toNat (show 1 < 256 by decide), some_eq_iff_toNat (show 2 < 256 by decide), decide_eq_true_eq]
    split_ifs <;> first | rfl | omega

theorem heatingCommand_verdict (body : List Byte) : verdictOf (getHeatingCommand body) = bodyVerdict 0x1B body := by
  rcases body with _ | ⟨b, _ | ⟨c, rest⟩⟩
  · rfl
  · show verdictOf (getHeatingCommand [b]) = if decide (1 < b.toNat) = true then BodyVerdict.badField else .fits
    rw [getHeatingCommand, getNat_cons]
    rcases b.toNat with _ | _ | n
    · rfl
    · rfl
    · rw [if_pos (decide_eq_true (by omega))]
      rfl
  · rw [getHeatingCommand, getNat_cons]
    rfl

theorem curve_verdict (body : List Byte) :
    verdictOf ((getNat 1 >>= fun n => getBreakpoints n >>= fun ps => pure (Request.setCurve ps)) body) = bodyVerdict 0x1A body := by
  show _ = Machine.measure [.bytes (1 + 6 * (body.headD 0).toNat)] body
  rcases body with _ | ⟨b, rest⟩
  · rfl
  · rw [getNat_cons, Takes.breakpoints (b := 0) _ (fun ps => .last _) rest, measure_bytes, measure_bytes, List.length_cons, List.headD_cons]
    split_ifs <;> first | rfl | omega

/-- A Kind of its own shape. -/
theorem verdict_of_reader {kind : Nat} {reader : Reader Request} {body : List Byte} (assigned : readerOf kind = some reader)
    (h : verdictOf (reader body) = bodyVerdict kind body) : (decodeRequest kind body).verdict = some (bodyVerdict kind body) := by
  rw [decodeRequest_verdict assigned, h]

/-- A Kind whose pieces its number alone decides. -/
theorem verdict_of_takes {kind : Nat} {reader : Reader Request} {body : List Byte} (assigned : readerOf kind = some reader)
    (plain : commandBeyond kind body = false) (h : Takes reader (bodyPieces kind body)) :
    (decodeRequest kind body).verdict = some (bodyVerdict kind body) := by
  rw [decodeRequest_verdict assigned, h, bodyVerdict, plain]
  rfl

/-- The link compares the Body of every assigned Kind as section 10.7 measures it. -/
theorem decodeRequest_bodyVerdict {kind : Nat} (low : 1 ≤ kind) (high : kind ≤ 0x2B) (body : List Byte) :
    (decodeRequest kind body).verdict = some (bodyVerdict kind body) := by
  interval_cases kind
  · exact verdict_of_takes rfl rfl (.done _)
  · exact verdict_of_takes rfl rfl (.number fun _ => .last _)
  · exact verdict_of_takes rfl rfl (takes_pointFields.map _)
  · exact verdict_of_takes rfl rfl (.number fun _ => .number fun _ => .last _)
  · exact verdict_of_takes rfl rfl (.number fun _ => .classValue fun _ => .last _)
  · exact verdict_of_takes rfl rfl (.number fun _ => .zero <| .option (fun _ h => .classValue (b := 0) fun x => (h x).zero) fun _ => .done _)
  · exact verdict_of_takes rfl rfl (takes_lineFields.map _)
  · exact verdict_of_takes rfl rfl (.number fun _ => .number fun _ => takes_entry.map _)
  · exact verdict_of_takes rfl rfl (.number fun _ => .number fun _ => takes_entry.map _)
  · exact verdict_of_takes rfl rfl (.number fun _ => .number fun _ => .last _)
  · exact verdict_of_takes rfl rfl (.number fun _ => .last _)
  · exact verdict_of_takes rfl rfl (.number fun _ => .last _)
  · exact verdict_of_takes rfl rfl (.number fun _ => .last _)
  · exact verdict_of_takes rfl rfl (.number fun _ => .number fun _ => .last _)
  · exact verdict_of_takes rfl rfl (takes_discreteFields.map _)
  · exact verdict_of_takes rfl rfl (.number fun _ => .number fun _ => .last _)
  · exact verdict_of_takes rfl rfl (.done _)
  · exact verdict_of_takes rfl rfl (.set 3 fun _ => .last _)
  · exact verdict_of_takes rfl rfl (takes_wellFields.map _)
  · exact verdict_of_reader rfl (wellCommand_verdict body)
  · exact verdict_of_takes rfl rfl (.number fun _ => .last _)
  · exact verdict_of_takes rfl rfl (takes_turbineFields.map _)
  · exact verdict_of_reader rfl (turbineCommand_verdict body)
  · exact verdict_of_takes rfl rfl (.done _)
  · exact verdict_of_takes rfl rfl (takes_heatingFields.map _)
  · exact verdict_of_reader rfl (curve_verdict body)
  · exact verdict_of_reader rfl (heatingCommand_verdict body)
  · exact verdict_of_takes rfl rfl (.done _)
  · exact verdict_of_takes rfl rfl (takes_siteFields.map _)
  · exact verdict_of_reader rfl (siteCommand_verdict body)
  · exact verdict_of_reader rfl (readSite_verdict body)
  · exact verdict_of_takes rfl rfl (.number fun _ => .number fun _ => .classValue fun _ => .last _)
  · exact verdict_of_takes rfl rfl (.number fun _ => .number fun _ => .last _)
  · exact verdict_of_takes rfl rfl (.number fun _ => .last _)
  · exact verdict_of_takes rfl rfl (.done _)
  · exact verdict_of_takes rfl rfl (.number fun _ => .last _)
  · exact verdict_of_takes rfl rfl (.option (fun _ h => .set (b := 0) 6 fun x => (h x).zero) fun _ =>
      .option (fun _ h => .set (b := 0) 6 fun x => (h x).zero) fun _ => .done _)
  · exact verdict_of_takes rfl rfl (.done _)
  · exact verdict_of_takes rfl rfl (.number fun _ => .number fun _ => .classValue fun _ => .last _)
  · exact verdict_of_takes rfl rfl (.done _)
  · exact verdict_of_takes rfl rfl (.done _)
  · exact verdict_of_takes rfl rfl (.done _)
  · exact verdict_of_takes rfl rfl (.done _)

end Sys2Proof
end

section
/-! PROOFS. A refused frame and a refused request change nothing. -/

namespace Sys2Proof.Machine

-- One after the other: see Laws/Frames.lean.
set_option Elab.async false

/-! ### Frames refused before an owner sees them -/

/-- A good frame that the link itself refuses is answered with the status alone. -/
theorem refusedFrame {s : State} (hs : Ready s) {kind : Byte} (h : 1 ≤ kind.toNat ∧ kind.toNat ≤ 63) (tag : Byte) {body : List Byte}
    {status : Status} (refused : ∀ u, settleRequest (decodeRequest kind.toNat body) u = refuse u status []) :
    Refuses (.unknownKind tag kind body) s kind.toNat tag status [] := by
  have link := refreshSupervision_link s
  have placed : goodFrame kind tag body s = placeReply kind tag ⟨status, []⟩ (refreshSupervision s) := by
    rw [goodFrame_request h, offerRequest_taken hs.takenAtOnce, answerRequest, refused]
    rfl
  obtain ⟨running, empty, room, free⟩ := hs
  obtain ⟨frame, out⟩ := finish_answer kind tag ⟨status, []⟩ (refreshSupervision s) (by rw [link]; exact empty)
    (by rw [link]; exact fun idle => ⟨(running.2 idle).1, (running.2 idle).2.1⟩)
  refine ⟨finish (placeReply kind tag ⟨status, []⟩ (refreshSupervision s)), ?_, trivial, ?_, ?_, ?_⟩
  · show event (goodFrame kind tag body) s = _
    rw [event_running running.1, placed]
  · show (finish _).link.outgoing = _
    rw [out, link, BitVec.ofNat_add, BitVec.ofNat_toNat, BitVec.setWidth_eq]
    cases status <;> rfl
  · obtain ⟨v, hv, -, refreshed⟩ := refreshSupervision_eq s
    have stands : (finish (placeReply kind tag ⟨status, []⟩ (refreshSupervision s))).supervision = (refreshSupervision s).supervision :=
      frame .supervision (by decide)
    rw [stands, hv]
    exact refreshed
  · exact ((refreshSupervision_only s).mono (by simp)).settled (frame.mono (by simp))

theorem decodeRequest_unassigned {kind : Nat} (low : 0x2C ≤ kind) (high : kind ≤ 0x3F) (body : List Byte) :
    decodeRequest kind body = .unknownKind := by
  interval_cases kind <;> rfl

/-! ### Requests refused by their owners -/

/-- What the answer of an owner comes to: the request is applied, or nothing changes. -/
def Fair (s : State) (x : State × Answer) : Prop := x.2.status = .ok ∨ x.2.status = .clamped ∨ x.1 = s

namespace Fair

variable (s u : State)

@[simp] theorem refuse (status : Status) (detail : List Byte) : Fair s (refuse s status detail) := .inr (.inr rfl)

@[simp] theorem accept (content : List Byte) : Fair s (accept u content) := .inl rfl

@[simp] theorem okOr (clamped : Bool) (content : List Byte) : Fair s (u, okOr clamped content) := by
  cases clamped
  · exact .inl rfl
  · exact .inr (.inl rfl)

@[simp] theorem wellAnswer (k : Fin 8) : Fair s (wellAnswer k u) := .inl rfl

@[simp] theorem wellRefusal (k : Fin 8) (reason : Byte) : Fair s (wellRefusal k s reason) := .inr (.inr rfl)

@[simp] theorem heatingAnswer : Fair s (heatingAnswer u) := .inl rfl

@[simp] theorem siteAnswer (i : Fin 12) : Fair s (siteAnswer i u) := .inl rfl

@[simp] theorem setCumulative (i : Fin 12) (v : Nat) : Fair s (setCumulative i v u) := .inl rfl

@[simp] theorem snapshotAnswer : Fair s (snapshotAnswer u) := .inl rfl

@[simp] theorem armAnswer (clamped : Bool) (period hold : Nat) (speed : Int) : Fair s (armAnswer clamped period hold speed u) :=
  okOr s u clamped _

@[simp] theorem applyEdit (i : Fin 3) (staged : List Entry) (content : List Byte) : Fair s (applyEdit i staged content s) := by
  unfold Machine.applyEdit
  repeat' split
  all_goals simp

end Fair

/-- Every owner is a tree of checks whose leaves refuse the request or apply it. -/
theorem applyRequest_fair (r : Request) (s : State) : Fair s (applyRequest r s) := by
  cases r
  all_goals
    dsimp only [applyRequest, ownIdentify, ownSetClock, ownConfigurePoint, ownReadPoints, ownWritePoint, ownSetSubstitute, ownConfigureLine,
      ownEditEntry, ownInsertEntry, ownRemoveEntry, ownClearStaged, ownSwapSchedule, ownResetLine, ownReadLine, ownConfigureDiscrete,
      ownSetDiscrete, ownReadDiscrete, ownClearEdges, ownConfigureWell, ownStart, ownStop, ownSetTarget, ownWellResetTrip, ownUnlock,
      ownReadWell, ownConfigureTurbine, ownRoll, ownSetMode, ownSetLoad, ownUnload, ownTrip, ownTurbineResetTrip, ownReadTurbine,
      ownConfigureHeating, ownSetCurve, ownHeatingOn, ownHeatingOff, ownReadHeating, ownConfigureSite, ownSiteEnable, ownSiteDisable,
      ownMarkCleaned, ownRestoreDose, ownReadSite, ownPostLimit, ownWithdrawLimit, ownReadConstraints, ownReadConditions,
      ownReleaseSnapshot, ownSetMasks, ownSilence, ownArmSupervision, ownResume, ownCommission, ownDecommission, ownSoftReset]
    repeat' split
  all_goals simp

theorem request_answered {c : Instr} {tag : Byte} {r : Request} {s : State} (hc : c.request = some (tag, r)) (hs : Ready s) :
    ∃ status content, Completes c s fun t => Answered s t r.kind tag status content ∧
      (status ≠ .ok → status ≠ .clamped → RequestFrame [] s t) := by
  obtain ⟨v, hv, -, refreshed⟩ := refreshSupervision_eq s
  set x := applyRequest r { s with supervision := v } with answer
  refine ⟨x.2.status, x.2.content, ?_⟩
  rcases applyRequest_fair r { s with supervision := v } with ok | clamped | same
  · obtain ⟨t, he, -, answered, -⟩ := onRequest_completes tag r hs (applyRequest_only r _) (by cases r <;> simp [owned])
      (by cases r <;> simp [owned])
    rw [hv] at answered
    exact ⟨t, (exec_request hc s).trans he, answered, fun h => absurd ok h⟩
  · obtain ⟨t, he, -, answered, -⟩ := onRequest_completes tag r hs (applyRequest_only r _) (by cases r <;> simp [owned])
      (by cases r <;> simp [owned])
    rw [hv] at answered
    exact ⟨t, (exec_request hc s).trans he, answered, fun _ h => absurd clamped h⟩
  · obtain ⟨t, he, -, answered, frame⟩ := replies_heard (changed := []) (P := fun _ => True) hc hs hv refreshed
      ⟨x.1, rfl, by rw [show x.1 = _ from same]; exact Only.refl _ _, fun _ _ _ => trivial⟩ (by decide) rfl
    exact ⟨t, he, answered, fun _ _ => frame⟩

end Sys2Proof.Machine

open Sys2Proof Sys2Proof.Machine

/-- Settles O13. -/
theorem refusedFramesAndRequests : Obligations.RefusedFramesAndRequests := by
  refine ⟨fun tag kind body s hs => ⟨fun low high => ?_, fun low high bad => ?_, fun low high bad => ?_, fun foreign => ?_⟩,
    fun kind body low high => ?_, fun c tag r s hc hs => request_answered hc hs⟩
  · exact refusedFrame hs ⟨by omega, by omega⟩ tag fun u => by rw [decodeRequest_unassigned low high]; rfl
  · exact refusedFrame hs ⟨by omega, by omega⟩ tag fun u => by rw [bad]; rfl
  · exact refusedFrame hs ⟨by omega, by omega⟩ tag fun u => by rw [bad]; rfl
  · refine happens_of hs.1 (f := goodFrame kind tag body) (fun _ => rfl) ?_ fun t ht _ => ?_
    · rw [goodFrame_foreign foreign]
      exact discardFrame_only s
    · have discards : t.link.discardCount = (goodFrame kind tag body s).link.discardCount := ht .discards (by decide)
      rw [discards, goodFrame_foreign foreign]
      rfl
  · have verdict := decodeRequest_bodyVerdict low high body
    cases read : decodeRequest kind body with
    | unknownKind => rw [read] at verdict; cases verdict
    | badLength =>
      rw [read] at verdict
      simp [← Option.some.inj verdict]
    | badField =>
      rw [read] at verdict
      simp [← Option.some.inj verdict]
    | ok r =>
      rw [read] at verdict
      simp [← Option.some.inj verdict]

end

section
/-! PROOFS. Every event leaves the condition unit to the end of the event, where it takes up the changes (O51). -/

namespace Sys2Proof

-- One after the other: see Laws/Frames.lean.
set_option Elab.async false

/-! ### A Body is read as a request of its Kind -/

namespace Wire

/-- Every value the reader answers has the property. -/
def Gives {α : Type} (g : Reader α) (P : α → Prop) : Prop := ∀ body a rest, g body = .ok (a, rest) → P a

namespace Gives

variable {α β : Type} {P : β → Prop}

theorem pure {a : β} (h : P a) : Gives (pure a) P := fun _ _ _ e => by cases e; exact h

theorem throw {e : ReadError} : Gives (throw e : Reader β) P := fun _ _ _ h => nomatch h

theorem bind {g : Reader α} {k : α → Reader β} (h : ∀ x, Gives (k x) P) : Gives (g >>= k) P := fun body b rest e => by
  rw [bind_apply] at e
  cases read : g body with
  | error _ => rw [read] at e; cases e
  | ok x => rw [read] at e; exact h x.1 x.2 b rest e

end Gives

theorem readerOf_gives {kind : Nat} {reader : Reader Request} (h : readerOf kind = some reader) :
    Gives reader fun r => r.kind = kind := by
  unfold readerOf getWellCommand getTurbineCommand getHeatingCommand getSiteCommand getReadSite at h
  split at h
  all_goals cases h
  all_goals repeat' first | exact Gives.pure rfl | exact Gives.throw | refine Gives.bind fun _ => ?_ | split

end Wire

theorem decodeRequest_kind {kind : Nat} {body : List Byte} {r : Request} (h : decodeRequest kind body = .ok r) : r.kind = kind := by
  unfold decodeRequest at h
  split at h
  · cases h
  · rename_i reader assigned
    split at h
    · cases h
    · cases h
    · rename_i q rest read
      split at h
      · cases h
        exact Wire.readerOf_gives assigned body _ rest read
      · cases h

end Sys2Proof

namespace Sys2Proof.Machine

set_option Elab.async false

theorem owned_conditions {r : Request} (h : ¬ AboutConditions r.kind) : Part.conditions ∉ owned r := by
  unfold AboutConditions at h
  cases r <;> simp_all [owned, Request.kind]

/-! ### An event leaves the condition unit to its end -/

/-- The condition unit, a pending CONDITION notice and the frame under transmission stand. -/
structure Stays (s u : State) : Prop where
  conditions : u.conditions = s.conditions
  notice : u.link.condition = s.link.condition
  sending : u.link.sending = s.link.sending

theorem Stays.refl (s : State) : Stays s s := ⟨rfl, rfl, rfl⟩

theorem Stays.trans {a b c : State} (h : Stays a b) (k : Stays b c) : Stays a c :=
  ⟨k.conditions.trans h.conditions, k.notice.trans h.notice, k.sending.trans h.sending⟩

theorem Stays.of_only {ps : List Part} {s u : State} (only : Only ps s u) (conditions : Part.conditions ∉ ps)
    (outgoing : Part.outgoing ∉ ps) : Stays s u := by
  have unit := only .conditions conditions
  have sent := only .outgoing outgoing
  simp only [Exact, Prod.mk.injEq] at unit sent
  exact ⟨unit.1, unit.2, sent.2.2⟩

theorem settleRequest_stays {p : Parsed} (h : ∀ r, p = .ok r → ¬ AboutConditions r.kind) (s : State) :
    Stays s (settleRequest p s).1 := by
  cases p with
  | ok r => exact .of_only (applyRequest_only r s) (owned_conditions (h r rfl)) (by cases r <;> simp [owned])
  | _ => exact .refl s

theorem answerRequest_stays (kind tag : Byte) {p : Parsed} (h : ∀ r, p = .ok r → ¬ AboutConditions r.kind) (s : State) :
    Stays s (answerRequest kind tag p s) := (settleRequest_stays h s).trans ⟨rfl, rfl, rfl⟩

theorem takeRequests_stays (n : Nat) {s : State} (h : ∀ q ∈ s.link.requests, ¬ AboutConditions q.kind.toNat) :
    Stays s (takeRequests n s) := by
  induction n generalizing s with
  | zero => exact .refl s
  | succ n ih =>
    unfold takeRequests
    split
    · exact .refl s
    · rename_i q rest waits
      rw [waits] at h
      split
      · have own : ∀ r, decodeRequest q.kind.toNat q.body = .ok r → ¬ AboutConditions r.kind := fun r e => by
          rw [decodeRequest_kind e]
          exact h q List.mem_cons_self
        have answered := answerRequest_stays q.kind q.tag own (s.modLink fun l => { l with requests := rest })
        have opened : Stays s (s.modLink fun l => { l with requests := rest }) := ⟨rfl, rfl, rfl⟩
        refine (opened.trans answered).trans (ih fun p hp => h p ?_)
        rw [answerRequest_requests] at hp
        exact List.mem_cons_of_mem _ hp
      · exact .refl s

theorem answerRequest_replies (kind tag : Byte) (p : Parsed) (s : State) :
    (answerRequest kind tag p s).link.replies.length = s.link.replies.length + 1 := by
  have stands := congrArg List.length (settleRequest_replies p s)
  exact (List.length_append (as := (settleRequest p s).1.link.replies)).trans (congrArg (· + 1) stands)

/-- Where the replies have room for every waiting request, all of them are taken unless a SoftReset is accepted. -/
theorem takeRequests_empties (n : Nat) {s : State} (few : s.link.requests.length ≤ n)
    (room : s.link.replies.length + s.link.requests.length ≤ 4) :
    (takeRequests n s).link.requests = [] ∨ (takeRequests n s).link.softResetPending = true := by
  induction n generalizing s with
  | zero => exact .inl (List.length_eq_zero_iff.mp (Nat.le_zero.mp few))
  | succ n ih =>
    unfold takeRequests
    split
    · rename_i empty
      exact .inl empty
    · rename_i q rest waits
      rw [waits, List.length_cons] at few room
      split
      · refine ih ?_ ?_
        · rw [answerRequest_requests]
          exact Nat.le_of_succ_le_succ few
        · rw [answerRequest_requests, answerRequest_replies]
          show s.link.replies.length + 1 + rest.length ≤ 4
          omega
      · rename_i blocked
        rw [decide_eq_true (by omega), Bool.true_and, Bool.not_eq_true', Bool.not_eq_false] at blocked
        exact .inr blocked

/-- An idle transmitter has no reply waiting. -/
def Link.Unreplied (l : Link) : Prop := l.sending = none → l.replies = []

/-- What an event hands to its end: the condition unit as the event found it, and replies that take no request when they begin. -/
structure Hears (s u : State) : Prop extends Stays s u where
  free : u.link.sending = none → u.link.TakesNone

theorem Hears.refl {s : State} (h : s.link.Unreplied) : Hears s s := ⟨.refl s, fun idle replies => absurd (h idle) replies⟩

theorem Hears.after {s u v : State} (h : Stays s u) (k : Hears u v) : Hears s v := ⟨h.trans k.toStays, k.free⟩

/-- What leaves the queues and the condition unit. -/
theorem Hears.modLink {s u : State} (h : Hears s u) (g : Link → Link) (notice : (g u.link).condition = u.link.condition)
    (sending : (g u.link).sending = u.link.sending) (replies : (g u.link).replies = u.link.replies)
    (requests : (g u.link).requests = u.link.requests) (pending : (g u.link).softResetPending = u.link.softResetPending) :
    Hears s (u.modLink g) := by
  obtain ⟨stays, free⟩ := h
  refine ⟨stays.trans ⟨rfl, notice, sending⟩, fun idle => ?_⟩
  have idle : (g u.link).sending = none := idle
  show (g u.link).TakesNone
  unfold Link.TakesNone
  rw [replies, requests, pending]
  exact free (sending.symm.trans idle)

theorem Hears.of_only {ps : List Part} {s u : State} (quiet : s.link.Unreplied) (only : Only ps s u) (conditions : Part.conditions ∉ ps)
    (outgoing : Part.outgoing ∉ ps) : Hears s u := by
  have stays := Stays.of_only only conditions outgoing
  have sent := only .outgoing outgoing
  simp only [Exact, Prod.mk.injEq] at sent
  exact ⟨stays, fun idle replies => absurd (sent.1.trans (quiet (sent.2.2.symm.trans idle))) replies⟩

theorem Hears.of_empty {s u : State} (stays : Stays s u) (empty : u.link.requests = []) : Hears s u := ⟨stays, fun _ _ => .inl empty⟩

section

variable {s : State} (quiet : s.link.Unreplied) (others : ∀ q ∈ s.link.requests, ¬ AboutConditions q.kind.toNat)

include quiet others

theorem offerRequest_hears {kind : Byte} (own : ¬ AboutConditions kind.toNat) (tag : Byte) (body : List Byte) :
    Hears s (offerRequest kind tag body s) := by
  unfold offerRequest
  split
  · rename_i room
    have queued : Stays s (s.modLink fun l => { l with requests := l.requests ++ [⟨kind, tag, body⟩] }) := ⟨rfl, rfl, rfl⟩
    have length : (s.link.requests ++ [(⟨kind, tag, body⟩ : QueuedRequest)]).length ≤ 4 := by rw [List.length_append]; exact room
    have taken := takeRequests_stays 4 (s := s.modLink fun l => { l with requests := l.requests ++ [⟨kind, tag, body⟩] })
      fun q hq => by
        rcases List.mem_append.mp hq with waits | new
        · exact others q waits
        · rw [List.mem_singleton.mp new]; exact own
    refine ⟨queued.trans taken, fun idle _ => takeRequests_empties 4 length ?_⟩
    show s.link.replies.length + _ ≤ 4
    rw [quiet (taken.sending.symm.trans idle), List.length_nil, Nat.zero_add]
    exact length
  · have stays : Stays s (answerBusy kind tag s) := by
      cases busy : s.link.busyPlace with
      | none => rw [answerBusy_placed busy]; exact ⟨rfl, rfl, rfl⟩
      | some b => rw [answerBusy_lost busy]; exact ⟨rfl, rfl, rfl⟩
    have replies : (answerBusy kind tag s).link.replies = s.link.replies := by
      cases busy : s.link.busyPlace with
      | none => rw [answerBusy_placed busy]; rfl
      | some b => rw [answerBusy_lost busy]; rfl
    exact ⟨stays, fun idle waits => absurd (replies.trans (quiet (stays.sending.symm.trans idle))) waits⟩

theorem refreshed_hears {u : State} (h : (refreshSupervision s).link.Unreplied →
    (∀ q ∈ (refreshSupervision s).link.requests, ¬ AboutConditions q.kind.toNat) → Hears (refreshSupervision s) u) : Hears s u := by
  have link := refreshSupervision_link s
  exact .after (.of_only (refreshSupervision_only s) (by decide) (by decide)) (h (by rw [link]; exact quiet) (by rw [link]; exact others))

theorem arriveRequest_hears (tag : Byte) {r : Request} (own : ¬ AboutConditions r.kind) : Hears s (arriveRequest tag r s) := by
  refine refreshed_hears quiet others fun quiet others => ?_
  unfold arriveRequest
  dsimp only
  split
  · rename_i taken
    simp only [takenAtOnce, Bool.and_eq_true, List.isEmpty_iff] at taken
    obtain ⟨⟨empty, -⟩, -⟩ := taken
    exact .of_empty (answerRequest_stays _ tag (fun q e => by cases e; exact own) _) ((answerRequest_requests _ _ _ _).trans empty)
  · exact offerRequest_hears quiet others (by rw [Request.kind_toNat]; exact own) tag r.body

theorem goodFrame_hears {kind : Byte} (own : ¬ AboutConditions kind.toNat) (tag : Byte) (body : List Byte) :
    Hears s (goodFrame kind tag body s) := by
  unfold goodFrame
  split
  · exact refreshed_hears quiet others fun quiet others => offerRequest_hears quiet others own tag body
  · exact .of_only quiet (discardFrame_only s) (by decide) (by decide)

theorem judgeHeld_hears (frame : ∀ kind, s.link.receiver.complete = true → s.link.receiver.bytes[1]? = some kind →
    ¬ AboutConditions kind.toNat) : Hears s (judgeHeld s) := by
  unfold judgeHeld
  split
  · rename_i complete
    refine .after (u := s.modLink fun l => { l with receiver := l.receiver.hunt }) ⟨rfl, rfl, rfl⟩ ?_
    have frame := fun kind => frame kind complete
    generalize s.link.receiver.bytes = bytes at frame ⊢
    have discarded := Hears.of_only (s := s.modLink fun l => { l with receiver := l.receiver.hunt }) quiet (discardFrame_only _)
      (by decide) (by decide)
    unfold judge
    split
    · rcases bytes with _ | ⟨length, _ | ⟨kind, _ | ⟨tag, rest⟩⟩⟩
      · exact discarded
      · exact discarded
      · exact discarded
      · exact goodFrame_hears (s := s.modLink fun l => { l with receiver := l.receiver.hunt }) quiet others (frame kind rfl) tag _
    · exact discarded
  · exact .refl quiet

end

theorem abandonFrame_hears {s u : State} (h : Hears s u) : Hears s (abandonFrame u) := by
  unfold abandonFrame
  split
  · exact h
  · exact (h.modLink (fun l => { l with receiver := l.receiver.hunt }) rfl rfl rfl rfl rfl).modLink
      (fun l => { l with discardCount := satSucc 65535 l.discardCount }) rfl rfl rfl rfl rfl

theorem setReceiver_hears {s u : State} (h : Hears s u) (f : Receiver → Receiver) :
    Hears s (u.modLink fun l => { l with receiver := f l.receiver }) :=
  h.modLink (fun l => { l with receiver := f l.receiver }) rfl rfl rfl rfl rfl

/-- A frame that is not about conditions: what a row delivers, what waits, and what the receiver holds whole. -/
structure Unconcerned (c : Instr) (s : State) : Prop where
  row : ∀ tag r, c.request = some (tag, r) → ¬ AboutConditions r.kind
  foreign : ∀ tag kind body, c = .unknownKind tag kind body → ¬ AboutConditions kind.toNat
  others : ∀ q ∈ s.link.requests, ¬ AboutConditions q.kind.toNat
  held : ∀ kind, s.link.receiver.complete = true → s.link.receiver.bytes[1]? = some kind → ¬ AboutConditions kind.toNat

theorem touched_apart (c : Instr) : Part.conditions ∉ touched c ∧ Part.outgoing ∉ touched c := by
  have apart : (touched c).all (fun p => p != .conditions && p != .outgoing) = true := by cases c <;> rfl
  rw [List.all_eq_true] at apart
  exact ⟨fun h => absurd (apart _ h) (by decide), fun h => absurd (apart _ h) (by decide)⟩

/-- Every command of a part that runs, but for resets, start-up and the end of a transmission, hands its work to the end of the
event. -/
theorem exec_hears {c : Instr} {s : State} (running : Running s) (h : Unconcerned c s) :
    (∃ a b, c = .powerReset a b ∨ c = .pinReset a b) ∨ c = .startUp ∨ c = .transmissionEnd ∨
      ∃ u, exec c s = .next (finish u) ∧ Hears s u := by
  obtain ⟨row, foreign, others, held⟩ := h
  obtain ⟨runs, clear⟩ := running
  have quiet : s.link.Unreplied := fun idle => (clear idle).1
  have judged := judgeHeld_hears quiet others held
  have ends {f : State → State} (e : exec c s = event f s) (hears : Hears s (f s)) : ∃ u, exec c s = .next (finish u) ∧ Hears s u :=
    ⟨f s, e.trans (event_running runs), hears⟩
  by_cases hf : ∃ f, fieldWork c = some f
  · obtain ⟨f, hf⟩ := hf
    obtain ⟨conditions, outgoing⟩ := touched_apart c
    have hears : Hears s (f s) := .of_only quiet (fieldWork_only hf s) conditions outgoing
    rcases exec_fieldWork hf s with e | ⟨i, b, rfl, rfl⟩
    · exact .inr (.inr (.inr (ends e hears)))
    · refine .inr (.inr (.inr ⟨_, ?_, hears⟩))
      show Host.Outcome.next _ = _
      rw [runs]
      rfl
  by_cases hr : ∃ tag r, c.request = some (tag, r)
  · obtain ⟨tag, r, hr⟩ := hr
    exact .inr (.inr (.inr (ends (exec_request hr s) (arriveRequest_hears quiet others tag (row tag r hr)))))
  cases c with
  | powerReset a b => exact .inl ⟨a, b, .inl rfl⟩
  | pinReset a b => exact .inl ⟨a, b, .inr rfl⟩
  | startUp => exact .inr (.inl rfl)
  | transmissionEnd => exact .inr (.inr (.inl rfl))
  | frameJudged => exact .inr (.inr (.inr (ends rfl judged)))
  | gap =>
    refine .inr (.inr (.inr (ends rfl ?_)))
    unfold gap
    dsimp only
    split
    · exact abandonFrame_hears judged
    · exact judged
  | framingError =>
    refine .inr (.inr (.inr (ends rfl ?_)))
    unfold framingError
    dsimp only
    split
    · exact judged
    · exact abandonFrame_hears judged
  | lineBreak =>
    exact .inr (.inr (.inr (ends rfl (setReceiver_hears (abandonFrame_hears judged) fun r => { r with inBreak := true }))))
  | returnToMark => exact .inr (.inr (.inr (ends rfl (setReceiver_hears (.refl quiet) fun r => { r with inBreak := false }))))
  | characterReceived b =>
    refine .inr (.inr (.inr (ends rfl ?_)))
    unfold characterReceived
    dsimp only
    split
    · exact judged
    · exact setReceiver_hears judged (Receiver.take b)
  | unknownKind tag kind body => exact .inr (.inr (.inr (ends rfl (goodFrame_hears quiet others (foreign tag kind body rfl) tag body))))
  | _ => first | exact absurd ⟨_, rfl⟩ hf | exact absurd ⟨_, _, rfl⟩ hr

end Sys2Proof.Machine
end

section
/-! PROOFS. What every step of a part that runs does to the condition unit (O51). -/

namespace Sys2Proof.Machine

-- One after the other: see Laws/Frames.lean.
set_option Elab.async false

/-- A pending notice has left its place for the line. -/
def Begun (t : State) (n : ConditionNotice) : Prop := t.link.condition = none ∧ t.link.sending = some (conditionFrame n)

/-- What a step has done to the condition unit (R182 to R191). -/
def Reported (s t : State) : Prop :=
  (∀ n : Fin 42, t.conditions.live[n] = true ↔ SetWhile t n) ∧ t.conditions.watch = s.conditions.watch ∧
    t.conditions.horn = s.conditions.horn ∧
    (∀ n : Fin 42, t.conditions.unsilenced[n] =
      (t.conditions.live[n] && (s.conditions.unsilenced[n] || (s.conditions.horn[n] && !s.conditions.live[n])))) ∧
    t.discretes[alarmLine].roleCommand = t.conditions.unsilenced.nonempty ∧
    (s.conditions.held = true ∨ ¬ Counted s.conditions.watch s.conditions.live t.conditions.live →
      t.conditions.held = s.conditions.held ∧ t.conditions.number = s.conditions.number ∧ t.conditions.frozen = s.conditions.frozen ∧
        t.conditions.changed = s.conditions.changed ∧ t.conditions.frozenAt = s.conditions.frozenAt ∧
        (t.link.condition = s.link.condition ∨ ∃ n, s.link.condition = some n ∧ Begun t n)) ∧
    (s.conditions.held = false → Counted s.conditions.watch s.conditions.live t.conditions.live →
      t.conditions.held = true ∧ t.conditions.number = s.conditions.next ∧ t.conditions.frozen = t.conditions.live ∧
        t.conditions.frozenAt = t.clock ∧
        (∀ n : Fin 42, t.conditions.changed[n] = changedSince s.link.condition t.conditions.live s.conditions.frozen n) ∧
        (t.link.condition = some ⟨s.conditions.next, t.conditions.live, t.conditions.changed, t.clock⟩ ∨
          s.link.sending = none ∧ Begun t ⟨s.conditions.next, t.conditions.live, t.conditions.changed, t.clock⟩))

/-- What the unit took up stands in a state that keeps it, where a pending notice may have begun. -/
theorem reported_of {s w t : State} (took : TookUp s.conditions s.link.condition w) (keeps : Keeps w t) (rested : Rested t)
    (goes : t.link.condition = w.link.condition ∨ ∃ n, w.link.condition = some n ∧ Begun t n)
    (idle : t.link.condition = w.link.condition ∨ s.link.sending = none ∨
      ¬ Counted s.conditions.watch s.conditions.live w.conditions.live) : Reported s t := by
  obtain ⟨-, watch, horn, unsilenced, stands, freezes⟩ := took
  obtain ⟨-, conditions, clock, -⟩ := keeps
  refine ⟨rested.setWhile, ?_, ?_, ?_, rested.alarm, ?_, ?_⟩
  · rw [conditions]; exact watch
  · rw [conditions]; exact horn
  · rw [conditions]; exact unsilenced
  · rw [conditions]
    intro h
    obtain ⟨held, number, frozen, changed, frozenAt, notice⟩ := stands h
    rw [notice] at goes
    exact ⟨held, number, frozen, changed, frozenAt, goes⟩
  · rw [conditions, clock]
    intro free counted
    obtain ⟨held, number, frozen, frozenAt, changed, notice⟩ := freezes free counted
    refine ⟨held, number, frozen, frozenAt, changed, ?_⟩
    rcases goes with waits | ⟨n, pending, begun⟩
    · exact .inl (waits.trans notice)
    · rcases idle with waits | idle | calm
      · exact .inl (waits.trans notice)
      · rw [notice] at pending
        cases pending
        exact .inr ⟨idle, begun⟩
      · exact absurd counted calm

/-- Where everything stood settled and is kept so, nothing has changed. -/
theorem reported_of_keeps {s t : State} (settled : OutputsFollow s ∧ LiveFollows s) (keeps : Keeps s t) (rested : Rested t)
    (goes : t.link.condition = s.link.condition ∨ ∃ n, s.link.condition = some n ∧ Begun t n) : Reported s t := by
  have took := settle_tookUp s
  rw [settle_self settled.1 settled.2] at took
  refine reported_of took keeps rested goes (.inr (.inr ?_))
  rintro ⟨n, -, differs, -⟩
  exact differs rfl

/-! ### The end of an event -/

theorem finish_reported {s u : State} (h : Hears s u) : Reported s (finish u) := by
  obtain ⟨⟨conditions, notice, sending⟩, free⟩ := h
  have took := settle_tookUp u
  rw [conditions, notice] at took
  cases idle : u.link.sending with
  | some f =>
    have ended := finish_sending u f idle
    refine reported_of took ?_ (finish_rested u) (.inl ?_) (.inl ?_)
    · rw [ended]; exact .refl _
    · rw [ended]
    · rw [ended]
  | none =>
    have frame := settle_frame u
    have requests : (settle u).link.requests = u.link.requests := (frame .requests (by decide)).1
    have replies : (settle u).link.replies = u.link.replies := (frame .outgoing (by decide)).1
    have pending : (settle u).link.softResetPending = u.link.softResetPending := frame .resetPending (by decide)
    have waits : (settle u).link.TakesNone := by
      unfold Link.TakesNone
      rw [requests, replies, pending]
      exact free idle
    obtain ⟨keeps, goes⟩ := transmit_keeps (settle_follows u) waits
    refine reported_of took keeps (finish_rested u) (goes.imp_right fun h => ?_) (.inr (.inl (sending.symm.trans idle)))
    obtain ⟨-, -, n, own, empty, sent⟩ := h
    exact ⟨n, own, empty, sent⟩

/-! ### The end of a transmission -/

/-- Any choice but a CONDITION notice leaves the condition unit and a pending notice. -/
theorem beginChoice_stays {c : Choice} {s : State} (h : ∀ f, c ≠ .condition f)
    (others : ∀ q ∈ s.link.requests, ¬ AboutConditions q.kind.toNat) :
    (beginChoice c s).conditions = s.conditions ∧ (beginChoice c s).link.condition = s.link.condition := by
  cases c with
  | reply f =>
    have stays := takeRequests_stays 4 (s := s.modLink fun l => { l with sending := some f, replies := l.replies.drop 1 }) others
    exact ⟨stays.conditions, stays.notice⟩
  | busy f => exact ⟨rfl, rfl⟩
  | started f => exact ⟨rfl, rfl⟩
  | condition f => exact absurd rfl (h f)
  | edge f =>
    refine ⟨(followEdges_keeps _).conditions, ?_⟩
    show (followEdges _).link.condition = _
    unfold followEdges
    split <;> rfl

/-- The link at the end of a frame, before its transmitter chooses again. -/
def State.sent (s : State) : State := s.modLink fun l => { l with sending := none }

theorem exec_transmissionEnd {s : State} (runs : s.initialising = false) : exec .transmissionEnd s = .next (transmissionEnd s) := by
  show Host.Outcome.next _ = _
  rw [runs]
  rfl

theorem transmissionEnd_idle {s : State} (idle : s.link.sending = none) : transmissionEnd s = s := by
  unfold transmissionEnd
  rw [idle]

theorem transmissionEnd_ends {s : State} {f : Frame} (h : s.link.sending = some f)
    (plain : (s.link.softResetPending && f.acceptsSoftReset) = false) : transmissionEnd s = finish s.sent := by
  unfold transmissionEnd
  rw [h]
  dsimp only
  rw [plain]
  rfl

theorem transmissionEnd_resets {s : State} {f : Frame} (h : s.link.sending = some f)
    (accepted : (s.link.softResetPending && f.acceptsSoftReset) = true) : transmissionEnd s = softResetEffect s := by
  unfold transmissionEnd
  rw [h]
  dsimp only
  rw [accepted]
  rfl

/-- What the transmitter of a settled part begins at the end of a frame. -/
theorem finish_sent {s : State} (settled : OutputsFollow s ∧ LiveFollows s) :
    finish s.sent = match arbiter s.link with
      | some c => settle (beginChoice c s.sent)
      | none => s.sent := by
  obtain ⟨outputs, live⟩ := (modLink_keeps s fun l => { l with sending := none }).settled settled
  have stands : settle s.sent = s.sent := settle_self outputs live
  have same : arbiter s.sent.link = arbiter s.link := rfl
  have idle : s.sent.link.sending = none := rfl
  unfold finish transmit
  rw [stands, same, idle]
  split
  · rename_i h
    rw [h]
  · rename_i h
    cases chosen : arbiter s.link with
    | none => rfl
    | some c => exact absurd chosen (h c rfl)

theorem sent_reported {s : State} (settled : OutputsFollow s ∧ LiveFollows s)
    (others : ∀ q ∈ s.link.requests, ¬ AboutConditions q.kind.toNat) : Reported s (finish s.sent) := by
  have rested := finish_rested s.sent
  have keeps : Keeps s s.sent := modLink_keeps s fun l => { l with sending := none }
  rw [finish_sent settled] at rested ⊢
  cases chosen : arbiter s.link with
  | none =>
    rw [chosen] at rested
    exact reported_of_keeps settled keeps rested (.inl rfl)
  | some c =>
    rw [chosen] at rested
    by_cases h : ∃ f, c = .condition f
    · obtain ⟨f, rfl⟩ := h
      obtain ⟨empty, n, pending, rfl⟩ := arbiter_condition chosen
      have begins := keeps.trans (beginChoice_keeps (s := s.sent) chosen fun waits => absurd empty waits)
      obtain ⟨outputs, live⟩ := begins.settled settled
      dsimp only at rested ⊢
      rw [settle_self outputs live] at rested ⊢
      exact reported_of_keeps settled begins rested (.inr ⟨n, pending, rfl, rfl⟩)
    · obtain ⟨conditions, notice⟩ := beginChoice_stays (s := s.sent) (fun f e => h ⟨f, e⟩) others
      have took := settle_tookUp (beginChoice c s.sent)
      rw [conditions, notice] at took
      exact reported_of (s := s) took (.refl _) rested (.inl rfl) (.inl rfl)

/-! ### A step -/

theorem setPending_keeps (s : State) (q : List Instr) : Keeps s { s with pending := q } :=
  ⟨liveNow_eq fun m => by cases m <;> rfl, rfl, rfl, id⟩

theorem passTime_keeps {s : State} (runs : s.initialising = false) :
    Keeps s (passTime s) ∧ (passTime s).link.condition = s.link.condition := by
  unfold passTime
  rw [if_neg (by rw [runs]; decide)]
  split
  · exact ⟨setPending_keeps s _, rfl⟩
  · have only := finishStops_only s
    have conditions := only .conditions (by decide)
    have clock := only .clock (by decide)
    simp only [Exact, Prod.mk.injEq] at conditions clock
    exact ⟨⟨liveNow_eq fun m => (countDown_found _ m).trans (finishStops_found s m), conditions.1, clock.1,
      fun h => countDown_settled (finishStops_settled h)⟩, conditions.2⟩

/-- What a command has done to the condition unit, resets and requests about conditions aside. -/
theorem exec_reported {c : Instr} {s t : State} (running : Running s) (settled : OutputsFollow s ∧ LiveFollows s)
    (he : exec c s = .next t) (runs : t.initialising = false) (h : Unconcerned c s) : Reported s t := by
  have rested : Rested s := ⟨settled.1, settled.2, running.2⟩
  rcases exec_hears running h with ⟨a, b, rfl | rfl⟩ | rfl | rfl | ⟨u, e, hears⟩
  · cases he; cases runs
  · cases he; cases runs
  · have same : t = s := by
      cases he
      exact startUp_running running.1
    rw [same]
    exact reported_of_keeps settled (.refl s) rested (.inl rfl)
  · rw [exec_transmissionEnd running.1] at he
    cases he
    cases sending : s.link.sending with
    | none =>
      rw [transmissionEnd_idle sending]
      exact reported_of_keeps settled (.refl s) rested (.inl rfl)
    | some f =>
      cases accepted : s.link.softResetPending && f.acceptsSoftReset with
      | true =>
        rw [transmissionEnd_resets sending accepted] at runs
        cases runs
      | false =>
        rw [transmissionEnd_ends sending accepted]
        exact sent_reported settled h.others
  · rw [e] at he
    cases he
    exact finish_reported hears

theorem step_reported {s t : State} (running : Running s) (settled : OutputsFollow s ∧ LiveFollows s) (he : step s = .next t)
    (runs : t.initialising = false) (h : ∀ c, s.pending.head? = some c → Unconcerned c s) : Reported s t := by
  obtain ⟨init, clear⟩ := running
  unfold step at he
  split at he
  · cases he
    obtain ⟨keeps, notice⟩ := passTime_keeps init
    exact reported_of_keeps settled keeps (passTime_rested ⟨settled.1, settled.2, clear⟩) (.inl notice)
  · rename_i c rest queue
    have concern : Unconcerned c s := h c (by rw [queue]; rfl)
    have settled' := (setPending_keeps s rest).settled settled
    have reported : Reported { s with pending := rest } t :=
      exec_reported ⟨init, clear⟩ settled' he runs ⟨concern.row, concern.foreign, concern.others, concern.held⟩
    exact reported

end Sys2Proof.Machine

open Sys2Proof Sys2Proof.Machine

/-- Settles O51. -/
theorem conditionsFollowEveryEvent : Obligations.ConditionsFollowEveryEvent :=
  ⟨fun s n => by rw [liveNow_get]; exact found_iff s n, setOnly_iff, fun s _ running settled he runs rows others held =>
    step_reported running (settled running.1) he runs fun c front =>
      ⟨(rows c front).1, (rows c front).2, others, held⟩⟩

end

section
/-! PROOFS. The transmitter at the end of a frame (O6). -/

namespace Sys2Proof.Machine

-- One after the other: see Laws/Frames.lean.
set_option Elab.async false

/-! ### What the arbiter chooses (R204) -/

theorem arbiter_oldest {l : Link} {r : WaitingReply} {rest : List WaitingReply} (h : l.replies = r :: rest)
    (older : ∀ b, l.busyPlace = some b → r.placed ≤ b.placed) : arbiter l = some (.reply r.frame) := by
  unfold arbiter
  rw [h]
  cases busy : l.busyPlace with
  | none => rfl
  | some b => exact congrArg some (if_neg (by have := older b busy; omega))

theorem arbiter_busy {l : Link} {b : WaitingReply} (h : l.busyPlace = some b) (older : ∀ r ∈ l.replies.head?, b.placed < r.placed) :
    arbiter l = some (.busy b.frame) := by
  unfold arbiter
  rw [h]
  cases replies : l.replies with
  | nil => rfl
  | cons r rest => exact congrArg some (if_pos (older r (by rw [replies]; rfl)))

theorem arbiter_unreplied {l : Link} (empty : l.replies = []) (free : l.busyPlace = none) : arbiter l = noticeChoice l := by
  unfold arbiter
  rw [empty, free]

/-! ### What begins at the end of a frame -/

theorem setTransmitter_only (s : State) (sending : Option Frame) (replies : List WaitingReply → List WaitingReply) :
    Only [.outgoing] s (s.sent.modLink fun l => { l with sending := sending, replies := replies l.replies }) := by
  intro p hp; cases p <;> first | rfl | simp at hp

theorem beginBusy_only (s : State) (f : Frame) : Only [.outgoing, .requests] s (beginChoice (.busy f) s.sent) := by
  intro p hp; cases p <;> first | rfl | simp at hp

theorem beginStarted_only (s : State) (f : Frame) : Only [.outgoing, .notices] s (beginChoice (.started f) s.sent) := by
  intro p hp; cases p <;> first | rfl | simp at hp

/-- The beginning of a CONDITION notice leaves the snapshot record it was of. -/
theorem beginCondition_unchanged (s : State) (f : Frame) : UnchangedBut [.outgoing] s (beginChoice (.condition f) s.sent) := by
  have only : Only [.outgoing, .conditions] s (beginChoice (.condition f) s.sent) := by
    intro p hp; cases p <;> first | rfl | simp at hp
  intro p hp
  by_cases h : p = .conditions
  · subst h
    exact ConditionsSettled.refl _
  · exact only.same p (by simp at hp; simp [hp, h])

theorem sendEdge_only (s : State) (f : Frame) :
    Only [.outgoing, .notices] s (s.sent.modLink fun l => { l with sending := some f, edge := none }) := by
  intro p hp; cases p <;> first | rfl | simp at hp

section

variable {s : State} {f : Frame} (runs : s.initialising = false) (settled : OutputsFollow s ∧ LiveFollows s)
  (sending : s.link.sending = some f) (plain : (s.link.softResetPending && f.acceptsSoftReset) = false)

include runs settled sending plain

theorem exec_sent : exec .transmissionEnd s = .next (match arbiter s.link with
    | some c => settle (beginChoice c s.sent)
    | none => s.sent) := by
  rw [exec_transmissionEnd runs, transmissionEnd_ends sending plain, finish_sent settled] <;> rfl

theorem exec_begins {c : Choice} (chosen : arbiter s.link = some c) : exec .transmissionEnd s = .next (settle (beginChoice c s.sent)) := by
  rw [exec_sent runs settled sending plain, chosen]

theorem exec_silent (h : arbiter s.link = none) : exec .transmissionEnd s = .next s.sent := by
  rw [exec_sent runs settled sending plain, h]

/-- A frame that begins without the taking of a request leaves nothing to settle. -/
theorem begins_of {c : Choice} (chosen : arbiter s.link = some c) (free : s.link.TakesNone) {P : State → Prop}
    (h : P (beginChoice c s.sent)) : Completes .transmissionEnd s P := by
  have keeps : Keeps s s.sent := modLink_keeps s fun l => { l with sending := none }
  obtain ⟨outputs, live⟩ := (keeps.trans (beginChoice_keeps (s := s.sent) chosen free)).settled settled
  refine ⟨_, ?_, h⟩
  rw [exec_begins runs settled sending plain chosen, settle_self outputs live]

theorem notice_begins {c : Choice} (empty : s.link.replies = []) (free : s.link.busyPlace = none) (chosen : noticeChoice s.link = some c)
    {P : State → Prop} (h : P (beginChoice c s.sent)) : Completes .transmissionEnd s P :=
  begins_of runs settled sending plain ((arbiter_unreplied empty free).trans chosen) (fun waits => absurd empty waits) h

/-- The oldest reply begins, where no request is taken. -/
theorem reply_begins {r : WaitingReply} {rest : List WaitingReply} (h : s.link.replies = r :: rest)
    (older : ∀ b, s.link.busyPlace = some b → r.placed ≤ b.placed) (waits : s.link.requests = [] ∨ s.link.softResetPending = true) :
    Completes .transmissionEnd s fun t => t.link.sending = some r.frame ∧ t.link.replies = rest ∧
      t.link.placings = s.link.placings ∧ UnchangedBut [.outgoing] s t := by
  refine begins_of runs settled sending plain (arbiter_oldest h older) (fun _ => waits) ?_
  have taken : beginChoice (.reply r.frame) s.sent =
      s.sent.modLink fun l => { l with sending := some r.frame, replies := l.replies.drop 1 } := takeRequests_waits 4 waits
  rw [taken]
  refine ⟨rfl, ?_, rfl, (setTransmitter_only s _ _).same⟩
  show s.link.replies.drop 1 = rest
  rw [h]
  rfl

end

/-- A full reply queue that loses a reply takes the oldest request, and is full again. -/
theorem takeRequests_one {s : State} {q : QueuedRequest} {waiting : List QueuedRequest} (h : s.link.requests = q :: waiting)
    (room : s.link.replies.length = 3) (free : s.link.softResetPending = false) : takeRequests 4 s =
      answerRequest q.kind q.tag (decodeRequest q.kind.toNat q.body) (s.modLink fun l => { l with requests := waiting }) := by
  unfold takeRequests
  rw [h]
  dsimp only
  rw [if_pos (by rw [room, free]; decide)]
  refine takeRequests_full 3 (.inl ?_)
  rw [answerRequest_replies]
  show 4 ≤ s.link.replies.length + 1
  omega

theorem settleRequest_link (p : Parsed) (s : State) : (settleRequest p s).1.link.sending = s.link.sending ∧
    (settleRequest p s).1.link.placings = s.link.placings := by
  cases p with
  | ok r =>
    have only := applyRequest_only r s .outgoing (by cases r <;> simp [owned])
    simp only [Exact, Prod.mk.injEq] at only
    exact ⟨only.2.2, only.2.1⟩
  | _ => exact ⟨rfl, rfl⟩

theorem plain_of {l : Link} {f : Frame} (h : l.softResetPending = true → f.kind = 0xAB → f.body ≠ [0]) :
    (l.softResetPending && f.acceptsSoftReset) = false := by
  rw [Bool.eq_false_iff]
  intro accepted
  simp only [Frame.acceptsSoftReset, Bool.and_eq_true, decide_eq_true_eq] at accepted
  obtain ⟨pending, kind, body⟩ := accepted
  exact h pending kind body

/-- What looking for further edges does as an EDGE notice leaves (R61). -/
theorem followEdges_cases (s : State) :
    ((∃ d : Fin 24, s.discretes[d].edgeSeen = true ∧ s.discretes[d].edgeReported = false) → followEdges s = queueEdgeNotice s) ∧
      ((¬ ∃ d : Fin 24, s.discretes[d].edgeSeen = true ∧ s.discretes[d].edgeReported = false) → followEdges s = s) := by
  have e : (indexes 24).any (fun i => s.discretes[i].edgeSeen && !s.discretes[i].edgeReported) = true ↔
      ∃ d : Fin 24, s.discretes[d].edgeSeen = true ∧ s.discretes[d].edgeReported = false := by
    rw [any_indexes]
    exact exists_congr fun d => by rw [Bool.and_eq_true, Bool.not_eq_true']
  unfold followEdges
  exact ⟨fun h => if_pos (e.mpr h), fun h => if_neg fun k => h (e.mp k)⟩

end Sys2Proof.Machine

open Sys2Proof Sys2Proof.Machine

/-- Settles O6. -/
theorem transmissionEndBeginsTheNextFrame : Obligations.TransmissionEndBeginsTheNextFrame := by
  intro s runs settled
  have settled := settled runs
  refine ⟨fun idle => by rw [exec_transmissionEnd runs, transmissionEnd_idle idle], fun f sending plain => ?_⟩
  have plain := plain_of plain
  refine ⟨fun r rest h older => ⟨reply_begins runs settled sending plain h older, fun q waiting queue full free => ?_⟩,
    fun b busy older => ?_, fun empty free => ⟨fun cause h => ?_, fun n unstarted h => ?_,
      fun n unstarted calm h => ?_, fun unstarted calm unedged => ?_⟩⟩
  · let begun := s.modLink fun k => { k with sending := some r.frame, replies := rest, requests := waiting }
    let answered := settleRequest (decodeRequest q.kind.toNat q.body) begun
    have taken : beginChoice (.reply r.frame) s.sent = placeReply q.kind q.tag answered.2 answered.1 := by
      have tail : s.link.replies.drop 1 = rest := by rw [h]; rfl
      refine (takeRequests_one (s := s.sent.modLink fun l => { l with sending := some r.frame, replies := l.replies.drop 1 })
        queue ?_ free).trans ?_
      · show (s.link.replies.drop 1).length = 3
        rw [List.length_drop, full]
      · have same : (s.sent.modLink fun l => { l with sending := some r.frame, replies := l.replies.drop 1 }).modLink
            (fun l => { l with requests := waiting }) = begun := by
          show State.modLink _ _ = State.modLink s _
          unfold State.sent State.modLink
          simp only [tail]
        rw [same]
        rfl
    refine ⟨_, exec_begins runs settled sending plain (arbiter_oldest h older), ?_⟩
    · rw [taken]
      obtain ⟨sends, placings⟩ := settleRequest_link (decodeRequest q.kind.toNat q.body) begun
      have frame := settle_frame (placeReply q.kind q.tag answered.2 answered.1)
      obtain ⟨replies, placed, -⟩ := frame .outgoing (by decide)
      obtain ⟨requests, -⟩ := frame .requests (by decide)
      have waits : answered.1.link.requests = waiting := answerRequest_requests q.kind q.tag _ begun
      have stands : answered.1.link.replies = rest := settleRequest_replies _ begun
      refine ⟨(settle_sending _).trans sends, requests.trans waits, placed.trans (congrArg (· + 1) placings), replies.trans ?_, rfl⟩
      show answered.1.link.replies ++ [⟨_, answered.1.link.placings⟩] = _
      rw [stands, show answered.1.link.placings = s.link.placings from placings]
      rfl
  · refine ⟨_, exec_begins runs settled sending plain (arbiter_busy busy older), ?_⟩
    · have keeps : Keeps s (beginChoice (.busy b.frame) s.sent) := modLink_keeps s fun l => { l with sending := some b.frame, busyPlace := none }
      obtain ⟨outputs, live⟩ := keeps.settled settled
      rw [settle_self outputs live]
      exact ⟨rfl, rfl, rfl, rfl, rfl, rfl, (beginBusy_only s b.frame).same⟩
  · exact notice_begins runs settled sending plain empty free (c := .started (startedFrame cause)) (by unfold noticeChoice; rw [h])
      ⟨congrArg (fun body => some (⟨0x70, 0, body⟩ : Frame)) (putByte_eq cause.code), rfl, rfl, rfl, empty, (beginStarted_only s _).same⟩
  · exact notice_begins runs settled sending plain empty free (c := .condition (conditionFrame n)) (by unfold noticeChoice; rw [unstarted, h])
      ⟨rfl, rfl, empty, beginCondition_unchanged s _⟩
  · refine notice_begins runs settled sending plain empty free (c := .edge (edgeFrame n)) (by unfold noticeChoice; rw [unstarted, calm, h]) ?_
    obtain ⟨again, rests⟩ := followEdges_cases (s.sent.modLink fun l => { l with sending := some (edgeFrame n), edge := none })
    have left := sendEdge_only s (edgeFrame n)
    have follows : beginChoice (.edge (edgeFrame n)) s.sent =
      followEdges (s.sent.modLink fun l => { l with sending := some (edgeFrame n), edge := none }) := rfl
    rw [follows]
    by_cases edge : ∃ d : Fin 24, s.discretes[d].edgeSeen = true ∧ s.discretes[d].edgeReported = false
    · rw [again edge]
      refine ⟨rfl, empty, unstarted, calm, fun _ => ⟨rfl, fun d => ?_⟩, fun h => absurd edge h,
        ((left.mono (by decide)).trans ((queueEdgeNotice_only _).mono (by decide))).same⟩
      rw [queueEdgeNotice_discrete]
      show LineSettled d _ (if s.discretes[d].edgeSeen then { s.discretes[d] with edgeReported := true } else s.discretes[d])
      cases seen : s.discretes[d].edgeSeen with
      | true => rw [Bool.or_true]; exact LineSettled.refl d _
      | false => rw [Bool.or_false]; exact LineSettled.refl d _
    · rw [rests edge]
      exact ⟨rfl, empty, unstarted, calm, fun h => absurd h edge, fun _ => ⟨rfl, fun d => LineSettled.refl d _⟩,
        (left.mono (by decide)).same⟩
  · refine ⟨_, exec_silent runs settled sending plain ?_, rfl, empty, (setTransmitter_only s none id).same⟩
    rw [arbiter_unreplied empty free, noticeChoice, unstarted, calm, unedged]

end

section
/-! PROOFS. The passing of time on an empty queue (O2). -/

namespace Sys2Proof.Machine

-- One after the other: see Laws/Frames.lean.
set_option Elab.async false

/-! ### The expiries that are due -/

theorem mem_expiry {t : Timer} {c x : Instr} : c ∈ expiry t x ↔ c = x ∧ t = some 0 := by
  unfold expiry Timer.due
  by_cases h : t = some 0
  · simp [h]
  · simp [h]

theorem mem_expiries {n : Nat} {t : Fin n → Timer} {x : Fin n → Instr} {c : Instr} :
    c ∈ ((indexes n).map fun i => expiry (t i) (x i)).flatten ↔ ∃ i, c = x i ∧ t i = some 0 := by
  simp [mem_indexes, mem_expiry]

theorem mem_dueJudgement {s : State} {c : Instr} : c ∈ dueJudgement s ↔ c = .frameJudged ∧ s.link.receiver.complete = true := by
  unfold dueJudgement
  cases s.link.receiver.complete <;> simp

theorem mem_dueExpiries {s : State} {c : Instr} : c ∈ dueExpiries s ↔
    (c = .frameJudged ∧ s.link.receiver.complete = true) ∨ (c = .gap ∧ s.link.receiver.gapTimer = some 0) ∨
      (c = .plantClockTick ∧ s.clockTimer = some 0) ∨ (c = .ageTimerExpiry ∧ s.ageTimer = some 0) ∨
      (c = .secondTimerExpiry ∧ s.secondTimer = some 0) ∨
      (∃ p : Fin 96, c = .recoveryTimerExpiry p ∧ s.points[p].recoveryTimer = some 0) ∨
      (∃ d : Fin 24, (c = .debounceExpiry d ∧ s.discretes[d].debounceTimer = some 0) ∨
        (c = .mismatchExpiry d ∧ s.discretes[d].mismatchTimer = some 0)) ∨
      (c = .lossTimerExpiry ∧ s.speedUnit.lossTimer = some 0) ∨
      (∃ i : Fin 3, c = .passTimerExpiry i ∧ s.lines[i].passTimer = some 0) ∨
      (∃ k : Fin 8, (c = .startTimerExpiry k ∧ s.wells[k].startTimer = some 0) ∨
        (c = .stopTimerExpiry k ∧ s.wells[k].stopTimer = some 0) ∨
        (c = .tripDecayExpiry k ∧ s.wells[k].decayTimer = some 0)) ∨
      (c = .rollTimerExpiry ∧ s.turbine.rollTimer = some 0) ∨ (c = .breakerTimerExpiry ∧ s.turbine.breakerTimer = some 0) ∨
      (c = .smPeriodExpiry ∧ s.smTimer = some 0) ∨ (c = .wpPeriodExpiry ∧ s.wpTimer = some 0) ∨
      (c = .tgPeriodExpiry ∧ s.turbine.periodTimer = some 0) ∨ (c = .hxPeriodExpiry ∧ s.heating.periodTimer = some 0) ∨
      (c = .supervisionTimerExpiry ∧ s.supervision.supervisionTimer = some 0) ∨
      (c = .holdTimerExpiry ∧ s.supervision.holdTimer = some 0) := by
  unfold dueExpiries
  simp only [List.mem_append, mem_dueJudgement, mem_expiry, mem_expiries, exists_or, or_assoc]

/-! ### A step on an empty queue -/

theorem step_empty {s : State} (h : s.pending = []) : step s = .next (passTime s) := by
  unfold step
  rw [h]

theorem passTime_due {s : State} (runs : s.initialising = false) {c : Instr} {rest : List Instr} (h : dueExpiries s = c :: rest) :
    passTime s = { s with pending := s.pending ++ [c] } := by
  unfold passTime
  rw [if_neg (by rw [runs]; decide), h]

theorem passTime_free {s : State} (runs : s.initialising = false) (h : dueExpiries s = []) :
    passTime s = countDown (finishStop 2 (finishStop 1 (finishStop 0 s))) := by
  unfold passTime
  rw [if_neg (by rw [runs]; decide), h]
  rfl

theorem countDown_point (s : State) (p : Fin 96) :
    (countDown s).points[p] = { s.points[p] with recoveryTimer := s.points[p].recoveryTimer.tick } :=
  modifyAll_get s.points p fun _ p => { p with recoveryTimer := p.recoveryTimer.tick }

/-- A closing stop that is sent ends its pass (R32, log 5). -/
theorem finishStop_ends {i : Fin 3} {n : Nat} {s : State} (h : s.lines[i].state = .passing) (ha : s.lines[i].activity = .closing n) :
    PassEnds (finishStop i s) { s.lines[i] with wires := [.stop true] } n (finishStop i s).lines[i] ∧
      LineAndDrives s (finishStop i s) i (fun _ d => d) := by
  rw [finishStop_closing h ha]
  obtain ⟨ends, others⟩ := endPass_ends i n (s.modLine i (Line.does [.stop true]))
  rw [State.modLine_at, if_pos rfl] at ends
  exact ⟨ends, others.modLine rfl rfl⟩

end Sys2Proof.Machine

open Sys2Proof Sys2Proof.Machine

/-- Settles O2. -/
theorem emptyQueueLetsTimePass : Obligations.EmptyQueueLetsTimePass := by
  refine ⟨fun s empty => ⟨fun halted => ?_, fun c => mem_dueExpiries, fun runs c rest due => ?_, fun runs none => ?_⟩,
    fun i u => ⟨fun n passing closing => ?_, finishStop_other⟩⟩
  · rw [step_empty empty, passTime, if_pos halted]
  · rw [step_empty empty, passTime_due runs due, empty]
    rfl
  · refine ⟨_, (step_empty empty).trans (congrArg Host.Outcome.next (passTime_free runs none)), ?_, rfl, rfl, rfl, rfl, rfl, rfl, rfl,
      countDown_point _, countDown_line _, countDown_discrete _, rfl, countDown_well _, rfl, rfl, rfl, rfl,
      ((countDown_only _).mono (by decide)).same⟩
    have queue : (finishStop 2 (finishStop 1 (finishStop 0 s))).pending = s.pending :=
      (((finishStop_only 0 s).trans (finishStop_only 1 _)).trans (finishStop_only 2 _)) .queue (by decide)
    exact queue.trans empty
  · obtain ⟨ends, others⟩ := finishStop_ends passing closing
    exact ⟨ends, others, (finishStop_only i u).same⟩

end

section
/-! PROOFS. The end of internal initialisation (O5). -/

namespace Sys2Proof.Machine

-- One after the other: see Laws/Frames.lean.
set_option Elab.async false

/-! ### The members a part that has just been reset has -/

/-- What the owners of the members find after a reset: nothing but the trip it leaves (R193). -/
structure Calm (s : State) : Prop where
  wells : ∀ k : Fin 8, s.wells[k].state = .off
  tripped : s.turbine.state = .tripped
  valve : s.turbine.stopValveFail = false
  reject : s.turbine.loadReject = false
  short : s.heating.supplyShort = false
  heating : s.heating.state = .off
  levels : ∀ i : Fin 12, s.sites[i].level = .normal
  doses : ∀ i : Fin 12, s.sites[i].cumulativeDose < s.sites[i].cfg.serviceDose
  sites : ∀ i : Fin 12, s.sites[i].enabled = false
  lines : ∀ i : Fin 3, s.lines[i].state = .disabled
  points : ∀ i : Fin 96, s.points[i].quality = .unset
  outputs : ∀ d : Fin 24, s.discretes[d].mismatch = false
  supervision : s.supervision.state = .disarmed

/-- Only TURBINE_TRIP and, where the emergency stop is active, ESTOP are set. -/
theorem Calm.setWhile {s : State} (h : Calm s) (n : Fin 42) :
    SetWhile s n ↔ n.val = 16 ∨ n.val = 40 ∧ estopActive s = true := by
  have no {p : Prop} (out : n.val ≠ 16 ∧ n.val ≠ 40) (hp : ¬ p) : p ↔ n.val = 16 ∨ n.val = 40 ∧ estopActive s = true :=
    iff_of_false hp (by rintro (e | ⟨e, -⟩); exacts [out.1 e, out.2 e])
  unfold SetWhile
  by_cases h0 : n.val < 8
  · rw [dif_pos h0]; exact no (by omega) (fun e => nomatch (h.wells ⟨n.val, h0⟩).symm.trans e)
  rw [dif_neg h0]
  by_cases h1 : n.val < 16
  · rw [dif_pos h1]; exact no (by omega) (fun e => nomatch (h.wells ⟨n.val - 8, by omega⟩).symm.trans e)
  rw [dif_neg h1]
  by_cases h2 : n.val = 16
  · rw [if_pos h2]; exact iff_of_true h.tripped (.inl h2)
  rw [if_neg h2]
  by_cases h3 : n.val = 17
  · rw [if_pos h3]; exact no (by omega) (fun e => nomatch h.valve.symm.trans e)
  rw [if_neg h3]
  by_cases h4 : n.val = 18
  · rw [if_pos h4]; exact no (by omega) (fun e => nomatch h.reject.symm.trans e)
  rw [if_neg h4]
  by_cases h5 : n.val = 19
  · rw [if_pos h5]; exact no (by omega) (fun e => nomatch h.short.symm.trans e)
  rw [if_neg h5]
  by_cases h6 : n.val = 20
  · rw [if_pos h6]; exact no (by omega) (fun e => nomatch h.heating.symm.trans e)
  rw [if_neg h6]
  by_cases h7 : n.val < 33
  · rw [dif_pos h7]; exact no (by omega) (fun e => nomatch (h.levels ⟨n.val - 21, by omega⟩).symm.trans e)
  rw [dif_neg h7]
  by_cases h8 : n.val = 33
  · rw [if_pos h8]; exact no (by omega) (fun ⟨i, _, e⟩ => absurd (h.doses i) (Nat.not_lt.mpr e))
  rw [if_neg h8]
  by_cases h9 : n.val = 34
  · rw [if_pos h9]; exact no (by omega) (fun ⟨i, e, _⟩ => nomatch (h.sites i).symm.trans e)
  rw [if_neg h9]
  by_cases h10 : n.val < 38
  · rw [dif_pos h10]; exact no (by omega) (fun e => nomatch (h.lines ⟨n.val - 35, by omega⟩).symm.trans e)
  rw [dif_neg h10]
  by_cases h11 : n.val = 38
  · rw [if_pos h11]
    exact no (by omega) (fun ⟨i, _, e⟩ => e.elim (fun e => nomatch (h.points i).symm.trans e) (fun e => nomatch (h.points i).symm.trans e))
  rw [if_neg h11]
  by_cases h12 : n.val = 39
  · rw [if_pos h12]; exact no (by omega) (fun ⟨d, e⟩ => nomatch (h.outputs d).symm.trans e)
  rw [if_neg h12]
  by_cases h13 : n.val = 40
  · rw [if_pos h13]
    refine Iff.trans (Iff.symm (estop_iff s)) ?_
    exact ⟨fun e => .inr ⟨h13, e⟩, fun e => e.elim (fun e => absurd e (by omega)) And.right⟩
  · rw [if_neg h13]
    exact no (by omega) (fun e => e.elim (fun e => nomatch h.supervision.symm.trans e) (fun e => nomatch h.supervision.symm.trans e))

/-! ### The lines at the end of internal initialisation (R65) -/

/-- A line as a reset leaves it: commanded low, with nothing running. -/
structure Discrete.Quiet (l : Discrete) : Prop where
  roleCommand : l.roleCommand = false
  commanded : l.commanded = false
  mismatch : l.mismatch = false
  mismatchTimer : l.mismatchTimer = none

/-- A quiet line that is given a level by its owner. -/
def Discrete.asked (c : Bool) (l : Discrete) : Discrete :=
  { l with
    roleCommand := c
    commanded := l.cfg.role && c
    mismatchTimer := if l.cfg.out = true ∧ (l.cfg.role && c) = true ∧ l.level = false then some (l.cfg.mismatchTime * 10) else none }

theorem Discrete.Quiet.asked_false {l : Discrete} (h : l.Quiet) : l.asked false = l := by
  obtain ⟨roleCommand, commanded, -, timer⟩ := h
  rcases l with ⟨_⟩
  dsimp only at roleCommand commanded timer
  subst roleCommand commanded timer
  simp [Discrete.asked]

theorem Discrete.Quiet.setRoleCommand {l : Discrete} (h : l.Quiet) (c : Bool) : l.setRoleCommand c = l.asked c := by
  obtain ⟨roleCommand, commanded, mismatch, timer⟩ := h
  rcases l with ⟨⟨role, out⟩, _, _, _, _, level⟩
  dsimp only at roleCommand commanded mismatch timer
  subst roleCommand commanded mismatch timer
  unfold Discrete.asked Discrete.setRoleCommand Discrete.setCommanded Discrete.judgeMismatch
  cases c with
  | false => simp
  | true =>
    cases role with
    | false => simp
    | true => cases out <;> cases level <;> rfl

theorem Discrete.Quiet.sample {l : Discrete} (h : l.Quiet) : l.sample.Quiet := ⟨h.roleCommand, h.commanded, h.mismatch, h.mismatchTimer⟩

theorem Discrete.Quiet.follows {l : Discrete} (h : l.Quiet) : l.Follows false := ⟨h.roleCommand, fun _ => h.commanded.trans h.roleCommand.symm⟩

theorem Discrete.asked_roleLevel (c : Bool) (l : Discrete) : (l.asked c).roleLevel = l.roleLevel := rfl

/-- The part with its timers started and its pads sampled. -/
def State.sampled (s : State) : State := sampleDiscretes (startTimers s.begun)

theorem State.sampled_discrete (s : State) (d : Fin 24) : s.sampled.discretes[d] = s.discretes[d].sample :=
  modifyAll_get s.discretes d fun _ l => l.sample

theorem State.sampled_only (s : State) :
    Only [.phase, .clock, .tableTimers, .wpTimer, .turbine, .heating, .discretes] s s.sampled :=
  ((s.begun_only.mono (by decide)).also (startTimers_only _)).also (sampleDiscretes_only _)

/-- START_UP forms the live set and queues its notice where the outputs stand settled. -/
theorem started_only (s : State) : Only [.conditions, .notices] (settleOutputs s.sampled) (started s) :=
  (formLive_only _).seq (queueStarted_only _)

/-- All that START_UP does after its timers have started. -/
theorem started_later (s : State) : Only [.discretes, .conditions, .notices] (startTimers s.begun) (started s) :=
  ((sampleDiscretes_only (startTimers s.begun)).trans (settleOutputs_only _)).seq (started_only s)

theorem started_all (s : State) : Only [.phase, .clock, .tableTimers, .wpTimer, .turbine, .heating, .discretes, .conditions, .notices] s
    (started s) :=
  (s.sampled_only.also (settleOutputs_only _)).seq (started_only s)

theorem started_notices (s : State) :
    (started s).link.condition = s.link.condition ∧ (started s).link.edge = s.link.edge := by
  have only : Only [.phase, .clock, .tableTimers, .wpTimer, .turbine, .heating, .discretes] s (settleOutputs s.sampled) :=
    s.sampled_only.also (settleOutputs_only _)
  have conditions := only .conditions (by decide)
  have notices := only .notices (by decide)
  simp only [Exact, Prod.mk.injEq] at conditions notices
  exact ⟨(queueStarted_formLive _).1.trans conditions.2, notices.2⟩

theorem beginNotice_only (s : State) (f : Frame) :
    Only [.outgoing, .notices] s (s.modLink fun l => { l with sending := some f, started := none }) := by
  intro p hp; cases p <;> first | rfl | simp at hp

theorem started_conditions (s : State) : (started s).conditions =
    { (settleOutputs s.sampled).conditions with live := liveNow (settleOutputs s.sampled), frozen := liveNow (settleOutputs s.sampled) } := rfl

theorem started_found (s : State) (m : Member) : m.found (started s) = m.found (settleOutputs s.sampled) := by
  have only := started_only s
  have wells : (started s).wells = (settleOutputs s.sampled).wells := only .wells (by decide)
  have turbine : (started s).turbine = (settleOutputs s.sampled).turbine := only .turbine (by decide)
  have heating : (started s).heating = (settleOutputs s.sampled).heating := only .heating (by decide)
  have sites : (started s).sites = (settleOutputs s.sampled).sites := only .sites (by decide)
  have lines : (started s).lines = (settleOutputs s.sampled).lines := only .lines (by decide)
  have points : (started s).points = (settleOutputs s.sampled).points := only .points (by decide)
  have supervision : (started s).supervision = (settleOutputs s.sampled).supervision := only .supervision (by decide)
  have discretes : (started s).discretes = (settleOutputs s.sampled).discretes := only .discretes (by decide)
  cases m <;> unfold Member.found <;>
    simp only [wells, turbine, heating, sites, lines, points, supervision, discretes, estopActive]

section

variable {s : State} (h : DynamicReset s)

include h

theorem reset_quiet (d : Fin 24) : s.discretes[d].Quiet := by
  obtain ⟨⟨-, -, -, lines⟩, -⟩ := h
  obtain ⟨roleCommand, commanded, -, timer, mismatch, -⟩ := lines d
  exact ⟨roleCommand, commanded, mismatch, timer⟩

/-- The outputs follow their owners as initialisation ends: BRK_OPEN_CMD takes the level of a closed breaker, every other stands
(R65, R138). -/
theorem settleOutputs_sampled : settleOutputs s.sampled = commandRole breakerOpenLine (breakerClosed s.sampled) s.sampled := by
  have quiet (d : Fin 24) : s.sampled.discretes[d].Quiet := by rw [State.sampled_discrete]; exact (reset_quiet h d).sample
  obtain ⟨-, -, ⟨wells, tripped, -⟩, -⟩ := h
  have off (k : Fin 8) : s.sampled.wells[k].state.energised = false := by
    show s.wells[k].state.energised = false
    rw [(wells k).1]; rfl
  have closed : s.sampled.turbine.state.energised = false := by
    show s.turbine.state.energised = false
    rw [tripped]; rfl
  have demand : breakerOpenDemand s.sampled = breakerClosed s.sampled := by
    unfold breakerOpenDemand
    rw [show s.sampled.turbine.state = .tripped from tripped]
  unfold settleOutputs
  rw [forEach_self 8 (fun k s => commandRole (runLine k) s.wells[k].state.energised s) s.sampled fun k => by
    rw [off k]; exact commandRole_follows_self (quiet _).follows]
  dsimp only
  rw [closed, commandRole_follows_self (quiet stopValveLine).follows, demand]

theorem started_discrete (d : Fin 24) : (started s).discretes[d] =
    s.discretes[d].sample.asked (decide (d = breakerOpenLine) && breakerClosed s.sampled) := by
  have quiet : s.discretes[d].sample.Quiet := (reset_quiet h d).sample
  have e : (started s).discretes[d] = (settleOutputs s.sampled).discretes[d] := rfl
  rw [e, settleOutputs_sampled h]
  unfold commandRole
  rw [State.modDiscrete_at, State.sampled_discrete]
  split
  · rename_i same
    subst same
    rw [decide_eq_true rfl, Bool.true_and, quiet.setRoleCommand]
  · rename_i other
    rw [decide_eq_false (Ne.symm other), Bool.false_and, quiet.asked_false, State.sampled_discrete]

/-- What a part that has been reset finds as initialisation ends, each of its sites with a service dose (R87, R193). -/
theorem settled_calm (doses : ∀ i : Fin 12, 1 ≤ s.sites[i].cfg.serviceDose) : Calm (settleOutputs s.sampled) := by
  have lines (d : Fin 24) : (settleOutputs s.sampled).discretes[d].mismatch = false := by
    have e : (settleOutputs s.sampled).discretes[d] = (started s).discretes[d] := rfl
    rw [e, started_discrete h]
    exact (reset_quiet h d).mismatch
  have only : Only [.phase, .clock, .tableTimers, .wpTimer, .turbine, .heating, .discretes] s (settleOutputs s.sampled) :=
    s.sampled_only.also (settleOutputs_only _)
  have wells' : (settleOutputs s.sampled).wells = s.wells := only .wells (by decide)
  have sites' : (settleOutputs s.sampled).sites = s.sites := only .sites (by decide)
  have faults' : (settleOutputs s.sampled).lines = s.lines := only .lines (by decide)
  have points' : (settleOutputs s.sampled).points = s.points := only .points (by decide)
  have supervision' : (settleOutputs s.sampled).supervision = s.supervision := only .supervision (by decide)
  have turbine' : (settleOutputs s.sampled).turbine = { s.turbine with periodTimer := some 100 } :=
    settleOutputs_only s.sampled .turbine (by decide)
  have heating' : (settleOutputs s.sampled).heating = { s.heating with periodTimer := some 1000 } :=
    settleOutputs_only s.sampled .heating (by decide)
  obtain ⟨⟨points, -, schedules, -⟩, ⟨-, -, -, -, -, -, sites, -⟩, plant, host⟩ := h
  obtain ⟨wells, tripped, -, -, -, -, -, -, -, -, -, -, -, -, -, -, -, -, -, valve, reject, -, -, -, -, -, -, heating, plant⟩ := plant
  obtain ⟨-, -, -, -, -, -, -, -, -, -, -, -, short, -⟩ := plant
  obtain ⟨-, -, -, -, -, -, -, -, -, disarmed, -⟩ := host
  refine ⟨fun k => ?_, ?_, ?_, ?_, ?_, ?_, fun i => ?_, fun i => ?_, fun i => ?_, fun i => ?_, fun i => ?_, lines, ?_⟩
  · rw [wells']; exact (wells k).1
  · rw [turbine']; exact tripped
  · rw [turbine']; exact valve
  · rw [turbine']; exact reject
  · rw [heating']; exact short
  · rw [heating']; exact heating
  · rw [sites']
    obtain ⟨-, -, -, -, -, level, -⟩ := sites i
    exact level
  · rw [sites']
    obtain ⟨-, -, -, -, -, -, -, -, -, -, -, cumulative, -⟩ := sites i
    rw [cumulative]
    exact doses i
  · rw [sites']; exact (sites i).1
  · rw [faults']; exact (schedules i).2.1
  · rw [points']; exact (points i).1
  · rw [supervision']; exact disarmed

theorem started_live (doses : ∀ i : Fin 12, 1 ≤ s.sites[i].cfg.serviceDose) (n : Fin 42) :
    (started s).conditions.live[n] = (decide (n.val = 16) || (decide (n.val = 40) && estopActive (started s))) := by
  have estop : estopActive (started s) = estopActive (settleOutputs s.sampled) := started_found s .estop
  have set := (settled_calm h doses).setWhile n
  rw [started_conditions, estop]
  show (liveNow (settleOutputs s.sampled))[n] = _
  rw [liveNow_get, Bool.eq_iff_iff, found_iff, set, Bool.or_eq_true, Bool.and_eq_true, decide_eq_true_eq, decide_eq_true_eq]

/-- Every line as initialisation ends (R65). -/
theorem started_line (d : Fin 24) : (started s).discretes[d].cfg = s.discretes[d].cfg ∧ (started s).discretes[d].pin = s.discretes[d].pin ∧
    (started s).discretes[d].padLevel = (s.discretes[d].pin != s.discretes[d].cfg.inverted) ∧
    (started s).discretes[d].level = (started s).discretes[d].padLevel ∧ (started s).discretes[d].mismatch = false ∧
    (started s).discretes[d].edgeSeen = false ∧ (started s).discretes[d].edgeReported = false ∧
    (started s).discretes[d].edgeCount = 0 ∧
    (started s).discretes[d].roleCommand = (decide (d = breakerOpenLine) && breakerClosed (started s)) ∧
    (started s).discretes[d].commanded = ((started s).discretes[d].cfg.role && (started s).discretes[d].roleCommand) ∧
    (started s).discretes[d].debounceTimer = none ∧
    (started s).discretes[d].mismatchTimer =
      if (started s).discretes[d].cfg.out = true ∧ (started s).discretes[d].commanded = true ∧ (started s).discretes[d].level = false then
        some ((started s).discretes[d].cfg.mismatchTime * 10) else none := by
  have closed : breakerClosed (started s) = breakerClosed s.sampled := by
    unfold breakerClosed
    rw [started_discrete h, State.sampled_discrete, Discrete.asked_roleLevel]
  rw [closed, started_discrete h]
  obtain ⟨⟨-, -, -, lines⟩, -⟩ := h
  obtain ⟨-, -, debounce, -, mismatch, seen, reported, count, -⟩ := lines d
  generalize (decide (d = breakerOpenLine) && breakerClosed s.sampled) = c
  exact ⟨rfl, rfl, rfl, rfl, mismatch, seen, reported, count, rfl, rfl, debounce, rfl⟩

/-- The snapshot record as initialisation ends (R193). -/
theorem started_snapshot : (started s).conditions.frozen = (started s).conditions.live ∧ (started s).conditions.held = false ∧
    (started s).conditions.number = 0 ∧ (started s).conditions.unsilenced = MemberSet.empty := by
  have only : Only [.phase, .clock, .tableTimers, .wpTimer, .turbine, .heating, .discretes] s (settleOutputs s.sampled) :=
    s.sampled_only.also (settleOutputs_only _)
  have stands := only .conditions (by decide)
  simp only [Exact, Prod.mk.injEq] at stands
  rw [started_conditions, stands.1]
  obtain ⟨-, -, -, -, -, -, -, -, -, -, -, -, -, -, -, -, -, -, free, number, -, -, unsilenced, -⟩ := h
  exact ⟨rfl, free, number, unsilenced⟩

/-- As initialisation ends everything stands settled. -/
theorem started_settled : OutputsFollow (started s) ∧ LiveFollows (started s) := by
  have quiet : (started s).discretes[alarmLine].Follows false := by
    rw [started_discrete h, decide_eq_false (show alarmLine ≠ breakerOpenLine by decide), Bool.false_and,
      (reset_quiet h alarmLine).sample.asked_false]
    exact (reset_quiet h alarmLine).sample.follows
  have only := started_only s
  have lines : (started s).discretes = (settleOutputs s.sampled).discretes := only .discretes (by decide)
  have wells : (started s).wells = (settleOutputs s.sampled).wells := only .wells (by decide)
  have turbine : (started s).turbine = (settleOutputs s.sampled).turbine := only .turbine (by decide)
  have owners : OwnersFollowed (started s) := (settleOutputs_follows s.sampled).of_eq
    (fun d _ => by rw [lines]; exact ⟨rfl, rfl, rfl, rfl⟩) (fun k => by rw [wells]) (by rw [turbine]; exact ⟨rfl, rfl⟩)
  obtain ⟨-, -, -, empty⟩ := started_snapshot h
  have now : liveNow (started s) = liveNow (settleOutputs s.sampled) := liveNow_eq (started_found s)
  have live : (started s).conditions.live = liveNow (settleOutputs s.sampled) := by rw [started_conditions]
  refine ⟨(outputsFollow_iff _).mpr ⟨owners, ?_⟩, live.trans now.symm, fun n hn => ?_⟩
  · rw [empty]; exact quiet
  · rw [empty] at hn
    simp [MemberSet.empty] at hn

/-- START_UP of a part that has been reset begins its STARTED notice, and nothing is left to settle. -/
theorem startUp_begins : startUp s = (started s).modLink fun l => { l with sending := some (startedFrame (causeOf s)), started := none } := by
  have settled := started_settled h
  have cause := started_started s
  obtain ⟨-, -, -, init, -, -, -, -, -, -, -, -, -, -, -, -, -, -, -, -, -, -, -, -, -, -, -, busy, replies, -, -, -, sending, -⟩ := h
  have out := started_all s .outgoing (by decide)
  have held := started_all s .requests (by decide)
  simp only [Exact, Prod.mk.injEq] at out held
  have idle : (started s).link.sending = none := out.2.2.trans sending
  have chosen : arbiter (started s).link = some (.started (startedFrame (causeOf s))) := by
    rw [arbiter_unreplied (out.1.trans replies) (held.2.1.trans busy), noticeChoice, cause]
  have keeps := modLink_keeps (started s) fun l => { l with sending := some (startedFrame (causeOf s)), started := none }
  obtain ⟨outputs, live⟩ := keeps.settled settled
  rw [startUp_eq init]
  unfold transmit
  rw [idle, chosen]
  exact settle_self outputs live

end

end Sys2Proof.Machine

open Sys2Proof Sys2Proof.Machine

/-- Settles O5. -/
theorem internalInitialisation : Obligations.InternalInitialisation := by
  refine ⟨fun c s halted h1 h2 h3 h4 => exec_initialising halted h1 h2 h3 h4, fun s => ⟨fun h doses => ?_, fun runs => ?_⟩,
    fun _ _ _ => ⟨⟨_, rfl, rfl⟩, _, rfl, rfl⟩⟩
  · refine ⟨_, congrArg Host.Outcome.next (startUp_begins h), ?_⟩
    have lines := started_line h
    have live := started_live h doses
    obtain ⟨frozen, free, number, unsilenced⟩ := started_snapshot h
    have all := started_all s
    have phase := started_later s .phase (by decide)
    have clock := started_later s .clock (by decide)
    have timers := started_later s .tableTimers (by decide)
    have wp : (started s).wpTimer = some 250 := started_later s .wpTimer (by decide)
    have turbine : (started s).turbine = { s.turbine with periodTimer := some 100 } := started_later s .turbine (by decide)
    have heating : (started s).heating = { s.heating with periodTimer := some 1000 } := started_later s .heating (by decide)
    have unit : (started s).speedUnit = s.speedUnit := all .speedUnit (by decide)
    obtain ⟨notice, edges⟩ := started_notices s
    obtain ⟨-, ⟨-, -, -, -, -, base, -⟩, -, host⟩ := h
    obtain ⟨-, -, -, -, -, -, -, -, -, -, -, -, -, -, -, -, -, -, -, -, -, -, -, -, -, -, -, condition, edge, -⟩ := host
    simp only [Exact, Prod.mk.injEq] at phase clock timers
    obtain ⟨init, power, low, cause, same⟩ := phase
    generalize started s = x at *
    refine ⟨init, power, low, cause, same, clock.1, clock.2, timers.1, timers.2, wp, turbine, heating, lines, unit,
      (congrArg SpeedUnit.timeBase unit).trans base, live, frozen, free, number, unsilenced, ?_, rfl, notice.trans condition,
      edges.trans edge, (all.seq (beginNotice_only x _)).same⟩
    show some (startedFrame (causeOf s)) = some ⟨0x70, 0, [BitVec.ofNat 8 x.resetCause.code]⟩
    rw [show causeOf s = x.resetCause from cause.symm, ← putByte_eq]
    rfl
  · exact congrArg Host.Outcome.next (startUp_running runs)

end

section
/-! PROOFS. How a line keeps its books, and the edits and the swap of its schedules (O21, O24, O25). -/

namespace Sys2Proof.Machine

-- One after the other: see Laws/Frames.lean.
set_option Elab.async false

/-! ### The bank of lines -/

/-- The lines after one of them changed. -/
theorem modLine_lines_of {s t : State} {i : Fin 3} {f : Line → Line} (h : t.lines = (s.modLine i f).lines) :
    (∀ j : Fin 3, j ≠ i → t.lines[j] = s.lines[j]) ∧ t.lines[i] = f s.lines[i] := by
  rw [h]
  exact ⟨fun j hj => by rw [State.modLine_at, if_neg (Ne.symm hj)], by rw [State.modLine_at, if_pos rfl]⟩

/-! ### The books (R32, R41) -/

theorem EntryOutcome.logged_iff {o : EntryOutcome} : o.logged = true ↔ o ≠ .ok ∧ o ≠ .skipped ∧ o ≠ .notReached := by
  cases o <;> decide

theorem Line.settle_quiet {clock position : Nat} {o : EntryOutcome} (h : ¬ o.logged = true) (l : Line) :
    l.settle clock position o = l.mark position (position + 1) o := if_neg h

theorem Line.settle_logged {clock position : Nat} {o : EntryOutcome} (h : o.logged = true) (l : Line) :
    l.settle clock position o = (l.mark position (position + 1) o).record ⟨some position, o, clock⟩ := if_pos h

theorem Line.settle_active (clock position : Nat) (o : EntryOutcome) (l : Line) :
    (l.settle clock position o).active = (l.mark position (position + 1) o).active := by
  unfold Line.settle
  dsimp only
  split <;> rfl

theorem Line.settle_fields (clock position : Nat) (o : EntryOutcome) (l : Line) : l.settle clock position o =
    { l with active := (l.settle clock position o).active, log := (l.settle clock position o).log,
             logTotal := (l.settle clock position o).logTotal } := by
  unfold Line.settle
  dsimp only
  split <;> rfl

/-- The 16 most recent records, the newest last (R41). -/
theorem Line.record_log (r : ResultRecord) (l : Line) : (l.record r).log = (l.log ++ [r]).drop (l.log.length - 15) := by
  show (l.log ++ [r]).drop ((l.log ++ [r]).length - 16) = _
  rw [List.length_append, List.length_singleton, Nat.add_sub_add_right]

theorem Line.settle_get (clock position : Nat) (o : EntryOutcome) (l : Line) (n : Nat) :
    (l.settle clock position o).active[n]? =
      (l.active[n]?).map (fun e => if n = position then { e with lastOutcome := some o } else e) := by
  rw [Line.settle_active, Line.mark_get]
  have at_position : (position ≤ n ∧ n < position + 1) = (n = position) := by rw [eq_iff_iff]; omega
  simp only [at_position]

theorem Line.closeOut_get (settled : Nat) (state : LineState) (l : Line) (n : Nat) :
    (l.closeOut settled state).active[n]? =
      (l.active[n]?).map (fun e => if settled ≤ n then { e with lastOutcome := some .notReached } else e) := by
  show (l.mark settled l.active.length .notReached).active[n]? = _
  rw [Line.mark_get]
  by_cases h : n < l.active.length
  · simp only [h, and_true]
  · rw [List.getElem?_eq_none (Nat.le_of_not_lt h)]; rfl

/-! ### Edits of the staged schedule (R47) -/

theorem applyEdit_refused {i : Fin 3} {edited : List Entry} {content : List Byte} {s : State} {o : Offender}
    (h : s.lines[i].ready = true) (ho : scheduleCheck s i edited = some o) :
    applyEdit i edited content s = refuse s .inUse (putOffender o) := by
  unfold applyEdit
  dsimp only
  rw [if_pos h, ho]

theorem applyEdit_stored {i : Fin 3} {edited : List Entry} {content : List Byte} {s : State}
    (h : s.lines[i].ready = true → scheduleCheck s i edited = none) :
    applyEdit i edited content s = accept (s.modLine i (fun l => { l with staged := edited })) content := by
  unfold applyEdit
  dsimp only
  split
  · rename_i ready; rw [h ready]
  · rfl

/-- A request that edits the staged schedule of a line, as its owner applies the edit to the state it finds. -/
theorem edit_forms {c : Instr} {tag : Byte} {r : Request} {kind : Nat} {s : State} {i : Fin 3} {edited : List Entry}
    {content : List Byte} (hc : c.request = some (tag, r)) (hs : Ready s)
    (own : ∀ v : Supervision, applyRequest r { s with supervision := v } = applyEdit i edited content { s with supervision := v })
    (hk : r.kind = kind := by rfl) :
    (∀ o, s.lines[i].ready = true → scheduleCheck s i edited = some o → Refuses c s kind tag .inUse (putOffender o)) ∧
    ((s.lines[i].ready = true → scheduleCheck s i edited = none) →
      Replies c s kind tag .ok content [.lines] (fun t =>
        (∀ j : Fin 3, j ≠ i → t.lines[j] = s.lines[j]) ∧ t.lines[i] = { s.lines[i] with staged := edited })) := by
  refine ⟨fun o ready failed => refuses_of hc hs (fun v _ => (own v).trans (applyEdit_refused ready failed)) hk,
    fun passes => replies_of hc hs (fun v _ => ⟨_, (own v).trans (applyEdit_stored passes), State.modLine_only _ i _,
      fun t ht _ => modLine_lines_of (ht .lines (by decide))⟩) (by decide) hk⟩

section

variable {position : Nat} {q : EntryFields} {s : State} {i : Fin 3} {e : Entry}

theorem ownEditEntry_refused (h : EntryFields.check q (fun p => s.points[p].cfg.source) = none ∨ s.lines[i].staged.length ≤ position) :
    ownEditEntry i.val position q s = refuse s .badField [] := by
  unfold ownEditEntry
  rw [ident_val]
  cases he : EntryFields.check q (fun p => s.points[p].cfg.source) with
  | none => rfl
  | some e => exact if_neg (Nat.not_lt.mpr (h.resolve_left (by rw [he]; nofun)))

theorem ownEditEntry_at (he : EntryFields.check q (fun p => s.points[p].cfg.source) = some e) (h : position < s.lines[i].staged.length) :
    ownEditEntry i.val position q s = applyEdit i (s.lines[i].staged.set position e)
      (Wire.putByte s.lines[i].staged.length ++ Wire.putEntry e.fields) s := by
  unfold ownEditEntry
  rw [ident_val, he]
  exact if_pos h

theorem ownInsertEntry_refused (h : EntryFields.check q (fun p => s.points[p].cfg.source) = none ∨ s.lines[i].staged.length < position) :
    ownInsertEntry i.val position q s = refuse s .badField [] := by
  unfold ownInsertEntry
  rw [ident_val]
  cases he : EntryFields.check q (fun p => s.points[p].cfg.source) with
  | none => rfl
  | some e => exact if_neg (Nat.not_le.mpr (h.resolve_left (by rw [he]; nofun)))

theorem ownInsertEntry_full (he : EntryFields.check q (fun p => s.points[p].cfg.source) = some e)
    (h : position ≤ s.lines[i].staged.length) (full : 24 ≤ s.lines[i].staged.length) :
    ownInsertEntry i.val position q s = refuse s .inUse [] := by
  unfold ownInsertEntry
  rw [ident_val, he]
  exact (if_pos h).trans (if_pos full)

theorem ownInsertEntry_at (he : EntryFields.check q (fun p => s.points[p].cfg.source) = some e)
    (h : position ≤ s.lines[i].staged.length) (room : s.lines[i].staged.length < 24) :
    ownInsertEntry i.val position q s = applyEdit i (s.lines[i].staged.take position ++ e :: s.lines[i].staged.drop position)
      (Wire.putByte (s.lines[i].staged.length + 1) ++ Wire.putEntry e.fields) s := by
  unfold ownInsertEntry
  rw [ident_val, he]
  exact (if_pos h).trans (if_neg (by omega))

theorem ownRemoveEntry_refused (h : s.lines[i].staged.length ≤ position) :
    ownRemoveEntry i.val position s = refuse s .badField [] := by
  unfold ownRemoveEntry
  rw [ident_val]
  exact if_neg (by omega)

theorem ownRemoveEntry_at (h : position < s.lines[i].staged.length) : ownRemoveEntry i.val position s =
    applyEdit i (s.lines[i].staged.eraseIdx position) (Wire.putByte (s.lines[i].staged.length - 1)) s := by
  unfold ownRemoveEntry
  rw [ident_val]
  exact if_pos h

theorem ownClearStaged_at : ownClearStaged i.val s = applyEdit i [] (Wire.putByte 0) s := by
  unfold ownClearStaged
  rw [ident_val]

end

/-! ### The swap (R49) -/

section

variable {s : State} {i : Fin 3}

theorem ownSwapSchedule_ready (h : s.lines[i].ready = true) : ownSwapSchedule i.val s = accept s (Wire.putByte 1) := by
  unfold ownSwapSchedule
  rw [ident_val]
  exact if_pos h

theorem ownSwapSchedule_failed {o : Offender} (h : s.lines[i].ready = false) (ho : scheduleCheck s i s.lines[i].staged = some o) :
    ownSwapSchedule i.val s = refuse s .inUse (putOffender o) := by
  unfold ownSwapSchedule
  rw [ident_val]
  dsimp only
  rw [if_neg (by rw [h]; decide), ho]

theorem ownSwapSchedule_passed (h : s.lines[i].ready = false) (ho : scheduleCheck s i s.lines[i].staged = none) :
    (s.lines[i].state = .disabled → ownSwapSchedule i.val s = accept (swapLine i s) (Wire.putByte 0)) ∧
      (s.lines[i].state ≠ .disabled → ownSwapSchedule i.val s =
        accept (s.modLine i (fun l => { l with ready := true })) (Wire.putByte 1)) := by
  unfold ownSwapSchedule
  rw [ident_val]
  dsimp only
  rw [if_neg (by rw [h]; decide), ho]
  exact ⟨fun h => if_pos h, fun h => if_neg h⟩

end

/-- The bound drives depend on the lines alone. -/
theorem driveBound_of_lines {s t : State} (h : t.lines = s.lines) (d : Fin 15) : driveBound t d = driveBound s d := by
  unfold driveBound
  rw [h]

theorem swapLine_drives (i : Fin 3) (s : State) (d : Fin 15) :
    (swapLine i s).drives[d] = s.drives[d].rebind (driveBound (swapLine i s) d) := by
  rw [driveBound_of_lines (s := s.modLine i Line.swap) (t := swapLine i s) rfl d]
  exact modifyAll_get _ d _

/-- The delivery state a drive takes at a swap (R20). -/
theorem Drive.rebind_forms (x : Drive) (bound : Bool) :
    (x.rebind bound).value = x.value ∧ (x.rebind bound).lastDelivered = x.lastDelivered ∧
    (bound = true → x.delivery = .unbound → (x.rebind bound).delivery = .pending) ∧
    (bound = true → x.delivery ≠ .unbound → x.rebind bound = x) ∧
    (bound = false → (x.rebind bound).delivery = .unbound ∧ (x.rebind bound).failingSince = none ∧
      (x.rebind bound).failingFor = none) := by
  unfold Drive.rebind
  cases bound
  · exact ⟨rfl, rfl, nofun, nofun, fun _ => ⟨rfl, rfl, rfl⟩⟩
  · by_cases h : x.delivery = .unbound <;> simp [h]

end Sys2Proof.Machine

open Sys2Proof Sys2Proof.Machine

/-- Settles O21: an outcome is logged unless it is OK, SKIPPED or NOT_REACHED (`EntryOutcome.logged_iff`). -/
theorem lineBookkeeping : Obligations.LineBookkeeping := by
  intro l clock position o
  refine ⟨Line.settle_get clock position o l, fun quiet => ?_, fun hok hskipped hreached => ?_, Line.settle_fields clock position o l,
    fun settled state => ⟨Line.closeOut_get settled state l, rfl⟩⟩
  · rw [Line.settle_quiet fun h => ?_]
    · exact ⟨rfl, rfl⟩
    · obtain ⟨hok, hskipped, hreached⟩ := EntryOutcome.logged_iff.mp h
      exact quiet.elim hok fun quiet => quiet.elim hskipped hreached
  · rw [Line.settle_logged (EntryOutcome.logged_iff.mpr ⟨hok, hskipped, hreached⟩)]
    exact ⟨Line.record_log _ _, rfl⟩

/-- Settles O24: each edit is refused before it is made, or is one use of `edit_forms`. -/
theorem scheduleEdits : Obligations.ScheduleEdits := by
  intro tag line position q s hs
  refine ⟨fun h => ?_, ?_⟩
  · have unknown : ident 3 line = none := ident_none h
    refine ⟨refuses_of rfl hs fun v _ => ?_, refuses_of rfl hs fun v _ => ?_,
      refuses_of rfl hs fun v _ => ?_, refuses_of rfl hs fun v _ => ?_⟩
    · show ownEditEntry line position q _ = _
      unfold ownEditEntry; rw [unknown]; rfl
    · show ownInsertEntry line position q _ = _
      unfold ownInsertEntry; rw [unknown]; rfl
    · show ownRemoveEntry line position _ = _
      unfold ownRemoveEntry; rw [unknown]; rfl
    · show ownClearStaged line _ = _
      unfold ownClearStaged; rw [unknown]; rfl
  · rintro i rfl
    refine ⟨fun bad => refuses_of rfl hs fun v _ => by exact ownEditEntry_refused (s := { s with supervision := v }) bad,
      fun e he h => edit_forms rfl hs fun v => by exact ownEditEntry_at (s := { s with supervision := v }) he h,
      fun bad => refuses_of rfl hs fun v _ => by exact ownInsertEntry_refused (s := { s with supervision := v }) bad,
      fun e he h full => refuses_of rfl hs fun v _ => by exact ownInsertEntry_full (s := { s with supervision := v }) he h full,
      fun e he h room => edit_forms rfl hs fun v => by exact ownInsertEntry_at (s := { s with supervision := v }) he h room,
      fun h => refuses_of rfl hs fun v _ => by exact ownRemoveEntry_refused (s := { s with supervision := v }) h,
      fun h => edit_forms rfl hs fun v => by exact ownRemoveEntry_at (s := { s with supervision := v }) h,
      edit_forms rfl hs fun v => by exact ownClearStaged_at (s := { s with supervision := v })⟩

/-- Settles O25. -/
theorem swapScheduleForms : Obligations.SwapScheduleForms := by
  intro tag line s hs
  refine ⟨fun h => refuses_of rfl hs fun v _ => ?_, ?_⟩
  · show ownSwapSchedule line _ = _
    unfold ownSwapSchedule; rw [ident_none h]; rfl
  · rintro i rfl
    refine ⟨fun ready => replies_of rfl hs fun v _ => ?_, fun o waits failed => refuses_of rfl hs fun v _ => ?_,
      fun waits passed enabled => replies_of rfl hs fun v _ => ?_, fun waits passed disabled => replies_of rfl hs fun v _ => ?_⟩
    · exact ⟨_, ownSwapSchedule_ready (s := { s with supervision := v }) ready, Only.refl _ _, fun _ _ _ => trivial⟩
    · exact ownSwapSchedule_failed (s := { s with supervision := v }) waits failed
    · exact ⟨_, (ownSwapSchedule_passed (s := { s with supervision := v }) waits passed).2 enabled, State.modLine_only _ i _,
        fun t ht _ => modLine_lines_of (ht .lines (by decide))⟩
    refine ⟨_, (ownSwapSchedule_passed (s := { s with supervision := v }) waits passed).1 disabled, swapLine_only i _,
      fun t ht _ => ?_⟩
    have lines : t.lines = (swapLine i { s with supervision := v }).lines := ht .lines (by decide)
    have drives : t.drives = (swapLine i { s with supervision := v }).drives := ht .drives (by decide)
    obtain ⟨others, own⟩ := modLine_lines_of (s := { s with supervision := v }) (f := Line.swap) lines
    have ready : ({ s.lines[i] with ready := false } : Line) = s.lines[i] := by rw [← waits]
    refine ⟨others, own.trans ?_, fun d => ?_⟩
    · show ({ ({ s.lines[i] with ready := false } : Line) with active := _ } : Line) = _
      rw [ready]
    · rw [drives, swapLine_drives, driveBound_of_lines lines]
      exact Drive.rebind_forms _ _
end

section
/-! PROOFS. The pass timer of a line (O26). -/

namespace Sys2Proof.Machine

-- One after the other: see Laws/Frames.lean.
set_option Elab.async false

/-! ### The pass timer (R29, R45) -/

/-- The line whose pass timer has expired, the timer started anew. -/
def Line.again (l : Line) : Line := { l with passTimer := some (l.cfg.passInterval * 10) }

/-- What an expiry does to a line that starts no pass. -/
def Line.expired (l : Line) : Line :=
  match l.state with
  | .disabled => l.again
  | .idle => l.again
  | .passing => if l.pending then l.again.overrunOne else { l.again with pending := true }
  | .recovering => if l.pending then l.again.overrunOne else { l.again with pending := true }
  | .faulted => if l.activity = .attempt then l.again.overrunOne else { l.again with activity := .attempt, wireFast := l.cfg.fast }

theorem Line.expired_disabled {l : Line} (h : l.state = .disabled) : l.expired = l.again := by unfold Line.expired; rw [h]

theorem Line.expired_busy {l : Line} (h : l.state = .passing ∨ l.state = .recovering) :
    l.expired = if l.pending then l.again.overrunOne else { l.again with pending := true } := by
  unfold Line.expired
  rcases h with h | h <;> rw [h]

theorem Line.expired_faulted {l : Line} (h : l.state = .faulted) : l.expired =
    if l.activity = .attempt then l.again.overrunOne else { l.again with activity := .attempt, wireFast := l.cfg.fast } := by
  unfold Line.expired; rw [h]

theorem modifyAt_modifyAt {α : Type} {n : Nat} (v : Vector α n) (i : Fin n) (f g : α → α) :
    modifyAt (modifyAt v i f) i g = modifyAt v i (fun x => g (f x)) := by
  refine Vector.ext fun j hj => ?_
  have at_ (w : Vector α n) (h : α → α) : (modifyAt w i h)[j] = if i = ⟨j, hj⟩ then h w[i] else w[j] := modifyAt_get w i ⟨j, hj⟩ h
  rw [at_, at_, at_, (modifyAt_get v i i f).trans (if_pos rfl)]
  split <;> rfl

theorem State.modLine_modLine (s : State) (i : Fin 3) (f g : Line → Line) :
    (s.modLine i f).modLine i g = s.modLine i (fun l => g (f l)) :=
  congrArg (fun lines => { s with lines := lines }) (modifyAt_modifyAt s.lines i f g)

theorem State.modLine_congr {s : State} {i : Fin 3} {f g : Line → Line} (h : f s.lines[i] = g s.lines[i]) :
    s.modLine i f = s.modLine i g := by
  unfold State.modLine modifyAt
  rw [h]

theorem passTimerExpiry_stopped {i : Fin 3} {s : State} (h : s.lines[i].passTimer = none) : passTimerExpiry i s = s := by
  unfold passTimerExpiry; rw [h]

theorem passTimerExpiry_idle {i : Fin 3} {s : State} (h : s.lines[i].passTimer.isSome = true) (idle : s.lines[i].state = .idle) :
    passTimerExpiry i s = startPass i 2 (s.modLine i Line.again) := by
  obtain ⟨left, h⟩ := Option.isSome_iff_exists.mp h
  unfold passTimerExpiry
  rw [h]
  dsimp only
  rw [State.modLine_at, if_pos rfl]
  dsimp only
  rw [idle]
  rfl

theorem passTimerExpiry_other {i : Fin 3} {s : State} (h : s.lines[i].passTimer.isSome = true) (busy : s.lines[i].state ≠ .idle) :
    passTimerExpiry i s = s.modLine i Line.expired := by
  obtain ⟨left, h⟩ := Option.isSome_iff_exists.mp h
  unfold passTimerExpiry
  rw [h]
  dsimp only
  rw [State.modLine_at, if_pos rfl]
  dsimp only
  cases hs : s.lines[i].state with
  | idle => exact absurd hs busy
  | disabled => exact State.modLine_congr (Line.expired_disabled hs).symm
  | passing => exact (State.modLine_modLine s i _ _).trans (State.modLine_congr (Line.expired_busy (.inl hs)).symm)
  | recovering => exact (State.modLine_modLine s i _ _).trans (State.modLine_congr (Line.expired_busy (.inr hs)).symm)
  | faulted => exact (State.modLine_modLine s i _ _).trans (State.modLine_congr (Line.expired_faulted hs).symm)

/-! ### What the end of an event leaves of the lines -/

theorem PassStarts.settled {u t : State} {l m : Line} (drives : t.drives = u.drives) (h : PassStarts u l m) : PassStarts t l m :=
  h.congr fun d => by rw [drives]

theorem PassEnds.settled {u t : State} {l m : Line} {n : Nat} (drives : t.drives = u.drives) (h : PassEnds u l n m) :
    PassEnds t l n m := by
  unfold PassEnds at *
  split
  · rename_i pending
    rw [if_pos pending] at h
    exact h.settled drives
  · rename_i pending
    rw [if_neg pending] at h
    exact h

theorem LineAndDrives.settled {s u t : State} {i : Fin 3} {f : Fin 15 → Drive → Drive} (lines : t.lines = u.lines)
    (drives : t.drives = u.drives) (h : LineAndDrives s u i f) : LineAndDrives s t i f := by
  refine ⟨fun j hj => by rw [lines]; exact h.1 j hj, fun d => ?_⟩
  rw [drives, lines, driveBound_of_lines lines]
  exact h.2 d

end Sys2Proof.Machine

open Sys2Proof Sys2Proof.Machine

/-- Settles O26: an expiry in IDLE starts a pass (`startPass_starts`), in any other state it changes the line alone (`Line.expired`). -/
theorem passTimerExpiries : Obligations.PassTimerExpiries := by
  intro i s hs
  refine ⟨fun stopped => idles_of hs (fun _ => rfl) (passTimerExpiry_stopped stopped), fun runs => ⟨fun busy => ?_, fun idle free => ?_⟩⟩
  · have own := passTimerExpiry_other runs (i := i) (s := s) (by rintro e; rw [e] at busy; revert busy; decide)
    refine happens_of hs (f := passTimerExpiry i) (fun _ => rfl) (by rw [own]; exact State.modLine_only s i _) fun t ht _ => ?_
    obtain ⟨others, line⟩ := modLine_lines_of (own ▸ ht .lines (by decide))
    rw [line]
    refine ⟨others, Line.expired_disabled, fun hp => ?_, fun hf => ?_⟩
    · rw [Line.expired_busy hp]
      exact ⟨fun free => if_neg (by rw [free]; decide), fun pending => if_pos pending⟩
    · rw [Line.expired_faulted hf]
      exact ⟨fun attempt => if_pos attempt, fun rests => if_neg rests⟩
  · have own := passTimerExpiry_idle runs idle
    refine happens_of hs (f := passTimerExpiry i) (fun _ => rfl) (passTimerExpiry_only i s) fun t ht _ => ?_
    have line : (s.modLine i Line.again).lines[i] = s.lines[i].again := by rw [State.modLine_at, if_pos rfl]
    obtain ⟨starts, rest⟩ := startPass_starts i (s := s.modLine i Line.again) (by rw [line]; exact free)
    rw [line, ← own] at starts
    rw [← own] at rest
    have lines : t.lines = (passTimerExpiry i s).lines := ht .lines (by decide)
    have drives : t.drives = (passTimerExpiry i s).drives := ht .drives (by decide)
    rw [lines]
    exact ⟨(rest.modLine rfl rfl).settled lines drives, starts.settled drives⟩
end

section
/-! PROOFS. The checks of an entry and of a schedule (O23). -/

namespace Sys2Proof.Machine

-- One after the other: see Laws/Frames.lean.
set_option Elab.async false

/-! ### The checks of an entry (R30) -/

theorem EntryKind.choice_eq_some {n : Nat} {k : EntryKind} : choice EntryKind.choices n = some k ↔ k.code = n := by
  match n with
  | 0 | 1 | 2 | 3 | 4 | 5 => cases k <;> decide
  | n + 6 =>
    refine ⟨nofun, fun h => ?_⟩
    cases k <;> simp [EntryKind.code] at h

theorem exists_kind {n : Nat} : (∃ k : EntryKind, k.code = n) ↔ n ≤ 5 := by
  refine ⟨?_, fun h => ?_⟩
  · rintro ⟨k, rfl⟩
    cases k <;> decide
  · obtain ⟨k, hk⟩ := choice_of_lt (l := EntryKind.choices) (n := n) (Nat.lt_succ_of_le h)
    exact ⟨k, EntryKind.choice_eq_some.mp hk⟩

theorem policy_eq_some {n : Nat} {b : Bool} : choice [true, false] n = some b ↔ n ≤ 1 ∧ b = decide (n = 0) := by
  match n with
  | 0 | 1 => cases b <;> decide
  | n + 2 => exact ⟨nofun, fun h => absurd h.1 (by omega)⟩

/-- The numbers of R30. -/
def EntryFields.InRange (q : EntryFields) : Prop :=
  (8 ≤ q.station ∧ q.station ≤ 119) ∧ (1 ≤ q.every ∧ q.every ≤ 16) ∧ q.phase < q.every

/-- What an entry of a kind takes as its item and its target from the fields (R30). -/
def EntryFields.Gives (q : EntryFields) (source : Fin 96 → Source) (kind : EntryKind) (item : Option Nat) (target : EntryTarget) :
    Prop :=
  (kind = .probe → q.target = none ∧ item = none ∧ target = .none) ∧
  (kind ≠ .probe → item = q.item ∧ ∃ n ≤ 255, q.item = some n) ∧
  (kind = .writeDrive → ∃ d : Fin 15, q.target = some d.val ∧ target = .drive d) ∧
  (kind.isRead = true → (q.target = none ∧ target = .none) ∨
    ∃ p : Fin 96, q.target = some p.val ∧ (source p = .none ∨ source p = .field) ∧ target = .point p)

/-- The entry a kind takes from the fields, after the checks that every kind has (R30). -/
def EntryFields.entry (q : EntryFields) (source : Fin 96 → Source) (kind : EntryKind) (stopPolicy : Bool) : Option Entry :=
  match kind with
  | .probe => (require q.target.isNone).bind fun _ => some ⟨q.station, kind, none, .none, stopPolicy, q.every, q.phase⟩
  | .writeDrive =>
    q.item.bind fun item => (require (decide (item ≤ 255))).bind fun _ => q.target.bind fun number => (ident 15 number).bind fun drive =>
      some ⟨q.station, kind, some item, .drive drive, stopPolicy, q.every, q.phase⟩
  | _ =>
    q.item.bind fun item => (require (decide (item ≤ 255))).bind fun _ =>
      match q.target with
      | none => some ⟨q.station, kind, some item, .none, stopPolicy, q.every, q.phase⟩
      | some number => (ident 96 number).bind fun point =>
        (require (decide (source point = .none) || decide (source point = .field))).bind fun _ =>
          some ⟨q.station, kind, some item, .point point, stopPolicy, q.every, q.phase⟩

theorem EntryFields.check_eq (q : EntryFields) (source : Fin 96 → Source) : EntryFields.check q source =
    (choice EntryKind.choices q.kind).bind fun kind => (choice [true, false] q.errorPolicy).bind fun stopPolicy =>
      (require (withinNat 8 119 q.station && withinNat 1 16 q.every && decide (q.phase < q.every))).bind fun _ =>
        EntryFields.entry q source kind stopPolicy := rfl

/-- A READ kind names no point, or one whose source is NONE or FIELD. -/
theorem EntryFields.entry_read {q : EntryFields} {source : Fin 96 → Source} {kind : EntryKind} (h : kind.isRead = true) (stopPolicy : Bool) :
    EntryFields.entry q source kind stopPolicy = q.item.bind fun item => (require (decide (item ≤ 255))).bind fun _ =>
      match q.target with
      | none => some ⟨q.station, kind, some item, .none, stopPolicy, q.every, q.phase⟩
      | some number => (ident 96 number).bind fun point =>
        (require (decide (source point = .none) || decide (source point = .field))).bind fun _ =>
          some ⟨q.station, kind, some item, .point point, stopPolicy, q.every, q.phase⟩ := by
  cases kind
  case writeDrive => cases h
  case probe => cases h
  all_goals rfl

theorem EntryFields.entry_eq_some {q : EntryFields} {source : Fin 96 → Source} {kind : EntryKind} {stopPolicy : Bool} {e : Entry} :
    EntryFields.entry q source kind stopPolicy = some e ↔ e.kind = kind ∧ e.stopPolicy = stopPolicy ∧
      (e.station = q.station ∧ e.every = q.every ∧ e.phase = q.phase) ∧ EntryFields.Gives q source kind e.item e.target := by
  obtain ⟨station, k, item, target, stop, every, phase⟩ := e
  have read (h : kind.isRead = true) : EntryFields.entry q source kind stopPolicy = some ⟨station, k, item, target, stop, every, phase⟩ ↔
      k = kind ∧ stop = stopPolicy ∧ (station = q.station ∧ every = q.every ∧ phase = q.phase) ∧
        EntryFields.Gives q source kind item target := by
    rw [EntryFields.entry_read h]
    have probe : kind ≠ .probe := by rintro rfl; cases h
    have write : kind ≠ .writeDrive := by rintro rfl; cases h
    cases hi : q.item <;> cases ht : q.target <;>
      simp only [EntryFields.Gives, hi, ht, h, probe, write, Option.bind_eq_some_iff, require_eq_some, ident_some, Option.bind_none,
        Option.bind_some, decide_eq_true_eq, Bool.or_eq_true, Option.some.injEq, Entry.mk.injEq] <;> grind
  cases kind
  case probe =>
    simp only [EntryFields.entry, EntryFields.Gives, Option.bind_eq_some_iff, require_eq_some, Option.isNone_iff_eq_none,
      Option.some.injEq, Entry.mk.injEq, EntryKind.isRead]
    grind
  case writeDrive =>
    simp only [EntryFields.entry, EntryFields.Gives, Option.bind_eq_some_iff, require_eq_some, ident_some, decide_eq_true_eq,
      Option.some.injEq, Entry.mk.injEq, EntryKind.isRead]
    grind
  all_goals exact read rfl

theorem EntryFields.check_eq_some {q : EntryFields} {source : Fin 96 → Source} {e : Entry} :
    EntryFields.check q source = some e ↔ EntryFields.InRange q ∧ e.kind.code = q.kind ∧
      (q.errorPolicy ≤ 1 ∧ e.stopPolicy = decide (q.errorPolicy = 0)) ∧
      (e.station = q.station ∧ e.every = q.every ∧ e.phase = q.phase) ∧ EntryFields.Gives q source e.kind e.item e.target := by
  simp only [EntryFields.check_eq, Option.bind_eq_some_iff, require_eq_some, EntryKind.choice_eq_some, policy_eq_some, EntryFields.entry_eq_some,
    Bool.and_eq_true, withinNat_iff, decide_eq_true_eq, EntryFields.InRange]
  refine ⟨?_, ?_⟩
  · rintro ⟨kind, hkind, stop, ⟨policy, hstop⟩, -, ⟨⟨station, every⟩, phase⟩, rfl, rfl, same, gives⟩
    exact ⟨⟨station, every, phase⟩, hkind, ⟨policy, hstop⟩, same, gives⟩
  · rintro ⟨⟨station, every, phase⟩, hkind, ⟨policy, hstop⟩, same, gives⟩
    exact ⟨_, hkind, _, ⟨policy, hstop⟩, (), ⟨⟨station, every⟩, phase⟩, rfl, rfl, same, gives⟩

/-- What R30 asks of an item and a target, Kind by Kind. -/
def EntryFields.Names (q : EntryFields) (source : Fin 96 → Source) : Prop :=
  (q.kind ≤ 4 → ∃ item ≤ 255, q.item = some item) ∧
    (q.kind = 5 → q.target = none) ∧ (q.kind = 4 → ∃ d : Fin 15, q.target = some d.val) ∧
    (q.kind ≤ 3 → q.target = none ∨ ∃ p : Fin 96, q.target = some p.val ∧ (source p = .none ∨ source p = .field))

theorem EntryKind.code_forms (k : EntryKind) : (k.code = 5 ↔ k = .probe) ∧ (k.code ≤ 4 ↔ k ≠ .probe) ∧ (k.code = 4 ↔ k = .writeDrive) ∧
    (k.code ≤ 3 ↔ k.isRead = true) := by cases k <;> decide

/-- The fields give a kind an item and a target exactly where they name what the kind asks for. -/
theorem EntryFields.exists_gives {q : EntryFields} {source : Fin 96 → Source} {kind : EntryKind} (h : kind.code = q.kind) :
    (∃ item target, EntryFields.Gives q source kind item target) ↔ EntryFields.Names q source := by
  obtain ⟨probe, other, write, read⟩ := kind.code_forms
  unfold EntryFields.Gives EntryFields.Names
  rw [← h, probe, other, write, read]
  cases kind <;> simp [EntryKind.isRead] <;> grind

theorem EntryFields.check_none_iff {q : EntryFields} {source : Fin 96 → Source} : EntryFields.check q source = none ↔
    ¬ (EntryFields.InRange q ∧ q.kind ≤ 5 ∧ q.errorPolicy ≤ 1 ∧ EntryFields.Names q source) := by
  rw [Option.eq_none_iff_forall_ne_some, ← not_exists_not]
  simp only [not_not, EntryFields.check_eq_some]
  refine not_congr ⟨?_, ?_⟩
  · rintro ⟨e, range, hkind, ⟨policy, -⟩, -, gives⟩
    exact ⟨range, exists_kind.mp ⟨_, hkind⟩, policy, (EntryFields.exists_gives hkind).mp ⟨_, _, gives⟩⟩
  · rintro ⟨range, hkind, policy, names⟩
    obtain ⟨kind, hkind⟩ := exists_kind.mpr hkind
    obtain ⟨item, target, gives⟩ := (EntryFields.exists_gives hkind).mpr names
    exact ⟨⟨q.station, kind, item, target, decide (q.errorPolicy = 0), q.every, q.phase⟩, range, hkind, ⟨policy, rfl⟩, ⟨rfl, rfl, rfl⟩, gives⟩

/-! ### The schedule check (R48) -/

theorem Entry.reads_iff {p : Fin 96} {e : Entry} : e.reads p = true ↔ e.kind.isRead = true ∧ e.target = .point p := by
  simp [Entry.reads]

theorem Entry.writes_iff {d : Fin 15} {e : Entry} : e.writes d = true ↔ e.kind = .writeDrive ∧ e.target = .drive d := by
  simp [Entry.writes]

/-- Whether a line stands against a second entry that passes the test: its active schedule, or its staged one while ready. -/
def Line.Holds (test : Entry → Bool) (l : Line) : Prop :=
  ∃ f, ((∃ g ∈ l.active, g.entry = f) ∨ (l.ready = true ∧ f ∈ l.staged)) ∧ test f = true

theorem Line.holds_iff {test : Entry → Bool} {l : Line} : l.holds test = true ↔ l.Holds test := by
  simp only [Line.holds, Line.Holds, Bool.or_eq_true, List.any_eq_true, Bool.and_eq_true]
  grind

theorem otherLine_isSome {s : State} {i : Fin 3} {test : Entry → Bool} :
    (otherLine s i test).isSome = true ↔ ∃ j : Fin 3, j ≠ i ∧ s.lines[j].Holds test := by
  rw [← Option.ne_none_iff_isSome, otherLine, Ne, firstIndex_eq_none]
  simp only [not_forall, Bool.not_eq_false, Bool.and_eq_true, decide_eq_true_eq, Line.holds_iff]

theorem checkPointsOnce_none {c : List Entry} : checkPointsOnce c = none ↔ ∀ p : Fin 96, readCount p c ≤ 1 := by
  simp [checkPointsOnce, firstIndex_eq_none]

theorem checkDrivesOnce_none {c : List Entry} : checkDrivesOnce c = none ↔ ∀ d : Fin 15, writeCount d c ≤ 1 := by
  simp [checkDrivesOnce, firstIndex_eq_none]

/-- A schedule and another line name the same in entries that pass the test. -/
theorem elsewhere_iff {s : State} {i : Fin 3} {c : List Entry} {test : Entry → Bool} :
    (decide (1 ≤ c.countP test) && (otherLine s i test).isSome) = false ↔
      ∀ (j : Fin 3) (e f : Entry), j ≠ i → e ∈ c →
        (∃ g ∈ s.lines[j].active, g.entry = f) ∨ (s.lines[j].ready = true ∧ f ∈ s.lines[j].staged) → test e = true → ¬ test f = true := by
  rw [Bool.eq_false_iff, Ne, Bool.and_eq_true, decide_eq_true_eq, otherLine_isSome, Nat.one_le_iff_ne_zero, ← Nat.pos_iff_ne_zero,
    List.countP_pos_iff]
  unfold Line.Holds
  grind

theorem checkPointsElsewhere_none {s : State} {i : Fin 3} {c : List Entry} : checkPointsElsewhere s i c = none ↔
    ∀ (p : Fin 96) (j : Fin 3) (e f : Entry), j ≠ i → e ∈ c →
      (∃ g ∈ s.lines[j].active, g.entry = f) ∨ (s.lines[j].ready = true ∧ f ∈ s.lines[j].staged) → e.reads p = true → ¬ f.reads p = true := by
  rw [checkPointsElsewhere, Option.map_eq_none_iff, firstIndex_eq_none]
  exact forall_congr' fun p => elsewhere_iff

theorem checkDrivesElsewhere_none {s : State} {i : Fin 3} {c : List Entry} : checkDrivesElsewhere s i c = none ↔
    ∀ (d : Fin 15) (j : Fin 3) (e f : Entry), j ≠ i → e ∈ c →
      (∃ g ∈ s.lines[j].active, g.entry = f) ∨ (s.lines[j].ready = true ∧ f ∈ s.lines[j].staged) → e.writes d = true → ¬ f.writes d = true := by
  rw [checkDrivesElsewhere, Option.map_eq_none_iff, firstIndex_eq_none]
  exact forall_congr' fun d => elsewhere_iff

theorem checkActiveKept_none {s : State} {i : Fin 3} {c : List Entry} : checkActiveKept s i c = none ↔
    ∀ (d : Fin 15) (g : ActiveEntry), g ∈ s.lines[i].active → g.entry.writes d = true → ownerActive s d = true →
      ∃ e ∈ c, e.writes d = true := by
  rw [checkActiveKept, Option.map_eq_none_iff, firstIndex_eq_none]
  refine forall_congr' fun d => ?_
  rw [Bool.eq_false_iff, Ne, Bool.and_eq_true, Bool.and_eq_true, decide_eq_true_eq, ← List.countP_pos_iff, Line.names, List.any_eq_true]
  unfold writeCount
  grind

theorem scheduleCheck_none {s : State} {i : Fin 3} {c : List Entry} : scheduleCheck s i c = none ↔
    checkPointsOnce c = none ∧ checkDrivesOnce c = none ∧
      (checkPointsElsewhere s i c = none ∧ checkDrivesElsewhere s i c = none) ∧ checkActiveKept s i c = none := by
  simp only [scheduleCheck, Option.or_eq_none_iff, and_assoc]

end Sys2Proof.Machine

open Sys2Proof Sys2Proof.Machine

/-- Settles O23: `EntryFields.check_eq_some` says what the check of an entry gives, `scheduleCheck_none` takes the schedule check apart
into its requirements. -/
theorem entryAndScheduleChecks : Obligations.EntryAndScheduleChecks := by
  refine ⟨fun q source => ⟨?_, fun e he => ?_⟩, fun s i c => ?_⟩
  · rw [EntryFields.check_none_iff]
    simp only [EntryFields.InRange, EntryFields.Names, and_assoc]
  · obtain ⟨-, hkind, ⟨-, policy⟩, ⟨station, every, phase⟩, probe, item, write, read⟩ := EntryFields.check_eq_some.mp he
    obtain ⟨isProbe, -, -, -⟩ := e.kind.code_forms
    refine ⟨station, hkind, ?_, ?_, policy, every, phase⟩
    · rw [← hkind]
      split
      · rename_i h; exact (probe (isProbe.mp h)).2.1
      · rename_i h; exact (item (mt isProbe.mpr h)).1
    · cases hk : e.kind with
      | probe =>
        obtain ⟨absent, -, target⟩ := probe hk
        rw [target, absent]; rfl
      | writeDrive =>
        obtain ⟨d, given, target⟩ := write hk
        rw [target, given]; rfl
      | readU16 | readS16 | readU8 | readU16St =>
        rcases read (by rw [hk]; rfl) with ⟨absent, target⟩ | ⟨p, given, -, target⟩
        · rw [target, absent]; rfl
        · rw [target, given]; rfl
  · rw [scheduleCheck_none, checkPointsOnce_none, checkDrivesOnce_none, checkPointsElsewhere_none, checkDrivesElsewhere_none,
      checkActiveKept_none]
    simp only [Entry.reads_iff, Entry.writes_iff]
    refine and_congr Iff.rfl (and_congr Iff.rfl (and_congr ?_ ?_))
    · refine ⟨fun ⟨points, drives⟩ j e f hj he held => ⟨fun p read target => points p j e f hj he held ⟨read, target⟩,
        fun d write target => drives d j e f hj he held ⟨write, target⟩⟩,
        fun apart => ⟨fun p j e f hj he held reads => (apart j e f hj he held).1 p reads.1 reads.2,
          fun d j e f hj he held writes => (apart j e f hj he held).2 d writes.1 writes.2⟩⟩
    · exact forall_congr' fun d => forall_congr' fun g => forall_congr' fun hg => and_imp
end

section
/-! PROOFS. ConfigureLine and ResetLine (O22). -/

namespace Sys2Proof.Machine

-- One after the other: see Laws/Frames.lean.
set_option Elab.async false

/-! ### The checks of ConfigureLine (R27) -/

def LineFields.InRange (q : LineFields) : Prop :=
  q.enabled ≤ 1 ∧ q.rate ≤ 1 ∧ q.autoRecover ≤ 1 ∧ (1 ≤ q.clockHold ∧ q.clockHold ≤ 100) ∧ (1 ≤ q.passInterval ∧ q.passInterval ≤ 1000)

theorem yesNo_of_le {n : Nat} (h : n ≤ 1) : yesNo n = some (decide (n = 1)) := by
  match n with
  | 0 | 1 => rfl
  | n + 2 => omega

theorem LineFields.check_in {q : LineFields} (h : LineFields.InRange q) : LineFields.check q =
    some (decide (q.enabled = 1), ⟨decide (q.rate = 1), q.clockHold, q.passInterval, decide (q.autoRecover = 1)⟩) := by
  obtain ⟨enabled, rate, recover, hold, interval⟩ := h
  have numbers : (withinNat 1 100 q.clockHold && withinNat 1 1000 q.passInterval) = true := by
    rw [Bool.and_eq_true, withinNat_iff, withinNat_iff]; exact ⟨hold, interval⟩
  unfold LineFields.check
  rw [yesNo_of_le enabled, yesNo_of_le rate, yesNo_of_le recover, numbers]
  rfl

theorem LineFields.check_out {q : LineFields} (h : ¬ LineFields.InRange q) : LineFields.check q = none := by
  rw [Option.eq_none_iff_forall_ne_some]
  intro x hx
  simp only [LineFields.check, bind, Option.bind_eq_some_iff, require_eq_some, Bool.and_eq_true, withinNat_iff] at hx
  obtain ⟨enabled, he, fast, hf, recover, hr, -, ⟨hold, interval⟩, -⟩ := hx
  exact h ⟨exists_yesNo.mp ⟨_, he⟩, exists_yesNo.mp ⟨_, hf⟩, exists_yesNo.mp ⟨_, hr⟩, hold, interval⟩

theorem LineFields.check_none {q : LineFields} : LineFields.check q = none ↔ ¬ LineFields.InRange q :=
  ⟨fun h r => (nomatch h.symm.trans (LineFields.check_in r)), LineFields.check_out⟩

theorem LineFields.check_some {q : LineFields} {enabled : Bool} {cfg : LineConfig} (h : LineFields.check q = some (enabled, cfg)) :
    enabled = decide (q.enabled = 1) ∧ cfg = ⟨decide (q.rate = 1), q.clockHold, q.passInterval, decide (q.autoRecover = 1)⟩ := by
  by_cases r : LineFields.InRange q
  · rw [LineFields.check_in r, Option.some.injEq, Prod.mk.injEq] at h
    exact ⟨h.1.symm, h.2.symm⟩
  · exact nomatch h.symm.trans (LineFields.check_out r)

/-! ### What ResetLine abandons (R50) -/

/-- The line without its marks and its fault. -/
def Line.cleared (l : Line) : Line := { l with pending := false, ready := false, faultCause := none, faultedSince := none }

/-- A pass, a recovery procedure or a recovery attempt is under way. -/
def Line.Abandons (l : Line) : Prop :=
  (l.state = .passing ∧ ((∃ n sample r, l.activity = .entry n sample r) ∨ ∃ n, l.activity = .closing n)) ∨
    (l.state = .recovering ∧ ∃ n b, l.activity = .procedure n b) ∨ (l.state = .faulted ∧ l.activity = .attempt)

section

variable {l : Line} (clock : Nat) (state : LineState)

theorem Line.abort_entry {n : Nat} {sample : Option Int} {r : Bool} (h : l.state = .passing) (ha : l.activity = .entry n sample r) :
    l.abort clock state = (((l.settle clock n .aborted).does abandonActs).closeOut (n + 1) state).cleared := by
  unfold Line.abort; rw [h, ha]; rfl

theorem Line.abort_settled {n : Nat} (h : (l.state = .passing ∧ l.activity = .closing n) ∨
    (l.state = .recovering ∧ ∃ b, l.activity = .procedure n b)) :
    l.abort clock state = ((l.does abandonActs).closeOut n state).cleared := by
  obtain ⟨h, ha⟩ | ⟨h, b, ha⟩ := h
  · unfold Line.abort; rw [h, ha]; rfl
  · unfold Line.abort; rw [h, ha]; rfl

theorem Line.abort_attempt (h : l.state = .faulted) (ha : l.activity = .attempt) :
    l.abort clock state = { l.does abandonActs with state := state, activity := .resting }.cleared := by
  unfold Line.abort; rw [h, ha]; rfl

theorem Line.abort_resting (h : ¬ l.Abandons) : l.abort clock state = { l with state := state, activity := .resting }.cleared := by
  unfold Line.abort
  dsimp only
  split
  · rename_i n sample r hs ha; exact absurd (.inl ⟨hs, .inl ⟨n, sample, r, ha⟩⟩) h
  · rename_i n hs ha; exact absurd (.inl ⟨hs, .inr ⟨n, ha⟩⟩) h
  · rename_i n b hs ha; exact absurd (.inr (.inl ⟨hs, n, b, ha⟩)) h
  · rename_i hs ha; exact absurd (.inr (.inr ⟨hs, ha⟩)) h
  · rfl

theorem Line.abort_fields : l.abort clock state = { l with
    state := state, activity := .resting, pending := false, ready := false, faultCause := none, faultedSince := none,
    active := (l.abort clock state).active, passCounter := (l.abort clock state).passCounter, log := (l.abort clock state).log,
    logTotal := (l.abort clock state).logTotal, wires := (l.abort clock state).wires } := by
  unfold Line.abort
  dsimp only
  split <;> rfl

theorem Line.abort_wires (h : l.Abandons) : (l.abort clock state).wires = [.release, .stopIfClockHigh] := by
  obtain ⟨hs, ⟨n, sample, r, ha⟩ | ⟨n, ha⟩⟩ | ⟨hs, n, b, ha⟩ | ⟨hs, ha⟩ := h
  · rw [Line.abort_entry clock state hs ha]; rfl
  · rw [Line.abort_settled clock state (.inl ⟨hs, ha⟩)]; rfl
  · rw [Line.abort_settled clock state (.inr ⟨hs, b, ha⟩)]; rfl
  · rw [Line.abort_attempt clock state hs ha]; rfl

end

/-- Where no entry is performed and no pass waits for its end, the books stand. -/
theorem Line.abort_apart {l : Line} (clock : Nat) (state : LineState)
    (entry : ∀ n sample r, ¬ (l.state = .passing ∧ l.activity = .entry n sample r))
    (settled : ∀ n, ¬ ((l.state = .passing ∧ l.activity = .closing n) ∨ (l.state = .recovering ∧ ∃ b, l.activity = .procedure n b))) :
    (l.abort clock state).log = l.log ∧ (l.abort clock state).logTotal = l.logTotal ∧
      (l.abort clock state).passCounter = l.passCounter ∧ (l.abort clock state).active = l.active := by
  by_cases h : l.Abandons
  · obtain ⟨hs, ⟨n, sample, r, ha⟩ | ⟨n, ha⟩⟩ | ⟨hs, n, b, ha⟩ | ⟨hs, ha⟩ := h
    · exact absurd ⟨hs, ha⟩ (entry n sample r)
    · exact absurd (.inl ⟨hs, ha⟩) (settled n)
    · exact absurd (.inr ⟨hs, b, ha⟩) (settled n)
    · rw [Line.abort_attempt clock state hs ha]; exact ⟨rfl, rfl, rfl, rfl⟩
  · rw [Line.abort_resting clock state h]; exact ⟨rfl, rfl, rfl, rfl⟩

theorem Line.cleared_active (l : Line) : l.cleared.active = l.active := rfl

/-- The entry abandoned is ABORTED, those after it are NOT_REACHED (R50). -/
theorem Line.abort_entry_get {l : Line} {n : Nat} {sample : Option Int} {r : Bool} (clock : Nat) (state : LineState) (h : l.state = .passing)
    (ha : l.activity = .entry n sample r) (j : Nat) : (l.abort clock state).active[j]? = (l.active[j]?).map (fun e =>
      if j < n then e else { e with lastOutcome := some (if j = n then .aborted else .notReached) }) := by
  have settled : ((l.settle clock n .aborted).does abandonActs).active[j]? = (l.settle clock n .aborted).active[j]? := rfl
  rw [Line.abort_entry clock state h ha, Line.cleared_active, Line.closeOut_get, settled, Line.settle_get, Option.map_map]
  congr 1
  funext e
  show (if n + 1 ≤ j then _ else _) = _
  by_cases before : j < n
  · rw [if_neg (by omega), if_neg (by omega), if_pos before]
  · rw [if_neg before]
    by_cases at_ : j = n
    · rw [if_neg (by omega), if_pos at_, if_pos at_]
    · rw [if_pos (by omega)]
      dsimp only
      rw [if_neg at_, if_neg at_]

theorem Line.abort_settled_get {l : Line} {n : Nat} (clock : Nat) (state : LineState) (h : (l.state = .passing ∧ l.activity = .closing n) ∨
    (l.state = .recovering ∧ ∃ b, l.activity = .procedure n b)) (j : Nat) :
    (l.abort clock state).active[j]? = (l.active[j]?).map (fun e => if j < n then e else { e with lastOutcome := some .notReached }) := by
  rw [Line.abort_settled clock state h, Line.cleared_active, Line.closeOut_get]
  congr 1
  funext e
  by_cases before : j < n
  · rw [if_neg (by omega), if_pos before]
  · rw [if_pos (by omega), if_neg before]

/-! ### The answers -/

theorem namesActiveDrive_iff {s : State} {l : Line} :
    namesActiveDrive s l = true ↔ ∃ d : Fin 15, l.names d = true ∧ ownerActive s d = true := by
  simp only [namesActiveDrive, any_indexes, Bool.and_eq_true]

section

variable {l : Line} (clock : Nat) (cfg : LineConfig)

theorem Line.configure_enables (h : l.state = .disabled) : l.configure clock true cfg =
    { l with cfg := cfg, enabled := true, state := .idle, activity := .resting, passTimer := some (cfg.passInterval * 10) } := if_pos h

theorem Line.configure_enabled (h : l.state ≠ .disabled) : l.configure clock true cfg = { l with cfg := cfg } := if_neg h

theorem Line.configure_disabled (h : l.state = .disabled) : l.configure clock false cfg = { l with cfg := cfg } := if_pos h

theorem Line.configure_disables (h : l.state ≠ .disabled) : l.configure clock false cfg =
    { ({ l with cfg := cfg } : Line).abort clock .disabled with enabled := false, passTimer := none } := if_neg h

/-- A configured line holds what was configured. -/
theorem Line.configure_holds {enabled : Bool} (h : l.enabled = true ↔ l.state ≠ .disabled) :
    (l.configure clock enabled cfg).cfg = cfg ∧ (l.configure clock enabled cfg).enabled = enabled := by
  cases enabled <;> by_cases hd : l.state = .disabled
  · rw [Line.configure_disabled clock cfg hd]
    exact ⟨rfl, Bool.eq_false_iff.mpr fun e => h.mp e hd⟩
  · rw [Line.configure_disables clock cfg hd, Line.abort_fields]
    exact ⟨rfl, rfl⟩
  · rw [Line.configure_enables clock cfg hd]
    exact ⟨rfl, rfl⟩
  · rw [Line.configure_enabled clock cfg hd]
    exact ⟨rfl, h.mpr hd⟩

end

section

variable {q : LineFields} {s : State} {i : Fin 3} {enabled : Bool} {cfg : LineConfig}

theorem ownConfigureLine_bad (h : 3 ≤ q.line ∨ LineFields.check q = none) : ownConfigureLine q s = refuse s .badField [] := by
  unfold ownConfigureLine
  rcases h with h | h
  · rw [ident_none h]
  · rw [h]
    split
    · rename_i i e c hi hc; cases hc
    · rfl

theorem ownConfigureLine_refused (hi : q.line = i.val) (hq : LineFields.check q = some (enabled, cfg)) (off : enabled = false)
    (runs : s.lines[i].state ≠ .disabled) (named : ∃ d : Fin 15, s.lines[i].names d = true ∧ ownerActive s d = true) :
    ownConfigureLine q s = refuse s .inUse [] := by
  unfold ownConfigureLine
  rw [hi, ident_val, hq]
  exact if_pos (by rw [off, namesActiveDrive_iff.mpr named, decide_eq_true runs]; rfl)

theorem ownConfigureLine_stored (hi : q.line = i.val) (hq : LineFields.check q = some (enabled, cfg))
    (free : enabled = false → s.lines[i].state ≠ .disabled → ∀ d : Fin 15, s.lines[i].names d = true → ownerActive s d = false)
    (agrees : s.lines[i].enabled = true ↔ s.lines[i].state ≠ .disabled) :
    ownConfigureLine q s = accept (s.modLine i (Line.configure s.clock enabled cfg)) (Wire.putLineConfig (cfg.fields enabled)) := by
  unfold ownConfigureLine
  rw [hi, ident_val, hq]
  dsimp only
  rw [if_neg, State.modLine_at, if_pos rfl, (Line.configure_holds s.clock cfg agrees).1, (Line.configure_holds s.clock cfg agrees).2]
  intro h
  simp only [Bool.and_eq_true, Bool.not_eq_true', decide_eq_true_eq, namesActiveDrive_iff] at h
  obtain ⟨⟨off, runs⟩, d, named, active⟩ := h
  exact absurd ((free off runs d named).symm.trans active) nofun

theorem ownResetLine_at : ownResetLine i.val s =
    accept (s.modLine i (fun l => l.abort s.clock (if l.state = .disabled then .disabled else .idle))) [] := by
  unfold ownResetLine
  rw [ident_val]

end

end Sys2Proof.Machine

open Sys2Proof Sys2Proof.Machine

/-- Settles O22: what becomes of the line is `Line.configure` and `Line.abort`, each told case by case above. -/
theorem lineRequests : Obligations.LineRequests := by
  refine ⟨fun tag q s hs => ⟨fun bad => refuses_of rfl hs fun v _ => by exact ownConfigureLine_bad bad, LineFields.check_none, ?_⟩,
    fun clockHigh l => by cases clockHigh <;> rfl, fun tag line s hs => ⟨fun bad => refuses_of rfl hs fun v _ => ?_, ?_⟩⟩
  · intro i enabled cfg hi hq agrees
    refine ⟨LineFields.check_some hq, fun off runs named => refuses_of rfl hs fun v _ => ?_, fun free => replies_of rfl hs fun v _ => ?_⟩
    · exact ownConfigureLine_refused (s := { s with supervision := v }) hi hq off runs named
    · refine ⟨_, ownConfigureLine_stored (s := { s with supervision := v }) hi hq free agrees, State.modLine_only _ i _, fun t ht _ => ?_⟩
      obtain ⟨others, line⟩ := modLine_lines_of (s := { s with supervision := v }) (ht .lines (by decide))
      rw [line]
      refine ⟨others, ?_, ?_, ?_, ?_⟩
      · rintro rfl hd; exact Line.configure_enables _ cfg hd
      · rintro rfl hd; exact Line.configure_enabled _ cfg hd
      · rintro rfl hd; exact Line.configure_disabled _ cfg hd
      · rintro rfl hd; exact Line.configure_disables _ cfg hd
  · show ownResetLine line _ = _
    unfold ownResetLine; rw [ident_none bad]; rfl
  · rintro i rfl
    refine replies_of rfl hs fun v _ => ?_
    refine ⟨_, ownResetLine_at (s := { s with supervision := v }), State.modLine_only _ i _, fun t ht _ => ?_⟩
    obtain ⟨others, line⟩ := modLine_lines_of (s := { s with supervision := v }) (ht .lines (by decide))
    rw [line]
    refine ⟨others, Line.abort_fields _ _, Line.abort_wires _ _, fun h => ?_, fun n sample r hp ha => ?_, fun n h => ?_, fun entry settled => ?_⟩
    · dsimp only
      rw [Line.abort_resting _ _ h]; rfl
    · refine ⟨?_, ?_, ?_, Line.abort_entry_get _ _ hp ha⟩
      all_goals dsimp only; rw [Line.abort_entry _ _ hp ha]
      · exact Line.record_log _ _
      · rfl
      · rfl
    · refine ⟨?_, ?_, ?_, Line.abort_settled_get _ _ h⟩
      all_goals dsimp only; rw [Line.abort_settled _ _ h]; rfl
    · exact Line.abort_apart _ _ entry settled
end

section
/-! PROOFS. How a line goes on after an entry has ended by itself (section 2.5). -/

namespace Sys2Proof.Machine

-- One after the other: see Laws/Frames.lean.
set_option Elab.async false

/-! ### The stop that ends a pass (R33) -/

/-- A pass comes to its stop with the positions before n settled: the stop is sent in the same event, or is under way after it. -/
def StopComes (t : State) (l : Line) (n : Nat) (closing : ClosingStop) (m : Line) : Prop :=
  match closing with
  | .underWay => m = { l with activity := .closing n }
  | .sent => PassEnds t l.addStop n m

theorem sendStop_comes (i : Fin 3) (n : Nat) (closing : ClosingStop) (s : State) :
    StopComes (sendStop i n closing s) s.lines[i] n closing (sendStop i n closing s).lines[i] ∧
      LineAndDrives s (sendStop i n closing s) i (fun _ d => d) := by
  cases closing with
  | sent =>
    obtain ⟨ends, rest⟩ := endPass_ends i n (s.modLine i Line.addStop)
    rw [State.modLine_at, if_pos rfl] at ends
    exact ⟨ends, rest.modLine rfl rfl⟩
  | underWay =>
    refine ⟨?_, .of_modLine s i _ rfl⟩
    show (s.modLine i _).lines[i] = _
    rw [State.modLine_at, if_pos rfl]

/-! ### After an entry (R40) -/

/-- The line whose entry at a position has settled, its transaction done. -/
def Line.settledAt (clock position : Nat) (o : EntryOutcome) (acts : List WireAct) (l : Line) : Line :=
  { l.settle clock position o with wires := acts }

theorem Line.settledAt_ready (clock position : Nat) (o : EntryOutcome) (acts : List WireAct) (l : Line) :
    (l.settledAt clock position o acts).ready = l.ready := by
  unfold Line.settledAt
  rw [Line.settle_fields]

/-- Where the policy ends the pass, it comes to its stop after the entry. -/
theorem EntryEnded.of_stop {s t : State} {i : Fin 3} {position : Nat} {e : Entry} {o : EntryOutcome} {acts : List WireAct}
    {closing : ClosingStop} (stops : (o.policed && e.stopPolicy) = true)
    (h : StopComes t (s.lines[i].settledAt s.clock position o acts) (position + 1) closing t.lines[i]) :
    EntryEnded s t i position e o acts closing := by
  unfold EntryEnded
  dsimp only
  rw [stops]
  cases closing <;> exact h

/-- Otherwise the line goes on to the next entry selected. -/
theorem EntryEnded.of_next {s t : State} {i : Fin 3} {position n : Nat} {e : Entry} {o : EntryOutcome} {acts : List WireAct}
    {closing : ClosingStop} (goes : (o.policed && e.stopPolicy) = false) {l : Line} (hl : s.lines[i].settledAt s.clock position o acts = l)
    (hn : l.nextSelected (position + 1) = some n)
    (h : t.lines[i] = (l.mark (position + 1) n .skipped).begin n ((l.active[n]?).bind (fun x => sampleFor t x.entry)) true) :
    EntryEnded s t i position e o acts closing := by
  subst hl
  unfold Line.settledAt at *
  unfold EntryEnded
  dsimp only at *
  rw [goes, if_neg (by decide), hn]
  exact h

/-- And where none is selected, the pass comes to its stop. -/
theorem EntryEnded.of_last {s t : State} {i : Fin 3} {position : Nat} {e : Entry} {o : EntryOutcome} {acts : List WireAct}
    {closing : ClosingStop} (goes : (o.policed && e.stopPolicy) = false) {l : Line} (hl : s.lines[i].settledAt s.clock position o acts = l)
    (hn : l.nextSelected (position + 1) = none)
    (h : StopComes t (l.mark (position + 1) l.active.length .skipped) l.active.length closing t.lines[i]) :
    EntryEnded s t i position e o acts closing := by
  subst hl
  unfold Line.settledAt at *
  unfold EntryEnded
  dsimp only at *
  rw [goes, if_neg (by decide), hn]
  cases closing <;> exact h

theorem settleEntry_ended (i : Fin 3) (position : Nat) (e : Entry) (o : EntryOutcome) (acts : List WireAct) (closing : ClosingStop)
    (s : State) : EntryEnded s (settleEntry i position e o acts closing s) i position e o acts closing ∧
      LineAndDrives s (settleEntry i position e o acts closing s) i (fun _ d => d) := by
  have line : (s.modLine i (fun l => (l.settle s.clock position o).does acts)).lines[i] = s.lines[i].settledAt s.clock position o acts := by
    rw [State.modLine_at, if_pos rfl]; rfl
  have rest {t : State} (h : LineAndDrives (s.modLine i (fun l => (l.settle s.clock position o).does acts)) t i (fun _ d => d)) :
      LineAndDrives s t i (fun _ d => d) := h.modLine rfl (Line.settledAt_ready s.clock position o acts s.lines[i])
  unfold settleEntry afterEntry
  generalize s.modLine i (fun l => (l.settle s.clock position o).does acts) = u at line rest ⊢
  cases stops : o.policed && e.stopPolicy with
  | true =>
    rw [if_pos rfl]
    obtain ⟨comes, others⟩ := sendStop_comes i (position + 1) closing u
    rw [line] at comes
    exact ⟨.of_stop stops comes, rest others⟩
  | false =>
    rw [if_neg (by decide)]
    cases hn : u.lines[i].nextSelected (position + 1) with
    | some n =>
      rw [goOn_some true hn]
      refine ⟨.of_next stops line.symm hn ?_, rest (.of_modLine u i _ rfl)⟩
      dsimp only
      rw [State.modLine_at, if_pos rfl]
      rfl
    | none =>
      rw [goOn_none true hn]
      dsimp only
      have marked : (u.modLine i (fun l => l.mark (position + 1) l.active.length .skipped)).lines[i] =
          u.lines[i].mark (position + 1) u.lines[i].active.length .skipped := by rw [State.modLine_at, if_pos rfl]
      obtain ⟨comes, others⟩ := sendStop_comes i u.lines[i].active.length closing
        (u.modLine i (fun l => l.mark (position + 1) l.active.length .skipped))
      rw [marked] at comes ⊢
      rw [Line.mark_length]
      exact ⟨.of_last stops line.symm hn comes, rest (others.modLine rfl rfl)⟩

theorem EntryEnded.settled {s s' u t : State} {i : Fin 3} {position : Nat} {e : Entry} {o : EntryOutcome} {acts : List WireAct}
    {closing : ClosingStop} (line : s'.lines[i] = s.lines[i]) (clock : s'.clock = s.clock) (lines : t.lines = u.lines)
    (drives : t.drives = u.drives) (h : EntryEnded s' u i position e o acts closing) : EntryEnded s t i position e o acts closing := by
  have sample (x : Entry) : sampleFor t x = sampleFor u x := sampleFor_congr (fun d => by rw [drives]) x
  unfold EntryEnded at *
  rw [line, clock] at h
  rw [lines]
  simp only [sample]
  dsimp only at *
  split at h
  · rename_i hn; rw [hn]; exact h
  · rename_i hn
    rw [hn]
    dsimp only
    cases closing
    · exact h.settled drives
    · exact h

/-- What an entry that ended leaves, where its target took the outcome before. -/
theorem settleEntry_leaves {s s' t : State} {i : Fin 3} {position : Nat} {e : Entry} {o : EntryOutcome} {acts : List WireAct}
    {closing : ClosingStop} {f : Fin 15 → Drive → Drive} (only : Only [.points, .drives] s s')
    (drives : ∀ d : Fin 15, s'.drives[d] = f d s.drives[d]) (ht : UnchangedBut [] (settleEntry i position e o acts closing s') t) :
    EntryEnded s t i position e o acts closing ∧ LineAndDrives s t i f ∧ t.points = s'.points := by
  obtain ⟨ended, rest⟩ := settleEntry_ended i position e o acts closing s'
  have lines : s'.lines = s.lines := only .lines (by decide)
  have clock : s'.clock = s.clock := congrArg Prod.fst (only .clock (by decide))
  have tl : t.lines = (settleEntry i position e o acts closing s').lines := ht .lines (by decide)
  have td : t.drives = (settleEntry i position e o acts closing s').drives := ht .drives (by decide)
  refine ⟨ended.settled (by rw [lines]) clock tl td,
    (rest.after (fun j _ => by rw [lines]) (by rw [lines]) drives).settled tl td, ?_⟩
  have tp : t.points = (settleEntry i position e o acts closing s').points := ht .points (by decide)
  exact tp.trans (settleEntry_only i position e o acts closing s' .points (by decide))

end Sys2Proof.Machine
end

section
/-! PROOFS. What the entries of a schedule do on the wires, and what their ends bring (O27, O28). -/

namespace Sys2Proof.Machine

-- One after the other: see Laws/Frames.lean.
set_option Elab.async false

/-! ### Transactions byte by byte -/

/-- The station's answer to the n-th byte sent; beyond the answers listed it gives NAK (log 36). -/
def StationAnswers.ack (x : StationAnswers) (n : Nat) : Bool := x.acknowledges.getD n false

/-- The n-th byte the station sends; beyond the bytes listed it sends ones (log 36). -/
def StationAnswers.byte (x : StationAnswers) (n : Nat) : Byte := x.bytes.getD n 0xFF

/-- The answers that are left after one byte sent. -/
def StationAnswers.acked (x : StationAnswers) : StationAnswers := { x with acknowledges := x.acknowledges.tail }

theorem acked_ack (x : StationAnswers) (n : Nat) : StationAnswers.ack (StationAnswers.acked x) n = StationAnswers.ack x (n + 1) := by
  unfold StationAnswers.ack StationAnswers.acked
  cases x.acknowledges <;> rfl

theorem headD_getD {α : Type} (l : List α) (d : α) : l.headD d = l.getD 0 d := by cases l <;> rfl

theorem transact_address (b : Byte) (acts : List WireAct) (x : StationAnswers) : transact (.address b :: acts) x =
    if StationAnswers.ack x 0 = true then (transact acts (StationAnswers.acked x)).after (.address b) else ⟨[.address b], [], .addressRefused⟩ := by
  rw [transact, headD_getD]; rfl

theorem transact_data (b : Byte) (acts : List WireAct) (x : StationAnswers) : transact (.data b :: acts) x =
    if StationAnswers.ack x 0 = true then (transact acts (StationAnswers.acked x)).after (.data b) else ⟨[.data b], [], .dataRefused⟩ := by
  rw [transact, headD_getD]; rfl

theorem transact_repeatedStart (acts : List WireAct) (x : StationAnswers) :
    transact (.repeatedStart :: acts) x = (transact acts x).after .repeatedStart := by rw [transact]

/-- The start condition of an entry. -/
theorem transact_opens (r : Bool) (acts : List WireAct) (x : StationAnswers) :
    transact ((if r then .repeatedStart else .start) :: acts) x = (transact acts x).after (if r then .repeatedStart else .start) := by
  cases r
  · show transact (.start :: acts) x = _
    rw [transact]; rfl
  · show transact (.repeatedStart :: acts) x = _
    rw [transact]; rfl

theorem receiveActs_succ (n : Nat) : receiveActs (n + 1) = List.replicate n (.receive true) ++ [.receive false] := by
  induction n with
  | zero => rfl
  | succ n ih => rw [receiveActs, ih, List.replicate_succ, List.cons_append]

/-- Bytes received are the station's, in order. -/
theorem transact_receives (n : Nat) (x : StationAnswers) :
    transact (receiveActs n) x = ⟨receiveActs n, (List.range n).map (StationAnswers.byte x), .complete⟩ := by
  match n with
  | 0 => rfl
  | 1 => 
    show (⟨[.receive false], [x.bytes.headD 0xFF], .complete⟩ : Transaction) = _
    rw [headD_getD]; rfl
  | n + 2 =>
    have shifted : StationAnswers.byte { x with bytes := x.bytes.tail } = fun k => StationAnswers.byte x (k + 1) := by
      funext k
      unfold StationAnswers.byte
      cases x.bytes <;> rfl
    rw [receiveActs, transact, transact_receives (n + 1) { x with bytes := x.bytes.tail }, headD_getD, List.range_succ_eq_map (n := n + 1),
      shifted, List.map_cons, List.map_map]
    rfl

section

variable {e : Entry}

/-- The conditions and bytes of an entry up to its address. -/
def Line.opensWith (l : Line) (e : Entry) : List WireAct :=
  [if l.beganRepeated then .repeatedStart else .start, .address (BitVec.ofNat 8 (2 * e.station))]

theorem transact_opening (l : Line) (e : Entry) (acts : List WireAct) (x : StationAnswers) : transact (l.opensWith e ++ acts) x =
    if StationAnswers.ack x 0 = true then
      { transact acts (StationAnswers.acked x) with done := l.opensWith e ++ (transact acts (StationAnswers.acked x)).done }
    else ⟨l.opensWith e, [], .addressRefused⟩ := by
  show transact (_ :: _ :: acts) x = _
  rw [transact_opens, transact_address]
  by_cases ack : StationAnswers.ack x 0 = true
  · rw [if_pos ack, if_pos ack]; rfl
  · rw [if_neg ack, if_neg ack]; rfl

/-- The actions of a READ entry. -/
theorem Entry.acts_read (h : e.kind.isRead = true) (l : Line) (sample : Option Int) : e.acts l.beganRepeated sample =
    l.opensWith e ++ ([.data e.itemByte, .repeatedStart, .address (BitVec.ofNat 8 (2 * e.station + 1))] ++ receiveActs e.kind.receives) := by
  unfold Entry.acts
  cases hk : e.kind
  case writeDrive => rw [hk] at h; cases h
  case probe => rw [hk] at h; cases h
  all_goals rfl

theorem transact_item_address (item address : Byte) (acts : List WireAct) (x : StationAnswers) :
    transact (.data item :: .repeatedStart :: .address address :: acts) x =
      if StationAnswers.ack x 0 = true then
        if StationAnswers.ack x 1 = true then
          { transact acts (StationAnswers.acked (StationAnswers.acked x)) with
            done := .data item :: .repeatedStart :: .address address :: (transact acts (StationAnswers.acked (StationAnswers.acked x))).done }
        else ⟨[.data item, .repeatedStart, .address address], [], .addressRefused⟩
      else ⟨[.data item], [], .dataRefused⟩ := by
  rw [transact_data, transact_repeatedStart, transact_address, acked_ack]
  split
  · split <;> rfl
  · rfl

/-- The transaction of a READ entry (R34). -/
theorem Line.transaction_read (h : e.kind.isRead = true) (l : Line) (sample : Option Int) (x : StationAnswers) :
    l.transaction e sample x =
      if StationAnswers.ack x 0 = true then
        if StationAnswers.ack x 1 = true then
          if StationAnswers.ack x 2 = true then
            ⟨l.opensWith e ++ [.data e.itemByte, .repeatedStart, .address (BitVec.ofNat 8 (2 * e.station + 1))] ++
              receiveActs e.kind.receives, (List.range e.kind.receives).map (StationAnswers.byte x), .complete⟩
          else ⟨l.opensWith e ++ [.data e.itemByte, .repeatedStart, .address (BitVec.ofNat 8 (2 * e.station + 1))], [], .addressRefused⟩
        else ⟨l.opensWith e ++ [.data e.itemByte], [], .dataRefused⟩
      else ⟨l.opensWith e, [], .addressRefused⟩ := by
  unfold Line.transaction
  rw [Entry.acts_read h, transact_opening]
  simp only [List.cons_append, List.nil_append, transact_item_address, acked_ack, Nat.zero_add, Nat.reduceAdd, transact_receives]
  split
  · split
    · split
      · simp only [List.append_assoc, List.cons_append, List.nil_append]
        rfl
      · rfl
    · rfl
  · rfl

/-- The transaction of a WRITE_DRIVE entry (R35). -/
theorem Line.transaction_write (h : e.kind = .writeDrive) (l : Line) (v : Int) (x : StationAnswers) :
    l.transaction e (some v) x =
      if StationAnswers.ack x 0 = true then
        if StationAnswers.ack x 1 = true then
          if StationAnswers.ack x 2 = true then
            ⟨l.opensWith e ++ [.data e.itemByte] ++ [.data (BitVec.ofInt 8 (v / 256))] ++ [.data (BitVec.ofInt 8 v)], [],
              if StationAnswers.ack x 3 = true then .complete else .dataRefused⟩
          else ⟨l.opensWith e ++ [.data e.itemByte] ++ [.data (BitVec.ofInt 8 (v / 256))], [], .dataRefused⟩
        else ⟨l.opensWith e ++ [.data e.itemByte], [], .dataRefused⟩
      else ⟨l.opensWith e, [], .addressRefused⟩ := by
  have high : (BitVec.ofInt 16 v).extractLsb' 8 8 = BitVec.ofInt 8 (v / 256) := by
    refine BitVec.eq_of_toNat_eq ?_
    rw [BitVec.extractLsb'_toNat, BitVec.toNat_ofInt, BitVec.toNat_ofInt, Nat.shiftRight_eq_div_pow]
    omega
  have low : (BitVec.ofInt 16 v).extractLsb' 0 8 = BitVec.ofInt 8 v := by
    refine BitVec.eq_of_toNat_eq ?_
    rw [BitVec.extractLsb'_toNat, BitVec.toNat_ofInt, BitVec.toNat_ofInt, Nat.shiftRight_eq_div_pow]
    omega
  have acts : e.acts l.beganRepeated (some v) =
      l.opensWith e ++ [.data e.itemByte, .data (BitVec.ofInt 8 (v / 256)), .data (BitVec.ofInt 8 v)] := by
    unfold Entry.acts sampleActs
    rw [h]
    dsimp only
    rw [Option.getD_some, high, low]
    rfl
  unfold Line.transaction
  rw [acts, transact_opening]
  simp only [transact_data, acked_ack, Nat.zero_add, Nat.reduceAdd]
  split
  · split
    · split
      · split
        · simp [transact, Transaction.after]
        · simp [Transaction.after]
      · simp [Transaction.after]
    · simp
  · rfl

/-- The transaction of a PROBE (R35). -/
theorem Line.transaction_probe (h : e.kind = .probe) (l : Line) (sample : Option Int) (x : StationAnswers) :
    l.transaction e sample x = ⟨l.opensWith e, [], if StationAnswers.ack x 0 = true then .complete else .addressRefused⟩ := by
  have acts : e.acts l.beganRepeated sample = l.opensWith e ++ [] := by unfold Entry.acts; rw [h]; rfl
  unfold Line.transaction
  rw [acts, transact_opening]
  split <;> simp [transact]

end

end Sys2Proof.Machine
end

section
/-! PROOFS. What the ends of the entries bring (O27, O28). -/

namespace Sys2Proof.Machine

-- One after the other: see Laws/Frames.lean.
set_option Elab.async false

/-! ### What an outcome does to the target (R38, R39) -/

/-- The target of an entry takes one failed read where it is a point that takes the reads of a line. -/
theorem failRead_points (e : Entry) (s : State) (p : Fin 96) : (failRead e s).points[p] =
    if e.kind.isRead = true ∧ e.target = .point p ∧ s.points[p].cfg.source = .field then s.points[p].failedRead else s.points[p] := by
  unfold failRead
  cases ht : e.target with
  | point q =>
    dsimp only
    by_cases hq : q = p
    · subst hq
      cases hr : e.kind.isRead
      · rw [if_neg (by nofun), if_neg (by rintro ⟨h, -⟩; cases h)]
      · by_cases hf : s.points[q].cfg.source = .field
        · rw [if_pos (by rw [takesReads, decide_eq_true hf]; rfl), if_pos ⟨rfl, rfl, hf⟩, State.modPoint_at, if_pos rfl]
        · rw [if_neg (by rw [takesReads, decide_eq_false hf]; nofun), if_neg (fun h => hf h.2.2)]
    · have other : ¬ (e.kind.isRead = true ∧ EntryTarget.point q = .point p ∧ s.points[p].cfg.source = .field) :=
        fun h => hq (EntryTarget.point.inj h.2.1)
      rw [if_neg other]
      split
      · rw [State.modPoint_at, if_neg hq]
      · rfl
  | drive d => rw [if_neg (fun h => nomatch h.2.1)]
  | none => rw [if_neg (fun h => nomatch h.2.1)]

/-- The drive of a WRITE_DRIVE entry takes one failure. -/
theorem failDrive_drives (e : Entry) (s : State) (d : Fin 15) : (failDrive e s).drives[d] =
    if e.kind = .writeDrive ∧ e.target = .drive d then s.drives[d].failure s.clock else s.drives[d] := by
  unfold failDrive
  cases ht : e.target with
  | drive c =>
    dsimp only
    by_cases hc : c = d
    · subst hc
      by_cases hw : e.kind = .writeDrive
      · rw [if_pos hw, if_pos ⟨hw, rfl⟩, State.modDrive_at, if_pos rfl]
      · rw [if_neg hw, if_neg (fun h => hw h.1)]
    · have other : ¬ (e.kind = .writeDrive ∧ EntryTarget.drive c = .drive d) := fun h => hc (EntryTarget.drive.inj h.2)
      rw [if_neg other]
      split
      · rw [State.modDrive_at, if_neg hc]
      · rfl
  | point p => rw [if_neg (fun h => nomatch h.2)]
  | none => rw [if_neg (fun h => nomatch h.2)]

/-! ### READ entries (R34, R38) -/

/-- How a READ transaction is refused: at the bit where the station gives NAK. -/
def readRefusal (x : StationAnswers) : Option EntryOutcome :=
  if StationAnswers.ack x 0 = false then some .addrNak else if StationAnswers.ack x 1 = false then some .dataNak
  else if StationAnswers.ack x 2 = false then some .addrNak else none

/-- The status byte of a READ entry reports a fault of the station. -/
def Faulty (e : Entry) (x : StationAnswers) : Prop := e.kind = .readU16St ∧ StationAnswers.byte x 2 ≠ 0

/-- The raw value a READ entry took from the bytes received. -/
def readRaw (e : Entry) (x : StationAnswers) : Int :=
  if e.kind = .readU8 then ((StationAnswers.byte x 0).toNat : Int)
  else if e.kind = .readS16 then (StationAnswers.byte x 0 ++ StationAnswers.byte x 1).toInt
  else 256 * ((StationAnswers.byte x 0).toNat : Int) + (StationAnswers.byte x 1).toNat

section

variable {e : Entry} (read : e.kind.isRead = true) (l : Line) (sample : Option Int) (x : StationAnswers) (s : State)

include read

theorem receives_eq : e.kind.receives = if e.kind = .readU8 then 1 else if e.kind = .readU16St then 3 else 2 := by
  cases hk : e.kind
  case writeDrive => rw [hk] at read; cases read
  case probe => rw [hk] at read; cases read
  all_goals rfl

theorem transaction_read_done : (l.transaction e sample x).done =
    if StationAnswers.ack x 0 = false then l.opensWith e else if StationAnswers.ack x 1 = false then l.opensWith e ++ [.data e.itemByte]
    else if StationAnswers.ack x 2 = false then
      l.opensWith e ++ [.data e.itemByte] ++ [.repeatedStart, .address (BitVec.ofNat 8 (2 * e.station + 1))]
    else l.opensWith e ++ [.data e.itemByte] ++ [.repeatedStart, .address (BitVec.ofNat 8 (2 * e.station + 1))] ++
      List.replicate ((if e.kind = .readU8 then 1 else if e.kind = .readU16St then 3 else 2) - 1) (.receive true) ++ [.receive false] := by
  have receives : receiveActs e.kind.receives = List.replicate (e.kind.receives - 1) (.receive true) ++ [.receive false] := by
    have pos : e.kind.receives = (e.kind.receives - 1) + 1 := by
      rw [receives_eq read]; split <;> [rfl; (split <;> rfl)]
    rw [pos, receiveActs_succ, Nat.add_sub_cancel]
  rw [Line.transaction_read read, receives, receives_eq read]
  cases StationAnswers.ack x 0 <;> cases StationAnswers.ack x 1 <;> cases StationAnswers.ack x 2 <;> simp

theorem transaction_read_received (complete : readRefusal x = none) :
    (l.transaction e sample x).received =
        (List.range (if e.kind = .readU8 then 1 else if e.kind = .readU16St then 3 else 2)).map (StationAnswers.byte x) ∧
      (l.transaction e sample x).ended = .complete := by
  rw [Line.transaction_read read, receives_eq read]
  unfold readRefusal at complete
  cases h0 : StationAnswers.ack x 0
  · rw [h0] at complete; cases complete
  · cases h1 : StationAnswers.ack x 1
    · rw [h0, h1] at complete; cases complete
    · cases h2 : StationAnswers.ack x 2
      · rw [h0, h1, h2] at complete; cases complete
      · exact ⟨rfl, rfl⟩

theorem readOutcome_refused {o : EntryOutcome} (h : readRefusal x = some o) :
    readOutcome e (l.transaction e sample x) s = (failRead e s, o) := by
  rw [Line.transaction_read read]
  unfold readRefusal at h
  cases h0 : StationAnswers.ack x 0
  · rw [h0] at h; cases h; rfl
  · cases h1 : StationAnswers.ack x 1
    · rw [h0, h1] at h; cases h; rfl
    · cases h2 : StationAnswers.ack x 2
      · rw [h0, h1, h2] at h; cases h; rfl
      · rw [h0, h1, h2] at h; cases h

theorem readOutcome_faulty (complete : readRefusal x = none) (faulty : Faulty e x) :
    readOutcome e (l.transaction e sample x) s = (failRead e s, .stationFault) := by
  obtain ⟨received, ended⟩ := transaction_read_received read l sample x complete
  obtain ⟨kind, status⟩ := faulty
  rw [kind] at received
  unfold readOutcome
  rw [ended, received]
  dsimp only
  rw [if_pos]
  rw [decide_eq_true kind]
  exact bne_iff_ne.mpr status

theorem readOutcome_read (complete : readRefusal x = none) (sound : ¬ Faulty e x) :
    readOutcome e (l.transaction e sample x) s = readVerdict e (readRaw e x) s := by
  obtain ⟨received, ended⟩ := transaction_read_received read l sample x complete
  have value : rawValue e.kind (l.transaction e sample x).received = readRaw e x := by
    have word : ((StationAnswers.byte x 0 ++ StationAnswers.byte x 1).toNat : Int) =
        256 * ((StationAnswers.byte x 0).toNat : Int) + (StationAnswers.byte x 1).toNat := by
      rw [BitVec.toNat_append, ← Nat.shiftLeft_add_eq_or_of_lt (BitVec.isLt _), Nat.shiftLeft_eq]
      omega
    unfold readRaw
    rw [received]
    cases hk : e.kind
    case writeDrive => rw [hk] at read; cases read
    case probe => rw [hk] at read; cases read
    case readU16 => exact word
    case readU16St => exact word
    all_goals rfl
  unfold readOutcome
  rw [ended, ← value]
  dsimp only
  rw [if_neg]
  intro h
  rw [Bool.and_eq_true, decide_eq_true_eq, bne_iff_ne] at h
  obtain ⟨kind, status⟩ := h
  rw [received, kind] at status
  exact sound ⟨kind, status⟩

end

theorem readVerdict_other {e : Entry} {s : State} (raw : Int) (h : ∀ p : Fin 96, e.target = .point p → s.points[p].cfg.source ≠ .field) :
    readVerdict e raw s = (s, .ok) := by
  unfold readVerdict
  cases ht : e.target with
  | point p => exact if_neg (by rw [takesReads, decide_eq_false (h p ht)]; nofun)
  | drive d => rfl
  | none => rfl

theorem readVerdict_field {e : Entry} {s : State} {p : Fin 96} (raw : Int) (ht : e.target = .point p)
    (field : s.points[p].cfg.source = .field) :
    (∀ v clamped, scaleRaw s.points[p].cfg raw = some (v, clamped) →
      readVerdict e raw s = (s.modPoint p (Point.goodRead v clamped), .ok)) ∧
    (scaleRaw s.points[p].cfg raw = none → readVerdict e raw s = (s.modPoint p Point.failedRead, .badRaw)) := by
  unfold readVerdict
  rw [ht]
  dsimp only
  rw [if_pos (by rw [takesReads, decide_eq_true field])]
  exact ⟨fun v clamped h => by rw [h], fun h => by rw [h]⟩

/-- Only a point that takes the reads of a line changes at a verdict. -/
theorem readVerdict_points {e : Entry} {s : State} {p : Fin 96} (raw : Int)
    (h : e.target ≠ .point p ∨ s.points[p].cfg.source ≠ .field) : (readVerdict e raw s).1.points[p] = s.points[p] := by
  unfold readVerdict
  cases ht : e.target with
  | point q =>
    dsimp only
    split
    · rename_i field
      have apart : q ≠ p := by
        rintro rfl
        exact h.elim (fun h => h ht) fun h => h (of_decide_eq_true field)
      split <;> rw [State.modPoint_at, if_neg apart]
    · rfl
  | drive d => rfl
  | none => rfl

theorem readEntryEnd_performs {i : Fin 3} {station : StationAnswers} {closing : ClosingStop} {s : State} {position : Nat} {e : Entry}
    {sample : Option Int} (h : s.lines[i].performing = some (position, e, sample)) (read : e.kind.isRead = true) :
    readEntryEnd i station closing s = settleEntry i position e (readOutcome e (s.lines[i].transaction e sample station) s).2
      (s.lines[i].transaction e sample station).done closing (readOutcome e (s.lines[i].transaction e sample station) s).1 := by
  unfold readEntryEnd
  rw [h]
  exact if_pos read

theorem readEntryEnd_idle {i : Fin 3} {station : StationAnswers} {closing : ClosingStop} {s : State}
    (h : ∀ position e sample, s.lines[i].performing = some (position, e, sample) → e.kind.isRead = false) :
    readEntryEnd i station closing s = s := by
  unfold readEntryEnd
  split
  · rename_i position e sample hp
    exact if_neg (by rw [h position e sample hp]; decide)
  · rfl

end Sys2Proof.Machine

open Sys2Proof Sys2Proof.Machine

/-- Settles O27: the transaction is refused at a byte, or brings a status fault, or brings a raw value (`readOutcome_refused`,
`readOutcome_faulty`, `readOutcome_read`); `settleEntry_leaves` says how the line goes on. -/
theorem readEntryEnds : Obligations.ReadEntryEnds := by
  intro i station closing s hs
  refine ⟨fun none => idles_of hs (f := readEntryEnd i station closing) (fun _ => rfl) (readEntryEnd_idle none),
    fun position e sample performs read => ⟨transaction_read_done read _ sample station,
      fun complete => (transaction_read_received read _ sample station complete).1,
      happens_of hs (f := readEntryEnd i station closing) (fun _ => rfl) ((readEntryEnd_only i station closing s).mono (by decide)) fun t ht _ => ?_⟩⟩
  have refused := fun o => readOutcome_refused read s.lines[i] sample station s (o := o)
  have faulty := readOutcome_faulty read s.lines[i] sample station s
  have complete := readOutcome_read read s.lines[i] sample station s
  have only := readOutcome_only e (s.lines[i].transaction e sample station) s
  rw [readEntryEnd_performs performs read, transaction_read_done read] at ht
  generalize readOutcome e (s.lines[i].transaction e sample station) s = out at ht refused faulty complete only
  have source (p : Fin 96) : (failRead e s).points[p] = s.points[p] ∨ e.target = .point p ∧ s.points[p].cfg.source = .field := by
    rw [failRead_points]
    split
    · rename_i h; exact .inr h.2
    · exact .inl rfl
  obtain ⟨ended, rest, points⟩ := settleEntry_leaves (f := fun _ d => d) (only.mono (by decide))
    (fun d => by rw [show out.1.drives = s.drives from only .drives (by decide)]) ht
  rw [points]
  refine ⟨rest, fun p apart => ?_, fun o ho => ?_, fun none fault => ?_, fun none sound other => ?_, fun p target field => ⟨fun fails => ?_,
    fun none sound raw hraw => ?_⟩⟩
  · have stands : (failRead e s).points[p] = s.points[p] := (source p).resolve_right fun h => apart.elim (fun a => a h.1) fun a => a h.2
    cases ho : readRefusal station with
    | some o => rw [refused o ho]; exact stands
    | none =>
      by_cases fault : Faulty e station
      · rw [faulty ho fault]; exact stands
      · rw [complete ho fault]; exact readVerdict_points _ apart
  · rw [refused o ho] at ended; exact ended
  · rw [faulty none fault] at ended; exact ended
  · rw [complete none sound, readVerdict_other _ other] at ended; exact ended
  · have failed : (failRead e s).points[p] = s.points[p].failedRead := by rw [failRead_points, if_pos ⟨read, target, field⟩]
    cases ho : readRefusal station with
    | some o => rw [refused o ho]; exact failed
    | none => rw [faulty ho (fails.resolve_left (not_not.mpr ho))]; exact failed
  · obtain ⟨good, bad⟩ := readVerdict_field raw target field
    have verdict := complete none sound
    rw [show readRaw e station = raw from hraw.symm] at verdict
    refine ⟨fun v clamped scaled => ?_, fun scaled => ?_⟩
    · rw [verdict, good v clamped scaled] at ended ⊢
      exact ⟨by dsimp only; rw [State.modPoint_at, if_pos rfl], ended⟩
    · rw [verdict, bad scaled] at ended ⊢
      exact ⟨by dsimp only; rw [State.modPoint_at, if_pos rfl], ended⟩
end

section
/-! PROOFS. The ends of WRITE_DRIVE entries and of PROBEs (O28). -/

namespace Sys2Proof.Machine

-- One after the other: see Laws/Frames.lean.
set_option Elab.async false

/-- The outcome of a transaction by the bit that refused it. -/
theorem writeOutcome_eq {e : Entry} {d : Fin 15} (write : e.kind = .writeDrive) (ht : e.target = .drive d) (v : Int) (x : Transaction)
    (s : State) : writeOutcome e (some v) x s =
      (s.modDrive d (if probeOutcome x = .ok then Drive.success v else Drive.failure s.clock), probeOutcome x) := by
  have failed : failDrive e s = s.modDrive d (Drive.failure s.clock) := by
    unfold failDrive; rw [ht]; exact if_pos write
  unfold writeOutcome probeOutcome
  cases x.ended with
  | addressRefused => rw [failed]; rfl
  | dataRefused => rw [failed]; rfl
  | complete => rw [ht]; rfl

/-- The drive of a WRITE_DRIVE entry takes a success or a failure, every other drive stands. -/
theorem modDrive_outcome (s : State) (d : Fin 15) (v : Int) (o : EntryOutcome) (x : Fin 15) :
    (s.modDrive d (if o = .ok then Drive.success v else Drive.failure s.clock)).drives[x] =
      (fun x y => if x = d then (if o = .ok then y.success v else y.failure s.clock) else y) x s.drives[x] := by
  rw [State.modDrive_at]
  dsimp only
  by_cases h : d = x
  · subst h
    rw [if_pos rfl, if_pos rfl]
    split <;> rfl
  · rw [if_neg h, if_neg (Ne.symm h)]

theorem writeDriveEntryEnd_performs {i : Fin 3} {station : StationAnswers} {closing : ClosingStop} {s : State} {position : Nat} {e : Entry}
    {sample : Option Int} (h : s.lines[i].performing = some (position, e, sample)) (write : e.kind = .writeDrive) :
    writeDriveEntryEnd i station closing s = settleEntry i position e (writeOutcome e sample (s.lines[i].transaction e sample station) s).2
      (s.lines[i].transaction e sample station).done closing (writeOutcome e sample (s.lines[i].transaction e sample station) s).1 := by
  unfold writeDriveEntryEnd
  rw [h]
  exact if_pos write

theorem writeDriveEntryEnd_idle {i : Fin 3} {station : StationAnswers} {closing : ClosingStop} {s : State}
    (h : ∀ position e sample, s.lines[i].performing = some (position, e, sample) → e.kind ≠ .writeDrive) :
    writeDriveEntryEnd i station closing s = s := by
  unfold writeDriveEntryEnd
  split
  · rename_i position e sample hp
    exact if_neg (h position e sample hp)
  · rfl

theorem probeEnd_performs {i : Fin 3} {station : StationAnswers} {closing : ClosingStop} {s : State} {position : Nat} {e : Entry}
    {sample : Option Int} (h : s.lines[i].performing = some (position, e, sample)) (probe : e.kind = .probe) :
    probeEnd i station closing s = settleEntry i position e (probeOutcome (s.lines[i].transaction e sample station))
      (s.lines[i].transaction e sample station).done closing s := by
  unfold probeEnd
  rw [h]
  exact if_pos probe

theorem probeEnd_idle {i : Fin 3} {station : StationAnswers} {closing : ClosingStop} {s : State}
    (h : ∀ position e sample, s.lines[i].performing = some (position, e, sample) → e.kind ≠ .probe) : probeEnd i station closing s = s := by
  unfold probeEnd
  split
  · rename_i position e sample hp
    exact if_neg (h position e sample hp)
  · rfl

/-- What a WRITE_DRIVE entry does on the wires, and its outcome. -/
theorem transaction_write_done {e : Entry} (write : e.kind = .writeDrive) (l : Line) (v : Int) (x : StationAnswers) :
    (l.transaction e (some v) x).done =
      (if StationAnswers.ack x 0 = false then l.opensWith e else if StationAnswers.ack x 1 = false then l.opensWith e ++ [.data e.itemByte]
       else if StationAnswers.ack x 2 = false then l.opensWith e ++ [.data e.itemByte] ++ [.data (BitVec.ofInt 8 (v / 256))]
       else l.opensWith e ++ [.data e.itemByte] ++ [.data (BitVec.ofInt 8 (v / 256))] ++ [.data (BitVec.ofInt 8 v)]) ∧
    probeOutcome (l.transaction e (some v) x) =
      if StationAnswers.ack x 0 = false then .addrNak
      else if StationAnswers.ack x 1 = true ∧ StationAnswers.ack x 2 = true ∧ StationAnswers.ack x 3 = true then .ok else .dataNak := by
  rw [Line.transaction_write write]
  cases StationAnswers.ack x 0
  · exact ⟨rfl, rfl⟩
  · cases StationAnswers.ack x 1
    · exact ⟨rfl, rfl⟩
    · cases StationAnswers.ack x 2
      · exact ⟨rfl, rfl⟩
      · cases StationAnswers.ack x 3 <;> exact ⟨rfl, rfl⟩

theorem transaction_probe_done {e : Entry} (probe : e.kind = .probe) (l : Line) (sample : Option Int) (x : StationAnswers) :
    (l.transaction e sample x).done = l.opensWith e ∧
      probeOutcome (l.transaction e sample x) = if StationAnswers.ack x 0 then .ok else .addrNak := by
  rw [Line.transaction_probe probe]
  cases StationAnswers.ack x 0 <;> exact ⟨rfl, rfl⟩

end Sys2Proof.Machine

open Sys2Proof Sys2Proof.Machine

/-- Settles O28: the transaction and its outcome byte by byte (`transaction_write_done`, `transaction_probe_done`), then
`settleEntry_leaves`. -/
theorem writeAndProbeEntryEnds : Obligations.WriteAndProbeEntryEnds := by
  intro i station closing s hs
  refine ⟨fun none => idles_of hs (f := writeDriveEntryEnd i station closing) (fun _ => rfl) (writeDriveEntryEnd_idle none), ?_,
    fun none => idles_of hs (f := probeEnd i station closing) (fun _ => rfl) (probeEnd_idle none), ?_⟩
  · intro position e d v performs write target
    obtain ⟨done, outcome⟩ := transaction_write_done write s.lines[i] v station
    refine ⟨done, happens_of hs (f := writeDriveEntryEnd i station closing) (fun _ => rfl)
      ((writeDriveEntryEnd_only i station closing s).mono (by decide)) fun t ht _ => ?_⟩
    rw [writeDriveEntryEnd_performs performs write, writeOutcome_eq write target, done, outcome] at ht
    obtain ⟨ended, rest, -⟩ := settleEntry_leaves ((State.modDrive_only s d _).mono (by decide)) (modDrive_outcome s d v _) ht
    exact ⟨ended, rest⟩
  · intro position e sample performs probe
    obtain ⟨done, outcome⟩ := transaction_probe_done probe s.lines[i] sample station
    refine ⟨done, happens_of hs (f := probeEnd i station closing) (fun _ => rfl)
      ((probeEnd_only i station closing s).mono (by decide)) fun t ht _ => ?_⟩
    rw [probeEnd_performs performs probe, done, outcome] at ht
    obtain ⟨ended, rest, -⟩ := settleEntry_leaves ((Only.refl [] s).mono (by decide)) (f := fun _ y => y) (fun _ => rfl) ht
    exact ⟨ended, rest⟩
end

section
/-! PROOFS. Held wires (O29). -/

namespace Sys2Proof.Machine

-- One after the other: see Laws/Frames.lean.
set_option Elab.async false

/-! ### A failed entry -/

theorem failEntry_points (e : Entry) (s : State) (p : Fin 96) : (failEntry e s).points[p] =
    if e.kind.isRead = true ∧ e.target = .point p ∧ s.points[p].cfg.source = .field then s.points[p].failedRead else s.points[p] := by
  have points : (failEntry e s).points = (failRead e s).points := failDrive_only e (failRead e s) .points (by decide)
  rw [points, failRead_points]

theorem failEntry_drives (e : Entry) (s : State) (d : Fin 15) : (failEntry e s).drives[d] =
    if e.kind = .writeDrive ∧ e.target = .drive d then s.drives[d].failure s.clock else s.drives[d] := by
  have drives : (failRead e s).drives = s.drives := failRead_only e s .drives (by decide)
  have clock : (failRead e s).clock = s.clock := congrArg Prod.fst (failRead_only e s .clock (by decide))
  unfold failEntry
  rw [failDrive_drives, drives, clock]

/-! ### The ends of a pass, where its entry's target took the outcome before -/

section

variable {s s' t : State} {i : Fin 3} {g : Line → Line} {f : Fin 15 → Drive → Drive} (only : Only [.points, .drives] s s')
  (drives : ∀ d : Fin 15, s'.drives[d] = f d s.drives[d]) (ready : (g s.lines[i]).ready = s.lines[i].ready)

include only drives ready

theorem endPass_leaves {n : Nat} (ht : UnchangedBut [] (endPass i n (s'.modLine i g)) t) :
    PassEnds t (g s.lines[i]) n t.lines[i] ∧ LineAndDrives s t i f ∧ t.points = s'.points := by
  obtain ⟨ends, rest⟩ := endPass_ends i n (s'.modLine i g)
  have lines : s'.lines = s.lines := only .lines (by decide)
  have tl : t.lines = (endPass i n (s'.modLine i g)).lines := ht .lines (by decide)
  have td : t.drives = (endPass i n (s'.modLine i g)).drives := ht .drives (by decide)
  have tp : t.points = (endPass i n (s'.modLine i g)).points := ht .points (by decide)
  have line : (s'.modLine i g).lines[i] = g s.lines[i] := by rw [State.modLine_at, if_pos rfl, lines]
  rw [line] at ends
  refine ⟨by rw [tl]; exact ends.settled td, (rest.after (fun j hj => ?_) (by rw [line]; exact ready) drives).settled tl td, ?_⟩
  · rw [State.modLine_at, if_neg (Ne.symm hj), lines]
  · exact tp.trans (endPass_only i n (s'.modLine i g) .points (by decide))

theorem modLine_leaves (ht : UnchangedBut [] (s'.modLine i g) t) :
    t.lines[i] = g s.lines[i] ∧ LineAndDrives s t i f ∧ t.points = s'.points := by
  have lines : s'.lines = s.lines := only .lines (by decide)
  have tl : t.lines = (s'.modLine i g).lines := ht .lines (by decide)
  have td : t.drives = (s'.modLine i g).drives := ht .drives (by decide)
  refine ⟨by rw [tl, State.modLine_at, if_pos rfl, lines], ?_, ht .points (by decide)⟩
  have own := LineAndDrives.of_modLine s' i g (by rw [lines]; exact ready)
  exact (own.after (fun j _ => by rw [lines]) (by rw [lines]) drives).settled tl td

end

/-! ### A held data wire (R44) -/

/-- The line in the recovery procedure or, without autoRecover, in FAULTED with its wires released. -/
def Line.recoverOrFault (clock settled : Nat) (atStop : Bool) (l : Line) : Line :=
  if l.cfg.autoRecover then { l with state := .recovering, activity := .procedure settled atStop, wireFast := l.cfg.fast }
  else { l.closeOut settled .faulted with
          pending := false, faultCause := some .heldData, faultedSince := some clock, attemptCount := 0, wires := [.release] }

theorem Line.recoverOrFault_forms {m u : Line} {cfg : LineConfig} {clock n : Nat} {atStop : Bool} (hu : u.cfg = cfg)
    (h : m = u.recoverOrFault clock n atStop) :
    if cfg.autoRecover then m = { u with state := .recovering, activity := .procedure n atStop, wireFast := cfg.fast }
    else m = { u.closeOut n .faulted with
                pending := false, faultCause := some .heldData, faultedSince := some clock, attemptCount := 0, wires := [.release] } := by
  subst hu
  rw [h]
  unfold Line.recoverOrFault
  split <;> rfl

theorem recoverOrFault_eq (i : Fin 3) (settled : Nat) (atStop : Bool) (s : State) :
    recoverOrFault i settled atStop s = s.modLine i (Line.recoverOrFault s.clock settled atStop) := by
  unfold recoverOrFault
  split
  · rename_i auto; exact State.modLine_congr (if_pos auto).symm
  · rename_i auto
    exact (State.modLine_modLine s i _ _).trans (State.modLine_congr (if_neg auto).symm)

theorem Line.recoverOrFault_ready (clock settled : Nat) (atStop : Bool) (l : Line) :
    (l.recoverOrFault clock settled atStop).ready = l.ready := by
  unfold Line.recoverOrFault
  split <;> rfl

theorem Line.settle_ready (clock position : Nat) (o : EntryOutcome) (l : Line) : (l.settle clock position o).ready = l.ready := by
  rw [Line.settle_fields]

theorem Line.settle_cfg (clock position : Nat) (o : EntryOutcome) (l : Line) : (l.settle clock position o).cfg = l.cfg := by
  rw [Line.settle_fields]

/-! ### The owners -/

section

variable {i : Fin 3} {s : State}

theorem heldClock_performs {position : Nat} {e : Entry} {sample : Option Int} (h : s.lines[i].performing = some (position, e, sample)) :
    heldClock i s = endPass i (position + 1)
      ((failEntry e s).modLine i (fun l => (l.settle s.clock position .heldClock).does heldClockActs)) := by
  unfold heldClock; rw [h]

theorem heldDataWire_performs {position : Nat} {e : Entry} {sample : Option Int} (h : s.lines[i].performing = some (position, e, sample)) :
    heldDataWire i s = (failEntry e s).modLine i (fun l =>
      (l.settle s.clock position .heldData).recoverOrFault s.clock (position + 1) false) := by
  have clock : (failEntry e s).clock = s.clock := congrArg Prod.fst (failEntry_only e s .clock (by decide))
  unfold heldDataWire; rw [h]
  exact (recoverOrFault_eq _ _ _ _).trans ((State.modLine_modLine _ i _ _).trans (by rw [show State.clock (State.modLine _ i _) = s.clock from clock]))

theorem performing_closing {n : Nat} {l : Line} (ha : l.activity = .closing n) : l.performing = none := by
  unfold Line.performing
  rw [ha]
  cases l.state <;> rfl

theorem heldClock_closing {n : Nat} (hs : s.lines[i].state = .passing) (ha : s.lines[i].activity = .closing n) :
    heldClock i s = endPass i n (s.modLine i (fun l => (l.record ⟨none, .heldClock, s.clock⟩).does heldClockActs)) := by
  unfold heldClock; rw [performing_closing ha, hs, ha]

theorem heldDataWire_closing {n : Nat} (hs : s.lines[i].state = .passing) (ha : s.lines[i].activity = .closing n) :
    heldDataWire i s = s.modLine i (fun l => (l.record ⟨none, .heldData, s.clock⟩).recoverOrFault s.clock n true) := by
  unfold heldDataWire; rw [performing_closing ha, hs, ha]
  exact (recoverOrFault_eq _ _ _ _).trans (State.modLine_modLine s i _ _)

theorem held_idle (h : s.lines[i].performing = none) (hc : ∀ n, s.lines[i].state = .passing → s.lines[i].activity ≠ .closing n) :
    heldClock i s = s ∧ heldDataWire i s = s := by
  unfold heldClock heldDataWire
  rw [h]
  dsimp only
  split
  · rename_i n hs ha; exact absurd ha (hc n hs)
  · exact ⟨rfl, rfl⟩

end

end Sys2Proof.Machine

open Sys2Proof Sys2Proof.Machine

/-- Settles O29. -/
theorem heldWires : Obligations.HeldWires := by
  refine ⟨fun clockRises l => by cases clockRises <;> rfl, fun i s hs => ⟨fun position e sample performs => ⟨?_, ?_⟩,
    fun n passing closing => ⟨?_, ?_⟩, fun none other => ?_⟩⟩
  · refine happens_of hs (f := heldClock i) (fun _ => rfl) ((heldClock_only i s).mono (by decide)) fun t ht _ => ?_
    rw [heldClock_performs performs] at ht
    obtain ⟨ends, rest, points⟩ := endPass_leaves (g := fun l => (l.settle s.clock position .heldClock).does heldClockActs)
      (failEntry_only e s) (failEntry_drives e s) (Line.settle_ready s.clock position .heldClock s.lines[i]) ht
    exact ⟨fun p => by rw [points, failEntry_points], rest, ends⟩
  · refine happens_of hs (f := heldDataWire i) (fun _ => rfl) ((heldDataWire_only i s).mono (by decide)) fun t ht _ => ?_
    rw [heldDataWire_performs performs] at ht
    obtain ⟨line, rest, points⟩ := modLine_leaves
      (g := fun l => (l.settle s.clock position .heldData).recoverOrFault s.clock (position + 1) false) (failEntry_only e s) (failEntry_drives e s)
      ((Line.recoverOrFault_ready _ _ _ _).trans (Line.settle_ready _ _ _ _)) ht
    exact ⟨fun p => by rw [points, failEntry_points], rest, Line.recoverOrFault_forms (Line.settle_cfg _ _ _ _) line⟩
  · refine happens_of hs (f := heldClock i) (fun _ => rfl) (changed := [.lines, .drives])
      (by rw [heldClock_closing passing closing]; exact (State.modLine_only s i _).seq (endPass_only i n _)) fun t ht _ => ?_
    rw [heldClock_closing passing closing] at ht
    obtain ⟨ends, rest, -⟩ := endPass_leaves (g := fun l => (l.record ⟨none, .heldClock, s.clock⟩).does heldClockActs) (f := fun _ d => d) ((Only.refl [] s).mono (by decide)) (fun _ => rfl) rfl ht
    exact ⟨rest, ends⟩
  · refine happens_of hs (f := heldDataWire i) (fun _ => rfl) (changed := [.lines, .drives])
      (by rw [heldDataWire_closing passing closing]; exact (State.modLine_only s i _).mono (by decide)) fun t ht _ => ?_
    rw [heldDataWire_closing passing closing] at ht
    obtain ⟨line, rest, -⟩ := modLine_leaves (g := fun l => (l.record ⟨none, .heldData, s.clock⟩).recoverOrFault s.clock n true) (f := fun _ d => d) ((Only.refl [] s).mono (by decide)) (fun _ => rfl)
      (Line.recoverOrFault_ready _ _ _ _) ht
    exact ⟨rest, Line.recoverOrFault_forms rfl line⟩
  · exact ⟨idles_of hs (f := heldClock i) (fun _ => rfl) (held_idle none other).1,
      idles_of hs (f := heldDataWire i) (fun _ => rfl) (held_idle none other).2⟩
end

section
/-! PROOFS. The recovery procedure and the ends of recoveries (O30). -/

namespace Sys2Proof.Machine

-- One after the other: see Laws/Frames.lean.
set_option Elab.async false

/-! ### The recovery procedure (R43) -/

/-- The wires as found at the n-th release; both high beyond those listed. -/
def reading (wires : List WireReading) (n : Nat) : WireReading := wires.getD n ⟨true, true⟩

/-- The clock wire rises and the data wire stays low. -/
def ReadsLow (r : WireReading) : Prop := r.clockRises = true ∧ r.dataHigh = false

/-- Both wires are high. -/
def ReadsHigh (r : WireReading) : Prop := r.clockRises = true ∧ r.dataHigh = true

/-- What the wires found in its stop make of a procedure. -/
def stopResult (r : WireReading) : RecoveryResult :=
  if r.clockRises = false then .heldClock else if r.dataHigh then .freed else .heldData

theorem presentReading_eq (wires : List WireReading) : presentReading wires = reading wires 0 := headD_getD _ _

theorem reading_tail (wires : List WireReading) (n : Nat) : reading wires.tail n = reading wires (n + 1) := by
  unfold reading
  cases wires <;> rfl

theorem recoveryStop_eq (wires : List WireReading) : recoveryStop wires = ⟨[.stop true], stopResult (reading wires 0)⟩ := by
  unfold recoveryStop stopResult
  rw [presentReading_eq]
  dsimp only
  cases (reading wires 0).clockRises <;> rfl

/-- What follows a release: the stop where the data wire reads high, the pulses left where it reads low. -/
def afterRelease (pulses : Nat) (wires : List WireReading) : Recovery :=
  if (reading wires 0).clockRises then (if (reading wires 0).dataHigh then recoveryStop wires.tail else recoveryPulses pulses wires.tail)
  else ⟨[], .heldClock⟩

theorem recoveryPulses_succ (n : Nat) (wires : List WireReading) :
    recoveryPulses (n + 1) wires = { afterRelease n wires with done := .pulse :: (afterRelease n wires).done } := by
  unfold afterRelease
  rw [recoveryPulses, presentReading_eq]

theorem recoveryProcedure_eq (wires : List WireReading) :
    recoveryProcedure wires = { afterRelease 9 wires with done := .release :: (afterRelease 9 wires).done } := by
  unfold afterRelease recoveryProcedure
  rw [presentReading_eq]

theorem afterRelease_low {pulses : Nat} {wires : List WireReading} (h : ReadsLow (reading wires 0)) :
    afterRelease pulses wires = recoveryPulses pulses wires.tail := by
  unfold afterRelease
  rw [if_pos h.1, if_neg (by rw [h.2]; decide)]

theorem afterRelease_high {pulses : Nat} {wires : List WireReading} (h : ReadsHigh (reading wires 0)) :
    afterRelease pulses wires = ⟨[.stop true], stopResult (reading wires 1)⟩ := by
  unfold afterRelease
  rw [if_pos h.1, if_pos h.2, recoveryStop_eq, reading_tail]

theorem afterRelease_held {pulses : Nat} {wires : List WireReading} (h : (reading wires 0).clockRises = false) :
    afterRelease pulses wires = ⟨[], .heldClock⟩ := by
  unfold afterRelease
  rw [if_neg (by rw [h]; decide)]

/-- While the data wire reads low, a release is followed by one pulse after the other: what comes after the n-th of them. -/
theorem afterRelease_pulses {n pulses : Nat} (hn : n ≤ pulses) {wires : List WireReading} (low : ∀ m < n, ReadsLow (reading wires m))
    {r : Recovery} (h : afterRelease (pulses - n) (wires.drop n) = r) :
    afterRelease pulses wires = { r with done := List.replicate n .pulse ++ r.done } := by
  induction n generalizing pulses wires with
  | zero => rw [← h]; rfl
  | succ n ih =>
    obtain ⟨pulses, rfl⟩ : ∃ k, pulses = k + 1 := ⟨pulses - 1, by omega⟩
    have rest := ih (pulses := pulses) (wires := wires.tail) (by omega) (fun m hm => by rw [reading_tail]; exact low (m + 1) (by omega))
      (by rw [List.drop_tail, ← h]; congr 1; omega)
    rw [afterRelease_low (low 0 (by omega)), recoveryPulses_succ, rest]
    rfl

theorem reading_drop (wires : List WireReading) (n m : Nat) : reading (wires.drop n) m = reading wires (n + m) := by
  unfold reading
  simp [List.getD_eq_getElem?_getD]

theorem recoveryProcedure_held {n : Nat} (hn : n ≤ 9) {wires : List WireReading} (low : ∀ m < n, ReadsLow (reading wires m))
    (h : (reading wires n).clockRises = false) : recoveryProcedure wires = ⟨.release :: List.replicate n .pulse, .heldClock⟩ := by
  rw [recoveryProcedure_eq, afterRelease_pulses hn low (afterRelease_held (by rw [reading_drop]; exact h)), List.append_nil]

theorem recoveryProcedure_high {n : Nat} (hn : n ≤ 9) {wires : List WireReading} (low : ∀ m < n, ReadsLow (reading wires m))
    (h : ReadsHigh (reading wires n)) :
    recoveryProcedure wires = ⟨.release :: List.replicate n .pulse ++ [.stop true], stopResult (reading wires (n + 1))⟩ := by
  rw [recoveryProcedure_eq, afterRelease_pulses hn low (afterRelease_high (by rw [reading_drop]; exact h)), reading_drop]
  rfl

theorem recoveryProcedure_low {wires : List WireReading} (low : ∀ m < 10, ReadsLow (reading wires m)) :
    recoveryProcedure wires = ⟨.release :: List.replicate 9 .pulse, .heldData⟩ := by
  have last : afterRelease (9 - 9) (wires.drop 9) = ⟨[], .heldData⟩ := by
    rw [afterRelease_low (by rw [reading_drop]; exact low 9 (by decide))]
    rfl
  rw [recoveryProcedure_eq, afterRelease_pulses (by decide) (fun m hm => low m (by omega)) last, List.append_nil]

/-! ### The end of a procedure (R44) -/

section

variable {i : Fin 3} {s : State} {n : Nat} {atStop : Bool} {wires : List WireReading}

/-- The line as a run of the procedure leaves its wires. -/
def Line.ran (wires : List WireReading) (l : Line) : Line := l.does (recoveryProcedure wires).done

/-- The line in FAULTED after a pass that a failed procedure ends. -/
def Line.faulted (clock n : Nat) (cause : FaultCause) (l : Line) : Line :=
  { l.closeOut n .faulted with pending := false, faultCause := some cause, faultedSince := some clock, attemptCount := 0 }

theorem recoveryProcedureEnd_at (hs : s.lines[i].state = .recovering) (ha : s.lines[i].activity = .procedure n atStop) :
    (∀ cause : FaultCause, ((recoveryProcedure wires).result = .heldData ∧ cause = .heldData) ∨
        ((recoveryProcedure wires).result = .heldClock ∧ cause = .heldClock) →
      recoveryProcedureEnd i wires s = s.modLine i (fun l => (l.ran wires).faulted s.clock n cause)) ∧
    ((recoveryProcedure wires).result = .freed →
      recoveryProcedureEnd i wires s = afterRecovery i n atStop (s.modLine i (Line.ran wires))) := by
  unfold recoveryProcedureEnd
  rw [hs, ha]
  dsimp only
  refine ⟨?_, fun h => by rw [h]; rfl⟩
  rintro cause (⟨h, rfl⟩ | ⟨h, rfl⟩)
  · rw [h]; exact State.modLine_modLine s i _ _
  · rw [h]; exact State.modLine_modLine s i _ _

theorem recoveryProcedureEnd_idle (h : s.lines[i].state ≠ .recovering) : recoveryProcedureEnd i wires s = s := by
  unfold recoveryProcedureEnd
  split
  · rename_i hs _; exact absurd hs h
  · rfl

/-- Whether a freed procedure ends the pass: at the closing stop, or under STOP. -/
def Line.stopsAfter (n : Nat) (atStop : Bool) (l : Line) : Bool := atStop || (l.active[n - 1]?).any (fun e => e.entry.stopPolicy)

theorem PassEnds.of_state {t : State} {l m : Line} (x : LineState) (h : PassEnds t { l with state := x } n m) : PassEnds t l n m := h

theorem afterRecovery_freed :
    LineAndDrives s (afterRecovery i n atStop s) i (fun _ d => d) ∧
    (s.lines[i].stopsAfter n atStop = true → PassEnds (afterRecovery i n atStop s) s.lines[i] n (afterRecovery i n atStop s).lines[i]) ∧
    (s.lines[i].stopsAfter n atStop = false →
      (∀ k, s.lines[i].nextSelected n = some k → (afterRecovery i n atStop s).lines[i] =
        (s.lines[i].mark n k .skipped).begin k ((s.lines[i].active[k]?).bind (fun x => sampleFor (afterRecovery i n atStop s) x.entry)) false) ∧
      (s.lines[i].nextSelected n = none → PassEnds (afterRecovery i n atStop s) (s.lines[i].mark n s.lines[i].active.length .skipped)
        s.lines[i].active.length (afterRecovery i n atStop s).lines[i])) := by
  cases stops : s.lines[i].stopsAfter n atStop with
  | true =>
    have own : afterRecovery i n atStop s = endPass i n s := if_pos stops
    rw [own]
    obtain ⟨ends, rest⟩ := endPass_ends i n s
    exact ⟨rest, fun _ => ends, nofun⟩
  | false =>
    have line : (s.modLine i (fun l => { l with state := .passing })).lines[i] = { s.lines[i] with state := .passing } := by
      rw [State.modLine_at, if_pos rfl]
    have own : afterRecovery i n atStop s = match goOn i n false (s.modLine i (fun l => { l with state := .passing })) with
      | (s, true) => s
      | (s, false) => endPass i s.lines[i].active.length s := if_neg (by
        rw [show (atStop || (s.lines[i].active[n - 1]?).any (fun e => e.entry.stopPolicy)) = false from stops]; decide)
    have next : (s.modLine i (fun l => { l with state := .passing })).lines[i].nextSelected n = s.lines[i].nextSelected n := by
      rw [line]; rfl
    cases hn : s.lines[i].nextSelected n with
    | some k =>
      rw [goOn_some false (next.trans hn)] at own
      rw [own]
      refine ⟨(LineAndDrives.of_modLine _ i _ rfl).modLine rfl rfl, nofun, fun _ => ⟨fun k' hk => ?_, nofun⟩⟩
      cases hk
      rw [State.modLine_at, if_pos rfl, line]
      rfl
    | none =>
      rw [goOn_none false (next.trans hn)] at own
      have marked : ((s.modLine i (fun l => { l with state := .passing })).modLine i
          (fun l => l.mark n l.active.length .skipped)).lines[i] =
            { s.lines[i].mark n s.lines[i].active.length .skipped with state := .passing } := by
        rw [State.modLine_at, if_pos rfl, line]; rfl
      dsimp only at own
      rw [marked, show ({ s.lines[i].mark n s.lines[i].active.length .skipped with state := .passing } : Line).active.length =
        s.lines[i].active.length from Line.mark_length _ _ _ _] at own
      rw [own]
      obtain ⟨ends, rest⟩ := endPass_ends i s.lines[i].active.length
        ((s.modLine i (fun l => { l with state := .passing })).modLine i (fun l => l.mark n l.active.length .skipped))
      rw [marked] at ends
      exact ⟨.modLine rfl rfl (.modLine rfl rfl rest), nofun, fun _ => ⟨nofun, fun _ => ends.of_state .passing⟩⟩

end

/-! ### The end of an attempt (R45) -/

theorem Drive.failure_failure (clock : Nat) (d : Drive) : (d.failure clock).failure clock = d.failure clock := by
  unfold Drive.failure
  by_cases h : d.delivery = .failing
  · rw [if_pos h, if_pos h]
  · rw [if_neg h, if_pos rfl]

/-- The failed reads and the failures that the entries of a schedule take. -/
def failEntries (c : List ActiveEntry) (s : State) : State := c.foldl (fun s e => failEntry e.entry s) s

theorem failEntries_only (c : List ActiveEntry) (s : State) : Only [.points, .drives] s (failEntries c s) := by
  induction c generalizing s with
  | nil => exact (Only.refl [] s).mono (by decide)
  | cons e c ih => exact (failEntry_only e.entry s).seq (ih _)

/-- A point takes a failed read for each entry that reads it. -/
theorem failEntries_points (c : List ActiveEntry) (s : State) (p : Fin 96) : (failEntries c s).points[p] =
    if s.points[p].cfg.source = .field then Point.failedRead^[c.countP (fun e => e.entry.reads p)] s.points[p] else s.points[p] := by
  induction c generalizing s with
  | nil => split <;> rfl
  | cons e c ih =>
    have one : (failEntry e.entry s).points[p] =
        if e.entry.reads p = true ∧ s.points[p].cfg.source = .field then s.points[p].failedRead else s.points[p] := by
      rw [failEntry_points]
      simp only [Entry.reads_iff, and_assoc]
    show (failEntries c (failEntry e.entry s)).points[p] = _
    rw [ih, one, List.countP_cons]
    have cfg : (if e.entry.reads p = true ∧ s.points[p].cfg.source = .field then s.points[p].failedRead else s.points[p]).cfg =
        s.points[p].cfg := by split <;> rfl
    rw [cfg]
    by_cases field : s.points[p].cfg.source = .field
    · simp only [field, and_true, if_true]
      by_cases reads : e.entry.reads p = true
      · rw [if_pos reads, if_pos reads, Function.iterate_succ_apply]
      · rw [if_neg reads, if_neg reads, Nat.add_zero]
    · simp only [field, and_false, if_false]

/-- A schedule that reads a point at most once gives it one failed read or none. -/
theorem failedRead_once {c : List ActiveEntry} {p : Fin 96} (once : c.countP (fun e => e.entry.reads p) ≤ 1) (x : Point) :
    (if x.cfg.source = .field then Point.failedRead^[c.countP (fun e => e.entry.reads p)] x else x) =
      if (∃ e ∈ c, e.entry.reads p = true) ∧ x.cfg.source = .field then x.failedRead else x := by
  by_cases read : ∃ e ∈ c, e.entry.reads p = true
  · have one : c.countP (fun e => e.entry.reads p) = 1 := Nat.le_antisymm once (List.countP_pos_iff.mpr read)
    simp only [one, Function.iterate_one, read, true_and]
  · have absent : c.countP (fun e => e.entry.reads p) = 0 := List.countP_eq_zero.mpr fun e he h => read ⟨e, he, h⟩
    simp only [absent, Function.iterate_zero, id, read, false_and, if_false, ite_self]

/-- A drive takes a failure where the schedule writes it. -/
theorem failEntries_drives (c : List ActiveEntry) (s : State) (d : Fin 15) : (failEntries c s).drives[d] =
    if c.any (fun e => e.entry.writes d) = true then s.drives[d].failure s.clock else s.drives[d] := by
  induction c generalizing s with
  | nil => rfl
  | cons e c ih =>
    have one : (failEntry e.entry s).drives[d] = if e.entry.writes d = true then s.drives[d].failure s.clock else s.drives[d] := by
      rw [failEntry_drives]
      simp only [Entry.writes_iff]
    have clock : (failEntry e.entry s).clock = s.clock := congrArg Prod.fst (failEntry_only e.entry s .clock (by decide))
    show (failEntries c (failEntry e.entry s)).drives[d] = _
    rw [ih, one, clock, List.any_cons]
    cases e.entry.writes d
    · rfl
    · rw [if_pos rfl, Bool.true_or, if_pos rfl, Drive.failure_failure, ite_self]

/-- The line after a failed attempt. -/
def Line.attemptFailed (cause : FaultCause) (l : Line) : Line :=
  { l with activity := .resting, faultCause := some cause, attemptCount := satSucc 65535 l.attemptCount }

/-- The line after a freed attempt, about to start a pass. -/
def Line.freed (l : Line) : Line := { l with state := .idle, activity := .resting, faultCause := none, faultedSince := none }

section

variable {i : Fin 3} {s : State} {wires : List WireReading}

theorem recoveryAttemptEnd_at (hs : s.lines[i].state = .faulted) (ha : s.lines[i].activity = .attempt) :
    ((recoveryProcedure wires).result = .freed →
      recoveryAttemptEnd i wires s = startPass i 2 (s.modLine i (fun l => (l.ran wires).freed))) ∧
    (∀ cause : FaultCause, ((recoveryProcedure wires).result = .heldData ∧ cause = .heldData) ∨
        ((recoveryProcedure wires).result = .heldClock ∧ cause = .heldClock) →
      recoveryAttemptEnd i wires s = attemptFailed i cause (s.modLine i (Line.ran wires))) := by
  unfold recoveryAttemptEnd
  rw [hs, ha]
  dsimp only
  refine ⟨fun h => ?_, ?_⟩
  · rw [h]
    exact congrArg (startPass i 2) (State.modLine_modLine s i _ _)
  · rintro cause (⟨h, rfl⟩ | ⟨h, rfl⟩) <;> rw [h] <;> rfl

theorem recoveryAttemptEnd_idle (h : s.lines[i].state ≠ .faulted ∨ s.lines[i].activity ≠ .attempt) : recoveryAttemptEnd i wires s = s := by
  unfold recoveryAttemptEnd
  split
  · rename_i hs ha; exact h.elim (absurd hs) (absurd ha)
  · rfl

end

end Sys2Proof.Machine

open Sys2Proof Sys2Proof.Machine

/-- Settles O30: the procedure by induction on its pulses (`afterRelease_pulses`), a freed one by `afterRecovery_freed`, a failed attempt
by induction on the active schedule (`failEntries_points`, `failEntries_drives`). -/
theorem recoveriesEnd : Obligations.RecoveriesEnd := by
  refine ⟨fun wires => ⟨fun n low => ⟨fun held => ?_, fun high => ?_⟩, fun low => ?_⟩, fun i wires s hs =>
    ⟨fun n atStop recovering procedure => ?_, fun other => ?_, fun faulted attempt free => ⟨fun freed => ?_, fun cause failed once => ?_⟩,
      fun other => ?_⟩⟩
  · have := recoveryProcedure_held (Nat.le_of_lt_succ n.isLt) (fun m hm => low ⟨m, by omega⟩ hm) held
    exact this.trans (by rw [List.append_nil])
  · exact recoveryProcedure_high (Nat.le_of_lt_succ n.isLt) (fun m hm => low ⟨m, by omega⟩ hm) high
  · exact (recoveryProcedure_low fun m hm => low ⟨m, hm⟩).trans (by rw [List.append_nil])
  · obtain ⟨fails, freed⟩ := recoveryProcedureEnd_at (wires := wires) recovering procedure
    refine happens_of hs (f := recoveryProcedureEnd i wires) (fun _ => rfl) ((recoveryProcedureEnd_only i wires s).mono (by decide))
      fun t ht _ => ?_
    have failed (cause : FaultCause) (h : ((recoveryProcedure wires).result = .heldData ∧ cause = .heldData) ∨
        ((recoveryProcedure wires).result = .heldClock ∧ cause = .heldClock)) :
        t.lines[i] = (s.lines[i].ran wires).faulted s.clock n cause ∧ LineAndDrives s t i (fun _ d => d) := by
      rw [fails cause h] at ht
      obtain ⟨line, rest, -⟩ := modLine_leaves (g := fun l => (l.ran wires).faulted s.clock n cause) (f := fun _ d => d)
        ((Only.refl [] s).mono (by decide)) (fun _ => rfl) rfl ht
      exact ⟨line, rest⟩
    cases hr : (recoveryProcedure wires).result with
    | heldData => exact ⟨(failed .heldData (.inl ⟨hr, rfl⟩)).2, fun cause h => (failed cause (by rw [hr]; exact h)).1, nofun⟩
    | heldClock => exact ⟨(failed .heldClock (.inr ⟨hr, rfl⟩)).2, fun cause h => (failed cause (by rw [hr]; exact h)).1, nofun⟩
    | freed =>
      have ran : (s.modLine i (Line.ran wires)).lines[i] = s.lines[i].ran wires := by rw [State.modLine_at, if_pos rfl]
      obtain ⟨rest, stops, goes⟩ := afterRecovery_freed (i := i) (s := s.modLine i (Line.ran wires)) (n := n) (atStop := atStop)
      rw [ran] at stops goes
      rw [freed hr] at ht
      have tl : t.lines = (afterRecovery i n atStop (s.modLine i (Line.ran wires))).lines := ht .lines (by decide)
      have td : t.drives = (afterRecovery i n atStop (s.modLine i (Line.ran wires))).drives := ht .drives (by decide)
      rw [tl]
      refine ⟨(rest.modLine rfl rfl).settled tl td, fun cause h => ?_, fun _ => ⟨fun h => (stops h).settled td,
        fun h => ⟨fun k hk => ?_, fun hn => ((goes h).2 hn).settled td⟩⟩⟩
      · obtain ⟨h, -⟩ | ⟨h, -⟩ := h <;> cases h
      · refine ((goes h).1 k hk).trans ?_
        simp only [sampleFor_congr (s := afterRecovery i n atStop (s.modLine i (Line.ran wires))) (t := t) fun d => by rw [td]]
        rfl
  · exact idles_of hs (f := recoveryProcedureEnd i wires) (fun _ => rfl) (recoveryProcedureEnd_idle other)
  · have own := (recoveryAttemptEnd_at (wires := wires) faulted attempt).1 freed
    refine happens_of hs (f := recoveryAttemptEnd i wires) (fun _ => rfl) (changed := [.lines, .drives])
      (by rw [own]; exact (State.modLine_only s i _).seq (startPass_only i 2 _)) fun t ht _ => ?_
    have line : (s.modLine i (fun l => (l.ran wires).freed)).lines[i] = (s.lines[i].ran wires).freed := by
      rw [State.modLine_at, if_pos rfl]
    obtain ⟨starts, rest⟩ := startPass_starts i (s := s.modLine i (fun l => (l.ran wires).freed)) (by rw [line]; exact free)
    rw [line] at starts
    rw [own] at ht
    have tl : t.lines = (startPass i 2 (s.modLine i (fun l => (l.ran wires).freed))).lines := ht .lines (by decide)
    have td : t.drives = (startPass i 2 (s.modLine i (fun l => (l.ran wires).freed))).drives := ht .drives (by decide)
    rw [tl]
    exact ⟨(rest.modLine rfl rfl).settled tl td, starts.settled td⟩
  · have own := (recoveryAttemptEnd_at (wires := wires) faulted attempt).2 cause failed
    refine happens_of hs (f := recoveryAttemptEnd i wires) (fun _ => rfl) ((recoveryAttemptEnd_only i wires s).mono (by decide))
      fun t ht _ => ?_
    have ran : (s.modLine i (Line.ran wires)).lines[i] = s.lines[i].ran wires := by rw [State.modLine_at, if_pos rfl]
    have told : attemptFailed i cause (s.modLine i (Line.ran wires)) =
        (failEntries (s.modLine i (Line.ran wires)).lines[i].active (s.modLine i (Line.ran wires))).modLine i (Line.attemptFailed cause) := rfl
    have only := failEntries_only (s.modLine i (Line.ran wires)).lines[i].active (s.modLine i (Line.ran wires))
    have points := failEntries_points (s.modLine i (Line.ran wires)).lines[i].active (s.modLine i (Line.ran wires))
    have drives := failEntries_drives (s.modLine i (Line.ran wires)).lines[i].active (s.modLine i (Line.ran wires))
    rw [own, told] at ht
    rw [ran] at ht only points drives
    generalize failEntries (s.lines[i].ran wires).active (s.modLine i (Line.ran wires)) = u at ht only points drives
    have lines : u.lines = (s.modLine i (Line.ran wires)).lines := only .lines (by decide)
    obtain ⟨others, line⟩ := modLine_lines_of (s := u) (f := Line.attemptFailed cause) (ht .lines (by decide))
    rw [show t.points = u.points from ht .points (by decide), show t.drives = u.drives from ht .drives (by decide)]
    refine ⟨fun j hj => ?_, ?_, fun p => ?_, drives⟩
    · rw [others j hj, lines, State.modLine_at, if_neg (Ne.symm hj)]
    · rw [line, lines, ran]; rfl
    · exact (points p).trans (failedRead_once (once p) s.points[p])
  · exact idles_of hs (f := recoveryAttemptEnd i wires) (fun _ => rfl) (recoveryAttemptEnd_idle other)
end

section
/-! PROOFS. SetDiscrete, ReadDiscrete and ClearEdges (O32). -/

namespace Sys2Proof.Machine

-- One after the other: see Laws/Frames.lean.
set_option Elab.async false

/-! ### The mismatch judged (R59) -/

theorem Discrete.judge_agrees {l : Discrete} (h : l.cfg.out = false ∨ l.level = l.commanded) :
    l.judgeMismatch = { l with mismatchTimer := none, mismatch := false } := by
  unfold Discrete.judgeMismatch
  rw [if_neg]
  rcases h with h | h <;> rw [h] <;> simp

theorem Discrete.judge_differs {l : Discrete} (out : l.cfg.out = true) (h : l.level ≠ l.commanded) : l.judgeMismatch =
    if l.mismatch || l.mismatchTimer.isSome then l else { l with mismatchTimer := some (l.cfg.mismatchTime * 10) } := by
  unfold Discrete.judgeMismatch
  rw [if_pos (by rw [out, Bool.true_and, bne_iff_ne]; exact h)]

/-- A line that showed no disagreement starts its mismatch timer. -/
theorem Discrete.judge_starts {l : Discrete} (out : l.cfg.out = true) (h : l.level ≠ l.commanded) (calm : l.mismatch = false)
    (stopped : l.mismatchTimer = none) : l.judgeMismatch = { l with mismatchTimer := some (l.cfg.mismatchTime * 10) } := by
  rw [Discrete.judge_differs out h, calm, stopped]
  rfl

theorem Discrete.judge_fields (l : Discrete) :
    l.judgeMismatch = { l with mismatch := l.judgeMismatch.mismatch, mismatchTimer := l.judgeMismatch.mismatchTimer } := by
  unfold Discrete.judgeMismatch
  repeat' split
  all_goals rfl

theorem Discrete.setCommanded_same (l : Discrete) : l.setCommanded l.commanded = l := if_pos rfl

theorem Discrete.setCommanded_other {l : Discrete} {c : Bool} (h : c ≠ l.commanded) :
    l.setCommanded c = { l with commanded := c }.judgeMismatch := if_neg (Ne.symm h)

theorem Discrete.setCommanded_fields (c : Bool) (l : Discrete) : l.setCommanded c =
    { l with commanded := c, mismatch := (l.setCommanded c).mismatch, mismatchTimer := (l.setCommanded c).mismatchTimer } := by
  unfold Discrete.setCommanded
  split
  · rename_i h; rw [← h]
  · exact Discrete.judge_fields { l with commanded := c }

/-! ### The bank of lines -/

theorem modDiscrete_lines_of {s u : State} {i : Fin 24} {f : Discrete → Discrete} (h : u.discretes = (s.modDiscrete i f).discretes) :
    (∀ j : Fin 24, j ≠ i → u.discretes[j] = s.discretes[j]) ∧ u.discretes[i] = f s.discretes[i] := by
  rw [h]
  exact ⟨fun j hj => by rw [State.modDiscrete_at, if_neg (Ne.symm hj)], by rw [State.modDiscrete_at, if_pos rfl]⟩

/-- The lines at the end of an event whose work changed one of them. -/
theorem modDiscrete_settled {s u t : State} {i : Fin 24} {f : Discrete → Discrete} (lines : u.discretes = (s.modDiscrete i f).discretes)
    (ht : Same .discretes u t) : (∀ j : Fin 24, j ≠ i → LineSettled j s.discretes[j] t.discretes[j]) ∧
      LineSettled i (f s.discretes[i]) t.discretes[i] := by
  obtain ⟨others, own⟩ := modDiscrete_lines_of lines
  exact ⟨fun j hj => by rw [← others j hj]; exact ht j, by rw [← own]; exact ht i⟩

/-! ### The owners -/

section

variable {line level : Nat} {s : State} {i : Fin 24} {v : Bool}

theorem ownSetDiscrete_bad (h : 24 ≤ line ∨ 2 ≤ level) : ownSetDiscrete line level s = refuse s .badField [] := by
  unfold ownSetDiscrete
  rcases h with h | h
  · rw [ident_none h]
  · have bad : yesNo level = none := Option.eq_none_iff_forall_ne_some.mpr fun b hb => by
      have := exists_yesNo.mp ⟨b, hb⟩
      omega
    rw [bad]
    split
    · rename_i hv; cases hv
    · rfl

theorem ownSetDiscrete_state (h : s.discretes[i].cfg.role = true ∨ s.discretes[i].cfg.out = false ∨ (v = true ∧ (i.val < 8 ∨ i.val = 16))) :
    ownSetDiscrete i.val v.toNat s = refuse s .state [] := by
  unfold ownSetDiscrete
  rw [ident_val, show yesNo v.toNat = some v from yesNo_eq_some.mpr rfl]
  dsimp only
  split
  · rfl
  · rename_i general
    simp only [Bool.or_eq_true, Bool.not_eq_true', not_or] at general
    rw [if_pos]
    obtain ⟨hv, role⟩ := (h.resolve_left general.1).resolve_left general.2
    simpa [hv] using role

theorem ownSetDiscrete_sets (role : s.discretes[i].cfg.role = false) (out : s.discretes[i].cfg.out = true)
    (free : ¬ (v = true ∧ (i.val < 8 ∨ i.val = 16))) :
    ownSetDiscrete i.val v.toNat s = (s.modDiscrete i (Discrete.setCommanded v), ⟨.ok, [BitVec.ofNat 8 v.toNat]⟩) := by
  have byte : Wire.putBool v = [BitVec.ofNat 8 v.toNat] := by cases v <;> rfl
  unfold ownSetDiscrete
  rw [ident_val, show yesNo v.toNat = some v from yesNo_eq_some.mpr rfl]
  dsimp only
  rw [if_neg (by rw [role, out]; decide), if_neg (by simpa [Bool.and_eq_true] using free), byte]
  rfl

end

/-- A line as ClearEdges leaves it. -/
def clearedLine (lines : LineMask) (d : Fin 24) (l : Discrete) : Discrete :=
  if clearsEdge lines d l then { l with edgeSeen := false, edgeReported := false, edgeCount := 0 } else l

theorem clearedLine_seen (lines : LineMask) (d : Fin 24) (l : Discrete) :
    (clearedLine lines d l).edgeSeen = (l.edgeSeen && !clearsEdge lines d l) := by
  unfold clearedLine
  cases clearsEdge lines d l
  · simp
  · simp

theorem ownClearEdges_eq (lines : LineMask) (s : State) : ownClearEdges lines s =
    ({ s with discretes := modifyAll s.discretes (clearedLine lines) },
      ⟨.ok, putLineSet (Vector.ofFn fun d => clearsEdge lines d s.discretes[d]) ++
        putLineSet (Vector.ofFn fun d => s.discretes[d].edgeSeen && !clearsEdge lines d s.discretes[d])⟩) := by
  have seen : (fun d : Fin 24 => (modifyAll s.discretes (clearedLine lines))[d].edgeSeen) =
      fun d => s.discretes[d].edgeSeen && !clearsEdge lines d s.discretes[d] :=
    funext fun d => by rw [modifyAll_get, clearedLine_seen]
  rw [← seen]
  rfl

/-- A line as it is once its edge has been reported by ReadDiscrete. -/
theorem edge_reported (l : Discrete) :
    (if l.edgeSeen then { l with edgeReported := true } else l) = { l with edgeReported := l.edgeReported || l.edgeSeen } := by
  cases h : l.edgeSeen
  · rw [if_neg (by decide), Bool.or_false, ← h]
  · rw [if_pos rfl, Bool.or_true, ← h]

end Sys2Proof.Machine

open Sys2Proof Sys2Proof.Machine

/-- Settles O32. -/
theorem discreteRequests : Obligations.DiscreteRequests := by
  intro tag s hs
  refine ⟨fun line level => ⟨fun bad => refuses_of rfl hs fun v _ => by exact ownSetDiscrete_bad bad, ?_⟩, ?_, fun lines => ?_⟩
  · rintro i v rfl rfl
    refine ⟨fun bad => refuses_of rfl hs fun w _ => ?_, fun role out free => replies_of rfl hs fun w _ => ?_⟩
    · exact ownSetDiscrete_state (s := { s with supervision := w }) bad
    · refine ⟨_, ownSetDiscrete_sets (s := { s with supervision := w }) role out free,
        State.modDiscrete_only _ i _, fun t ht _ => ?_⟩
      obtain ⟨others, own⟩ := modDiscrete_settled (s := { s with supervision := w }) rfl (ht .discretes (by decide))
      obtain ⟨runs, -⟩ := ht .phase (by decide)
      obtain ⟨cfg, pin, pad, level, debounce, seen, reported, count, -, commanded, mismatch, -⟩ := own
      rw [Discrete.setCommanded_fields] at cfg pin pad level debounce seen reported count commanded mismatch
      dsimp only at cfg pin pad level debounce seen reported count commanded mismatch
      have commanded := commanded role
      obtain ⟨flag, timer⟩ := mismatch (.inr role) commanded
      have initialised : t.initialising = false := runs.trans hs.1.1
      refine ⟨others, commanded, cfg, pin, pad, level, debounce, seen, reported, count, ?_, fun same => ?_, fun differs agrees => ?_,
        fun differs disagrees calm stopped => ?_⟩
      · unfold padDriven
        dsimp only
        rw [initialised, cfg, commanded, out]
        rfl
      · rw [flag, timer, same, Discrete.setCommanded_same]
        exact ⟨rfl, rfl⟩
      · rw [flag, timer, Discrete.setCommanded_other differs, Discrete.judge_agrees (.inr agrees)]
        exact ⟨rfl, rfl⟩
      · rw [flag, timer, Discrete.setCommanded_other differs, Discrete.judge_starts (l := { s.discretes[i] with commanded := v }) out disagrees calm stopped]
        exact ⟨calm, rfl⟩
  · refine replies_of rfl hs fun w _ => ⟨_, rfl, setDiscretes_only _ _, fun t ht _ d => ?_⟩
    have own := ht .discretes (by decide) d
    dsimp only at own
    rw [modifyAll_get, edge_reported] at own
    exact own
  · refine replies_of rfl hs fun w _ => ?_
    refine ⟨_, ownClearEdges_eq lines { s with supervision := w }, setDiscretes_only _ _, fun t ht _ d => ?_⟩
    have own := ht .discretes (by decide) d
    dsimp only at own
    rw [modifyAll_get] at own
    exact own
end

section
/-! PROOFS. How the owning blocks take a change of a role level (R57, R64). -/

namespace Sys2Proof.Machine

-- One after the other: see Laws/Frames.lean.
set_option Elab.async false

/-! ### Which owner a line has -/

theorem feedbackLine_inj {j k : Fin 8} : feedbackLine j = feedbackLine k ↔ j = k := by revert j k; decide

theorem feedbackLine_apart (k : Fin 8) : feedbackLine k ≠ breakerClosedLine ∧ feedbackLine k ≠ estopLine := by revert k; decide

theorem roleChanged_feedback (k : Fin 8) (level : Bool) (s : State) : roleChanged (feedbackLine k) level s = feedbackChanged k level s := by
  unfold roleChanged
  have within : 8 ≤ (feedbackLine k).val ∧ (feedbackLine k).val < 16 := by revert k; decide
  rw [dif_pos within]
  congr 1
  revert k; decide

theorem roleChanged_estop (level : Bool) (s : State) : roleChanged estopLine level s = if level then estopEvent s else s := rfl

theorem roleChanged_other {i : Fin 24} (feedback : ∀ k, i ≠ feedbackLine k) (breaker : i ≠ breakerClosedLine) (estop : i ≠ estopLine)
    (level : Bool) (s : State) : roleChanged i level s = s := by
  have outside : ¬ (8 ≤ i.val ∧ i.val < 16) := fun h => feedback ⟨i.val - 8, by omega⟩ (Fin.ext (by simp only [feedbackLine]; omega))
  unfold roleChanged
  rw [dif_neg outside, if_neg breaker, if_neg estop]

theorem estopEvent_eq (s : State) : estopEvent s = estopTurbine (estopWells s) := rfl

/-! ### The wells -/

/-- A well and its drive stand. -/
def WellStands (s t : State) (k : Fin 8) : Prop := t.wells[k] = s.wells[k] ∧ t.drives[wellDrive k] = s.drives[wellDrive k]

theorem WellsReact.of_other {s t : State} {i : Fin 24} {level : Bool} (feedback : ∀ k, i ≠ feedbackLine k)
    (estop : ¬ (i = estopLine ∧ level = true)) (h : ∀ k, WellStands s t k) : WellsReact s t i level := fun k => by
  dsimp only
  rw [if_neg (feedback k), if_neg estop]
  exact h k

theorem WellsReact.of_eq {s u t : State} {i : Fin 24} {level : Bool} (h : WellsReact s u i level) (wells : t.wells = u.wells)
    (drives : ∀ k : Fin 8, t.drives[wellDrive k] = u.drives[wellDrive k]) : WellsReact s t i level := by
  unfold WellsReact at *
  simp only [wells, drives]
  exact h

section

variable {k : Fin 8} {s : State}

theorem feedbackChanged_ofWell (k : Fin 8) (level : Bool) (s : State) : OfWell k s (feedbackChanged k level s) := by
  unfold feedbackChanged
  exact .ite (.ite (.modWell k _ s) (.refl k s)) (.ite (tripWell_ofWell k _ s) (.ite (.modWell k _ s) (.refl k s)))

theorem feedbackChanged_starts (h : s.wells[k].state = .starting) :
    feedbackChanged k true s = s.modWell k (fun w => { w with state := .running, startTimer := none }) := if_pos h

theorem feedbackChanged_seen (h : s.wells[k].state ≠ .starting) : feedbackChanged k true s = s := if_neg h

theorem feedbackChanged_lost (h : s.wells[k].state.isRunning = true) : feedbackChanged k false s = tripWell k .feedbackLost s := if_pos h

theorem feedbackChanged_stops (h : s.wells[k].state = .stopping) : feedbackChanged k false s = s.modWell k Well.completeStop :=
  (if_neg (by rw [h]; decide)).trans (if_pos h)

theorem feedbackChanged_rests (running : s.wells[k].state.isRunning = false) (stopping : s.wells[k].state ≠ .stopping) :
    feedbackChanged k false s = s := (if_neg (by rw [running]; decide)).trans (if_neg stopping)

theorem feedbackChanged_reacts (k : Fin 8) (level : Bool) (s : State) : WellsReact s (feedbackChanged k level s) (feedbackLine k) level := by
  intro j
  dsimp only
  have own := feedbackChanged_ofWell k level s
  by_cases hj : k = j
  · subst hj
    rw [if_pos rfl]
    refine ⟨?_, ?_, ?_, ?_, ?_⟩
    · rintro rfl h
      rw [feedbackChanged_starts h]
      exact ⟨modWell_well k _ s, rfl⟩
    · rintro rfl h
      rw [feedbackChanged_seen h]
      exact ⟨rfl, rfl⟩
    · rintro rfl h
      rw [feedbackChanged_lost h]
      exact tripWell_at rfl rfl _
    · rintro rfl h
      rw [feedbackChanged_stops h]
      exact ⟨modWell_well k _ s, rfl⟩
    · rintro rfl running stopping
      rw [feedbackChanged_rests running stopping]
      exact ⟨rfl, rfl⟩
  · rw [if_neg (mt feedbackLine_inj.mp hj), if_neg (fun h => (feedbackLine_apart k).2 h.1)]
    exact ⟨own.wells j (Ne.symm hj), own.drives _ fun h => hj (wellDrive_inj.mp h).symm⟩

end

/-- The ESTOP event trips every well that is not at rest (R131). -/
theorem estopWells_reacts (s : State) : WellsReact s (estopWells s) estopLine true := by
  intro k
  dsimp only
  obtain ⟨-, -, turn⟩ := forEach_wells (f := fun k s => if s.wells[k].state.atRest then s else tripWell k .estop s)
    (fun k a => .ite (.refl k a) (tripWell_ofWell k _ a)) s
  obtain ⟨a, only, well, drive, after, driveAfter⟩ := turn k
  rw [if_neg (Ne.symm (feedbackLine_apart k).2), if_pos ⟨rfl, rfl⟩]
  have clock : a.clock = s.clock := congrArg Prod.fst (only .clock (by decide))
  rw [well] at after driveAfter
  by_cases rest : s.wells[k].state.atRest = true
  · rw [if_pos rest] at after driveAfter ⊢
    exact ⟨after.trans well, driveAfter.trans drive⟩
  · rw [if_neg rest] at after driveAfter ⊢
    obtain ⟨trips, writes⟩ := tripWell_at well drive .estop
    rw [clock] at trips
    exact ⟨after.trans trips, driveAfter.trans writes⟩

theorem estopWells_others (s : State) (d : Fin 15) (h : 8 ≤ d.val) : (estopWells s).drives[d] = s.drives[d] :=
  (forEach_wells (f := fun k s => if s.wells[k].state.atRest then s else tripWell k .estop s)
    (fun k a => .ite (.refl k a) (tripWell_ofWell k _ a)) s).2.1 d h

/-! ### The governor -/

theorem TurbineReacts.of_stands {s t : State} {i : Fin 24} {level : Bool} (breaker : i ≠ breakerClosedLine)
    (estop : ¬ (i = estopLine ∧ level = true ∧ s.turbine.state.energised = true)) (turbine : t.turbine = s.turbine)
    (drives : ∀ d : Fin 15, 8 ≤ d.val → t.drives[d] = s.drives[d]) (constraints : Same .constraints s t) : TurbineReacts s t i level := by
  refine ⟨fun d hd => drives d (by omega), ?_⟩
  rw [if_neg breaker, if_neg estop]
  exact ⟨turbine, drives _ (by decide), drives _ (by decide), constraints⟩

section

variable {s : State}

theorem breakerChanged_closes (h : s.turbine.state = .rolling ∨ s.turbine.state = .syncWait) :
    breakerChanged true s = passTurbine Turbine.enterLoaded s := by
  unfold breakerChanged
  rcases h with h | h <;> rw [h]

theorem breakerChanged_rejects (h : s.turbine.state = .loaded) : breakerChanged false s = rejectLoad s := by
  unfold breakerChanged; rw [h]

theorem breakerChanged_stops (h : s.turbine.state = .unloading) : breakerChanged false s = stopTurbine s := by
  unfold breakerChanged; rw [h]

theorem breakerChanged_seen (rolling : s.turbine.state ≠ .rolling) (syncWait : s.turbine.state ≠ .syncWait) : breakerChanged true s = s := by
  unfold breakerChanged
  cases h : s.turbine.state <;> first | rfl | contradiction

theorem breakerChanged_rests (loaded : s.turbine.state ≠ .loaded) (unloading : s.turbine.state ≠ .unloading) : breakerChanged false s = s := by
  unfold breakerChanged
  cases h : s.turbine.state <;> first | rfl | contradiction

theorem GovernorDrives.breaker (level : Bool) (s : State) : GovernorDrives s (breakerChanged level s) := by
  have rest (s : State) : GovernorDrives s (restDrives s) := fun d ha he => by
    rw [restDrives_at, if_neg (by rintro (h | h) <;> contradiction)]
  unfold breakerChanged
  split
  · exact .pass _ s
  · exact .pass _ s
  · exact ((GovernorDrives.modTurbine _ s).trans (.admission _ _)).trans (.recomputeGrant _)
  · exact (rest s).trans (.pass _ _)
  · exact .refl s

theorem Turbine.enterLoaded_eq (t : Turbine) : t.enterLoaded = { t with
    state := .loaded, rollTimer := none, headerCount := 0, powerSetpoint := t.powerView.getD t.cfg.minLoad,
    pendingLoop := some (if t.mode = .load then .power else .header), loadReject := false } := by
  unfold Turbine.enterLoaded
  cases t.mode <;> rfl

theorem Turbine.settleGrant_none {t : Turbine} (h : t.state ≠ .loaded) : t.settleGrant.grant.grant = 0 := by
  show grantOf t = 0
  exact if_neg fun k => h k.1

theorem estopTurbine_trips {a : State} (h : a.turbine.state.energised = true) : estopTurbine a = tripTurbine .estop none a := if_pos h

theorem estopTurbine_rests {a : State} (h : ¬ a.turbine.state.energised = true) : estopTurbine a = a := if_neg h

/-- A change of BRK_CLOSED, as the governor takes it (R144, R148, R150). -/
theorem breakerChanged_reacts (level : Bool) {t : State} (turbine : t.turbine = (breakerChanged level s).turbine)
    (drives : t.drives = (breakerChanged level s).drives) (constraints : Same .constraints (breakerChanged level s) t) :
    TurbineReacts s t breakerClosedLine level := by
  have kept : Same .constraints s t := Same.trans (by decide) (by decide) (breakerChanged_only level s .constraints (by decide)).same constraints
  refine ⟨fun d hd => ?_, ?_⟩
  · rw [drives]
    exact GovernorDrives.breaker level s d (fun e => by subst e; revert hd; decide) (fun e => by subst e; revert hd; decide)
  · rw [if_pos rfl, turbine, drives]
    refine ⟨?_, ?_, ?_, ?_, ?_⟩
    · rintro rfl h
      rw [breakerChanged_closes h]
      have record : (passTurbine Turbine.enterLoaded s).turbine = s.turbine.enterLoaded.settleGrant := recomputeGrant_turbine _
      refine ⟨by rw [record, Turbine.enterLoaded_eq], recomputeGrant_admission _, ?_, kept⟩
      rw [record]
      exact (recomputeGrant_extraction _).trans (if_pos rfl)
    · rintro rfl h
      rw [breakerChanged_rejects h]
      have record : (rejectLoad s).turbine = s.turbine.reject.settleGrant := recomputeGrant_turbine _
      refine ⟨record, ?_, ?_, ?_, kept⟩
      · rw [record]
        exact Turbine.settleGrant_none (by nofun)
      · rw [record]
        exact (recomputeGrant_admission _).trans ((writeDrive_at _ _ _ _).trans (if_pos rfl))
      · rw [record]
        refine (recomputeGrant_extraction _).trans ((if_pos rfl).trans ?_)
        rw [writeDrive_at, if_neg (by decide)]
        rfl
    · rintro rfl h
      rw [breakerChanged_stops h]
      have record : (stopTurbine s).turbine = ({ s.turbine with
          state := .stopped, rollTimer := none, breakerTimer := none, openCommanded := false } : Turbine).settleGrant := recomputeGrant_turbine _
      have rests (d : Fin 15) : (stopTurbine s).drives[d] = (restDrives s).drives[d] :=
        (recomputeGrant_drive d _).trans (if_neg fun h => nomatch h.2)
      refine ⟨record, ?_, ?_, ?_, kept⟩
      · rw [record]
        exact Turbine.settleGrant_none (by nofun)
      · rw [rests, restDrives_at]; rfl
      · rw [rests, restDrives_at]; rfl
    · rintro rfl rolling syncWait
      rw [breakerChanged_seen rolling syncWait]
      exact ⟨rfl, rfl, rfl, kept⟩
    · rintro rfl loaded unloading
      rw [breakerChanged_rests loaded unloading]
      exact ⟨rfl, rfl, rfl, kept⟩

theorem TurbineReacts.of_trip {t : State} (energised : s.turbine.state.energised = true)
    (others : ∀ d : Fin 15, 10 ≤ d.val → t.drives[d] = s.drives[d])
    (h : t.turbine = s.turbine.trip s.clock .estop none ∧ TripSpreads s t s.drives[admissionDrive]) : TurbineReacts s t estopLine true := by
  have line : estopLine ≠ breakerClosedLine := by decide
  have active : estopLine = estopLine ∧ true = true ∧ s.turbine.state.energised = true := ⟨rfl, rfl, energised⟩
  refine ⟨others, ?_⟩
  rw [if_neg line, if_pos active]
  exact h

/-- The ESTOP event at the governor, after the wells have taken it (R151). -/
theorem estopTurbine_reacts {qs : List Part} {a t : State} (only : Only [.wells, .drives] s a)
    (others : ∀ d : Fin 15, 8 ≤ d.val → a.drives[d] = s.drives[d]) (reacts : WellsReact s a estopLine true)
    (ht : UnchangedBut qs (estopTurbine a) t) (apart : Part.constraints ∉ qs ∧ Part.wells ∉ qs ∧ Part.heating ∉ qs)
    (own : Part.turbine ∉ qs ∧ Part.drives ∉ qs) : WellsReact s t estopLine true ∧ TurbineReacts s t estopLine true := by
  have turbine : a.turbine = s.turbine := only .turbine (by decide)
  have clock : a.clock = s.clock := congrArg Prod.fst (only .clock (by decide))
  have kept : (estopTurbine a).wells = a.wells := estopTurbine_only a .wells (by decide)
  have ended : t.wells = (estopTurbine a).wells := ht .wells apart.2.1
  have wells : t.wells = a.wells := ended.trans kept
  by_cases energised : s.turbine.state.energised = true
  · rw [estopTurbine_trips (by rw [turbine]; exact energised)] at ht
    obtain ⟨record, spreads, stand⟩ := tripTurbine_leaves (s := s) .estop none ht (only .constraints (by decide)).same clock
      (by rw [turbine]) (others _ (by decide)) apart own
    refine ⟨reacts.of_eq wells fun k => stand _ ?_ ?_, .of_trip energised (fun d hd => ?_) ?_⟩
    · exact fun e => by have := congrArg Fin.val e; simp only [wellDrive, admissionDrive] at this; omega
    · exact fun e => by have := congrArg Fin.val e; simp only [wellDrive, extractionDrive] at this; omega
    · rw [stand d (fun e => by subst e; revert hd; decide) (fun e => by subst e; revert hd; decide)]
      exact others d (by omega)
    · rw [turbine, clock] at record
      rw [others admissionDrive (by decide)] at spreads
      exact ⟨record, spreads⟩
  · rw [estopTurbine_rests (by rw [turbine]; exact energised)] at ht
    have drives : t.drives = a.drives := ht .drives own.2
    exact ⟨reacts.of_eq wells fun k => by rw [drives], .of_stands (by decide) (fun h => energised h.2.2)
      (Eq.trans (ht .turbine own.1) turbine) (fun d hd => by rw [drives]; exact others d hd)
      (Same.trans (by decide) (by decide) (only .constraints (by decide)).same (ht .constraints apart.1))⟩

end

/-- The owning blocks at a change of a role level. -/
theorem roleChanged_reacts {qs : List Part} {s t : State} {i : Fin 24} {level : Bool} (ht : UnchangedBut qs (roleChanged i level s) t)
    (apart : Part.constraints ∉ qs ∧ Part.wells ∉ qs ∧ Part.heating ∉ qs := by decide)
    (own : Part.turbine ∉ qs ∧ Part.drives ∉ qs := by decide) : WellsReact s t i level ∧ TurbineReacts s t i level := by
  have wells : t.wells = _ := ht .wells apart.2.1
  have turbine : t.turbine = _ := ht .turbine own.1
  have drives : t.drives = _ := ht .drives own.2
  have constraints := ht .constraints apart.1
  by_cases feedback : ∃ k, i = feedbackLine k
  · obtain ⟨k, rfl⟩ := feedback
    rw [roleChanged_feedback] at wells turbine drives constraints
    have ofWell := feedbackChanged_ofWell k level s
    have only := ofWell.only
    refine ⟨(feedbackChanged_reacts k level s).of_eq wells fun j => by rw [drives],
      .of_stands (feedbackLine_apart k).1 (fun h => (feedbackLine_apart k).2 h.1) (turbine.trans (only .turbine (by decide)))
        (fun d hd => ?_) (Same.trans (by decide) (by decide) (only .constraints (by decide)).same constraints)⟩
    rw [drives]
    exact ofWell.drives d (wellDrive_ne hd).symm
  · have feedback (k : Fin 8) : i ≠ feedbackLine k := fun h => feedback ⟨k, h⟩
    by_cases breaker : i = breakerClosedLine
    · subst breaker
      have only := breakerChanged_only level s
      have others := GovernorDrives.breaker level s
      refine ⟨.of_other feedback (fun h => absurd h.1 (by decide)) fun k => ⟨?_, ?_⟩, breakerChanged_reacts level turbine drives constraints⟩
      · rw [wells]
        exact congrArg (·[k]) (only .wells (by decide))
      · rw [drives]
        exact others _ (fun e => by have := congrArg Fin.val e; simp only [wellDrive, admissionDrive] at this; omega)
          (fun e => by have := congrArg Fin.val e; simp only [wellDrive, extractionDrive] at this; omega)
    · by_cases estop : i = estopLine ∧ level = true
      · obtain ⟨rfl, rfl⟩ := estop
        rw [roleChanged_estop, if_pos rfl, estopEvent_eq] at ht
        exact estopTurbine_reacts (estopWells_only s) (estopWells_others s) (estopWells_reacts s) ht apart own
      · have stands : roleChanged i level s = s := by
          by_cases e : i = estopLine
          · subst e
            exact if_neg fun h => estop ⟨rfl, h⟩
          · exact roleChanged_other feedback breaker e level s
        rw [stands] at wells turbine drives constraints
        exact ⟨.of_other feedback estop fun k => ⟨by rw [wells], by rw [drives]⟩,
          .of_stands breaker (fun h => estop ⟨h.1, h.2.1⟩) turbine (fun d _ => by rw [drives]) constraints⟩

/-- What the owning blocks know stands in both states. -/
structure OwnersStand (s a : State) : Prop where
  wells : a.wells = s.wells
  turbine : a.turbine = s.turbine
  drives : a.drives = s.drives
  slots : a.slots = s.slots
  bounds : a.bounds = s.bounds
  combined : a.combined = s.combined
  clock : a.clock = s.clock

theorem OwnersStand.reacts {s a t : State} {i : Fin 24} {level : Bool} (h : OwnersStand s a)
    (reacts : WellsReact a t i level ∧ TurbineReacts a t i level) : WellsReact s t i level ∧ TurbineReacts s t i level := by
  obtain ⟨wells, turbine, drives, slots, bounds, combined, clock⟩ := h
  unfold WellsReact TurbineReacts TripSpreads RunbackPosted Posted Same at *
  simp only [wells, turbine, drives, slots, bounds, combined, clock] at reacts
  exact reacts

end Sys2Proof.Machine
end

section
/-! PROOFS. What the end of an event leaves of a line that has been judged, and how a level is handed on (R57 to R59). -/

namespace Sys2Proof.Machine

-- One after the other: see Laws/Frames.lean.
set_option Elab.async false

/-! ### The end of an event, stretch by stretch -/

/-- The end of an event whose idle transmitter has nothing to send before it. -/
theorem finish_settling (u : State) (h : u.link.idleClear) : Settling u (finish u) := by
  have settled := settle_settling u
  have sending := settle_sending u
  have outgoing := settle_frame u .outgoing (by decide)
  have requests := settled.1 .requests (by decide) (by decide)
  have notices := settled.1 .notices (by decide) (by decide)
  unfold finish transmit
  split
  · rename_i c idle chosen
    obtain ⟨replies, busy, started, -, edge⟩ := h (sending.symm.trans idle)
    rw [arbiter_idle (outgoing.1.trans replies) (requests.2.1.trans busy) (notices.1.trans started) (notices.2.trans edge)] at chosen
    obtain ⟨n, -, rfl⟩ := Option.map_eq_some_iff.mp chosen
    exact (settled.trans (beginCondition_settling _ _)).trans (settle_settling _)
  · exact settled

section

variable {c : Instr} {s : State} {changed : List Part} {P : State → Prop}

/-- An event that is claimed of as its end leaves it. -/
theorem happens_finish {f : State → State} (h : Running s) (hc : exec c s = event f s) (hu : Only changed s (f s))
    (outcome : (f s).link.idleClear → P (finish (f s)))
    (apart : Part.requests ∉ changed ∧ Part.notices ∉ changed ∧ Part.outgoing ∉ changed ∧ Part.conditions ∉ changed := by decide) :
    Happens c s changed P := by
  obtain ⟨t, he, -, frame⟩ := event_completes f h hu apart.1 apart.2.1 apart.2.2.1 apart.2.2.2
  have requests := hu .requests apart.1
  have notices := hu .notices apart.2.1
  have outgoing := hu .outgoing apart.2.2.1
  have conditions := hu .conditions apart.2.2.2
  simp only [Exact, Prod.mk.injEq] at requests notices outgoing conditions
  refine ⟨t, hc.trans he, ?_, frame⟩
  rw [event_running h.1] at he
  cases he
  refine outcome fun idle => ?_
  obtain ⟨replies, busy, started, condition, edge⟩ := h.2 (outgoing.2.2.symm.trans idle)
  exact ⟨outgoing.1.trans replies, requests.2.1.trans busy, notices.1.trans started, conditions.2.trans condition, notices.2.trans edge⟩

/-- An event whose claim needs what the settling may have done to each line. -/
theorem happens_settling {f : State → State} (h : Running s) (hc : exec c s = event f s) (hu : Only changed s (f s))
    (outcome : ∀ t, Settling (f s) t → Rested t → P t)
    (apart : Part.requests ∉ changed ∧ Part.notices ∉ changed ∧ Part.outgoing ∉ changed ∧ Part.conditions ∉ changed := by decide) :
    Happens c s changed P :=
  happens_finish h hc hu (fun idle => outcome _ (finish_settling _ idle) (finish_rested _)) apart

/-- A request whose claim needs what the settling may have done to each line. -/
theorem replies_settling {tag : Byte} {r : Request} (hc : c.request = some (tag, r)) (h : Ready s) {status : Status}
    {content : List Byte}
    (own : ∀ v : Supervision, v.state = s.supervision.state → ∃ u, applyRequest r { s with supervision := v } = (u, ⟨status, content⟩) ∧
      Only changed { s with supervision := v } u ∧ ∀ t, Settling u t → Rested t → P t)
    (apart : Part.requests ∉ changed ∧ Part.outgoing ∉ changed ∧ Part.supervision ∉ changed := by decide)
    {kind : Nat} (hk : r.kind = kind := by rfl) : Replies c s kind tag status content changed P := by
  obtain ⟨v, hv, hstate, refreshed⟩ := refreshSupervision_eq s
  obtain ⟨u, answer, only, outcome⟩ := own v hstate
  obtain ⟨t, ht, -, answered, frame⟩ := replies_heard (P := fun _ => True) hc h hv refreshed ⟨u, answer, only, fun _ _ _ => trivial⟩ apart hk
  have he : onRequest tag r s = .next t := (exec_request hc s).symm.trans ht
  refine ⟨t, ht, outcome t ?_ (event_rested h.1.1 he), answered, frame⟩
  have requests := only .requests apart.1
  have outgoing := only .outgoing apart.2.1
  simp only [Exact, Prod.mk.injEq] at requests outgoing
  have e : onRequest tag r s = .next (finish (arriveRequest tag r s)) := event_running h.1.1
  rw [arriveRequest_ready tag r h, hv, answer] at e
  cases he.symm.trans e
  refine finish_reply_settling _ tag _ u (requests.1.trans h.2.1) fun idle => ?_
  obtain ⟨replies, busy, -⟩ := h.1.2 (outgoing.2.2.symm.trans idle)
  exact ⟨outgoing.1.trans replies, requests.2.1.trans busy⟩

end

/-! ### A line that was judged before the settling -/

theorem LineAsked.rejudged {d : Fin 24} {c : Bool} {l m : Discrete} (h : LineAsked d c l m) : Rejudged l m := by
  unfold LineAsked at h
  split at h
  · obtain ⟨-, -, -, -, -, -, -, -, -, judged⟩ := h
    exact judged
  · rcases h with rfl | ⟨-, rfl⟩
    · exact Rejudged.refl _
    · exact Rejudged.take c l

/-- A line shows no mismatch where it agrees with its command (R59). -/
def Discrete.Clean (l : Discrete) : Prop := l.cfg.out = false ∨ l.level = l.commanded → l.mismatch = false ∧ l.mismatchTimer = none

/-- A line that disagrees with its command has just begun to (R59). -/
def Discrete.Starts (l : Discrete) : Prop := l.cfg.out = true → l.level ≠ l.commanded →
  l.mismatch = false ∧ l.mismatchTimer = some (l.cfg.mismatchTime * 10)

theorem Discrete.judge_clean (l : Discrete) : l.judgeMismatch.Clean := fun h => by
  have agrees : l.cfg.out = false ∨ l.level = l.commanded := by
    rw [Discrete.judge_fields] at h
    exact h
  rw [Discrete.judge_agrees agrees]
  exact ⟨rfl, rfl⟩

theorem Discrete.judge_begins {l : Discrete} (calm : l.cfg.out = true → l.level ≠ l.commanded → l.mismatch = false ∧ l.mismatchTimer = none) :
    l.judgeMismatch.Starts := fun h k => by
  have ⟨out, differs⟩ : l.cfg.out = true ∧ l.level ≠ l.commanded := by
    rw [Discrete.judge_fields] at h k
    exact ⟨h, k⟩
  obtain ⟨flag, timer⟩ := calm out differs
  rw [Discrete.judge_starts out differs flag timer]
  exact ⟨flag, rfl⟩

theorem Discrete.judged_agrees {m : Discrete} (h : m.cfg.out = false ∨ m.level = m.commanded) : m.judged = (false, none) := by
  unfold Discrete.judged
  rw [if_neg]
  rcases h with h | h <;> rw [h] <;> simp

theorem Discrete.judged_differs {m : Discrete} (out : m.cfg.out = true) (h : m.level ≠ m.commanded) :
    m.judged = (false, some (m.cfg.mismatchTime * 10)) := by
  unfold Discrete.judged
  rw [if_pos (by rw [out, Bool.true_and, bne_iff_ne]; exact h)]

section

variable {l m : Discrete} (h : Rejudged l m) (cfg : m.cfg = l.cfg) (level : m.level = l.level)
include h cfg level

theorem Rejudged.clean (clean : l.Clean) : m.Clean := fun agrees => by
  have judged (e : (m.mismatch, m.mismatchTimer) = m.judged) : m.mismatch = false ∧ m.mismatchTimer = none := by
    rw [Discrete.judged_agrees agrees] at e
    exact Prod.mk.inj e
  by_cases same : m.commanded = l.commanded
  · rcases h.1 with e | e
    · obtain ⟨flag, timer⟩ := Prod.mk.inj e
      rw [flag, timer]
      rw [cfg, level, same] at agrees
      exact clean agrees
    · exact judged e
  · exact judged (h.2 same (.inl agrees))

theorem Rejudged.starts (clean : l.Clean) (starts : l.Starts) : m.Starts := fun out differs => by
  have judged (e : (m.mismatch, m.mismatchTimer) = m.judged) : m.mismatch = false ∧ m.mismatchTimer = some (m.cfg.mismatchTime * 10) := by
    rw [Discrete.judged_differs out differs] at e
    exact Prod.mk.inj e
  by_cases same : m.commanded = l.commanded
  · rcases h.1 with e | e
    · obtain ⟨flag, timer⟩ := Prod.mk.inj e
      rw [flag, timer, cfg]
      rw [level, same] at differs
      rw [cfg] at out
      exact starts out differs
    · exact judged e
  · have agreed : l.level = l.commanded := by
      rw [level] at differs
      cases hl : l.level <;> cases hc : l.commanded <;> cases hm : m.commanded <;> simp_all
    exact judged (h.2 same (.inr (clean (.inr agreed))))

end

/-! ### The outputs of a role -/

/-- The lines whose role is an output (section 3.1), ALARM aside. -/
theorem output_cases {i : Fin 24} (out : roleIsOutput i = true) (other : i ≠ alarmLine) :
    (∃ k, i = runLine k) ∨ i = stopValveLine ∨ i = breakerOpenLine := by
  revert i; decide

theorem OwnersFollowed.follows {s : State} (h : OwnersFollowed s) {i : Fin 24} (out : roleIsOutput i = true) (other : i ≠ alarmLine) :
    s.discretes[i].Follows (asks s i) := by
  obtain ⟨runs, valve, breaker⟩ := h
  rcases output_cases out other with ⟨k, rfl⟩ | rfl | rfl
  · rw [asks_runLine]
    exact runs k
  · exact valve
  · exact breaker

/-- A line in ROLE drives what its owner asks for, ALARM too. -/
theorem Rested.driven {t : State} (h : Rested t) {i : Fin 24} (out : roleIsOutput i = true) (role : t.discretes[i].cfg.role = true) :
    t.discretes[i].commanded = t.discretes[i].roleCommand := by
  obtain ⟨owners, alarm⟩ := (outputsFollow_iff t).mp h.1
  by_cases e : i = alarmLine
  · subst e
    exact alarm.2 role
  · exact (owners.follows out e).2 role

theorem roleChanged_output {i : Fin 24} (out : roleIsOutput i = true) (level : Bool) (s : State) : roleChanged i level s = s := by
  have apart : (∀ k, i ≠ feedbackLine k) ∧ i ≠ breakerClosedLine ∧ i ≠ estopLine := by revert i; decide
  exact roleChanged_other apart.1 apart.2.1 apart.2.2 level s

theorem deliverRole_output {i : Fin 24} (out : roleIsOutput i = true) (before : Bool) (s : State) : deliverRole i before s = s :=
  ite_eq_left_iff.mpr fun _ => roleChanged_output out _ s

theorem deliverRole_same {i : Fin 24} {before : Bool} {s : State} (h : before = s.discretes[i].roleLevel) : deliverRole i before s = s :=
  if_pos h

theorem deliverRole_other {i : Fin 24} {before : Bool} {s : State} (h : before ≠ s.discretes[i].roleLevel) :
    deliverRole i before s = roleChanged i s.discretes[i].roleLevel s := if_neg h

/-- An output of a role that is handed on keeps what its owner asks for, ALARM aside. -/
theorem output_stands {s u t : State} {i : Fin 24} (before : OutputsFollow s) (after : Rested t) (settling : Settling u t)
    (only : Only [.discretes, .points] s u) (others : ∀ j : Fin 24, j ≠ i → u.discretes[j] = s.discretes[j])
    (out : roleIsOutput i = true) (other : i ≠ alarmLine) : t.discretes[i].roleCommand = s.discretes[i].roleCommand := by
  have apart : breakerClosedLine ≠ i := fun e => by rw [← e] at out; exact absurd out (by decide)
  have same : asks u i = asks s i := asks_eq (only .wells (by decide)) (only .turbine (by decide)) (others _ apart) i
  rw [(((outputsFollow_iff t).mp after.1).1.follows out other).1, (((outputsFollow_iff s).mp before).1.follows out other).1,
    settling.asks, same]

/-! ### The point and the owner -/

theorem linePoint_congr {s a : State} (h : a.points = s.points) (i : Fin 24) : linePoint a i = linePoint s i := by
  unfold linePoint; rw [h]

/-- The point bound to a line takes its level (R13, R57). -/
theorem readLinePoint_reads {s a u : State} {i : Fin 24} {level : Bool} (points : a.points = s.points)
    (taken : a.discretes[i].level = level) (h : u.points = (readLinePoint i a).points) : PointReads s u i level := fun p => by
  subst taken
  rw [h, readLinePoint, linePoint_congr points i]
  cases bound : linePoint s i with
  | none => rw [if_neg nofun, points]
  | some q =>
    show (a.modPoint q _).points[p] = _
    rw [State.modPoint_at, points]
    by_cases e : q = p
    · subst e
      rw [if_pos rfl, if_pos rfl]
    · rw [if_neg e, if_neg fun k => e (Option.some.inj k)]

theorem OwnersStand.of_only {s a : State} (h : Only [.discretes, .points, .supervision] s a) : OwnersStand s a where
  wells := h .wells (by decide)
  turbine := h .turbine (by decide)
  drives := h .drives (by decide)
  slots := congrArg Prod.fst (h .constraints (by decide))
  bounds := congrArg (fun x => x.2.1) (h .constraints (by decide))
  combined := congrArg (fun x => x.2.2) (h .constraints (by decide))
  clock := congrArg Prod.fst (h .clock (by decide))

end Sys2Proof.Machine
end

section
/-! PROOFS. ConfigureDiscrete (O31). -/

namespace Sys2Proof.Machine

-- One after the other: see Laws/Frames.lean.
set_option Elab.async false

/-! ### The check of the fields (R53) -/

theorem EdgeKind.choice_eq_some {n : Nat} {k : EdgeKind} : choice EdgeKind.choices n = some k ↔ k.code = n := by
  match n with
  | 0 | 1 | 2 => cases k <;> decide
  | n + 3 =>
    refine ⟨nofun, fun h => ?_⟩
    cases k <;> simp [EdgeKind.code] at h

theorem exists_edgeKind {n : Nat} : (∃ k : EdgeKind, k.code = n) ↔ n ≤ 2 := by
  refine ⟨?_, fun h => ?_⟩
  · rintro ⟨k, rfl⟩
    cases k <;> decide
  · obtain ⟨k, hk⟩ := choice_of_lt (l := EdgeKind.choices) (n := n) (Nat.lt_succ_of_le h)
    exact ⟨k, EdgeKind.choice_eq_some.mp hk⟩

theorem yesNo_iff {n : Nat} {b : Bool} : yesNo n = some b ↔ n ≤ 1 ∧ b = decide (n = 1) := by
  match n with
  | 0 | 1 => cases b <;> decide
  | n + 2 => exact ⟨nofun, fun h => absurd h.1 (by omega)⟩

/-- The ranges of R53. -/
def DiscreteFields.InRange (q : DiscreteFields) : Prop :=
  q.line ≤ 23 ∧ q.select ≤ 1 ∧ (q.select = 1 → q.direction ≤ 1) ∧ q.polarity ≤ 1 ∧ q.sense ≤ 1 ∧
    q.edgeKind ≤ 2 ∧ q.debounce ≤ 255 ∧ (1 ≤ q.mismatchTime ∧ q.mismatchTime ≤ 255) ∧ (q.select = 0 → q.line ≤ 20) ∧
    (q.sense = 1 → q.select = 1 ∧ q.direction = 0)

/-- The configuration that the fields give a line (R53). -/
def DiscreteFields.Gives (q : DiscreteFields) (i : Fin 24) (new : DiscreteConfig) : Prop :=
  i.val = q.line ∧ new.role = decide (q.select = 0) ∧ new.inverted = decide (q.polarity = 1) ∧
    new.edge = decide (q.sense = 1) ∧ new.edgeKind.code = q.edgeKind ∧ new.debounce = q.debounce ∧
    new.mismatchTime = q.mismatchTime ∧ new.out = if q.select = 0 then roleIsOutput i else decide (q.direction = 1)

theorem DiscreteFields.direction_eq_some {q : DiscreteFields} {i : Fin 24} {general out : Bool} (h : q.select ≤ 1 ∧ general = decide (q.select = 1)) :
    (if general then yesNo q.direction else some (roleIsOutput i)) = some out ↔
      (q.select = 1 → q.direction ≤ 1) ∧ out = if q.select = 0 then roleIsOutput i else decide (q.direction = 1) := by
  obtain ⟨select, rfl⟩ := h
  by_cases general : q.select = 1
  · rw [if_pos (decide_eq_true general), yesNo_iff, if_neg (by omega)]
    simp [general]
  · have role : q.select = 0 := by omega
    simp [role, eq_comm]

theorem DiscreteFields.check_eq (q : DiscreteFields) : DiscreteFields.check q =
    (ident 24 q.line).bind fun line => (yesNo q.select).bind fun general =>
      (if general then yesNo q.direction else some (roleIsOutput line)).bind fun out =>
        (yesNo q.polarity).bind fun inverted => (yesNo q.sense).bind fun edge => (choice EdgeKind.choices q.edgeKind).bind fun edgeKind =>
          (require (withinNat 0 255 q.debounce && withinNat 1 255 q.mismatchTime)).bind fun _ =>
            (require (general || hasRole line)).bind fun _ => (require (!edge || (general && !out))).bind fun _ =>
              some (line, ⟨!general, out, inverted, edge, edgeKind, q.debounce, q.mismatchTime⟩) := by
  refine congrArg (ident 24 q.line).bind (funext fun line => congrArg (yesNo q.select).bind (funext fun general => ?_))
  cases general <;> rfl

theorem DiscreteFields.check_eq_some {q : DiscreteFields} {i : Fin 24} {new : DiscreteConfig} :
    DiscreteFields.check q = some (i, new) ↔ DiscreteFields.InRange q ∧ DiscreteFields.Gives q i new := by
  obtain ⟨role, out, inverted, edge, edgeKind, debounce, mismatchTime⟩ := new
  rw [DiscreteFields.check_eq]
  unfold DiscreteFields.InRange DiscreteFields.Gives
  simp only [Option.bind_eq_some_iff, ident_some, yesNo_iff, EdgeKind.choice_eq_some, require_eq_some, Bool.and_eq_true,
    withinNat_iff, Bool.or_eq_true, Bool.not_eq_true', hasRole, decide_eq_true_eq, Option.some.injEq,
    Prod.mk.injEq, DiscreteConfig.mk.injEq]
  refine ⟨?_, ?_⟩
  · rintro ⟨line, number, general, select, o, direction, inv, polarity, sensed, sense, kind, code, -, ⟨debounced, time⟩, -, roles, -, edges,
      rfl, rfl, rfl, rfl, rfl, rfl, rfl, rfl⟩
    obtain ⟨given, rfl⟩ := (DiscreteFields.direction_eq_some select).mp direction
    obtain ⟨select, rfl⟩ := select
    obtain ⟨polarity, rfl⟩ := polarity
    obtain ⟨sense, rfl⟩ := sense
    have line := line.isLt
    simp only [decide_eq_true_eq, decide_eq_false_iff_not] at roles edges
    refine ⟨⟨by omega, select, given, polarity, sense, ?_, debounced.2, time, fun h => ?_, fun h => ?_⟩, number.symm, ?_, rfl, rfl, code, rfl, rfl, rfl⟩
    · rw [← exists_edgeKind]; exact ⟨_, code⟩
    · rcases roles with k | k <;> omega
    · rcases edges with k | ⟨general, k⟩
      · exact absurd h k
      · rw [if_neg (by omega)] at k
        have := given general
        simp only [decide_eq_false_iff_not] at k
        exact ⟨general, by omega⟩
    · rw [Bool.eq_iff_iff]
      simp only [Bool.not_eq_true', decide_eq_false_iff_not, decide_eq_true_eq]
      omega
  · rintro ⟨⟨line, select, direction, polarity, sense, kind, debounced, time, roles, edges⟩, number, rfl, rfl, rfl, code, rfl, rfl, rfl⟩
    refine ⟨i, number.symm, decide (q.select = 1), ⟨select, rfl⟩, _, (DiscreteFields.direction_eq_some ⟨select, rfl⟩).mpr ⟨direction, rfl⟩,
      _, ⟨polarity, rfl⟩, _, ⟨sense, rfl⟩, edgeKind, code, (), ⟨⟨Nat.zero_le _, debounced⟩, time⟩, (), ?_, (), ?_, rfl, ?_, rfl, rfl, rfl, rfl, rfl, rfl⟩
    · by_cases h : q.select = 1
      · exact .inl (decide_eq_true h)
      · exact .inr (by have := roles (by omega); omega)
    · by_cases h : q.sense = 1
      · obtain ⟨general, given⟩ := edges h
        refine .inr ⟨decide_eq_true general, ?_⟩
        rw [if_neg (by omega), given]; rfl
      · exact .inl (by simp [h])
    · rw [Bool.eq_iff_iff]
      simp only [Bool.not_eq_true', decide_eq_false_iff_not, decide_eq_true_eq]
      omega

theorem DiscreteFields.check_none_iff {q : DiscreteFields} : DiscreteFields.check q = none ↔ ¬ DiscreteFields.InRange q := by
  rw [Option.eq_none_iff_forall_ne_some]
  refine ⟨fun h range => ?_, fun h r hr => h (DiscreteFields.check_eq_some (i := r.1) (new := r.2) |>.mp hr).1⟩
  obtain ⟨line, -, -, -, -, kind, -⟩ := id range
  obtain ⟨kind, code⟩ := exists_edgeKind.mpr kind
  exact h (⟨q.line, Nat.lt_succ_of_le line⟩, ⟨_, _, _, _, kind, _, _⟩)
    (DiscreteFields.check_eq_some.mpr ⟨range, rfl, rfl, rfl, rfl, code, rfl, rfl, rfl⟩)

/-! ### The role in use (R54) -/

theorem wellNeedsLines_iff {s : State} {k : Fin 8} : wellNeedsLines s k = true ↔
    ¬ (s.wells[k].state = .off ∨ s.wells[k].state = .lockedOut ∨ s.wells[k].state = .tripped) := by
  unfold wellNeedsLines
  cases s.wells[k].state <;> simp [WellState.atRest]

theorem turbineNeedsLines_iff {s : State} : turbineNeedsLines s = true ↔ ¬ (s.turbine.state = .stopped ∨ s.turbine.state = .tripped) := by
  unfold turbineNeedsLines
  cases s.turbine.state <;> simp [TurbineState.energised]

theorem estopActive_iff {s : State} : estopActive s = true ↔
    s.discretes[estopLine].cfg.role = true ∧ s.discretes[estopLine].cfg.out = false ∧ s.discretes[estopLine].level = true := by
  simp only [estopActive, Discrete.roleLevel, Bool.and_eq_true, Bool.not_eq_true', and_assoc]

theorem ownerNeeds_iff {s : State} {i : Fin 24} : ownerNeeds s i = true ↔
    (∃ k : Fin 8, (i.val = k.val ∨ i.val = k.val + 8) ∧ wellNeedsLines s k = true) ∨
      ((i.val = 16 ∨ i.val = 17 ∨ i.val = 18) ∧ turbineNeedsLines s = true) ∨
      (i.val = 19 ∧ (estopActive s = true ∨ (∃ k : Fin 8, wellNeedsLines s k = true) ∨ turbineNeedsLines s = true)) := by
  have estop : i = estopLine ↔ i.val = 19 := Fin.ext_iff
  have own (k : Fin 8) (h : i.val = k.val ∨ i.val = k.val + 8) : (∃ j : Fin 8, (i.val = j.val ∨ i.val = j.val + 8) ∧ wellNeedsLines s j = true) ↔
      wellNeedsLines s k = true := by
    refine ⟨fun ⟨j, hj, needs⟩ => ?_, fun needs => ⟨k, h, needs⟩⟩
    have e : j = k := Fin.ext (by omega)
    rwa [← e]
  have none (h : 16 ≤ i.val) : ¬ ∃ j : Fin 8, (i.val = j.val ∨ i.val = j.val + 8) ∧ wellNeedsLines s j = true := by
    rintro ⟨j, hj, -⟩
    omega
  unfold ownerNeeds
  split
  · rename_i h
    rw [own ⟨i.val, h⟩ (.inl rfl)]
    exact ⟨.inl, fun h => h.resolve_right (by omega)⟩
  · split
    · rename_i h
      rw [own ⟨i.val - 8, by omega⟩ (.inr (by simp only; omega))]
      exact ⟨.inl, fun h => h.resolve_right (by omega)⟩
    · split
      · exact ⟨fun needs => .inr (.inl ⟨by omega, needs⟩), fun h => ((h.resolve_left (none (by omega))).resolve_right (by omega)).2⟩
      · split
        · rename_i e
          rw [Bool.or_eq_true, Bool.or_eq_true, any_indexes, or_assoc]
          exact ⟨fun h => .inr (.inr ⟨estop.mp e, h⟩), fun h => ((h.resolve_left (none (by omega))).resolve_left (by omega)).2⟩
        · rename_i e
          rw [estop] at e
          exact ⟨nofun, fun h => by rcases h with h | h | h; exacts [absurd h (none (by omega)), by omega, absurd h.1 e]⟩

theorem roleIsOutput_iff {i : Fin 24} : roleIsOutput i = true ↔ i.val < 8 ∨ i.val = 16 ∨ i.val = 17 ∨ i.val = 20 := by
  simp [roleIsOutput, or_assoc]

/-! ### A line under a new configuration (R54, R55) -/

/-- A line under a new configuration, its mismatch as it was. -/
def Discrete.renewed (new : DiscreteConfig) (l : Discrete) : Discrete :=
  let clear := l.cfg.role != new.role || l.cfg.out != new.out || l.cfg.edge != new.edge || decide (l.cfg.edgeKind ≠ new.edgeKind)
  let turned := decide (l.cfg.inverted ≠ new.inverted)
  { l with
    cfg := new, commanded := l.recommanded new
    edgeSeen := l.edgeSeen && !clear, edgeReported := l.edgeReported && !clear, edgeCount := if clear then 0 else l.edgeCount
    padLevel := if turned then l.pin != new.inverted else l.padLevel
    level := if turned then l.pin != new.inverted else l.level
    debounceTimer := if turned then none else l.debounceTimer }

theorem Discrete.configure_eq (new : DiscreteConfig) (l : Discrete) : l.configure new = (l.renewed new).judgeMismatch := by
  unfold Discrete.configure Discrete.renewed
  dsimp only
  congr 1
  cases l.cfg.role != new.role || l.cfg.out != new.out || l.cfg.edge != new.edge || decide (l.cfg.edgeKind ≠ new.edgeKind) <;>
    by_cases turned : l.cfg.inverted = new.inverted <;> simp [turned]

theorem Discrete.configure_fields (new : DiscreteConfig) (l : Discrete) : l.configure new =
    { l.renewed new with mismatch := (l.configure new).mismatch, mismatchTimer := (l.configure new).mismatchTimer } := by
  rw [Discrete.configure_eq]
  exact Discrete.judge_fields (l.renewed new)

/-- A line under a new configuration, its mismatch apart. -/
theorem Discrete.configure_reads (new : DiscreteConfig) (l : Discrete) :
    (l.configure new).cfg = new ∧ (l.configure new).pin = l.pin ∧ (l.configure new).commanded = l.recommanded new ∧
    (l.cfg.inverted = new.inverted → (l.configure new).padLevel = l.padLevel ∧ (l.configure new).level = l.level ∧
      (l.configure new).debounceTimer = l.debounceTimer) ∧
    (l.cfg.inverted ≠ new.inverted → (l.configure new).padLevel = (l.pin != new.inverted) ∧
      (l.configure new).level = (l.pin != new.inverted) ∧ (l.configure new).debounceTimer = none) ∧
    (l.cfg.role ≠ new.role ∨ l.cfg.out ≠ new.out ∨ l.cfg.edge ≠ new.edge ∨ l.cfg.edgeKind ≠ new.edgeKind →
      (l.configure new).edgeSeen = false ∧ (l.configure new).edgeReported = false ∧ (l.configure new).edgeCount = 0) ∧
    (l.cfg.role = new.role → l.cfg.out = new.out → l.cfg.edge = new.edge → l.cfg.edgeKind = new.edgeKind →
      (l.configure new).edgeSeen = l.edgeSeen ∧ (l.configure new).edgeReported = l.edgeReported ∧
        (l.configure new).edgeCount = l.edgeCount) := by
  rw [Discrete.configure_fields]
  refine ⟨rfl, rfl, rfl, fun same => ?_, fun other => ?_, fun clear => ?_, fun role out edge kind => ?_⟩
  · simp [Discrete.renewed, same]
  · simp [Discrete.renewed, other]
  · have cleared : (l.cfg.role != new.role || l.cfg.out != new.out || l.cfg.edge != new.edge ||
        decide (l.cfg.edgeKind ≠ new.edgeKind)) = true := by
      simpa [or_assoc] using clear
    unfold Discrete.renewed
    dsimp only
    rw [cleared]
    simp
  · simp [Discrete.renewed, role, out, edge, kind]

/-- An output that showed no mismatch starts its timer where a configuration leaves it disagreeing. -/
theorem Discrete.configure_starts {new : DiscreteConfig} {l : Discrete} (calm : l.mismatch = false) (stopped : l.mismatchTimer = none) :
    (l.configure new).Starts := by
  rw [Discrete.configure_eq]
  exact Discrete.judge_begins fun _ _ => ⟨calm, stopped⟩

theorem Discrete.configure_clean (new : DiscreteConfig) (l : Discrete) : (l.configure new).Clean := by
  rw [Discrete.configure_eq]
  exact Discrete.judge_clean _

theorem Discrete.recommanded_role {new : DiscreteConfig} {l : Discrete} (h : ¬ (new.role = true ∧ new.out = true)) :
    l.recommanded new = (decide (l.cfg.out = new.out) && l.commanded) := by
  unfold Discrete.recommanded
  rw [if_neg (by rwa [Bool.and_eq_true])]
  by_cases same : l.cfg.out = new.out
  · rw [if_pos same, decide_eq_true same, Bool.true_and]
  · rw [if_neg same, decide_eq_false same, Bool.false_and]

/-! ### The line stored, its point and its owner -/

/-- The part once a line is stored and the point bound to it has its level. -/
def State.configured (i : Fin 24) (new : DiscreteConfig) (s : State) : State :=
  let a := s.modDiscrete i (Discrete.configure new)
  if a.discretes[i].level = s.discretes[i].level then a else readLinePoint i a

section

variable {i : Fin 24} {new : DiscreteConfig} {s : State}

theorem storeDiscrete_eq (i : Fin 24) (new : DiscreteConfig) (s : State) :
    storeDiscrete i new s = deliverRole i s.discretes[i].roleLevel (s.configured i new) := rfl

theorem configured_only (i : Fin 24) (new : DiscreteConfig) (s : State) : Only [.discretes, .points] s (s.configured i new) := by
  have stored : Only [.discretes, .points] s (s.modDiscrete i (Discrete.configure new)) := (State.modDiscrete_only _ i _).mono (by decide)
  exact Only.ite stored (stored.also (readLinePoint_only i _))

theorem configured_lines (i : Fin 24) (new : DiscreteConfig) (s : State) :
    (s.configured i new).discretes = (s.modDiscrete i (Discrete.configure new)).discretes := by
  unfold State.configured
  dsimp only
  split
  · rfl
  · exact readLinePoint_only i _ .discretes (by decide)

theorem modDiscrete_own (i : Fin 24) (f : Discrete → Discrete) (s : State) : (s.modDiscrete i f).discretes[i] = f s.discretes[i] := by
  rw [State.modDiscrete_at, if_pos rfl]

theorem configured_same (h : (s.discretes[i].configure new).level = s.discretes[i].level) : (s.configured i new).points = s.points := by
  unfold State.configured
  dsimp only
  rw [modDiscrete_own, if_pos h]
  rfl

theorem configured_reads (h : (s.discretes[i].configure new).level ≠ s.discretes[i].level) :
    PointReads s (s.configured i new) i (s.discretes[i].configure new).level := by
  refine readLinePoint_reads (a := s.modDiscrete i (Discrete.configure new)) rfl (by rw [modDiscrete_own]) ?_
  unfold State.configured
  dsimp only
  rw [modDiscrete_own, if_neg h]

theorem ownConfigureDiscrete_bad {q : DiscreteFields} (h : DiscreteFields.check q = none) (s : State) :
    ownConfigureDiscrete q s = refuse s .badField [] := by
  unfold ownConfigureDiscrete; rw [h]

theorem ownConfigureDiscrete_inUse {q : DiscreteFields} (h : DiscreteFields.check q = some (i, new)) (role : s.discretes[i].cfg.role = true)
    (general : new.role = false) (used : roleInUse s i = true) : ownConfigureDiscrete q s = refuse s .inUse [] := by
  unfold ownConfigureDiscrete
  rw [h]
  dsimp only
  rw [if_pos (by rw [role, general, used]; rfl)]

theorem ownConfigureDiscrete_stores {q : DiscreteFields} (h : DiscreteFields.check q = some (i, new))
    (free : s.discretes[i].cfg.role = true → new.role = false → roleInUse s i = false) :
    ownConfigureDiscrete q s = (storeDiscrete i new s, ⟨.ok, Wire.putDiscreteConfig new.fields⟩) := by
  have lines : (storeDiscrete i new s).discretes = (s.configured i new).discretes := deliverRole_only i _ _ .discretes (by decide)
  have stored : (storeDiscrete i new s).discretes[i].cfg = new := by
    rw [lines, configured_lines, modDiscrete_own, Discrete.configure_fields]
    rfl
  unfold ownConfigureDiscrete
  rw [h]
  dsimp only
  rw [if_neg, stored]
  · rfl
  · cases role : s.discretes[i].cfg.role <;> cases general : new.role <;> simp
    exact free role general

/-- What the points and the owning blocks find once a configuration is stored (R54, R57). -/
theorem storeDiscrete_reacts {t : State} {m : Discrete} (ht : UnchangedBut [.outgoing] (storeDiscrete i new s) t)
    (level : m.level = (s.discretes[i].configure new).level) (roleLevel : m.roleLevel = (s.discretes[i].configure new).roleLevel) :
    ((m.level = s.discretes[i].level → t.points = s.points) ∧ (m.level ≠ s.discretes[i].level → PointReads s t i m.level)) ∧
    (m.roleLevel = s.discretes[i].roleLevel →
      t.wells = s.wells ∧ t.turbine = s.turbine ∧ t.drives = s.drives ∧ Same .constraints s t) ∧
    (m.roleLevel ≠ s.discretes[i].roleLevel → WellsReact s t i m.roleLevel ∧ TurbineReacts s t i m.roleLevel) := by
  rw [level, roleLevel]
  have only := configured_only i new s
  have points : t.points = (s.configured i new).points :=
    Eq.trans (ht .points (by decide)) (deliverRole_only i _ _ .points (by decide))
  have own : (s.configured i new).discretes[i] = s.discretes[i].configure new := by rw [configured_lines, modDiscrete_own]
  refine ⟨⟨fun same => points.trans (configured_same same), fun other p => ?_⟩, fun same => ?_, fun other => ?_⟩
  · rw [points]
    exact configured_reads other p
  · rw [storeDiscrete_eq, deliverRole_same (by rw [own, same])] at ht
    exact ⟨Eq.trans (ht .wells (by decide)) (only .wells (by decide)), Eq.trans (ht .turbine (by decide)) (only .turbine (by decide)),
      Eq.trans (ht .drives (by decide)) (only .drives (by decide)),
      Same.trans (by decide) (by decide) (only .constraints (by decide)).same (ht .constraints (by decide))⟩
  · rw [storeDiscrete_eq, deliverRole_other (by rw [own]; exact other.symm), own] at ht
    exact (OwnersStand.of_only (only.mono (by decide))).reacts (roleChanged_reacts ht)

end

end Sys2Proof.Machine

open Sys2Proof Sys2Proof.Machine

/-- Settles O31. -/
theorem configureDiscreteForms : Obligations.ConfigureDiscreteForms := by
  intro tag q s hs settled
  refine ⟨fun bad => refuses_of rfl hs fun v _ => by exact ownConfigureDiscrete_bad bad _, DiscreteFields.check_none_iff, fun i new given => ?_⟩
  obtain ⟨-, number, role, inverted, edge, kind, debounce, time, out⟩ := DiscreteFields.check_eq_some.mp given
  refine ⟨⟨number, role, inverted, edge, kind, debounce, time, out⟩, ?_, fun role general used => refuses_of rfl hs fun v _ => ?_,
    fun free => replies_settling rfl hs fun v _ => ?_⟩
  · unfold roleInUse
    simp only [Bool.or_eq_true, Bool.and_eq_true, ownerNeeds_iff, wellNeedsLines_iff, turbineNeedsLines_iff, roleIsOutput_iff]
    refine or_congr_right (or_congr_right (or_congr_right (and_congr_right fun h => or_congr_left ?_)))
    have line : i = estopLine := Fin.ext h
    rw [line]
    exact estopActive_iff
  · exact ownConfigureDiscrete_inUse (s := { s with supervision := v }) given role general used
  · refine ⟨_, ownConfigureDiscrete_stores (s := { s with supervision := v }) given free, storeDiscrete_only i new _,
      fun t settling rested => ?_⟩
    have ht := settling.unchanged
    have lines : (storeDiscrete i new { s with supervision := v }).discretes =
        (({ s with supervision := v } : State).modDiscrete i (Discrete.configure new)).discretes :=
      Eq.trans (deliverRole_only i _ _ .discretes (by decide)) (configured_lines i new _)
    obtain ⟨others, own⟩ := modDiscrete_lines_of lines
    have asked := settling.2 i
    rw [own] at asked
    obtain ⟨cfg, pin, pad, level, debounced, seen, reported, count, fixed, general, -⟩ := asked.settled
    obtain ⟨points, stand, reacts⟩ := storeDiscrete_reacts ht level (by unfold Discrete.roleLevel; rw [cfg, level])
    obtain ⟨newCfg, oldPin, commanded, straight, turned, cleared, kept⟩ := Discrete.configure_reads new s.discretes[i]
    have clean := asked.rejudged.clean cfg level (Discrete.configure_clean new _)
    have starts := asked.rejudged.starts cfg level (Discrete.configure_clean new _)
    have ofRole (inRole : new.role = true) : new.out = roleIsOutput i := by
      rw [role] at inRole
      rw [out, if_pos (of_decide_eq_true inRole)]
    rw [newCfg] at cfg general
    rw [← pad, ← level, ← debounced] at straight turned
    rw [← seen, ← reported, ← count] at cleared kept
    refine ⟨fun j hj => ?_, cfg, pin.trans oldPin, fun other output => ?_, fun inRole drives => ?_, fun notRole => ?_, straight, turned,
      cleared, kept, fun agrees => clean (by rwa [cfg]), fun drives differs calm stopped => ?_, points.1, points.2, stand, reacts⟩
    · rw [← show _ = s.discretes[j] from others j hj]
      exact (settling.2 j).settled
    · have unhanded : storeDiscrete i new { s with supervision := v } = ({ s with supervision := v } : State).configured i new :=
        (storeDiscrete_eq i new _).trans (deliverRole_output output _ _)
      rw [unhanded] at settling others
      refine output_stands (s := { s with supervision := v }) ?_ rested settling (configured_only i new _) others output other
      exact (settled hs.1.1).1
    · have output : roleIsOutput i = true := (ofRole inRole).symm.trans drives
      exact rested.driven output (by rw [cfg]; exact inRole)
    · rw [← Discrete.recommanded_role notRole, ← commanded]
      by_cases inRole : new.role = true
      · have input : roleIsOutput i = false := Bool.eq_false_iff.mpr fun h => notRole ⟨inRole, (ofRole inRole).trans h⟩
        rw [fixed input]
      · exact general (Bool.eq_false_iff.mpr inRole)
    · rw [← cfg] at drives
      obtain ⟨flag, timer⟩ := starts (Discrete.configure_starts calm stopped) drives differs
      exact ⟨flag, by rw [timer, cfg]⟩
end

section
/-! PROOFS. The end of the mismatch time of a line (R59, R191). -/

namespace Sys2Proof.Machine

-- One after the other: see Laws/Frames.lean.
set_option Elab.async false

/-! ### The end of an event whose idle transmitter has nothing to send -/

/-- The transmitter leaves the lines and the condition unit as the settling left them. -/
theorem finish_settles {u : State} (h : u.link.idleClear) :
    (finish u).discretes = (settle u).discretes ∧ (finish u).conditions = (settle u).conditions := by
  have follows := settle_follows u
  have sending := settle_sending u
  have outgoing := settle_frame u .outgoing (by decide)
  have requests := (settle_settling u).1 .requests (by decide) (by decide)
  have notices := (settle_settling u).1 .notices (by decide) (by decide)
  unfold finish transmit
  split
  · rename_i c idle chosen
    obtain ⟨replies, busy, started, -, edge⟩ := h (sending.symm.trans idle)
    rw [arbiter_idle (outgoing.1.trans replies) (requests.2.1.trans busy) (notices.1.trans started) (notices.2.trans edge)] at chosen
    obtain ⟨n, -, rfl⟩ := Option.map_eq_some_iff.mp chosen
    obtain ⟨outputs, live⟩ := (modLink_keeps (settle u) fun l => { l with sending := some (conditionFrame n), condition := none }).settled follows
    have same : settle (beginChoice (.condition (conditionFrame n)) (settle u)) = beginChoice (.condition (conditionFrame n)) (settle u) :=
      settle_self outputs live
    rw [same]
    exact ⟨rfl, rfl⟩
  · exact ⟨rfl, rfl⟩

/-- The lines and the two sets, as the settling of the condition unit leaves them. -/
theorem settleConditions_leaves (s : State) : (settleConditions s).discretes = (takeUpLive (takeUpLive s)).discretes ∧
    (settleConditions s).conditions.live = (takeUpLive (takeUpLive s)).conditions.live ∧
    (settleConditions s).conditions.unsilenced = (takeUpLive (takeUpLive s)).conditions.unsilenced := by
  rcases settleConditions_cases s with e | e <;> rw [e]
  · exact ⟨rfl, rfl, rfl⟩
  · exact ⟨rfl, rfl, rfl⟩

/-- Where a mismatch is left after the first taking up, the second changes nothing. -/
theorem takeUpLive_again {s : State} (h : anyMismatch (takeUpLive s) = true) : takeUpLive (takeUpLive s) = takeUpLive s := by
  have live : liveNow (takeUpLive s) = liveNow s :=
    liveNow_congr (takeUpLive_only s) (takeUpLive_estop s) (h.trans (takeUpLive_mismatch s h).symm)
  refine takeUpLive_self ⟨by rw [takeUpLive_live, live], fun n hn => ?_⟩ (takeUpLive_alarm s)
  rw [takeUpLive_live]
  rw [takeUpLive_unsilenced] at hn
  exact unsilencedAfter_live n hn

/-! ### The mismatch member (section 9.1) -/

theorem mismatch_number (n : Fin 42) : Member.ofNumber n = .dioMismatch ↔ n = 39 := by revert n; decide

theorem liveNow_mismatch (s : State) : (liveNow s)[(39 : Fin 42)] = anyMismatch s := by
  rw [liveNow_get, (mismatch_number 39).mpr rfl]
  rfl

/-- The live set of a part whose lines changed, the mismatch member apart. -/
theorem liveNow_others {s t : State} (only : Only [.conditions, .discretes] s t) (estop : estopActive t = estopActive s) {n : Fin 42}
    (other : n ≠ 39) : (liveNow t)[n] = (liveNow s)[n] := by
  rw [liveNow_get, liveNow_get]
  exact (found_congr only estop _).resolve_left fun e => other ((mismatch_number n).mp e)

/-! ### The expiry (R59) -/

/-- A line that follows a level is not changed by a command of that level. -/
theorem Discrete.setRoleCommand_self {l : Discrete} {c : Bool} (h : l.Follows c) : l.setRoleCommand c = l := by
  obtain ⟨role, driven⟩ := h
  subst role
  exact ite_eq_right_iff.mpr fun inRole => if_pos (driven inRole)

/-- A line whose mismatch time has ended. -/
def Discrete.expired (l : Discrete) : Discrete := { l with mismatchTimer := none, mismatch := true }

theorem mismatchExpiry_stopped {i : Fin 24} {s : State} (h : s.discretes[i].mismatchTimer = none) : mismatchExpiry i s = s := by
  unfold mismatchExpiry; rw [h]

theorem mismatchExpiry_flags {i : Fin 24} {s : State} (h : s.discretes[i].mismatchTimer.isSome = true) :
    mismatchExpiry i s = s.modDiscrete i Discrete.expired := by
  obtain ⟨n, hn⟩ := Option.isSome_iff_exists.mp h
  unfold mismatchExpiry
  rw [hn]
  rfl

section

variable {i : Fin 24} {s : State}

theorem expired_levels (i d : Fin 24) (s : State) :
    (s.modDiscrete i Discrete.expired).discretes[d].roleCommand = s.discretes[d].roleCommand ∧
    (s.modDiscrete i Discrete.expired).discretes[d].commanded = s.discretes[d].commanded ∧
    (s.modDiscrete i Discrete.expired).discretes[d].cfg = s.discretes[d].cfg ∧
    (s.modDiscrete i Discrete.expired).discretes[d].level = s.discretes[d].level := by
  rw [State.modDiscrete_at]
  split
  · rename_i e; subst e; exact ⟨rfl, rfl, rfl, rfl⟩
  · exact ⟨rfl, rfl, rfl, rfl⟩

theorem expired_owners (h : OutputsFollow s) : OwnersFollowed (s.modDiscrete i Discrete.expired) :=
  ((outputsFollow_iff s).mp h).1.of_eq (fun d _ => expired_levels i d s) (fun _ => rfl) ⟨rfl, rfl⟩

theorem expired_estop (i : Fin 24) (s : State) : estopActive (s.modDiscrete i Discrete.expired) = estopActive s := by
  obtain ⟨-, -, cfg, level⟩ := expired_levels i estopLine s
  unfold estopActive Discrete.roleLevel
  rw [cfg, level]

theorem expired_mismatch (i : Fin 24) (s : State) : anyMismatch (s.modDiscrete i Discrete.expired) = true := by
  rw [anyMismatch_iff]
  exact ⟨i, by rw [modDiscrete_own]; rfl⟩

/-- A line other than ALARM keeps its flag at the end of the event: its owner asks for what it asked for. -/
theorem expired_stands {t : State} (settled : OutputsFollow s) (other : i ≠ alarmLine)
    (settling : Settling (s.modDiscrete i Discrete.expired) t) (rested : Rested t) :
    t.discretes[i] = s.discretes[i].expired ∧ t.conditions.live[(39 : Fin 42)] = true := by
  have line : t.discretes[i] = s.discretes[i].expired := by
    have asked := settling.2 i
    rw [modDiscrete_own] at asked
    unfold LineAsked at asked
    rw [if_neg other] at asked
    rcases asked with e | ⟨out, e⟩
    · exact e
    · rw [e]
      have follows := (expired_owners (i := i) settled).follows out other
      rw [modDiscrete_own] at follows
      exact Discrete.setRoleCommand_self follows
  refine ⟨line, ?_⟩
  rw [rested.2.1.1, liveNow_mismatch, anyMismatch_iff]
  exact ⟨i, by rw [line]; rfl⟩

end

/-! ### ALARM (R191, log 30) -/

theorem MemberSet.nonempty_iff {a : MemberSet} : a.nonempty = true ↔ ∃ n : Fin 42, a[n] = true := by
  unfold MemberSet.nonempty
  rw [any_indexes]

/-- A line that drives the level it is asked for. -/
theorem Discrete.setRoleCommand_driven {l : Discrete} {c : Bool} (h : l.cfg.role = true → l.commanded = c) :
    l.setRoleCommand c = { l with roleCommand := c } := by
  unfold Discrete.setRoleCommand
  split
  · rename_i role
    exact if_pos (h role)
  · rfl

/-- A line whose flag rings ALARM and, agreeing again, silences it (log 30). -/
theorem Discrete.expired_twice {l : Discrete} (role : l.cfg.role = true) (out : l.cfg.out = true) (released : l.roleCommand = false)
    (commanded : l.commanded = false) (level : l.level = true) :
    l.expired.setRoleCommand true = { l with roleCommand := true, commanded := true, mismatchTimer := none, mismatch := false } ∧
      ({ l with roleCommand := true, commanded := true, mismatchTimer := none, mismatch := false } : Discrete).setRoleCommand false =
        { l with mismatchTimer := some (l.cfg.mismatchTime * 10), mismatch := false } := by
  obtain ⟨cfg, asked, driven, pin, pad, shown, timer, mismatchTimer, mismatch, seen, reported, count⟩ := l
  dsimp only at role out released commanded level
  subst released commanded level
  simp [Discrete.setRoleCommand, Discrete.setCommanded, Discrete.judgeMismatch, Discrete.expired, role, out]

/-- Whether the flag of ALARM is a new member of the horn mask. -/
def State.flagSounds (s : State) : Bool := s.conditions.horn[(39 : Fin 42)] && !s.conditions.live[(39 : Fin 42)]

section

variable {s : State} (settled : OutputsFollow s ∧ LiveFollows s)
include settled

theorem expired_live (n : Fin 42) : (liveNow (s.modDiscrete alarmLine Discrete.expired))[n] =
    (decide (n = 39) || s.conditions.live[n]) := by
  by_cases e : n = 39
  · subst e
    rw [liveNow_mismatch, expired_mismatch]; rfl
  · rw [liveNow_others ((State.modDiscrete_only s _ _).mono (by decide)) (expired_estop _ s) e, ← settled.2.1, decide_eq_false e, Bool.false_or]

/-- The horn at the end of the mismatch time of ALARM, as it is first taken up. -/
theorem expired_rings : (takeUpLive (s.modDiscrete alarmLine Discrete.expired)).conditions.unsilenced.nonempty =
    (s.conditions.unsilenced.nonempty || s.flagSounds) := by
  have held := settled.2.2
  rw [Bool.eq_iff_iff, Bool.or_eq_true, MemberSet.nonempty_iff, MemberSet.nonempty_iff, takeUpLive_unsilenced]
  simp only [unsilencedAfter_get, expired_live settled, State.flagSounds, State.modDiscrete_conditions]
  refine ⟨fun ⟨n, hn⟩ => ?_, ?_⟩
  · by_cases e : n = 39
    · subst e
      exact (Bool.or_eq_true_iff.mp (Bool.and_eq_true_iff.mp hn).2).imp_left fun h => ⟨39, h⟩
    · refine .inl ⟨n, ?_⟩
      cases live : s.conditions.live[n] <;> simp [e, live] at hn
      exact hn
  · rintro (⟨n, hn⟩ | sounds)
    · exact ⟨n, by rw [held n hn, hn]; simp⟩
    · exact ⟨39, by rw [sounds]; simp⟩

theorem expired_alarm : (takeUpLive (s.modDiscrete alarmLine Discrete.expired)).discretes[alarmLine] =
    s.discretes[alarmLine].expired.setRoleCommand (s.conditions.unsilenced.nonempty || s.flagSounds) := by
  rw [takeUpLive_alarm_eq, modDiscrete_own, expired_rings settled]

/-- Where the flag sounds nothing that ALARM does not sound already, it stays. -/
theorem expired_stays (quiet : s.discretes[alarmLine].cfg.role = true → s.conditions.unsilenced.nonempty = false → s.flagSounds = false) :
    let t := takeUpLive (takeUpLive (s.modDiscrete alarmLine Discrete.expired))
    t.discretes[alarmLine] = { s.discretes[alarmLine].expired with roleCommand := t.conditions.unsilenced.nonempty } ∧
      t.conditions.live[(39 : Fin 42)] = true := by
  have line : (takeUpLive (s.modDiscrete alarmLine Discrete.expired)).discretes[alarmLine] =
      { s.discretes[alarmLine].expired with roleCommand := s.conditions.unsilenced.nonempty || s.flagSounds } := by
    rw [expired_alarm settled]
    refine Discrete.setRoleCommand_driven fun role => ?_
    obtain ⟨asked, driven⟩ := ((outputsFollow_iff s).mp settled.1).2
    refine (driven role).trans (asked.trans ?_)
    cases rings : s.conditions.unsilenced.nonempty
    · exact (quiet role rings).symm
    · rfl
  have shown : anyMismatch (takeUpLive (s.modDiscrete alarmLine Discrete.expired)) = true :=
    (anyMismatch_iff _).mpr ⟨alarmLine, by rw [line]; rfl⟩
  dsimp only
  rw [takeUpLive_again shown, expired_rings settled, takeUpLive_live, liveNow_mismatch, expired_mismatch]
  exact ⟨line, rfl⟩

/-- Where the flag of ALARM itself sounds the horn, ALARM agrees again and the flag is cleared (log 30). -/
theorem expired_clears (role : s.discretes[alarmLine].cfg.role = true) (out : s.discretes[alarmLine].cfg.out = true)
    (differs : s.discretes[alarmLine].level ≠ s.discretes[alarmLine].commanded) (silent : s.conditions.unsilenced.nonempty = false)
    (sounds : s.flagSounds = true) :
    let t := takeUpLive (takeUpLive (s.modDiscrete alarmLine Discrete.expired))
    t.discretes[alarmLine] = { s.discretes[alarmLine] with
        mismatchTimer := some (s.discretes[alarmLine].cfg.mismatchTime * 10), mismatch := false } ∧
      t.conditions.live[(39 : Fin 42)] = false := by
  obtain ⟨asked, driven⟩ := ((outputsFollow_iff s).mp settled.1).2
  have released : s.discretes[alarmLine].roleCommand = false := asked.trans silent
  have commanded : s.discretes[alarmLine].commanded = false := (driven role).trans released
  have level : s.discretes[alarmLine].level = true := by
    rw [commanded] at differs
    exact Bool.eq_true_of_not_eq_false differs
  have absent : s.conditions.live[(39 : Fin 42)] = false := by
    rw [State.flagSounds, Bool.and_eq_true, Bool.not_eq_true'] at sounds
    exact sounds.2
  obtain ⟨rung, cleared⟩ := Discrete.expired_twice role out released commanded level
  have line : (takeUpLive (s.modDiscrete alarmLine Discrete.expired)).discretes[alarmLine] =
      { s.discretes[alarmLine] with roleCommand := true, commanded := true, mismatchTimer := none, mismatch := false } := by
    rw [expired_alarm settled, silent, sounds, Bool.false_or]
    exact rung
  have calm : anyMismatch s = false := by rw [← liveNow_mismatch, ← settled.2.1, absent]
  have none : anyMismatch (takeUpLive (s.modDiscrete alarmLine Discrete.expired)) = false := by
    rw [Bool.eq_false_iff, Ne, anyMismatch_iff]
    rintro ⟨d, hd⟩
    by_cases e : d = alarmLine
    · subst e
      rw [line] at hd
      cases hd
    · rw [takeUpLive_at _ e, State.modDiscrete_at, if_neg (Ne.symm e)] at hd
      exact absurd ((anyMismatch_iff s).mpr ⟨d, hd⟩) (by rw [calm]; decide)
  have now : liveNow (takeUpLive (s.modDiscrete alarmLine Discrete.expired)) = s.conditions.live := by
    rw [settled.2.1]
    exact liveNow_congr (((State.modDiscrete_only s _ _).mono (by decide)).trans (takeUpLive_only _))
      ((takeUpLive_estop _).trans (expired_estop _ s)) (none.trans calm.symm)
  have quiet : (takeUpLive (takeUpLive (s.modDiscrete alarmLine Discrete.expired))).conditions.unsilenced.nonempty = false := by
    rw [Bool.eq_false_iff, Ne, MemberSet.nonempty_iff]
    rintro ⟨n, hn⟩
    rw [takeUpLive_unsilenced, takeUpLive_live, takeUpLive_unsilenced, now, unsilencedAfter_get, unsilencedAfter_get,
      expired_live settled] at hn
    have kept : s.conditions.live[n] = true := by
      cases h : s.conditions.live[n]
      · rw [h] at hn; cases hn
      · rfl
    have unsilenced : s.conditions.unsilenced[n] = true := by
      simpa [kept, State.modDiscrete_conditions] using hn
    exact absurd (MemberSet.nonempty_iff.mpr ⟨n, unsilenced⟩) (by rw [silent]; decide)
  dsimp only
  rw [takeUpLive_alarm_eq, quiet, takeUpLive_live, now, line]
  exact ⟨cleared, absent⟩

/-- The end of the event: the lines and the condition unit as taking up the live set twice leaves them. -/
theorem expired_finish (idle : (s.modDiscrete alarmLine Discrete.expired).link.idleClear) :
    let u := takeUpLive (takeUpLive (s.modDiscrete alarmLine Discrete.expired))
    let t := finish (s.modDiscrete alarmLine Discrete.expired)
    t.discretes = u.discretes ∧ t.conditions.live = u.conditions.live ∧ t.conditions.unsilenced = u.conditions.unsilenced := by
  obtain ⟨lines, conditions⟩ := finish_settles idle
  obtain ⟨discretes, live, unsilenced⟩ := settleConditions_leaves (s.modDiscrete alarmLine Discrete.expired)
  have same : settle (s.modDiscrete alarmLine Discrete.expired) = settleConditions (s.modDiscrete alarmLine Discrete.expired) :=
    congrArg settleConditions (settleOutputs_self (expired_owners settled.1))
  dsimp only
  rw [lines, conditions, same]
  exact ⟨discretes, live, unsilenced⟩

end

end Sys2Proof.Machine
end

section
/-! PROOFS. A line takes a level that brings no edge (R13, R55 to R57, R59, R64). -/

namespace Sys2Proof.Machine

-- One after the other: see Laws/Frames.lean.
set_option Elab.async false

/-! ### A line as its pad changes (R55, R56) -/

theorem State.modDiscrete_modDiscrete (s : State) (i : Fin 24) (f g : Discrete → Discrete) :
    (s.modDiscrete i f).modDiscrete i g = s.modDiscrete i (fun l => g (f l)) :=
  congrArg (fun lines => { s with discretes := lines }) (modifyAt_modifyAt s.discretes i f g)

/-- A line whose pad shows a level. -/
def Discrete.padded (pin pad : Bool) (l : Discrete) : Discrete := { l with pin := pin, padLevel := pad }

/-- A line that takes another level, no edge caught from it. -/
def Discrete.taken (level : Bool) (l : Discrete) : Discrete := { l with debounceTimer := none, level := level }.judgeMismatch

theorem Discrete.taken_fields (level : Bool) (l : Discrete) : l.taken level = { l with
    debounceTimer := none, level := level, mismatch := (l.taken level).mismatch, mismatchTimer := (l.taken level).mismatchTimer } :=
  Discrete.judge_fields { l with debounceTimer := none, level := level }

theorem modDiscrete_padded (i : Fin 24) (s : State) : s.modDiscrete i (Discrete.padded s.discretes[i].pin s.discretes[i].padLevel) = s := by
  unfold State.modDiscrete
  rw [modifyAt_self _ _ _ rfl]

/-- The part once a line has its level and the point bound to it has it too. -/
def State.handed (i : Fin 24) (f : Discrete → Discrete) (s : State) : State := readLinePoint i (s.modDiscrete i f)

theorem handed_only (i : Fin 24) (f : Discrete → Discrete) (s : State) : Only [.discretes, .points] s (s.handed i f) :=
  (State.modDiscrete_only s i f).seq (readLinePoint_only i _)

theorem handed_lines (i : Fin 24) (f : Discrete → Discrete) (s : State) : (s.handed i f).discretes = (s.modDiscrete i f).discretes :=
  readLinePoint_only i _ .discretes (by decide)

theorem handed_reads {i : Fin 24} {f : Discrete → Discrete} {s : State} {level : Bool} (h : (f s.discretes[i]).level = level) :
    PointReads s (s.handed i f) i level :=
  readLinePoint_reads (a := s.modDiscrete i f) rfl (by rw [modDiscrete_own, h]) rfl

/-! ### The taking of a level (R56, R57) -/

section

variable {i : Fin 24} {s : State} {level : Bool}

theorem takeLevel_stands (h : s.discretes[i].level = level) : takeLevel i level s =
    s.modDiscrete i (fun l => { l with debounceTimer := none }) := if_pos h

theorem takeLevel_changes (h : s.discretes[i].level ≠ level) : takeLevel i level s =
    examineEdge i level (deliverRole i s.discretes[i].roleLevel (s.handed i (Discrete.taken level))) := by
  refine (if_neg h).trans ?_
  rw [State.modDiscrete_modDiscrete]
  rfl

/-- A line takes a level that its pad has come to show. -/
theorem takeLevel_padded (pin pad : Bool) (h : s.discretes[i].level ≠ level) :
    takeLevel i level (s.modDiscrete i (Discrete.padded pin pad)) = examineEdge i level
      (deliverRole i s.discretes[i].roleLevel (s.handed i (fun l => (l.padded pin pad).taken level))) := by
  rw [takeLevel_changes (by rw [modDiscrete_own]; exact h), modDiscrete_own]
  unfold State.handed
  rw [State.modDiscrete_modDiscrete]
  rfl

/-- Whether a change to a level is an edge that the line catches (R60). -/
def Discrete.edgeAt (level : Bool) (l : Discrete) : Bool := !l.cfg.role && !l.cfg.out && l.cfg.edge && l.cfg.edgeKind.admits level

theorem examineEdge_eq (i : Fin 24) (level : Bool) (s : State) : examineEdge i level s =
    if s.discretes[i].edgeAt level then askEdgeNotice (s.modDiscrete i Discrete.catchEdge) else s := rfl

/-- A line of one configuration takes its level: what is delivered to its owner leaves the lines. -/
theorem delivered_edgeAt (pin pad before : Bool) :
    (deliverRole i before (s.handed i (fun l => (l.padded pin pad).taken level))).discretes[i].edgeAt level = s.discretes[i].edgeAt level := by
  have lines : (deliverRole i before (s.handed i (fun l => (l.padded pin pad).taken level))).discretes = _ :=
    Eq.trans (deliverRole_only i _ _ .discretes (by decide)) (handed_lines i _ s)
  rw [lines, modDiscrete_own, Discrete.taken_fields]
  rfl

end

/-! ### A level that brings no edge -/

/-- What a change of level without an edge brings: the bound point, the owning block and the mismatch of an output. -/
def LevelTaken (i : Fin 24) (s : State) (pin pad level : Bool) (t : State) : Prop :=
  let l := s.discretes[i]
  let m := t.discretes[i]
  (∀ j : Fin 24, j ≠ i → LineSettled j s.discretes[j] t.discretes[j]) ∧ m.cfg = l.cfg ∧
    m.pin = pin ∧ m.padLevel = pad ∧ m.level = level ∧ m.debounceTimer = none ∧ m.edgeSeen = l.edgeSeen ∧
    m.edgeCount = l.edgeCount ∧ PointReads s t i level ∧
    ((l.cfg.out = false ∨ m.level = m.commanded → m.mismatch = false ∧ m.mismatchTimer = none) ∧
      (l.cfg.out = true → m.level ≠ m.commanded →
        (l.level = l.commanded → l.mismatch = false ∧ l.mismatchTimer = none) →
        m.mismatch = false ∧ m.mismatchTimer = some (l.cfg.mismatchTime * 10)) ∧
      (Settled s → i ≠ alarmLine → m.commanded = l.commanded)) ∧
    (l.cfg.role = true → l.cfg.out = false → WellsReact s t i level ∧ TurbineReacts s t i level) ∧
    (l.cfg.role = false ∨ l.cfg.out = true →
      t.wells = s.wells ∧ t.turbine = s.turbine ∧ t.drives = s.drives ∧ Same .constraints s t)

section

variable {i : Fin 24} {s t : State} {pin pad level : Bool}

/-- The owning blocks, where the level of a role input changes and where it does not (R57). -/
theorem delivered_reacts (changes : s.discretes[i].level ≠ level)
    (ht : UnchangedBut [.outgoing] (deliverRole i s.discretes[i].roleLevel (s.handed i (fun l => (l.padded pin pad).taken level))) t) :
    (s.discretes[i].cfg.role = true → s.discretes[i].cfg.out = false → WellsReact s t i level ∧ TurbineReacts s t i level) ∧
    (s.discretes[i].cfg.role = false ∨ s.discretes[i].cfg.out = true →
      t.wells = s.wells ∧ t.turbine = s.turbine ∧ t.drives = s.drives ∧ Same .constraints s t) := by
  have only := handed_only i (fun l => (l.padded pin pad).taken level) s
  have own : (s.handed i (fun l => (l.padded pin pad).taken level)).discretes[i].roleLevel =
      (s.discretes[i].cfg.role && !s.discretes[i].cfg.out && level) := by
    rw [handed_lines, modDiscrete_own, Discrete.taken_fields]
    rfl
  refine ⟨fun role input => ?_, fun other => ?_⟩
  · have before : s.discretes[i].roleLevel = s.discretes[i].level := by unfold Discrete.roleLevel; rw [role, input]; rfl
    rw [role, input] at own
    rw [deliverRole_other (by rw [own, before]; exact changes), own] at ht
    exact (OwnersStand.of_only (only.mono (by decide))).reacts (roleChanged_reacts ht)
  · have none (x : Bool) : (s.discretes[i].cfg.role && !s.discretes[i].cfg.out && x) = false := by
      rcases other with h | h <;> rw [h] <;> simp
    rw [deliverRole_same (by rw [own, none]; exact none _)] at ht
    exact ⟨Eq.trans (ht .wells (by decide)) (only .wells (by decide)), Eq.trans (ht .turbine (by decide)) (only .turbine (by decide)),
      Eq.trans (ht .drives (by decide)) (only .drives (by decide)),
      Same.trans (by decide) (by decide) (only .constraints (by decide)).same (ht .constraints (by decide))⟩

/-- A line other than ALARM drives what it drove, whatever level it reads. -/
theorem delivered_commanded (runs : s.initialising = false) (settled : Settled s) (other : i ≠ alarmLine) (rested : Rested t)
    (settling : Settling (deliverRole i s.discretes[i].roleLevel (s.handed i (fun l => (l.padded pin pad).taken level))) t)
    (cfg : t.discretes[i].cfg = s.discretes[i].cfg) (unasked : roleIsOutput i = false ∨ s.discretes[i].cfg.role = false →
      t.discretes[i].commanded = s.discretes[i].commanded) : t.discretes[i].commanded = s.discretes[i].commanded := by
  by_cases asked : roleIsOutput i = true ∧ s.discretes[i].cfg.role = true
  · obtain ⟨out, role⟩ := asked
    rw [deliverRole_output out] at settling
    have others := (modDiscrete_lines_of (handed_lines i (fun l => (l.padded pin pad).taken level) s)).1
    have stands := output_stands (settled runs).1 rested settling (handed_only i _ s) others out other
    have before := (((outputsFollow_iff s).mp (settled runs).1).1.follows out other)
    rw [rested.driven out (by rw [cfg]; exact role), stands, before.2 role]
  · refine unasked ?_
    rwa [not_and_or, Bool.not_eq_true, Bool.not_eq_true] at asked

theorem level_taken (h : Running s) (changes : s.discretes[i].level ≠ level)
    (settling : Settling (deliverRole i s.discretes[i].roleLevel (s.handed i (fun l => (l.padded pin pad).taken level))) t)
    (rested : Rested t) : LevelTaken i s pin pad level t := by
  have ht := settling.unchanged
  have lines : (deliverRole i s.discretes[i].roleLevel (s.handed i (fun l => (l.padded pin pad).taken level))).discretes = _ :=
    Eq.trans (deliverRole_only i _ _ .discretes (by decide)) (handed_lines i _ s)
  obtain ⟨others, own⟩ := modDiscrete_lines_of lines
  have asked := settling.2 i
  rw [own] at asked
  obtain ⟨cfg, keepsPin, keepsPad, keepsLevel, debounced, seen, reported, count, fixed, general, -⟩ := asked.settled
  have clean := asked.rejudged.clean cfg keepsLevel (Discrete.judge_clean _)
  have starts := asked.rejudged.starts cfg keepsLevel (Discrete.judge_clean _)
  have begins (calm : s.discretes[i].level = s.discretes[i].commanded →
      s.discretes[i].mismatch = false ∧ s.discretes[i].mismatchTimer = none) : ((s.discretes[i].padded pin pad).taken level).Starts :=
    Discrete.judge_begins fun _ differs => calm (by
      have := Bool.eq_not.mpr changes
      have := Bool.eq_not.mpr differs
      simp_all [Discrete.padded])
  have points : t.points = (s.handed i (fun l => (l.padded pin pad).taken level)).points :=
    Eq.trans (ht .points (by decide)) (deliverRole_only i _ _ .points (by decide))
  have fields := Discrete.taken_fields level (s.discretes[i].padded pin pad)
  have oldCfg : t.discretes[i].cfg = s.discretes[i].cfg := by rw [cfg, fields]; rfl
  refine ⟨fun j hj => ?_, oldCfg, by rw [keepsPin, fields]; rfl, by rw [keepsPad, fields]; rfl, by rw [keepsLevel, fields],
    by rw [debounced, fields], by rw [seen, fields]; rfl, by rw [count, fields]; rfl, fun p => ?_,
    ⟨fun agrees => clean (by rwa [oldCfg]), fun out differs calm => ?_, fun settled other => ?_⟩, delivered_reacts changes ht⟩
  · rw [← show _ = s.discretes[j] from others j hj]
    exact (settling.2 j).settled
  · rw [points]
    exact handed_reads (by rw [fields]) p
  · obtain ⟨flag, timer⟩ := starts (begins calm) (by rw [oldCfg]; exact out) differs
    exact ⟨flag, by rw [timer, oldCfg]⟩
  · refine delivered_commanded h.1 settled other rested settling oldCfg fun unasked => ?_
    have drives : ((s.discretes[i].padded pin pad).taken level).commanded = s.discretes[i].commanded := by rw [fields]; rfl
    rcases unasked with input | role
    · rw [fixed input, drives]
    · rw [general (by rw [fields]; exact role), drives]

/-- A change of level without an edge, in the event that brings it. -/
theorem takes_level {c : Instr} {f : State → State} (h : Running s) (hc : exec c s = event f s)
    (work : f s = takeLevel i level (s.modDiscrete i (Discrete.padded pin pad))) (changes : s.discretes[i].level ≠ level)
    (edge : s.discretes[i].edgeAt level = false) :
    Happens c s [.discretes, .points, .wells, .turbine, .drives, .constraints] (LevelTaken i s pin pad level) := by
  have works : f s = deliverRole i s.discretes[i].roleLevel (s.handed i (fun l => (l.padded pin pad).taken level)) := by
    rw [work, takeLevel_padded pin pad changes, examineEdge_eq, if_neg (by rw [delivered_edgeAt, edge]; decide)]
  refine happens_settling h hc ?_ fun t settling rested => level_taken h changes (by rwa [works] at settling) rested
  rw [works]
  exact ((handed_only i _ s).mono (by decide)).trans ((deliverRole_only i _ _).mono (by decide))

end

end Sys2Proof.Machine
end

section
/-! PROOFS. A level that brings an edge: the EDGE notice and the transmitter (R60, R61). -/

namespace Sys2Proof.Machine

-- One after the other: see Laws/Frames.lean.
set_option Elab.async false

/-! ### What keeps outputs and conditions settled -/

theorem Point.goodRead_failed (v : Int) (clamped : Bool) (p : Point) :
    ((p.goodRead v clamped).configured && (p.goodRead v clamped).quality.isFailed) = (p.configured && p.quality.isFailed) := by
  unfold Point.goodRead
  dsimp only
  split
  · rfl
  · rename_i h
    rw [Bool.eq_false_iff.mpr h, Bool.and_false]
    exact Bool.and_false _

/-- A good read of a bound point leaves the member of failed points (R6, section 9.1). -/
theorem pointFailed_reads {s t : State} {i : Fin 24} {level : Bool} (h : PointReads s t i level) :
    Member.pointFailed.found t = Member.pointFailed.found s := by
  show t.points.toList.any (fun p => p.configured && p.quality.isFailed) = s.points.toList.any (fun p => p.configured && p.quality.isFailed)
  rw [Bool.eq_iff_iff, any_toList, any_toList]
  refine exists_congr fun p => ?_
  rw [h p]
  split
  · rw [Point.goodRead_failed]
  · rfl

/-- A change of the lines and points that no member of the condition set shows. -/
theorem found_of {s t : State} (only : Only [.discretes, .points] s t) (failed : Member.pointFailed.found t = Member.pointFailed.found s)
    (mismatch : anyMismatch t = anyMismatch s) (estop : estopActive t = estopActive s) (m : Member) : m.found t = m.found s := by
  have wells : t.wells = s.wells := only .wells (by decide)
  have turbine : t.turbine = s.turbine := only .turbine (by decide)
  have heating : t.heating = s.heating := only .heating (by decide)
  have sites : t.sites = s.sites := only .sites (by decide)
  have lines : t.lines = s.lines := only .lines (by decide)
  have supervision : t.supervision = s.supervision := only .supervision (by decide)
  cases m
  case pointFailed => exact failed
  case dioMismatch => exact mismatch
  all_goals
    unfold Member.found
    simp only [wells, turbine, heating, sites, lines, supervision, estop]

/-- Outputs and conditions stay settled where no output and no role level changes. -/
theorem settled_of {s t : State} (only : Only [.discretes, .points] s t) (failed : Member.pointFailed.found t = Member.pointFailed.found s)
    (mismatch : anyMismatch t = anyMismatch s)
    (lines : ∀ d : Fin 24, t.discretes[d].roleCommand = s.discretes[d].roleCommand ∧
      t.discretes[d].commanded = s.discretes[d].commanded ∧ t.discretes[d].cfg = s.discretes[d].cfg ∧
      t.discretes[d].roleLevel = s.discretes[d].roleLevel)
    (settled : OutputsFollow s ∧ LiveFollows s) : OutputsFollow t ∧ LiveFollows t := by
  obtain ⟨outputs, live⟩ := settled
  have wells : t.wells = s.wells := only .wells (by decide)
  have turbine : t.turbine = s.turbine := only .turbine (by decide)
  have conditions : t.conditions = s.conditions := congrArg Prod.fst (only .conditions (by decide))
  have levels (d : Fin 24) : t.discretes[d].roleLevel = s.discretes[d].roleLevel := (lines d).2.2.2
  have follows {d : Fin 24} {c : Bool} (h : s.discretes[d].Follows c) : t.discretes[d].Follows c := by
    obtain ⟨role, commanded, cfg, -⟩ := lines d
    unfold Discrete.Follows at *
    rw [role, commanded, cfg]
    exact h
  refine ⟨?_, ?_⟩
  · rw [outputsFollow_iff] at *
    obtain ⟨⟨runs, valve, breaker⟩, alarm⟩ := outputs
    refine ⟨⟨fun k => by rw [wells]; exact follows (runs k), by rw [turbine]; exact follows valve, ?_⟩,
      by rw [conditions]; exact follows alarm⟩
    rw [breakerOpenDemand_congr turbine (levels breakerClosedLine)]
    exact follows breaker
  · unfold LiveFollows
    rw [conditions, liveNow_eq (found_of only failed mismatch (levels estopLine))]
    exact live

/-! ### The edge caught -/

/-- The content of an EDGE notice (R61). -/
def noticeOf (lines : Vector Discrete 24) (clock : Nat) : EdgeNotice :=
  ⟨Vector.ofFn (fun d => if lines[d].edgeSeen then some lines[d].edgeCount else none), Vector.ofFn (fun d => lines[d].level), clock⟩

theorem noticeOf_congr {v w : Vector Discrete 24} (clock : Nat) (h : ∀ d : Fin 24, w[d].edgeSeen = v[d].edgeSeen ∧
    w[d].edgeCount = v[d].edgeCount ∧ w[d].level = v[d].level) : noticeOf w clock = noticeOf v clock := by
  have seen (d : Fin 24) : w[d].edgeSeen = v[d].edgeSeen := (h d).1
  have count (d : Fin 24) : w[d].edgeCount = v[d].edgeCount := (h d).2.1
  have level (d : Fin 24) : w[d].level = v[d].level := (h d).2.2
  unfold noticeOf
  simp only [seen, count, level]

theorem queueEdgeNotice_link (s : State) : (queueEdgeNotice s).link = { s.link with edge := some (noticeOf s.discretes s.clock) } := rfl

/-- A general input line that has caught an edge. -/
def Discrete.caught (pin pad level : Bool) (l : Discrete) : Discrete :=
  { l with pin := pin, padLevel := pad, level := level, debounceTimer := none, mismatchTimer := none, mismatch := false,
           edgeSeen := true, edgeReported := false, edgeCount := satSucc 255 l.edgeCount }

theorem Discrete.catchEdge_taken (pin pad level : Bool) {l : Discrete} (input : l.cfg.out = false) :
    ((l.padded pin pad).taken level).catchEdge = l.caught pin pad level :=
  congrArg Discrete.catchEdge (Discrete.judge_agrees (l := { l.padded pin pad with debounceTimer := none, level := level }) (.inl input))

/-- The part once a line has caught its edge and the bound point has its level. -/
def State.caughtAt (i : Fin 24) (pin pad level : Bool) (s : State) : State :=
  (s.handed i (fun l => (l.padded pin pad).taken level)).modDiscrete i Discrete.catchEdge

section

variable {i : Fin 24} {s : State} {pin pad level : Bool}

theorem caughtAt_only (i : Fin 24) (pin pad level : Bool) (s : State) : Only [.discretes, .points] s (s.caughtAt i pin pad level) :=
  (handed_only i _ s).also (State.modDiscrete_only _ i _)

theorem caughtAt_lines (input : s.discretes[i].cfg.out = false) (d : Fin 24) :
    (s.caughtAt i pin pad level).discretes[d] = if i = d then s.discretes[i].caught pin pad level else s.discretes[d] := by
  unfold State.caughtAt
  rw [State.modDiscrete_at, handed_lines, modDiscrete_own, State.modDiscrete_at, Discrete.catchEdge_taken pin pad level input]
  split
  · rfl
  · rfl

theorem caughtAt_reads (i : Fin 24) (pin pad level : Bool) (s : State) : PointReads s (s.caughtAt i pin pad level) i level :=
  handed_reads (f := fun l => (l.padded pin pad).taken level) (by rw [Discrete.taken_fields])

theorem caughtAt_settled (role : s.discretes[i].cfg.role = false) (input : s.discretes[i].cfg.out = false)
    (calm : s.discretes[i].mismatch = false) (settled : OutputsFollow s ∧ LiveFollows s) :
    OutputsFollow (s.caughtAt i pin pad level) ∧ LiveFollows (s.caughtAt i pin pad level) := by
  refine settled_of (caughtAt_only i pin pad level s) (pointFailed_reads (caughtAt_reads i pin pad level s)) ?_ (fun d => ?_) settled
  · rw [Bool.eq_iff_iff, anyMismatch_iff, anyMismatch_iff]
    refine exists_congr fun d => ?_
    rw [caughtAt_lines input]
    split
    · rename_i e; subst e; rw [calm]; rfl
    · rfl
  · rw [caughtAt_lines input]
    split
    · rename_i e
      subst e
      refine ⟨rfl, rfl, rfl, ?_⟩
      unfold Discrete.roleLevel
      rw [show (s.discretes[i].caught pin pad level).cfg = s.discretes[i].cfg from rfl, role]
      rfl
    · exact ⟨rfl, rfl, rfl, rfl⟩

/-- A general line that takes a level with an edge: nothing goes to an owner. -/
theorem takeLevel_edge (changes : s.discretes[i].level ≠ level) (edge : s.discretes[i].edgeAt level = true)
    (role : s.discretes[i].cfg.role = false) :
    takeLevel i level (s.modDiscrete i (Discrete.padded pin pad)) = askEdgeNotice (s.caughtAt i pin pad level) := by
  have general (l : Discrete) (h : l.cfg.role = false) : l.roleLevel = false := by unfold Discrete.roleLevel; rw [h]; rfl
  have undelivered : deliverRole i s.discretes[i].roleLevel (s.handed i (fun l => (l.padded pin pad).taken level)) =
      s.handed i (fun l => (l.padded pin pad).taken level) := by
    refine deliverRole_same ?_
    rw [handed_lines, modDiscrete_own, general _ role, general _ (by rw [Discrete.taken_fields]; exact role)]
  have caught := delivered_edgeAt (i := i) (s := s) (level := level) pin pad s.discretes[i].roleLevel
  rw [takeLevel_padded pin pad changes, examineEdge_eq, if_pos (by rw [caught, edge]), undelivered]
  rfl

end

/-! ### The transmitter -/

/-- An EDGE notice that is just queued leaves, where the transmitter is idle and nothing else waits, and no edge is left to report. -/
theorem transmit_edge {s : State} {n : EdgeNotice} (settled : OutputsFollow s ∧ LiveFollows s) (idle : s.link.sending = none)
    (replies : s.link.replies = []) (busy : s.link.busyPlace = none) (started : s.link.started = none) (condition : s.link.condition = none)
    (edge : s.link.edge = some n) (reported : ∀ d : Fin 24, s.discretes[d].edgeSeen = true → s.discretes[d].edgeReported = true) :
    transmit s = s.modLink fun l => { l with sending := some (edgeFrame n), edge := none } := by
  have chosen : arbiter s.link = some (.edge (edgeFrame n)) := by
    rw [arbiter_unreplied replies busy]
    unfold noticeChoice
    rw [started, condition, edge]
  have begins : beginChoice (.edge (edgeFrame n)) s = s.modLink fun l => { l with sending := some (edgeFrame n), edge := none } :=
    (followEdges_cases _).2 fun ⟨d, seen, unreported⟩ => by
      have e : s.discretes[d].edgeReported = false := unreported
      rw [reported d seen] at e
      cases e
  obtain ⟨outputs, live⟩ := (modLink_keeps s fun l => { l with sending := some (edgeFrame n), edge := none }).settled settled
  unfold transmit
  rw [idle, chosen]
  dsimp only
  rw [begins]
  exact settle_self outputs live

/-- An idle transmitter sends the EDGE notice that the event queues. -/
theorem finish_queued {s : State} (settled : OutputsFollow s ∧ LiveFollows s) (idle : s.link.sending = none) (clear : s.link.idleClear) :
    finish (queueEdgeNotice s) = (queueEdgeNotice s).modLink fun l =>
      { l with sending := some (edgeFrame (noticeOf s.discretes s.clock)), edge := none } := by
  obtain ⟨replies, busy, started, condition, -⟩ := clear idle
  have keeps := (queueEdgeNotice_keeps s).settled settled
  unfold finish
  rw [settle_self keeps.1 keeps.2]
  refine transmit_edge keeps idle replies busy started condition rfl fun d seen => ?_
  rw [queueEdgeNotice_discrete, edge_reported] at seen ⊢
  exact Bool.or_eq_true_iff.mpr (.inr seen)

theorem finish_settled_sending {s : State} (settled : OutputsFollow s ∧ LiveFollows s) (sending : s.link.sending ≠ none) : finish s = s := by
  obtain ⟨f, hf⟩ := Option.ne_none_iff_exists'.mp sending
  rw [finish_sending s f hf, settle_self settled.1 settled.2]

/-! ### The outcome (R60, R61, R204) -/

/-- What a change of level with an edge brings: the edge caught, and its EDGE notice. -/
def EdgeTaken (i : Fin 24) (s : State) (pin pad level : Bool) (t : State) : Prop :=
  let l := s.discretes[i]
  let notice : EdgeNotice :=
    ⟨Vector.ofFn (fun d => if t.discretes[d].edgeSeen then some t.discretes[d].edgeCount else none),
      Vector.ofFn (fun d => t.discretes[d].level), s.clock⟩
  (∀ j : Fin 24, j ≠ i → LineSettled j
    { s.discretes[j] with edgeReported := s.discretes[j].edgeReported ||
        (s.link.edge.isNone && s.discretes[j].edgeSeen) } t.discretes[j]) ∧
  t.discretes[i].cfg = l.cfg ∧ t.discretes[i].pin = pin ∧ t.discretes[i].padLevel = pad ∧
  t.discretes[i].mismatch = false ∧ t.discretes[i].mismatchTimer = none ∧
  PointReads s t i level ∧ t.discretes[i].level = level ∧ t.discretes[i].debounceTimer = none ∧
  t.discretes[i].edgeSeen = true ∧ t.discretes[i].edgeCount = satSucc 255 l.edgeCount ∧
  t.link.started = s.link.started ∧
  (s.link.edge.isSome = true →
    t.discretes[i].edgeReported = false ∧ t.link.edge = s.link.edge ∧ t.link.sending = s.link.sending) ∧
  (s.link.edge = none →
    (∀ d : Fin 24, t.discretes[d].edgeSeen = true → t.discretes[d].edgeReported = true) ∧
    (s.link.sending ≠ none → t.link.edge = some notice ∧ t.link.sending = s.link.sending) ∧
    (s.link.sending = none → t.link.sending = some (edgeFrame notice) ∧ t.link.edge = none))

section

variable {i : Fin 24} {s t : State} {pin pad level : Bool}

/-- The lines as an edge leaves them: reported with the others where the notice is queued in this event. -/
theorem edge_taken (input : s.discretes[i].cfg.out = false)
    (lines : ∀ d : Fin 24, t.discretes[d] = { (s.caughtAt i pin pad level).discretes[d] with
      edgeReported := (s.caughtAt i pin pad level).discretes[d].edgeReported ||
        (s.link.edge.isNone && (s.caughtAt i pin pad level).discretes[d].edgeSeen) })
    (points : t.points = (s.caughtAt i pin pad level).points) (started : t.link.started = s.link.started)
    (waits : s.link.edge.isSome = true → t.link.edge = s.link.edge ∧ t.link.sending = s.link.sending)
    (queued : s.link.edge = none → let notice := noticeOf (s.caughtAt i pin pad level).discretes s.clock
      (s.link.sending ≠ none → t.link.edge = some notice ∧ t.link.sending = s.link.sending) ∧
      (s.link.sending = none → t.link.sending = some (edgeFrame notice) ∧ t.link.edge = none)) :
    EdgeTaken i s pin pad level t := by
  have own := lines i
  rw [caughtAt_lines input, if_pos rfl] at own
  have content : noticeOf t.discretes s.clock = noticeOf (s.caughtAt i pin pad level).discretes s.clock :=
    noticeOf_congr s.clock fun d => by rw [lines d]; exact ⟨rfl, rfl, rfl⟩
  refine ⟨fun j hj => ?_, by rw [own]; rfl, by rw [own]; rfl, by rw [own]; rfl, by rw [own]; rfl, by rw [own]; rfl, fun p => ?_,
    by rw [own]; rfl, by rw [own]; rfl, by rw [own]; rfl, by rw [own]; rfl, started, fun waiting => ⟨?_, waits waiting⟩,
    fun free => ⟨fun d seen => ?_, ?_⟩⟩
  · rw [lines j, caughtAt_lines input, if_neg (Ne.symm hj)]
    exact LineSettled.refl j _
  · rw [points]
    exact caughtAt_reads i pin pad level s p
  · rw [own, Option.isNone_eq_false_iff.mpr waiting]
    rfl
  · rw [lines d] at seen ⊢
    rw [free]
    exact Bool.or_eq_true_iff.mpr (.inr seen)
  · rw [← content] at queued
    exact queued free

/-- A change of level with an edge, in the event that brings it. -/
theorem takes_edge {c : Instr} {f : State → State} (h : Running s) (hc : exec c s = event f s)
    (work : f s = takeLevel i level (s.modDiscrete i (Discrete.padded pin pad))) (changes : s.discretes[i].level ≠ level)
    (edge : s.discretes[i].edgeAt level = true) (settled : Settled s) (calm : s.discretes[i].mismatch = false) :
    Happens c s [.discretes, .points, .notices, .outgoing] (EdgeTaken i s pin pad level) := by
  obtain ⟨role, input⟩ : s.discretes[i].cfg.role = false ∧ s.discretes[i].cfg.out = false := by
    simp only [Discrete.edgeAt, Bool.and_eq_true, Bool.not_eq_true'] at edge
    exact ⟨edge.1.1.1, edge.1.1.2⟩
  have only := caughtAt_only i pin pad level s
  have follows := caughtAt_settled (pin := pin) (pad := pad) (level := level) role input calm (settled h.1)
  have runs : exec c s = .next (finish (askEdgeNotice (s.caughtAt i pin pad level))) := by
    rw [hc, event_running h.1, work, takeLevel_edge changes edge role]
  have link : (s.caughtAt i pin pad level).link = s.link := by
    unfold State.caughtAt State.handed readLinePoint
    split
    · rfl
    · rfl
  have clock : (s.caughtAt i pin pad level).clock = s.clock := congrArg Prod.fst (only .clock (by decide))
  have asks : askEdgeNotice (s.caughtAt i pin pad level) =
      if s.link.edge.isSome then s.caughtAt i pin pad level else queueEdgeNotice (s.caughtAt i pin pad level) := by
    unfold askEdgeNotice; rw [link]
  cases pending : s.link.edge with
  | some n =>
    have sending : s.link.sending ≠ none := fun idle => by
      obtain ⟨-, -, -, -, none⟩ := h.2 idle
      rw [pending] at none
      cases none
    rw [asks, pending, if_pos (show (some n).isSome = true from rfl), finish_settled_sending follows (by rw [link]; exact sending)] at runs
    refine ⟨_, runs, edge_taken input (fun d => ?_) rfl (by rw [link]) (fun _ => by rw [link]; exact ⟨rfl, rfl⟩)
      (fun free => by rw [pending] at free; cases free), (only.mono (by decide)).same⟩
    rw [pending, show (some n).isNone = false from rfl, Bool.false_and, Bool.or_false]
  | none =>
    rw [asks, pending, if_neg nofun] at runs
    have keeps := (queueEdgeNotice_keeps (s.caughtAt i pin pad level)).settled follows
    have queues : (queueEdgeNotice (s.caughtAt i pin pad level)).link =
        { s.link with edge := some (noticeOf (s.caughtAt i pin pad level).discretes s.clock) } := by
      rw [queueEdgeNotice_link, link, clock]
    have lines (d : Fin 24) := (queueEdgeNotice_discrete (s.caughtAt i pin pad level) d).trans (edge_reported _)
    have queuedOnly : Only [.discretes, .points, .notices, .outgoing] s (queueEdgeNotice (s.caughtAt i pin pad level)) :=
      (only.mono (by decide)).trans ((queueEdgeNotice_only _).mono (by decide))
    have points : (queueEdgeNotice (s.caughtAt i pin pad level)).points = (s.caughtAt i pin pad level).points :=
      queueEdgeNotice_only _ .points (by decide)
    have started : (queueEdgeNotice (s.caughtAt i pin pad level)).link.started = s.link.started := by rw [queues]
    by_cases idle : s.link.sending = none
    · rw [finish_queued follows (by rw [link]; exact idle) (by rw [link]; exact h.2), clock] at runs
      refine ⟨_, runs, edge_taken input (fun d => ?_) points started
        (fun waits => by rw [pending] at waits; cases waits) (fun _ => ⟨fun sending => absurd idle sending, fun _ => ⟨rfl, rfl⟩⟩),
        (queuedOnly.trans ?_).same⟩
      · rw [pending]
        exact lines d
      · intro p hp
        cases p <;> first | rfl | simp at hp
    · rw [finish_settled_sending keeps (by rw [queues]; exact idle)] at runs
      refine ⟨_, runs, edge_taken input (fun d => ?_) points started
        (fun waits => by rw [pending] at waits; cases waits)
        (fun _ => ⟨fun _ => by rw [queues]; exact ⟨rfl, rfl⟩, fun none => absurd none idle⟩), queuedOnly.same⟩
      rw [pending]
      exact lines d

end

end Sys2Proof.Machine
end

section
/-! PROOFS. Pads, debounce intervals and mismatch times (O33). -/

namespace Sys2Proof.Machine

-- One after the other: see Laws/Frames.lean.
set_option Elab.async false

section

variable {i : Fin 24} {s : State} {high : Bool}

theorem exec_padChange (i : Fin 24) (high : Bool) {s : State} (runs : s.initialising = false) :
    exec (.padChange i high) s = event (padChange i high) s := by
  rw [event_running runs]
  exact congrArg Host.Outcome.next (if_neg (by rw [runs]; decide))

theorem padChange_same (runs : s.initialising = false) (h : (high != s.discretes[i].cfg.inverted) = s.discretes[i].padLevel) :
    padChange i high s = s.modDiscrete i (fun l => { l with pin := high }) := by
  have still : ¬ (s.modDiscrete i (fun l => { l with pin := high })).initialising = true := by
    rw [show (s.modDiscrete i (fun l => { l with pin := high })).initialising = s.initialising from rfl, runs]
    decide
  unfold padChange
  dsimp only
  rw [if_neg still, modDiscrete_own, if_pos h]

/-- A pad that shows another level: the line takes it, or the debounce interval starts (R55, R56). -/
theorem padChange_other (runs : s.initialising = false) (h : (high != s.discretes[i].cfg.inverted) ≠ s.discretes[i].padLevel) :
    padChange i high s =
      let pad := high != s.discretes[i].cfg.inverted
      if pad = s.discretes[i].level ∨ s.discretes[i].cfg.debounce = 0 then takeLevel i pad (s.modDiscrete i (Discrete.padded high pad))
      else s.modDiscrete i (fun l => { l.padded high pad with debounceTimer := some s.discretes[i].cfg.debounce }) := by
  have still : ¬ (s.modDiscrete i (fun l => { l with pin := high })).initialising = true := by
    rw [show (s.modDiscrete i (fun l => { l with pin := high })).initialising = s.initialising from rfl, runs]
    decide
  unfold padChange
  dsimp only
  rw [if_neg still, modDiscrete_own, if_neg h, State.modDiscrete_modDiscrete, State.modDiscrete_modDiscrete]
  rfl

theorem debounceExpiry_stopped (h : s.discretes[i].debounceTimer = none) : debounceExpiry i s = s := by
  unfold debounceExpiry; rw [h]

theorem debounceExpiry_takes (h : s.discretes[i].debounceTimer.isSome = true) :
    debounceExpiry i s = takeLevel i s.discretes[i].padLevel s := by
  obtain ⟨n, hn⟩ := Option.isSome_iff_exists.mp h
  unfold debounceExpiry
  rw [hn]

/-- An event that changes one line and is settled without more. -/
theorem line_changes {c : Instr} {f : State → State} {g : Discrete → Discrete} (h : Running s) (hc : exec c s = event f s)
    (work : f s = s.modDiscrete i g) : Happens c s [.discretes] (fun t =>
      (∀ j : Fin 24, j ≠ i → LineSettled j s.discretes[j] t.discretes[j]) ∧ LineSettled i (g s.discretes[i]) t.discretes[i]) := by
  refine happens_settling h hc (by rw [work]; exact s.modDiscrete_only i g) fun t settling _ => ?_
  rw [work] at settling
  exact modDiscrete_settled rfl (settling.unchanged .discretes (by decide))

/-- The end of the mismatch time of a line other than ALARM (R59). -/
theorem flags_line (h : Running s) (settled : Settled s) (timer : s.discretes[i].mismatchTimer.isSome = true) (other : i ≠ alarmLine) :
    Happens (.mismatchExpiry i) s [.discretes] (fun t =>
      (∀ j : Fin 24, j ≠ i → LineSettled j s.discretes[j] t.discretes[j]) ∧
      t.discretes[i] = s.discretes[i].expired ∧ t.conditions.live[(39 : Fin 42)] = true) := by
  have work := mismatchExpiry_flags timer
  refine happens_settling h (f := mismatchExpiry i) rfl (mismatchExpiry_only i s) fun t settling rested => ?_
  rw [work] at settling
  exact ⟨(modDiscrete_settled rfl (settling.unchanged .discretes (by decide))).1,
    expired_stands (settled h.1).1 other settling rested⟩

/-- The end of the mismatch time of ALARM (R59, R191, log 30). -/
theorem flags_alarm (h : Running s) (settled : Settled s) (timer : s.discretes[alarmLine].mismatchTimer.isSome = true)
    (out : s.discretes[alarmLine].cfg.out = true) (differs : s.discretes[alarmLine].level ≠ s.discretes[alarmLine].commanded) :
    Happens (.mismatchExpiry alarmLine) s [.discretes] (fun t =>
      (∀ j : Fin 24, j ≠ alarmLine → LineSettled j s.discretes[j] t.discretes[j]) ∧
      ((s.discretes[alarmLine].cfg.role && !s.conditions.unsilenced.nonempty && s.flagSounds) = false →
        t.discretes[alarmLine] = { s.discretes[alarmLine].expired with roleCommand := t.conditions.unsilenced.nonempty } ∧
          t.conditions.live[(39 : Fin 42)] = true) ∧
      ((s.discretes[alarmLine].cfg.role && !s.conditions.unsilenced.nonempty && s.flagSounds) = true →
        t.discretes[alarmLine] = { s.discretes[alarmLine] with
          mismatchTimer := some (s.discretes[alarmLine].cfg.mismatchTime * 10), mismatch := false } ∧
          t.conditions.live[(39 : Fin 42)] = false)) := by
  have work := mismatchExpiry_flags timer
  have follows := settled h.1
  refine happens_finish h (f := mismatchExpiry alarmLine) rfl (mismatchExpiry_only _ s) fun idle => ?_
  rw [work] at idle ⊢
  have settling := finish_settling _ idle
  obtain ⟨lines, live, unsilenced⟩ := expired_finish follows idle
  refine ⟨(modDiscrete_settled rfl (settling.unchanged .discretes (by decide))).1, fun stays => ?_, fun ends => ?_⟩
  · rw [lines, live, unsilenced]
    refine expired_stays follows fun role silent => ?_
    rw [role, silent] at stays
    exact stays
  · rw [Bool.and_eq_true, Bool.and_eq_true, Bool.not_eq_true'] at ends
    obtain ⟨⟨role, silent⟩, sounds⟩ := ends
    rw [lines, live]
    exact expired_clears follows role out differs silent sounds

end

end Sys2Proof.Machine

open Sys2Proof Sys2Proof.Machine

/-- Settles O33: `takes_level` and `takes_edge` are the change of a level without an edge and with one. -/
theorem levelsFollowThePads : Obligations.LevelsFollowThePads := by
  intro i s
  refine ⟨fun high => ⟨fun initialising => ?_, fun running => ⟨fun same => ?_, fun other back => ?_, fun other differs debounced => ?_,
    fun other differs immediate => ?_⟩⟩, fun running => ⟨fun stopped => idles_of running (fun _ => rfl) (debounceExpiry_stopped stopped),
    fun runs back => ?_, fun runs differs => ?_, fun stopped => idles_of running (fun _ => rfl) (mismatchExpiry_stopped stopped),
    fun runs settled other => flags_line running settled runs other, fun runs settled alarm out differs => ?_⟩⟩
  · exact congrArg Host.Outcome.next ((if_pos initialising).trans (padChange_initialising initialising))
  · exact line_changes running (exec_padChange i high running.1) (padChange_same running.1 same)
  · refine line_changes (g := fun l => { l.padded high (high != s.discretes[i].cfg.inverted) with debounceTimer := none }) running
      (exec_padChange i high running.1) ?_
    rw [padChange_other running.1 other]
    dsimp only
    rw [if_pos (.inl back), takeLevel_stands (by rw [modDiscrete_own]; exact back.symm), State.modDiscrete_modDiscrete]
  · refine line_changes (g := fun l => { l.padded high (high != s.discretes[i].cfg.inverted) with
      debounceTimer := some s.discretes[i].cfg.debounce }) running (exec_padChange i high running.1) ?_
    rw [padChange_other running.1 other]
    exact if_neg (by rintro (h | h); exacts [differs h, by omega])
  · have work : padChange i high s = takeLevel i (high != s.discretes[i].cfg.inverted)
        (s.modDiscrete i (Discrete.padded high (high != s.discretes[i].cfg.inverted))) :=
      (padChange_other running.1 other).trans (if_pos (.inr immediate))
    exact ⟨fun edge => takes_level running (exec_padChange i high running.1) work (Ne.symm differs) edge,
      fun edge settled calm => takes_edge running (exec_padChange i high running.1) work (Ne.symm differs) edge settled calm⟩
  · refine line_changes (f := debounceExpiry i) (g := fun l => { l with debounceTimer := none }) running rfl ?_
    rw [debounceExpiry_takes runs, takeLevel_stands back.symm]
  · have work : debounceExpiry i s = takeLevel i s.discretes[i].padLevel
        (s.modDiscrete i (Discrete.padded s.discretes[i].pin s.discretes[i].padLevel)) := by
      rw [modDiscrete_padded, debounceExpiry_takes runs]
    exact ⟨fun edge => takes_level (f := debounceExpiry i) running rfl work (Ne.symm differs) edge,
      fun edge settled calm => takes_edge (f := debounceExpiry i) running rfl work (Ne.symm differs) edge settled calm⟩
  · subst alarm
    have flags := flags_alarm running settled runs out differs
    simp only [State.flagSounds, ← Bool.and_assoc] at flags
    exact flags
end
